-- ==== Sys2Proof/Word.lean ====
section
/-! DEFINITION. The word types of the FPS-256 (R9: little-endian bytes, 32-bit registers). -/

namespace Sys2Proof

/-- One byte of a record, a buffer or a frame (R9). -/
abbrev Byte := BitVec 8

/-- A set-up register, a handle or a 32-bit field (R9, R44). -/
abbrev W32 := BitVec 32

/-- A signal's VALUE or FORCE_VALUE, encoded by TYPE (R38). -/
abbrev Val := BitVec 64

/-- A signal's QUALITY word (R41). -/
abbrev Qual := BitVec 16

/-- The pattern of an IEEE 754 binary32 number (REAL32, R38). -/
abbrev F32 := BitVec 32

/-- The pattern of an IEEE 754 binary64 number (REAL64, R38). -/
abbrev F64 := BitVec 64

/-- An instant, in nanoseconds (R343). -/
abbrev Time := Nat

end Sys2Proof
end

