-- ==== Sys2Proof/Syntax.lean ====
section
/-! DEFINITION. The commands the block takes, one constructor per row of the opcode table, and the
types of their operands. A command that happens at an instant carries it as its first operand `t`
(nanoseconds on the scale of module time, log 1); a DIC instruction carries the core that retires
it. An operation posted by the host carries its descriptor's identity `q` (R318, R325). -/

namespace Sys2Proof

/-- What a completion needs of its descriptor (R318, R325): the submitting ring, the descriptor's
position in it, TAG, FLAGS.NO_COMPLETION and CRING (0 for the ring's DEFAULT_CRING). -/
structure Req where
  ring : Nat
  index : Nat
  tag : W32
  noCompl : Bool
  cring : Nat
deriving DecidableEq, Repr

/-- The change package of CHANGE (R84, R85): the manual gives it no layout, so its parts are
operands: an image with its task records, retained values (task, entry, value), CONST values
(handle, value) and the tasks removed. -/
structure ChangePkg where
  image : List Byte
  tasks : List (List Byte)
  values : List (Nat × Nat × Val)
  consts : List (W32 × Val)
  removed : List Nat
deriving DecidableEq, Repr

/-- The causes of a detach (R333, R492). -/
inductive DetachCause where
  | linkDown | functionReset | busMasterOff | d3hot | perst | writeFailed
deriving DecidableEq, Repr

/-- What releases an event task (R75). -/
inductive ReleaseSource where
  | edge (rising : Bool)
  | planEvent (code : Nat)
  | fault (cls : Nat)
  | message (port : Nat)
  | unitCmd (code : Nat)
deriving DecidableEq, Repr

/-- What is observed on a suspect (R180, R181). -/
inductive SuspectObs where
  | partnerPulse (m : Nat)
  | afterOpening
  | wentLow
  | stayedHigh
deriving DecidableEq, Repr

/-- The causes of degraded mode (R227). -/
inductive DegCause where
  | net | pair | seat
deriving DecidableEq, Repr

/-- The heavy operations of R245. -/
inductive HeavyOp where
  | flashBurst | bulkCopy | sigVerify | deltaApply | resyncBulk | archiveFlush | panelFull | loopBurst
deriving DecidableEq, Repr

/-- One input copy of a round frame (R268, R272). -/
structure InCopy where
  sig : Nat
  val : Val
  qual : Qual
  time : W32
  wrap : BitVec 16
deriving DecidableEq, Repr

/-- One output command of a round frame (R268, R274): the output's number, value and quality. -/
structure OutCmd where
  out : Nat
  val : Val
  qual : Qual
deriving DecidableEq, Repr

/-- A round frame (R268); `navWrites` are the LEAD's navigation and CAN receive writes (R353, R384). -/
structure RoundFrame where
  round : W32
  inputs : List InCopy
  outputs : List OutCmd
  navWrites : List InCopy
  signature : W32
deriving DecidableEq, Repr

/-- The PTP messages the switch and the ordinary clock handle (R345, R347). -/
inductive PtpMsg where
  | sync (twoStep : Bool) | followUp | delayReq | delayResp | pdelayReq | pdelayResp | announce
deriving DecidableEq, Repr

/-- A frame at a switch port (R337 to R342). `tag` is PCP and VID; `ptp` is the message, its
sequenceId and its correctionField in ns. -/
structure EthFrame where
  dst : BitVec 48
  src : BitVec 48
  etherType : Nat
  tag : Option (Nat × Nat)
  len : Nat
  ptp : Option (PtpMsg × Nat × Int)
deriving DecidableEq, Repr

/-- A CAN frame at a port (R364, R385); `partner` tells the line of a pair (R377). -/
structure CanFrame where
  id : Nat
  ext : Bool
  fdf : Bool
  brs : Bool
  remote : Bool
  esi : Bool
  dlc : Nat
  data : List Byte
  partner : Bool
deriving DecidableEq, Repr

/-- How a transmission attempt ends (R375, R378, R368): `tdcv` is the measured delay of a CAN FD
frame with TDC_EN set. -/
inductive CanTxResult where
  | sent (tdcv : Option Nat)
  | ackError (dominant : Bool)
  | error (tdcv : Option Nat)
deriving DecidableEq, Repr

/-- A fault as it reaches the collector (R389, R391, R392). -/
structure FaultInfo where
  src : Nat
  cls : Nat
  addr : Nat
  master : BitVec 16
  access : Nat
  actClass : Nat
  detail : W32
deriving DecidableEq, Repr

/-- How the flash writes of an archive flush go (R417). -/
inductive FlashResult where
  | ok | retried | failed
deriving DecidableEq, Repr

/-- A debug access on G1 (R458). -/
inductive DebugAccess where
  | identity
  | read (addr : Nat)
  | write (addr : Nat) (v : Byte)
  | halt (core : Nat)
  | stepCore (core : Nat)
deriving DecidableEq, Repr

/-- A received PTP Announce: what the best master clock choice compares, and timeTraceable (R345,
R349). -/
structure Announce where
  priority1 : Nat
  clockClass : Nat
  accuracy : Nat
  variance : Nat
  priority2 : Nat
  clockId : BitVec 64
  timeTraceable : Bool
deriving DecidableEq, Repr

/-- The commands: one constructor per row of the opcode table, in the table's order. -/
inductive Instr where
  /-- SUPPLY_APPLIED (R295): The supply at P1 rises above 18.0 V, the hold-up store starts charging and the logic is held in reset (start step 1). -/
  | supplyApplied (t : Time) (mv : Nat)
  /-- STORE_CHARGED (R295): The hold-up store is charged, reset is released, the state becomes HOLD with STARTING set and the boot ROM checks and selects images. -/
  | storeCharged (t : Time) (uj : Nat)
  /-- HOLDUP_LOW_START (R308): The store is not charged within 1.0 s of S, so the module starts anyway and sets HOLDUP_LOW with an F1 fault. -/
  | holdupLowStart (t : Time) (uj : Nat)
  /-- HOLDUP_RECHECK (R308): The 10 s recheck of the hold-up store clears HOLDUP_LOW once the store holds its charge. -/
  | holdupRecheck (t : Time) (uj : Nat) (charged : Bool)
  /-- START_SEQUENCE_STEP (R295): A start step completes: DRAM training, MRAM read, service pairs running, or configuration loading and admission. -/
  | startSequenceStep (t : Time) (step : Nat)
  /-- ENTER_RUN (R297): Once every entry condition holds, the module enters RUN at the release epoch; plans, loops, tasks, recorder and ALIVE start in order. -/
  | enterRun (t : Time)
  /-- SUPPLY_DIP (R305): The supply falls below 16.0 V and the dip timer starts. -/
  | supplyDip (t : Time) (mv : Nat) (uj : Nat)
  /-- DIP_END (R305): The supply rises above 16.5 V before the dip timer ends, so the dip is over. -/
  | dipEnd (t : Time) (mv : Nat) (uj : Nat)
  /-- DIP_TIMER_EXPIRY (R305): The dip timer expires and FAIL is entered with cause SUPPLY. -/
  | dipTimerExpiry (t : Time)
  /-- FLUSH_COMPLETE (R305): The power-fail flush is committed in flash, the logic is switched off and the state becomes OFF. -/
  | flushComplete (t : Time)
  /-- THERMAL_TRIP (R31): The junction reaches 125 °C and raises an F3 THERMAL fault. -/
  | thermalTrip (t : Time) (dieC : Int)
  /-- POWER_RUN (R292): A POWER RUN command moves the module from HOLD or QUIET to RUN, or from STARTING once the conditions hold. -/
  | powerRun (t : Time) (q : Req)
  /-- POWER_HOLD (R299): A POWER HOLD command stops releases at the next tick and lets instances run to their stop instants. -/
  | powerHold (t : Time) (q : Req)
  /-- POWER_QUIET (R304): A POWER QUIET command enters QUIET at the next plan tick. -/
  | powerQuiet (t : Time) (q : Req)
  /-- POWER_SHUTDOWN (R305): A SHUTDOWN command enters FAIL at acceptance with cause SHUTDOWN. -/
  | powerShutdown (t : Time) (q : Req)
  /-- RESTART_SERVICE (R294): A SERVICE restart command restarts service pairs 6 and 7 while the control plane runs on. -/
  | restartService (t : Time) (q : Req)
  /-- RESTART_PROGRAM (R299): A PROGRAM restart command enters HOLD and restarts the application pairs. -/
  | restartProgram (t : Time) (q : Req) (seat : Nat)
  /-- RESTART_MODULE (R294): A MODULE restart command enters FAIL with cause RESTART and then starts at step 2. -/
  | restartModule (t : Time) (q : Req) (seat : Nat)
  /-- HOLD_ABANDON (R299): A C2 or C3 instance that has not committed within 100 ms of entry to HOLD is abandoned as a skipped release. -/
  | holdAbandon (t : Time) (task : Nat)
  /-- PAIRS_STOPPED (R299): Every task has reached its stop instant, so the application pairs stop and, for a PROGRAM restart, go to SELFTEST. -/
  | pairsStopped (t : Time)
  /-- RIDE_THROUGH_EXPIRY (R301): A stopped task's ride-through window expires and its signals become BAD, STALE. -/
  | rideThroughExpiry (t : Time) (task : Nat)
  /-- RECOVERY_TIMEOUT (R310): RECOVERY clears 10 min after the first entry to RUN. -/
  | recoveryTimeout (t : Time)
  /-- SERVICE_RESTART_COMPLETE (R16): The service pairs run again and descriptor fetching resumes from the last consumed index. -/
  | serviceRestartComplete (t : Time)
  /-- SERVICE_RESTART_TIMEOUT (R397): A SERVICE restart has not completed within 2 s, so LEVEL becomes 3 and the F3 reaction follows. -/
  | serviceRestartTimeout (t : Time)
  /-- TABLE_LOAD (R323): The administration descriptor loads records of one table kind, subject to checks and admission. -/
  | tableLoad (t : Time) (q : Req) (kind count : Nat) (buf : List Byte)
  /-- TABLE_DELETE (R46): The administration descriptor deletes a table object, releasing its signals and references. -/
  | tableDelete (t : Time) (q : Req) (kind : Nat) (num : W32)
  /-- CHANGE (R85): An on-line change descriptor is admitted whole and waits for its change instant, or is refused. -/
  | changePost (t : Time) (q : Req) (kind : Nat) (when_ : Nat) (pkg : ChangePkg)
  /-- CHANGE_ABORT (R85): The change-abort descriptor withdraws a pending change before its change instant, or is refused with TOO_LATE. -/
  | changeAbort (t : Time) (q : Req)
  /-- CHANGE_INSTANT (R84): The change instant arrives: CONST values switch and affected tasks switch or are removed at their boundaries. -/
  | changeInstant (t : Time)
  /-- PAIR_SPLIT (R259): A split request is checked and the pair enters DRAINING. -/
  | pairSplit (t : Time) (q : Req) (pair : Nat) (buf : List Byte)
  /-- DRAIN_COMPLETE (R259): The last C1 task has moved, comparison is switched off and the pair enters SPLIT. -/
  | drainComplete (t : Time) (pair : Nat)
  /-- PAIR_JOIN (R260): A join request puts a SPLIT pair into JOINING and stops releases on core B. -/
  | pairJoin (t : Time) (q : Req) (pair : Nat)
  /-- JOIN_COPY (R260): Core B is idle or its 100 ms has passed, so core A's context is copied and the pair becomes JOINED. -/
  | joinCopy (t : Time) (pair : Nat)
  /-- PAIR_RESTART (R257): A pair restart descriptor takes a LOST pair through SELFTEST. -/
  | pairRestart (t : Time) (q : Req) (pair : Nat)
  /-- SELFTEST_COMPLETE (R263): The pair's test image passes or fails, and the pair becomes JOINED or LOST. -/
  | selftestComplete (t : Time) (pair : Nat) (pass : Bool)
  /-- MISMATCH (R255): A lockstep mismatch stops the pair, which becomes LOST; instances abort and an F2 is captured. -/
  | pairMismatch (t : Time) (pair cause : Nat)
  /-- TRIAD_RETRY (R284): The triad retry command lets an OUT seat claim again. -/
  | triadRetry (t : Time) (q : Req)
  /-- TRIAD_EPOCH (R286): The epoch switch command makes the followers the voting seats at the round the LEAD names. -/
  | triadEpoch (t : Time) (q : Req)
  /-- CAL_START (R204): Calibration starts for a disabled channel and function. -/
  | calStart (t : Time) (q : Req) (ch fn : Nat)
  /-- CAL_POINT (R204): A calibration point is requested with its reference values. -/
  | calPoint (t : Time) (q : Req) (ch point : Nat) (refMa refV : F32)
  /-- CAL_POINT_AVERAGED (R204): Averaging of the calibration point ends and the point's completion is posted. -/
  | calPointAveraged (t : Time) (ch : Nat) (rawMa rawV : F32)
  /-- CAL_COMMIT (R204): The gains and offsets are computed, checked and written as one MRAM record. -/
  | calCommit (t : Time) (q : Req) (ch : Nat) (tag calTime : W32)
  /-- CAL_ABORT (R204): The calibration points are discarded and the record is left unchanged. -/
  | calAbort (t : Time) (q : Req) (ch : Nat)
  /-- CAL_READ (R320): The channel's calibration record is returned. -/
  | calRead (t : Time) (q : Req) (ch : Nat)
  /-- CAL_CHECK_PASS (R203): The background pass checks calibration records every 10 s and moves invalid ones to nominal coefficients. -/
  | calCheckPass (t : Time)
  /-- UNIT_CMD (R63): A mode command is applied over a unit subtree, unit by unit or all-or-none. -/
  | unitCmd (t : Time) (q : Req) (unit : W32) (mode : Nat) (aon : Bool)
  /-- UNIT_RESUME (R61): A RESUME command returns HOLD units of a subtree to their prior mode. -/
  | unitResume (t : Time) (q : Req) (unit : W32)
  /-- WALKER_NEXT_COMMAND (R64): A mode command that waited for its subtree starts once the previous command has finished. -/
  | walkerNextCommand (t : Time)
  /-- INTERLOCK_ACTIVE (R62): An active interlock sends the MANUAL or AUTO units at and below it to HOLD. -/
  | interlockActive (t : Time) (unit : Nat)
  /-- UNIT_ROLL_UP (R65): The unit walker rolls a change up into the ancestors' state words and signals. -/
  | unitRollUp (t : Time) (unit : Nat)
  /-- PLAN_START (R156): A plan start command is checked and applied at the next tick. -/
  | planStart (t : Time) (q : Req) (plan step : Nat)
  /-- PLAN_PAUSE (R156): A plan pause command is checked and applied at the next tick. -/
  | planPause (t : Time) (q : Req) (plan : Nat)
  /-- PLAN_RESUME (R155): A plan resume command is checked and applied at the next tick. -/
  | planResume (t : Time) (q : Req) (plan : Nat)
  /-- PLAN_ABORT (R154): A plan abort command enters ABORT_STEP or ends the plan at the next tick. -/
  | planAbort (t : Time) (q : Req) (plan : Nat)
  /-- LOOP_BANK (R126): A host swap request is checked and takes effect at the loop's next sample. -/
  | loopBank (t : Time) (q : Req) (loop bank : Nat)
  /-- LOOP_ENABLE (R120): Named loops are enabled or disabled; more than 128 wait for a winding permit. -/
  | loopEnable (t : Time) (q : Req) (on : Bool) (buf : List Byte)
  /-- BANK_WRITE (R126): A bank record is written into the inactive bank, or refused. -/
  | bankWrite (t : Time) (q : Req) (loop bank : Nat) (buf : List Byte)
  /-- FORCE (R54): A force is set on a signal, or refused. -/
  | forceSet (t : Time) (q : Req) (sig : W32) (ty : Nat) (val : Val)
  /-- RELEASE (R52): The force on a signal is released. -/
  | releaseForce (t : Time) (q : Req) (sig : W32)
  /-- SIGNAL_WRITE (R321): The host writes a signal it owns through its ring. -/
  | signalWrite (t : Time) (q : Req) (sig : W32) (qual : Qual) (val : Val)
  /-- SIGNAL_READ (R321): The visible value, quality, flags and time of a signal are returned. -/
  | signalRead (t : Time) (q : Req) (sig : W32)
  /-- TASK_START (R77): TASK_CMD START moves a STOPPED task to IDLE. -/
  | taskStart (t : Time) (q : Req) (task : Nat)
  /-- TASK_STOP (R77): TASK_CMD STOP moves a task to STOPPED at its next commit end, or at once from IDLE. -/
  | taskStop (t : Time) (q : Req) (task : Nat)
  /-- TASK_CLEAR (R77): TASK_CMD CLEAR moves a HALTED task to STOPPED once its cause is gone. -/
  | taskClear (t : Time) (q : Req) (task : Nat)
  /-- TASK_STATUS (R324): The task status record is returned. -/
  | taskStatus (t : Time) (q : Req) (task : Nat)
  /-- CHANNEL_STATUS (R324): The channel status record is returned. -/
  | channelStatus (t : Time) (q : Req) (ch : Nat)
  /-- SIGNAL_BLOCK (R322): A bulk copy of signal records is made. -/
  | signalBlock (t : Time) (q : Req) (first count : Nat)
  /-- DIRECTORY_BLOCK (R322): A bulk copy of signal directory entries is made. -/
  | directoryBlock (t : Time) (q : Req) (first count : Nat)
  /-- JOURNAL (R509): A bulk copy of the journal records still present is made. -/
  | journalRead (t : Time) (q : Req) (first : W32) (count : Nat)
  /-- VALUE_AREA (R322): A bulk copy of plan value-area entries is made. -/
  | valueArea (t : Time) (q : Req) (first count : Nat)
  /-- CHANGE_RECORD (R90): The change record of a change is copied. -/
  | changeRecord (t : Time) (q : Req) (changeNo : W32)
  /-- TABLE_READ (R322): A table record is copied as loaded, with current handles. -/
  | tableRead (t : Time) (q : Req) (kind num : Nat)
  /-- DOORBELL_SUBMIT (R315): A doorbell write carries a submission ring's producer index, or sets ERROR if invalid. -/
  | doorbellSubmit (t : Time) (ring : Nat) (v : W32)
  /-- DOORBELL_CONSUME (R315): A doorbell write carries a completion or event ring's consumer index and frees entries. -/
  | doorbellConsume (t : Time) (ring : Nat) (v : W32)
  /-- DESCRIPTOR_FETCH (R319): With a slot free and a descriptor pending, the descriptor is fetched in ring-level order and decoded. -/
  | descriptorFetch (t : Time) (ring : Nat) (desc : List Byte) (ok : Bool)
  /-- COMPLETION_WRITE (R319): An operation's completion is written once its ring has room, ending its in-flight slot. -/
  | completionWrite (t : Time) (ring : Nat) (ok : Bool)
  /-- EVENT_DELIVERY (R331): A queued event is written to an event ring once there is room and a host is ready. -/
  | eventDelivery (t : Time) (ring : Nat) (ok : Bool)
  /-- MSIX_MESSAGE (R319): An MSI-X message is sent for a ring, subject to MOD_US spacing. -/
  | msixMessage (t : Time) (ring : Nat)
  /-- RING_ADMISSION_DONE (R316): Admission of a PENDING C1 ring's rate ends, and the ring becomes ACTIVE or DISABLED. -/
  | ringAdmissionDone (t : Time) (ring : Nat)
  /-- RING_ENABLE (R316): Writing ENABLE 1 brings a ring into service after its checks. -/
  | ringEnable (t : Time) (ring : Nat)
  /-- RING_DISABLE (R316): Writing ENABLE 0 drains a ring or disables a ring in ERROR. -/
  | ringDisable (t : Time) (ring : Nat)
  /-- HOST_READY_SET (R335): Writing HOST_READY 1 starts delivery of queued events, unit replay and REPLAY_END. -/
  | hostReadySet (t : Time)
  /-- HOST_READY_CLEAR (R335): Writing HOST_READY 0 stops delivery, and events queue again. -/
  | hostReadyClear (t : Time)
  /-- HOST_ATTACH (R332): The link comes up with Bus Master Enable set, and ATTACHED is set. -/
  | hostAttach (t : Time) (speed width : Nat)
  /-- HOST_DETACH (R334): A link down, FLR, BME clear, D3hot, PERST# or failed write detaches the host and disables rings. -/
  | hostDetach (t : Time) (cause : DetachCause)
  /-- HOST_WD_KICK (R336): Writing KICK restarts the host watchdog. -/
  | hostWdKick (t : Time)
  /-- HOST_WD_EXPIRY (R333): The host watchdog expires and detaches the host. -/
  | hostWdExpiry (t : Time)
  /-- REGISTER_WRITE (R327): A BAR0 write to registers without behaviour of their own is taken field by field, with refusals. -/
  | registerWrite (t : Time) (off : Nat) (v : W32)
  /-- TIM_NOW_LO_READ (R344): Reading TIM_NOW_LO latches the wrap count into TIM_NOW_HI. -/
  | timNowLoRead (t : Time)
  /-- RELEASE_ALL (R68): Writing SIG_CTRL.RELEASE_ALL releases every force. -/
  | releaseAll (t : Time)
  /-- RELEASE_EN_WRITE (R91): Writing PGE_CTRL.RELEASE_EN stops or restores task releases from each task's next release instant. -/
  | releaseEnWrite (t : Time) (v : Bool)
  /-- PLAUS_EN_WRITE (R142): Writing LPE_CTRL.PLAUS_EN 0 clears IMPLAUSIBLE and FROZEN and ends their reactions. -/
  | plausEnWrite (t : Time) (v : Bool)
  /-- GSW_CLOSE_REQUEST (R174): A write to FIO_GSW_CLOSE requests closing a group safety switch, which closes or is refused. -/
  | gswCloseRequest (t : Time) (mask : W32)
  /-- LATCHED_CLEAR (R183): Writing one to FIO_LATCHED clears a channel's latched diagnostics unless the cause persists. -/
  | latchedClear (t : Time) (m : Nat) (mask : W32)
  /-- SAF_FAULT_CLEAR (R212): Writing one to SAF_FAULT moves a function from FAULT to TRIPPED once no fault condition stands. -/
  | safFaultClear (t : Time) (m : Nat) (mask : W32)
  /-- FLT_ACK (R396): A host acknowledgement covers every awaiting F2, or is refused while any is uncontained. -/
  | fltAck (t : Time)
  /-- CAPTURED_CLEAR (R401): Writing one to FLT_STATUS.CAPTURED clears the capture unless refused. -/
  | capturedClear (t : Time)
  /-- PRIOR_CLEAR (R393): Writing one to FLT_STATUS.PRIOR clears the prior capture. -/
  | priorClear (t : Time)
  /-- ACTIVE_CLEAR (R401): Writing one to an FLT_ACTIVE bit clears it unless its cause persists. -/
  | activeClear (t : Time) (m : Nat) (mask : W32)
  /-- RECOVERY_CLEAR (R310): Writing PWR_CTRL.RECOVERY_CLEAR clears RECOVERY. -/
  | recoveryClear (t : Time)
  /-- AUTO_RUN_WRITE (R503): Writing AUTO_RUN sets it, and writing 1 while STARTING with the conditions met acts as a RUN command. -/
  | autoRunWrite (t : Time) (v : Bool)
  /-- REC_EN_WRITE (R422): Writing REC_CTRL.EN 0 ends every interval in progress as PARTIAL and stops recording. -/
  | recEnWrite (t : Time) (v : Bool)
  /-- PNL_EN_WRITE_ON (R477): Writing PNL_CTRL.EN 1 starts the panel start sequence. -/
  | pnlEnWriteOn (t : Time)
  /-- PNL_EN_WRITE_OFF (R478): Writing PNL_CTRL.EN 0 shuts the panel down. -/
  | pnlEnWriteOff (t : Time)
  /-- TASK_RELEASE (R74): A cyclic task's release instant starts its snapshot, or defers or skips it. -/
  | taskRelease (t : Time) (task : Nat)
  /-- EVENT_RELEASE (R75): An edge, plan event, fault, message or unit command releases an event task or queues or merges a release. -/
  | eventRelease (t : Time) (task : Nat) (src : ReleaseSource)
  /-- HELD_RELEASE (R76): An event release held by the minimum interval takes effect once PERIOD_US has passed. -/
  | heldRelease (t : Time) (task : Nat)
  /-- SNAPSHOT_COMPLETE (R81): The task's snapshot completes after any overlapping commit, and the task is READY. -/
  | snapshotComplete (t : Time) (task : Nat)
  /-- TASK_DISPATCH (R77): The highest-ranked ready task starts running. -/
  | taskDispatch (t : Time) (core : Nat)
  /-- PREEMPTION (R82): A higher-ranked ready task pre-empts the running task at the next instruction retirement. -/
  | taskPreemption (t : Time) (core : Nat)
  /-- COMMIT_COMPLETE (R80): A commit's records are written, requests are issued, and the task becomes IDLE or HALTED. -/
  | commitComplete (t : Time) (task : Nat)
  /-- STEP_BUDGET_EXHAUSTED (R83): An instance reaches WC_STEPS without ending and is aborted with a fault. -/
  | stepBudgetExhausted (t : Time) (task : Nat)
  /-- DEADLINE_EXPIRY (R83): A C0 or C1 commit has not begun by DEADLINE_US, so the instance is aborted with a fault. -/
  | deadlineExpiry (t : Time) (task : Nat)
  /-- NOP (R96): The DIC instruction does nothing. -/
  | dicNop (core : Nat)
  /-- LD (R96): The DIC load copies an entry into a register. -/
  | dicLd (core : Nat) (ty : Nat) (d : Nat) (sp ix : Nat)
  /-- ST (R96): The DIC store writes a register's value and quality to an entry. -/
  | dicSt (core : Nat) (ty : Nat) (d : Nat) (sp ix : Nat)
  /-- LDX (R103): The indexed load yields the entry, or zero BAD out of range. -/
  | dicLdx (core : Nat) (ty : Nat) (d a : Nat) (sp base len : Nat)
  /-- STX (R103): The indexed store writes the entry, or stores nothing out of range. -/
  | dicStx (core : Nat) (ty : Nat) (d a : Nat) (sp base len : Nat)
  /-- LDI16 (R95): A 16-bit immediate is loaded. -/
  | dicLdi16 (core : Nat) (ty : Nat) (d : Nat) (imm : BitVec 16)
  /-- LDI32 (R95): A 32-bit immediate is loaded. -/
  | dicLdi32 (core : Nat) (ty : Nat) (d : Nat) (imm : W32)
  /-- LDI64 (R95): A 64-bit immediate is loaded. -/
  | dicLdi64 (core : Nat) (ty : Nat) (d : Nat) (imm : Val)
  /-- MOV (R96): A register is copied. -/
  | dicMov (core : Nat) (ty : Nat) (d a : Nat)
  /-- TGET (R96): The extended time of a snap entry is loaded. -/
  | dicTget (core : Nat) (d : Nat) (ix : Nat)
  /-- ADD (R98): The operands are added. -/
  | dicAdd (core : Nat) (ty : Nat) (d a b : Nat)
  /-- SUB (R98): The operands are subtracted. -/
  | dicSub (core : Nat) (ty : Nat) (d a b : Nat)
  /-- MUL (R98): The operands are multiplied. -/
  | dicMul (core : Nat) (ty : Nat) (d a b : Nat)
  /-- DIV (R98): The operands are divided. -/
  | dicDiv (core : Nat) (ty : Nat) (d a b : Nat)
  /-- MOD (R98): The integer remainder is computed. -/
  | dicMod (core : Nat) (ty : Nat) (d a b : Nat)
  /-- NEG (R96): The operand is negated. -/
  | dicNeg (core : Nat) (ty : Nat) (d a : Nat)
  /-- ABS (R96): The absolute value is computed. -/
  | dicAbs (core : Nat) (ty : Nat) (d a : Nat)
  /-- MIN (R96): The minimum of the operands is taken. -/
  | dicMin (core : Nat) (ty : Nat) (d a b : Nat)
  /-- MAX (R96): The maximum of the operands is taken. -/
  | dicMax (core : Nat) (ty : Nat) (d a b : Nat)
  /-- SQRT (R96): The square root is computed. -/
  | dicSqrt (core : Nat) (ty : Nat) (d a : Nat)
  /-- LIM (R96): D is clamped to the range A to B. -/
  | dicLim (core : Nat) (ty : Nat) (d a b : Nat)
  /-- EXP (R96): The exponential is computed. -/
  | dicExp (core : Nat) (ty : Nat) (d a : Nat)
  /-- LN (R96): The natural logarithm is computed. -/
  | dicLn (core : Nat) (ty : Nat) (d a : Nat)
  /-- SIN (R96): The sine is computed. -/
  | dicSin (core : Nat) (ty : Nat) (d a : Nat)
  /-- COS (R96): The cosine is computed. -/
  | dicCos (core : Nat) (ty : Nat) (d a : Nat)
  /-- ATAN2 (R96): The two-argument arctangent is computed. -/
  | dicAtan2 (core : Nat) (ty : Nat) (d a b : Nat)
  /-- AND (R97): A bitwise AND is computed. -/
  | dicAnd (core : Nat) (ty : Nat) (d a b : Nat)
  /-- OR (R97): A bitwise OR is computed. -/
  | dicOr (core : Nat) (ty : Nat) (d a b : Nat)
  /-- XOR (R97): A bitwise XOR is computed. -/
  | dicXor (core : Nat) (ty : Nat) (d a b : Nat)
  /-- NOT (R97): A bitwise NOT is computed. -/
  | dicNot (core : Nat) (ty : Nat) (d a : Nat)
  /-- SHL (R97): A logical left shift is computed. -/
  | dicShl (core : Nat) (ty : Nat) (d a b : Nat)
  /-- SHR (R97): A logical right shift is computed. -/
  | dicShr (core : Nat) (ty : Nat) (d a b : Nat)
  /-- BITGET (R97): A bit is read as BOOL. -/
  | dicBitget (core : Nat) (ty : Nat) (d a b : Nat)
  /-- BITSET (R97): A bit of D is set from bit 0 of A. -/
  | dicBitset (core : Nat) (ty : Nat) (d a b : Nat)
  /-- CMP (R96): The operands are compared by COND into a BOOL. -/
  | dicCmp (core : Nat) (ty : Nat) (d a b : Nat) (cond : Nat)
  /-- SEL (R96): An operand is selected by D. -/
  | dicSel (core : Nat) (ty : Nat) (d a b : Nat)
  /-- CVT (R99): A value is converted by the DIC conversion rules. -/
  | dicCvt (core : Nat) (ty : Nat) (d a : Nat) (src : Nat)
  /-- QGET (R96): An operand's quality is read. -/
  | dicQget (core : Nat) (ty : Nat) (d a : Nat)
  /-- QSET (R100): A register's quality is set. -/
  | dicQset (core : Nat) (ty : Nat) (d a : Nat)
  /-- QSEL (R96): A is selected if GOOD, otherwise B. -/
  | dicQsel (core : Nat) (ty : Nat) (d a b : Nat)
  /-- BR (R101): An unconditional forward branch is taken. -/
  | dicBr (core : Nat) (off : Nat)
  /-- BRT (R101): A forward branch is taken if the bit is 1. -/
  | dicBrt (core : Nat) (a : Nat) (off : Nat)
  /-- BRF (R101): A forward branch is taken if the bit is 0. -/
  | dicBrf (core : Nat) (a : Nat) (off : Nat)
  /-- LOOP (R101): The body is repeated min(A, MAX) times. -/
  | dicLoop (core : Nat) (a : Nat) (off max : Nat)
  /-- LIDX (R96): The innermost loop's iteration number is loaded. -/
  | dicLidx (core : Nat) (d : Nat)
  /-- CALL (R102): A subroutine is called. -/
  | dicCall (core : Nat) (target : Nat)
  /-- RET (R102): Control returns from a subroutine. -/
  | dicRet (core : Nat)
  /-- END (R96): The code ends and the task enters COMMITTING. -/
  | dicEnd (core : Nat)
  /-- NOW (R105): The instance's release instant is loaded. -/
  | dicNow (core : Nat) (d : Nat)
  /-- TON (R106): The on-delay timer block runs. -/
  | fbTon (core : Nat) (inst : Nat)
  /-- TOF (R106): The off-delay timer block runs. -/
  | fbTof (core : Nat) (inst : Nat)
  /-- TP (R106): The pulse timer block runs. -/
  | fbTp (core : Nat) (inst : Nat)
  /-- CTU (R106): The up-counter block runs. -/
  | fbCtu (core : Nat) (inst : Nat)
  /-- CTD (R106): The down-counter block runs. -/
  | fbCtd (core : Nat) (inst : Nat)
  /-- EDGE (R106): The edge detector block runs. -/
  | fbEdge (core : Nat) (inst : Nat)
  /-- SETL (R106): The set-dominant latch block runs. -/
  | fbSetl (core : Nat) (inst : Nat)
  /-- RSTL (R106): The reset-dominant latch block runs. -/
  | fbRstl (core : Nat) (inst : Nat)
  /-- HYST (R106): The hysteresis block runs. -/
  | fbHyst (core : Nat) (inst : Nat)
  /-- FILT1 (R107): The first-order lag block runs over the elapsed time. -/
  | fbFilt1 (core : Nat) (inst : Nat)
  /-- RAMPL (R107): The rate limiter block runs. -/
  | fbRampl (core : Nat) (inst : Nat)
  /-- TOTAL (R107): The totaliser block integrates the rate. -/
  | fbTotal (core : Nat) (inst : Nat)
  /-- DEADB (R106): The deadband block runs. -/
  | fbDeadb (core : Nat) (inst : Nat)
  /-- INTERP (R106): The table interpolation block runs. -/
  | fbInterp (core : Nat) (inst : Nat)
  /-- SYS_LOOP_BANK (R108): A bank-swap request is queued for commit. -/
  | sysLoopBank (core : Nat)
  /-- SYS_LOOP_ENABLE (R108): A loop-enable request is queued for commit. -/
  | sysLoopEnable (core : Nat)
  /-- SYS_LOOP_COEF (R108): A coefficient write to the inactive bank is queued for commit. -/
  | sysLoopCoef (core : Nat)
  /-- SYS_PLAN_START (R108): A plan start request is queued for commit. -/
  | sysPlanStart (core : Nat)
  /-- SYS_PLAN_PAUSE (R108): A plan pause request is queued for commit. -/
  | sysPlanPause (core : Nat)
  /-- SYS_PLAN_RESUME (R108): A plan resume request is queued for commit. -/
  | sysPlanResume (core : Nat)
  /-- SYS_PLAN_ABORT (R108): A plan abort request is queued for commit. -/
  | sysPlanAbort (core : Nat)
  /-- SYS_UNIT_CMD (R109): A unit mode command is queued for commit. -/
  | sysUnitCmd (core : Nat)
  /-- SYS_UNIT_RESUME (R108): A unit RESUME is queued for commit. -/
  | sysUnitResume (core : Nat)
  /-- MSG_SEND (R111): A message is queued and releases its port's event task at commit end. -/
  | sysMsgSend (core : Nat)
  /-- HOST_EVENT (R108): A host event posting is queued for commit. -/
  | sysHostEvent (core : Nat)
  /-- LOOP_SAMPLE (R136): At a loop's sample instant, inputs are taken and mode, swap, set-point, tests and law or reaction are evaluated. -/
  | loopSample (t : Time) (loop : Nat)
  /-- LOOP_APPLY (R117): The output is applied at the apply instant, or held with LATE if the evaluation is unfinished. -/
  | loopApply (t : Time) (loop : Nat) (late : Bool)
  /-- MODEL_DRIVE_EXPIRY (R133): MODEL_DRIVE ends after MD_TIME_MS, and REACT_AFTER takes its place. -/
  | modelDriveExpiry (t : Time) (loop : Nat)
  /-- PLAN_TICK (R150): At each 100 µs tick, commands are applied, waits are evaluated, transitions are made and ramps are updated. -/
  | planTick (t : Time)
  /-- RESUME_SLOT_REFRESH (R158): Every 1,000 ticks in a timed step, the resume slot is refreshed with tick counts. -/
  | resumeSlotRefresh (t : Time) (plan : Nat)
  /-- DI_SAMPLE (R167): A raw DI sample updates the yo-yo filter and writes the record on a change. -/
  | diSample (t : Time) (ch : Nat) (high : Bool)
  /-- DO_DEMAND_READ (R171): A DO reads its DEMAND and drives the new state, ending any test pulse it overrides. -/
  | doDemandRead (t : Time) (ch : Nat)
  /-- PWM_PERIOD_START (R172): A PWM period starts with the duty in force. -/
  | pwmPeriodStart (t : Time) (ch : Nat)
  /-- PWM_ON_TIME_END (R172): The PWM on-time ends and the driver switches off. -/
  | pwmOnTimeEnd (t : Time) (ch : Nat)
  /-- TEST_FRAME_START (R175): A 128 ms test frame starts and FIO_FRAME counts. -/
  | testFrameStart (t : Time)
  /-- TEST_SLOT_START (R177): A channel's slot starts its dark or bright pulse, or an input test window. -/
  | testSlotStart (t : Time) (ch : Nat)
  /-- TEST_PULSE_END (R177): The pulse ends and the dark or bright pulse is judged. -/
  | testPulseEnd (t : Time) (ch : Nat) (seen : Bool)
  /-- INPUT_TEST_WINDOW_END (R178): At the end of the 0.4 ms window, the input test is evaluated, discarded or failed. -/
  | inputTestWindowEnd (t : Time) (ch : Nat)
  /-- OUTPUT_SUSPECT (R180): Readback is high on 3 samples with the driver off, so the output becomes suspect, held off, and its switch opens. -/
  | outputSuspect (t : Time) (ch : Nat)
  /-- SUSPECT_CLASSIFY (R180): A suspect is classified as CROSS_CHANNEL or CROSS_SUPPLY and latched. -/
  | suspectClassify (t : Time) (ch : Nat) (obs : SuspectObs)
  /-- NOT_ACHIEVED_DO (R173): Readback stays low with the driver on, and quality becomes BAD, NOT_ACHIEVED. -/
  | notAchievedDo (t : Time) (ch : Nat)
  /-- OVERLOAD_LATCH (R173): NOT_ACHIEVED persists 2 ms or the driver shuts down thermally, so OVERLOAD latches and the driver is held off. -/
  | overloadLatch (t : Time) (ch : Nat) (thermal : Bool)
  /-- WIRE_BREAK_SET (R169): Low current for its persistence time sets OPEN_WIRE. -/
  | wireBreakSet (t : Time) (ch : Nat)
  /-- WIRE_BREAK_CLEAR (R169): Restored current for its persistence time clears OPEN_WIRE. -/
  | wireBreakClear (t : Time) (ch : Nat)
  /-- SUPPLY_LOW_SET (R163): The field supply is below 18.0 V for 1 ms and SUPPLY_LOW is set for the block. -/
  | supplyLowSet (t : Time) (blk : Nat)
  /-- SUPPLY_LOW_CLEAR (R163): The field supply is above 19.0 V for 10 ms and SUPPLY_LOW clears. -/
  | supplyLowClear (t : Time) (blk : Nat)
  /-- GSW_RAIL_CHECK (R174): 1 ms after opening or closing, the switched rail is checked, raising GSW_STUCK or reopening the switch. -/
  | gswRailCheck (t : Time) (blk : Nat) (railMv : Nat)
  /-- WATCHDOG_REFRESH (R185): The field sequencer refreshes a channel's front-end watchdog every 100 µs. -/
  | watchdogRefresh (t : Time) (ch : Nat)
  /-- WATCHDOG_TRIP (R185): The front-end watchdog expires, drives SAFE_VAL, opens the switch and latches WATCHDOG. -/
  | watchdogTrip (t : Time) (ch : Nat)
  /-- AI_CONVERSION (R192): At a conversion instant, the AI current is computed, filtered, banded and published. -/
  | aiConversion (t : Time) (ch : Nat) (rawMa : F32)
  /-- AI_OVERLOAD (R194): A powered AI sees 25 mA for 10 ms, latches OVERLOAD and switches its loop supply off. -/
  | aiOverload (t : Time) (ch : Nat)
  /-- AO_DEMAND_READ (R195): An AO reads its demand and sets the clamped current. -/
  | aoDemandRead (t : Time) (ch : Nat)
  /-- AO_READBACK (R197): An AO readback publishes I_M and judges open loop, low compliance and NOT_ACHIEVED. -/
  | aoReadback (t : Time) (ch : Nat) (rawMa rawV : F32)
  /-- COMPLIANCE_PERSIST (R198): NOT_ACHIEVED stands for PERSIST_MS, raising an F1 and COMPLIANCE. -/
  | compliancePersist (t : Time) (ch : Nat)
  /-- MISWIRE_LATCH (R199): A reverse, over-voltage or negative current condition persists, and MISWIRE latches. -/
  | miswireLatch (t : Time) (ch : Nat)
  /-- SAFETY_EVALUATION (R213): A safety function is evaluated after a write to a record it reads: faults, demand, then reset. -/
  | safetyEvaluation (t : Time) (f : Nat)
  /-- SAFETY_TICK (R213): The 100 µs evaluation tick re-evaluates every safety function. -/
  | safetyTick (t : Time)
  /-- DISCREPANCY (R216): The discrepancy timer expires with channels still differing; DISCREPANCY latches and the function enters FAULT. -/
  | discrepancyExpiry (t : Time) (f : Nat)
  /-- STOP_DELAY_EXPIRY (R212): STOP_DELAY_MS after entry to STOPPING, the function enters TRIPPED and outputs switch off. -/
  | stopDelayExpiry (t : Time) (f : Nat)
  /-- SYNC_EXPIRY (R218): SYNC_MS expires without the second hand, and the two-hand function trips. -/
  | syncExpiry (t : Time) (f : Nat)
  /-- CONTACT (R218): A hand is in transit longer than DISC_MS, and CONTACT latches. -/
  | handContact (t : Time) (f : Nat)
  /-- OSSD_TEST_EXPIRY (R219): An OSSD shows no test pulse in OSSD_TEST_MS; TEST_FAIL latches and the function faults. -/
  | ossdTestExpiry (t : Time) (f : Nat) (second : Bool)
  /-- LOCK_RELEASE_READY (R217): Outputs have been low for 10 ms with the request and permit TRUE, so the guard lock is released. -/
  | lockReleaseReady (t : Time) (f : Nat)
  /-- TELEGRAM_SEND (R224): A SEND connection queues both copies of a telegram at its period or after a change, respecting 100 µs spacing. -/
  | telegramSend (t : Time) (conn : Nat)
  /-- TELEGRAM_RECEIVE (R225): A received copy is validated and accepted, compared, or discarded. -/
  | telegramReceive (t : Time) (conn : Nat) (net : Bool) (pdu : List Byte)
  /-- CONNECTION_WATCHDOG_EXPIRY (R226): WATCHDOG_US passes with no accepted copy, and the connection becomes FAILED. -/
  | connectionWatchdogExpiry (t : Time) (conn : Nat)
  /-- NETLOSS_EXPIRY (R227): A connection has had copies from only one network for NETLOSS_MS, and cause NET stands. -/
  | netlossExpiry (t : Time) (conn : Nat) (net : Bool)
  /-- PORT_LINK_CHANGE (R227): An Ethernet port gains or loses link or trains at 100 Mbit/s, affecting the NET cause. -/
  | portLinkChange (t : Time) (port : Nat) (up giga : Bool)
  /-- DEGRADED_EXPIRY (R228): A degraded cause's timer expires, and affected functions trip with DEGRADED_EXPIRED. -/
  | degradedExpiry (t : Time) (cause : DegCause)
  /-- DEGRADED_CAUSE_END (R227): Nothing has stood for a cause for 10 s, so the cause ends and its timer resets. -/
  | degradedCauseEnd (t : Time) (cause : DegCause)
  /-- DEGRADED_SAVE (R229): Every 60 s, the remaining degraded times are saved to MRAM. -/
  | degradedSave (t : Time)
  /-- PERMIT_REQUEST (R246): A heavy operation requests units, and the arbiter grants or queues it. -/
  | permitRequest (t : Time) (who : Nat) (op : HeavyOp) (c1 : Bool) (durMs : Nat)
  /-- PERMIT_RELEASE (R246): A grant is released and the arbiter grants the next heads. -/
  | permitRelease (t : Time) (who : Nat)
  /-- PERMIT_RENEW (R247): A holder renews its grant, which is granted at once or queued. -/
  | permitRenew (t : Time) (who : Nat) (units durMs : Nat)
  /-- GRANT_EXPIRY (R247): A grant reaches its end without renewal; the operation is suspended and requeued with an F0. -/
  | grantExpiry (t : Time) (who : Nat)
  /-- ROUND_INSTANT (R268): At each round instant, each seat sends its round frame to both peers. -/
  | roundInstant (t : Time)
  /-- ROUND_FRAME_RECEIVE (R268): A peer's round frame is received and held for the vote. -/
  | roundFrameReceive (t : Time) (seat : Nat) (f : RoundFrame)
  /-- ROUND_WINDOW_CLOSE (R268): At t_k + 170 µs, frames not yet arrived count as missing. -/
  | roundWindowClose (t : Time)
  /-- VOTE_INSTANT (R272): At v_k, inputs are voted, outputs are compared and released, and divergence is resolved. -/
  | voteInstant (t : Time)
  /-- SIGNATURE_COMPARE (R275): Every 1,000 rounds, the state signatures are compared. -/
  | signatureCompare (t : Time)
  /-- HEARTBEAT_SEND (R278): Every 1 ms, a heartbeat is sent on the SAF_NET ports. -/
  | heartbeatSend (t : Time)
  /-- HEARTBEAT_RECEIVE (R278): A peer's heartbeat is received. -/
  | heartbeatReceive (t : Time) (seat : Nat)
  /-- PEER_LOSS_DECLARATION (R278): After missing frames and heartbeats, a peer is declared lost or partitioned, and roles move up. -/
  | peerLossDeclaration (t : Time) (seat : Nat)
  /-- TRIAD_LINK_DOWN (R266): A triad link fails and frames are forwarded through the third seat. -/
  | triadLinkDown (t : Time) (t2 : Bool)
  /-- CLAIM_FRAME (R280): A claim frame is received, leading to forming or to the acceptance of a resync claim. -/
  | claimFrame (t : Time) (seat : Nat) (triadId : W32) (epoch version : Nat) (running : Bool)
  /-- TRIAD_FORM (R280): Two or more claiming members agree and form a triad with a common epoch. -/
  | triadForm (t : Time)
  /-- SOLO_FORM_TIMEOUT (R280): No partner has claimed after 10 s, so the member forms SOLO or stays ALONE. -/
  | soloFormTimeout (t : Time)
  /-- RESYNC_BULK_END (R283): The bulk copy ends and delta passes begin. -/
  | resyncBulkEnd (t : Time) (dirtyMib : Nat)
  /-- DELTA_PASS_END (R283): A delta pass ends, and another begins or SHADOW follows. -/
  | deltaPassEnd (t : Time) (passMib : Nat)
  /-- SHADOW_START (R283): At the first round instant after DELTA, the seat executes in step in SHADOW. -/
  | shadowStart (t : Time)
  /-- REGION_COMPARE (R283): Every 100 rounds in SHADOW, region signatures are compared and differing regions are resent. -/
  | regionCompare (t : Time) (differing : Nat)
  /-- RESYNC_IN_STEP (R283): After a matching comparison and 1,000 matching rounds, the seat becomes IN_STEP or FOLLOWER. -/
  | resyncInStep (t : Time)
  /-- RESYNC_ABANDON (R284): The resync is abandoned on timeout, loss of its source or a code error, and the seat restarts. -/
  | resyncAbandon (t : Time) (codeError : Bool)
  /-- CLAIM_RETRY (R284): 60 s after an abandonment, the seat claims again. -/
  | claimRetry (t : Time)
  /-- FRAME_INGRESS (R339): A frame enters the switch, is remapped and filtered, and is queued for egress. -/
  | frameIngress (t : Time) (port : Nat) (f : EthFrame)
  /-- FRAME_EGRESS (R340): A queued frame is granted its egress port and transmitted, with PTP correction applied. -/
  | frameEgress (t : Time) (port : Nat)
  /-- PTP_OFFSET (R348): A Sync yields an offset that steps, slews or is refused by the servo. -/
  | ptpOffset (t : Time) (port : Nat) (off : Int)
  /-- PTP_MESSAGE_SEND (R345): A PTP message is sent at its configured rate. -/
  | ptpMessageSend (t : Time) (port : Nat) (msg : PtpMsg)
  /-- MASTER_LOST (R349): No Announce arrives within the timeout; the master is lost and LOCKED clears. -/
  | masterLost (t : Time)
  /-- TIM_WRAP (R344): The low 32 bits of module time wrap, the wrap count increments and WRAP is set. -/
  | timWrap (t : Time)
  /-- PPS_OUT_EDGE (R350): PPS out rises at each whole second of module time. -/
  | ppsOutEdge (t : Time)
  /-- PPS_IN_EDGE (R350): A PPS-in rising edge is timestamped into TIM_PPS_IN. -/
  | ppsInEdge (t : Time)
  /-- NMEA_SENTENCE (R352): A navigation sentence is checked, and mapped fields are written to signals. -/
  | nmeaSentence (t : Time) (src : Nat) (text : List Byte)
  /-- NAV_TIMEOUT (R352): No accepted sentence arrives for TIMEOUT_MS, and the entry's signal becomes BAD, STALE. -/
  | navTimeout (t : Time) (entry : Nat)
  /-- BEACON (R356): A station beacon is matched and answered with ASSIGN, or counted as unmatched. -/
  | stationBeacon (t : Time) (stationId : W32) (mac : BitVec 48)
  /-- STATION_CYCLE (R357): At a station cycle instant, the output segments are sent. -/
  | stationCycle (t : Time) (st : Nat)
  /-- IN_SEG (R357): A station input segment is received and held, or discarded if old. -/
  | inSeg (t : Time) (st : Nat) (frame : List Byte)
  /-- STATION_INPUT_INSTANT (R358): At t + RESP_US, inputs are written or the cycle is missed, and the station may join or drop. -/
  | stationInputInstant (t : Time) (st : Nat)
  /-- ACYC_RESP (R359): An acyclic response from a station completes the pending request. -/
  | acycResp (t : Time) (st : Nat) (refused : Bool) (data : List Byte)
  /-- STATION_TIMEOUT (R359): An acyclic request has no response within 100 ms and completes with STATION_TIMEOUT. -/
  | stationTimeout (t : Time) (st : Nat)
  /-- STATION_LOAD (R354): A station record and map are loaded. -/
  | stationLoad (t : Time) (q : Req) (st : Nat) (buf : List Byte)
  /-- STATION_DELETE (R360): A station is deleted unless it is joined. -/
  | stationDelete (t : Time) (q : Req) (st : Nat)
  /-- NAV_LOAD (R352): Navigation map entries are loaded. -/
  | navLoad (t : Time) (q : Req) (count : Nat) (buf : List Byte)
  /-- PTP_PORT (R360): PTP is enabled on a port and its asymmetry is set. -/
  | ptpPort (t : Time) (q : Req) (port : Nat) (en : Bool) (asym : Int)
  /-- STATION_READ (R359): An acyclic read is sent to a station. -/
  | stationRead (t : Time) (q : Req) (st : Nat) (obj : W32)
  /-- STATION_WRITE (R359): An acyclic write is sent to a station. -/
  | stationWrite (t : Time) (q : Req) (st : Nat) (obj : W32) (data : List Byte)
  /-- CAN_PORT_LOAD (R367): A CAN port record with buffers, filters and maps is loaded. -/
  | canPortLoad (t : Time) (q : Req) (port : Nat) (buf : List Byte)
  /-- CAN_SEND (R373): A transmit buffer's request is set or replaced. -/
  | canSend (t : Time) (q : Req) (port b : Nat) (data : List Byte)
  /-- CAN_READ (R371): A buffer or FIFO frame is read under the retry rule. -/
  | canRead (t : Time) (q : Req) (port b : Nat) (racing : Nat)
  /-- CAN_RECOVER (R376): Bus-off recovery starts on command. -/
  | canRecover (t : Time) (q : Req) (port : Nat)
  /-- CAN_FRAME_RECEIVE (R370): A received frame is stored in a buffer or FIFO, and its mappings and heartbeats are updated. -/
  | canFrameReceive (t : Time) (port : Nat) (f : CanFrame)
  /-- CAN_PERIOD_REQUEST (R373): At a transmit buffer's period instant, transmission is requested. -/
  | canPeriodRequest (t : Time) (port b : Nat)
  /-- CAN_TX_END (R375): A transmission attempt ends with success or an error, updating the counters and request. -/
  | canTxEnd (t : Time) (port b : Nat) (r : CanTxResult)
  /-- NO_PARTNER (R378): After 16 acknowledge errors, NO_PARTNER is set and the lone-node rule applies. -/
  | canNoPartner (t : Time) (port : Nat)
  /-- RECOVER_DELAY_EXPIRY (R376): RECOVER_DELAY_MS after bus-off, automatic recovery begins. -/
  | recoverDelayExpiry (t : Time) (port : Nat)
  /-- RECOVERED (R376): 128 occurrences of 11 recessive bits end bus-off, and transmission returns to the port. -/
  | canRecovered (t : Time) (port : Nat)
  /-- REFERENCE_CYCLE_START (R379): A basic cycle starts and buffer 0 requests the reference message, withdrawing any still pending. -/
  | referenceCycleStart (t : Time) (port : Nat)
  /-- HEARTBEAT_TIMEOUT (R380): No heartbeat from a CAN node arrives for HB_TIMEOUT_MS, and DISCOVERY gone is posted. -/
  | heartbeatTimeout (t : Time) (port node : Nat)
  /-- CAN_MAP_TIMEOUT (R382): No store to a receive map entry arrives for TIMEOUT_MS, and its signal becomes BAD, STALE. -/
  | canMapTimeout (t : Time) (port entry : Nat)
  /-- FAULT_REPORT (R390): The collector takes a fault, counts it, sets its active bit, posts an event and opens or merges the capture. -/
  | faultReport (t : Time) (f : FaultInfo)
  /-- FIRMWARE_ACK (R396): The service-pair firmware acknowledges contained F2 faults. -/
  | firmwareAck (t : Time)
  /-- JIB_EXPIRY (R395): The jack-in-the-box timer expires; LEVEL becomes 3 and the F3 reaction follows. -/
  | jibExpiry (t : Time)
  /-- ALIVE_TOGGLE (R400): At each 500 µs instant, ALIVE changes level while its conditions hold. -/
  | aliveToggle (t : Time)
  /-- OK_CONTACT_DROP (R485): The pulse detector opens OK_A to OK_B 2 ms after the last ALIVE change. -/
  | okContactDrop (t : Time)
  /-- RECORDER_SAMPLE (R407): A tapped sample enters its accumulator, closing the previous interval if it lies in a later one. -/
  | recorderSample (t : Time) (sig : Nat)
  /-- ACCUMULATOR_SWEEP (R407): The background sweep closes accumulators that receive no later sample. -/
  | accumulatorSweep (t : Time) (tier : Nat)
  /-- INTERVAL_CLOSE (R408): All records of an interval are written, followed by its header, and the interval is closed. -/
  | intervalClose (t : Time) (tier : Nat)
  /-- ARCHIVE_FLUSH (R416): After its permit, a tier's records are flushed to flash with a commit block. -/
  | archiveFlush (t : Time) (tier : Nat) (writes : FlashResult)
  /-- FREEZE_MAX_EXPIRY (R415): A freeze ends after FREEZE_MAX_MIN. -/
  | freezeMaxExpiry (t : Time)
  /-- REC_CLASS_LOAD (R405): Bin classes are loaded. -/
  | recClassLoad (t : Time) (q : Req) (first count : Nat) (buf : List Byte)
  /-- REC_LIST_LOAD (R406): A tier's list is replaced from its next boundary. -/
  | recListLoad (t : Time) (q : Req) (tier count : Nat) (buf : List Byte)
  /-- REC_FREEZE (R415): The recorder is frozen, ending intervals as PARTIAL. -/
  | recFreeze (t : Time) (q : Req)
  /-- REC_FREEZE_RELEASE (R415): The freeze is released and recording resumes with PARTIAL intervals. -/
  | recFreezeRelease (t : Time) (q : Req)
  /-- REC_READ (R412): An interval header and records are copied, or REC_GONE or REC_OPEN is returned. -/
  | recRead (t : Time) (q : Req) (tier : Nat) (seq : W32) (first count : Nat)
  /-- UPD_RECEIVE (R427): A package's header checks run, and the region enters RECEIVING. -/
  | updReceive (t : Time) (q : Req) (supersede noRelay : Bool) (hdr : List Byte)
  /-- PAYLOAD_RECEIVED (R428): The last payload byte is held, and the region enters VERIFYING. -/
  | payloadReceived (t : Time) (payload : List Byte)
  /-- VERIFY_DONE (R427): The payload checks pass or fail, and the region enters APPLYING or IDLE. -/
  | verifyDone (t : Time) (region : Nat)
  /-- APPLY_DONE (R428): The section is written and matched, and the region is READY and forwarded. -/
  | applyDone (t : Time) (region : Nat)
  /-- UPD_ACTIVATE (R434): The commit point names the section as TRIAL and restarts the region, or starts a triad sequence. -/
  | updActivate (t : Time) (q : Req) (region : Nat) (triadSeq : Bool)
  /-- UPD_CANCEL (R430): An update before its commit point is cancelled. -/
  | updCancel (t : Time) (q : Req) (region : Nat)
  /-- UPD_REJECT (R437): A region in TRIAL falls back. -/
  | updReject (t : Time) (q : Req) (region : Nat)
  /-- TRIAL_CONFIRM (R436): After CONFIRM_MIN of clean RUN, the trial confirms, the floor rises and the epoch may be fused. -/
  | trialConfirm (t : Time) (region : Nat)
  /-- TRIAL_TIMEOUT (R437): 24 h after activation without confirmation, the region falls back. -/
  | trialTimeout (t : Time) (region : Nat)
  /-- OFFER (R432): A relay OFFER is header-checked and answered with ACCEPT, REFUSE or HAVE. -/
  | relayOffer (t : Time) (srcId : W32) (supersede : Bool) (hdr : List Byte)
  /-- ACCEPT (R432): A relay ACCEPT starts sending DATA. -/
  | relayAccept (t : Time) (nbr : Nat) (pkg : W32)
  /-- HAVE (R433): A relay HAVE marks the neighbour delivered. -/
  | relayHave (t : Time) (nbr : Nat) (pkg : W32)
  /-- REFUSE (R433): A relay REFUSE marks the neighbour failed. -/
  | relayRefuse (t : Time) (nbr : Nat) (pkg : W32) (status : Nat)
  /-- DATA (R432): A relay DATA frame is received into the workspace, with ACK after 32 frames or a gap. -/
  | relayData (t : Time) (srcId : W32) (pkg : W32) (off : Nat) (bytes : List Byte)
  /-- ACK (R432): A relay ACK advances the sender's acknowledged offset. -/
  | relayAck (t : Time) (nbr : Nat) (pkg : W32) (off : Nat)
  /-- DONE (R433): A relay DONE reports the receiver's payload check status. -/
  | relayDone (t : Time) (nbr : Nat) (pkg : W32) (status : Nat)
  /-- ABORT (R432): A relay ABORT ends the transfer. -/
  | relayAbort (t : Time) (srcId : W32) (pkg : W32)
  /-- RELAY_RESEND_TIMEOUT (R432): 20 ms without an ACK makes the sender resend from the acknowledged offset. -/
  | relayResendTimeout (t : Time) (nbr : Nat)
  /-- RELAY_PROGRESS_TIMEOUT (R433): A neighbour making no progress for 10 s is marked failed. -/
  | relayProgressTimeout (t : Time) (nbr : Nat)
  /-- SEC_PROPOSE (R454): A protection package is checked and dry-run, and becomes pending. -/
  | secPropose (t : Time) (q : Req) (buf : List Byte)
  /-- SEC_CONFIRM (R455): A SAFETY confirmation is checked, and the items are re-checked for the protection instant. -/
  | secConfirm (t : Time) (q : Req) (seq : W32) (key : Nat) (sig : List Byte)
  /-- PROTECTION_INSTANT (R455): Every item of a confirmed package takes effect together. -/
  | protectionInstant (t : Time)
  /-- SEC_WITHDRAW (R453): The pending proposal is withdrawn. -/
  | secWithdraw (t : Time) (q : Req) (seq : W32)
  /-- SEC_PROPOSAL_READ (R464): The pending package is returned. -/
  | secProposalRead (t : Time) (q : Req)
  /-- SEC_IDENTITY_READ (R464): The module identity and device public key are returned. -/
  | secIdentityRead (t : Time) (q : Req)
  /-- SEC_ROLE_INIT (R456): The first ENGINEERING and SAFETY keys are installed in PROVISIONED. -/
  | secRoleInit (t : Time) (q : Req) (buf : List Byte)
  /-- PROPOSAL_EXPIRY (R456): A proposal not confirmed within 600 s is discarded and marked expired. -/
  | proposalExpiry (t : Time)
  /-- DEBUG_TOKEN (R458): A token presented on G1 opens a debug level or fails. -/
  | debugToken (t : Time) (full : Bool) (sig : List Byte)
  /-- DEBUG_ACCESS (R458): A G1 debug access reads, or in FULL halts, steps or writes cores and memories. -/
  | debugAccess (t : Time) (a : DebugAccess)
  /-- DEBUG_LOCKOUT_END (R458): 60 s after 8 failed tokens, G1 accepts tokens again. -/
  | debugLockoutEnd (t : Time)
  /-- DEBUG_GRANT_END (R459): A DEBUG_GRANT ends and OBSERVE closes. -/
  | debugGrantEnd (t : Time)
  /-- PNL_FRAME (R469): A panel image is checked and accepted for the next frame start. -/
  | pnlFrame (t : Time) (q : Req) (crc : W32) (img : List Byte)
  /-- PNL_BANDS (R472): A new band table is loaded. -/
  | pnlBands (t : Time) (q : Req) (buf : List Byte)
  /-- PNL_FULL (R475): A full-brightness permit is requested or renewed. -/
  | pnlFull (t : Time) (q : Req) (ms : Nat)
  /-- PNL_FULL_RELEASE (R475): A PNL_FULL with duration 0 releases the full-brightness grant. -/
  | pnlFullRelease (t : Time) (q : Req)
  /-- PNL_ID_READ (R480): The panel identification record is returned. -/
  | pnlIdRead (t : Time) (q : Req)
  /-- PANEL_FRAME_START (R470): At a frame start, a new image, band, drive or integrity pattern takes effect. -/
  | panelFrameStart (t : Time)
  /-- PANEL_FRAME_END (R476): At a frame's end, its CRC is compared, and the integrity pattern is shown on a mismatch. -/
  | panelFrameEnd (t : Time) (crc : W32)
  /-- PANEL_TEMP_READ (R473): A 100 ms driver temperature reading may change the band or disable drive when hot. -/
  | panelTempRead (t : Time) (tempC : Int)
  /-- PANEL_IDENT_READ (R477): The identification read at start or every 10 s succeeds, or shuts the panel down. -/
  | panelIdentRead (t : Time) (ident : List Byte)
  /-- PANEL_RAIL_CHECK (R477): 5 ms after switch-on, the 12 V rail is checked and the panel proceeds or shuts down. -/
  | panelRailCheck (t : Time) (mv : Nat)
  /-- PANEL_RETRY (R477): After a failed start, the retry delay expires and the start is tried again. -/
  | panelRetry (t : Time)
  /-- SUPPLY_REMOVED (R307): After a SHUTDOWN, the supply at P1 stays below 5 V for 1 s, which allows the next rise above 18.0 V to start the module. -/
  | supplyRemoved (t : Time)
  /-- TRIAD_LINK_UP (R266): A triad link T1 or T2 trains, TRI_STATUS.LINK_UP is set and direct exchange replaces forwarding through the third seat. -/
  | triadLinkUp (t : Time) (t2 : Bool)
  /-- PTP_ANNOUNCE (R349): A received PTP Announce feeds the best master clock choice, can change the master (MASTER_CHANGED) and decides TRACEABLE through timeTraceable. -/
  | ptpAnnounce (t : Time) (port : Nat) (a : Announce)
  /-- NOT_ACHIEVED_CLEAR (R173): Readback of a DO that is driven on goes high again before OVERLOAD latches, and the channel's BAD, NOT_ACHIEVED quality ends. -/
  | notAchievedClear (t : Time) (ch : Nat)
  /-- FIELD_SUPPLY_FALL (R489): The first raw field-supply sample of a block below 18.0 V suspends that block's readback checks and test pulses. -/
  | fieldSupplyFall (t : Time) (blk : Nat)
deriving DecidableEq, Repr

end Sys2Proof
end

