-- ==== Sys2Proof/Decode.lean ====
section
/-! DEFINITION. Commands as words. The opcode table gives no row of this block any bits (a command
is a happening or a descriptor, not a word), so no word spells a command. -/

namespace Sys2Proof

/-- The command that a word of `nbits` bits spells by the table: none, since no row gives bits. -/
def decodeTableWord (_nbits _w : Nat) : Option Instr := none

end Sys2Proof
end

