-- ==== Sys2Proof/Config.lean ====
section
/-! DEFINITION. The free values: what the manual leaves open is an opaque constant here, so that
no statement can rest on a number the model chose (assumption log 3, 4, 5 and 6). -/

namespace Sys2Proof.Config

/-- The payload and sign of a REAL32 NaN result, as a function of the operation's number and its
operands (R98 names the NaN and not its bits). Free, log 4. -/
opaque nanPayload32 : Nat → F32 → F32 → BitVec 32

/-- The payload and sign of a REAL64 NaN result (R98). Free, log 4. -/
opaque nanPayload64 : Nat → F64 → F64 → BitVec 64

/-- EXP, LN, SIN, COS and ATAN2 over REAL32 at operands for which IEEE 754 fixes no exact result
(R96 states the function and no accuracy). The first argument numbers the function. Free, log 3. -/
opaque real32 : Nat → F32 → F32 → F32

/-- EXP, LN, SIN, COS and ATAN2 over REAL64 (R96). Free, log 3. -/
opaque real64 : Nat → F64 → F64 → F64

/-- FILT1's first-order lag over the elapsed time (R106): from its state, its input, the elapsed time and the time
constant in ns; the manual names the lag and gives no formula. Free, log 3. -/
opaque lag64 : F64 → F64 → Nat → Int → F64

/-- The factor 1 − exp(−T ÷ τ) of the AI filter (R192), from T in µs and τ in µs: the manual states the formula
and no accuracy. Free, log 3. -/
opaque filterFactor : Nat → Nat → F32

/-- The temperature correction that a calibration record's TC_PPM and REF_TEMP make (R202 lays the
two fields out and no rule states how they enter, and the board's temperature is not the block's state): drawn
afresh, from the coefficient, the reference temperature and the current formed by the gain and offset. Free, log 5. -/
opaque tempCorrect : Nat → F32 → F32 → F32 → F32

/-- The servo's next rate, in units of 2⁻³² ns per tick, from the rate in force and the offset
(R348 names a PI controller and no gains). Free, log 6. -/
opaque servoRate : Int → Int → Int

/-- The reference output of the base power reservation of R244: "computed at WC from the admitted
configuration and the ports in use", with no formula. It is applied to the counts of enabled
channels, admitted tasks, loops and ports in use. Free, log 7. -/
opaque baseUnits : Nat → Nat → Nat → Nat → Nat

/-- A free value drawn afresh: State's counter `free` is its argument (log 2). -/
opaque fresh32 : Nat → BitVec 32

/-- A free truth value drawn afresh (log 2). -/
opaque freshBool : Nat → Bool

/-- The 8 bytes of a signal directory entry, from the generation, the reference count and whether the
signal is defined: the manual gives their contents and no layout (R40). Free, log 9. -/
opaque dirEntry : Nat → Nat → Bool → BitVec 64

/-- The 32 bytes of an entry of the plan value area, from its value, quality and running ramp's target, rate and
interval: the manual gives their contents and no layout (R159). Free, log 9. -/
opaque valueEntry : BitVec 64 → BitVec 16 → Option (F32 × F32 × Nat) → BitVec 256

/-- The link delay that a port measures in peer-to-peer mode, in ns (R347): from the port, drawn afresh. Free, log 63. -/
opaque linkDelay : Nat → Nat → Int

/-- The parts of the change package that a CHANGE item carries as bytes (R84, R452): the manual gives it no layout. Its
image, its task records, its retained values (task, entry, value), its CONST values (handle, value) and the tasks it
removes. Free, log 117. -/
opaque changeImage : List (BitVec 8) → List (BitVec 8)
opaque changeTasks : List (BitVec 8) → List (List (BitVec 8))
opaque changeValues : List (BitVec 8) → List (Nat × Nat × BitVec 64)
opaque changeConsts : List (BitVec 8) → List (BitVec 32 × BitVec 64)
opaque changeRemoved : List (BitVec 8) → List Nat

/-- A challenge of the debug port (R458: 32 bytes, changing after every attempt). Free, log 8. -/
opaque challenge : Nat → List Byte

end Sys2Proof.Config
end

