-- ==== Sys2Proof/Machine/Records.lean ====
section
/-! DEFINITION. The records the manual lays out and the named states its blocks are in: the types
that State is made of. Numbers and indices are Nat, words the manual packs are bit vectors. -/

namespace Sys2Proof.Machine

/-- A sparse table: entries by rising key, no key twice. -/
abbrev Tbl (α : Type) := List (Nat × α)

/-- Completion statuses (R326, R361, R386, R420, R442, R465, R481). -/
inductive Status where
  | ok | partly | badOpcode | badField | ringClass | hostDma | serviceRestart | notLead | notReady
  | busy | staleHandle | inUse | notOwner | ownerConflict | typeMismatch | constant | isProtected
  | locked | forceDisabled | forceFull | treeCycle | refusedMode | interlocked | notAdmitted
  | classRead | classCall | badImage | badSteps | changeBusy | changeDisabled | tooLate | bankActive
  | swapDisabled | swapPending | noSpace | planRunning | noSlot | startDisabled | planState
  | pairState | pairC0 | calRange | calDisabled
  | stationAbsent | stationTimeout | stationRefused | pnlCrc | pnlAbsent
  | canListenOnly | canPortOff | canBufferDir | canEmpty | canBlocked | noAck
  | protSignature | protExpired | protPending | protNone | protSeq | lifecycle
  | freezeNotAllowed | recGone | recOpen
  | updSignature | updVersion | updBase | updDependency | updConfigFormat | updState | trialActive
  | updRejected
deriving DecidableEq, Repr

/-- Unit modes (R59). -/
inductive Mode where
  | off | manual | auto | hold | safe
deriving DecidableEq, Repr

/-- Power states (R290). -/
inductive PState where
  | off | run | hold | quiet | fail
deriving DecidableEq, Repr

/-- Causes of FAIL (R503). -/
inductive FailCause where
  | none | supply | shutdown | restart
deriving DecidableEq, Repr

/-- Causes of a start (R501). -/
inductive StartCause where
  | powerUp | supplyReturn | hostRestart | activation | fallBack | fault | exclusion | abandonment
deriving DecidableEq, Repr

/-- Task states (R77, R324). -/
inductive TState where
  | stopped | idle | snapshot | ready | running | committing | halted
deriving DecidableEq, Repr

/-- Pair states (R263, R264). -/
inductive PairSt where
  | down | selftest | joined | draining | split | joining | lost
deriving DecidableEq, Repr

/-- Ring states (R316). -/
inductive RingSt where
  | disabled | pending | active | draining | error
deriving DecidableEq, Repr

/-- Safety function states (R212, R215). -/
inductive FState where
  | init | tripped | ready | enabled | stopping | fault
deriving DecidableEq, Repr

/-- Fault causes of a safety function (R215). -/
inductive FCause where
  | none | discrepancy | contact | inputDiag | outputDiag | lockFault | ossdTest
deriving DecidableEq, Repr

/-- Connection states (R226). -/
inductive CState where
  | starting | active | failed
deriving DecidableEq, Repr

/-- Plan states (R154, R157). -/
inductive PlState where
  | idle | running | paused | aborting
deriving DecidableEq, Repr

/-- Triad seat states (R289). -/
inductive SeatSt where
  | alone | claiming | bulk | delta | shadow | inStep | follower | out
deriving DecidableEq, Repr

/-- Triad roles (R277, R289). -/
inductive Role where
  | none | lead | second | standby
deriving DecidableEq, Repr

/-- Update region states (R428, R444). -/
inductive RegionSt where
  | idle | receiving | verifying | applying | ready | activating | trial
deriving DecidableEq, Repr

/-- Panel states (R482). -/
inductive PanelSt where
  | off | ident | rail | clear | lit | hot
deriving DecidableEq, Repr

/-- CAN port states (R387). -/
inductive CanSt where
  | off | errorActive | errorPassive | busOff
deriving DecidableEq, Repr

/-- Lifecycle states (R447). -/
inductive Lifecycle where
  | blank | provisioned | sealed | returned | void
deriving DecidableEq, Repr

/-- Debug levels (R458). -/
inductive Debug where
  | closed | observe | full
deriving DecidableEq, Repr

/-! ### Signals and units -/

/-- A signal: its record (R36, R37) and its directory entry (R40: generation and reference count). `writes` is the
MODEL's own count of the owner
writes of this start, by which R60 and R296 tell the owner's first and next write. -/
structure SigRec where
  gen : Nat := 1
  refs : Nat := 0
  val : Val := 0
  qual : Qual := 0x0005
  ty : Nat := 0
  ownKind : Nat := 0
  ownId : Nat := 0
  ownClass : Nat := 0
  isConst : Bool := false
  safety : Bool := false
  stale : Bool := false
  subst : Bool := false
  forced : Bool := false
  wwf : Bool := false
  time : W32 := 0
  wrap : BitVec 16 := 0
  forceVal : Val := 0
  writes : Nat := 0
deriving DecidableEq, Repr

/-- What a reader obtains from one record access (R51, R78). -/
structure View where
  val : Val
  qual : Qual
  time : W32
  wrap : BitVec 16
deriving DecidableEq, Repr

/-- A unit (R56, R57): its record, its own mode, the mode it held before HOLD (R61), the alarm level and
state word last rolled up (R66). -/
structure Unit where
  gen : Nat := 1
  parent : Nat := 0
  modeSig : W32 := 0
  alarmSig : W32 := 0
  stateSig : W32 := 0
  ilk : List W32 := []
  allowed : BitVec 16 := 0x1F
  initMode : Mode := .auto
  nameTag : W32 := 0
  mode : Mode := .auto
  prior : Mode := .auto
  alarm : Nat := 0
  word : W32 := 0
  raw : List Byte := []
deriving DecidableEq, Repr

/-- A member record (R58), kept under its signal's index. -/
structure Member where
  unit : Nat
  alarmSource : Bool
  level : Nat
  raw : List Byte
deriving DecidableEq, Repr

/-- A mode command waiting for the unit walker (R64): `mode` none is RESUME; `c1` its rank. -/
structure WalkCmd where
  unit : Nat
  mode : Option Mode
  aon : Bool
  c1 : Bool
  req : Option Req
deriving DecidableEq, Repr

/-! ### DIC -/

/-- A value with its quality: a register, a retained or a scratch entry (R93, R94). -/
structure VQ where
  v : Val := 0
  q : Qual := 0xC000
deriving DecidableEq, Repr

/-- A function-block entry: 32 bytes (R94, R106). -/
structure Fbi where
  w0 : Val := 0
  w1 : Val := 0
  w2 : Val := 0
deriving DecidableEq, Repr

/-- A LOOP that is running (R101): its body, the iterations to make and the present one. -/
structure LoopFrame where
  start : Nat
  stop : Nat
  total : Nat
  idx : Nat
  depth : Nat
deriving DecidableEq, Repr

/-- A queued service request (R108, R109): its number and V0 to V4. -/
structure SysReq where
  num : Nat
  v0 : Val
  v1 : Val
  v2 : Val
  v3 : Val
  v4 : Val
deriving DecidableEq, Repr

/-- A message waiting for its event task (R108, R111). -/
structure Msg where
  port : Nat
  payload : List Val
deriving DecidableEq, Repr

/-- A release of a task (R74 to R76, R111): its instant and, for a message, the payload. -/
structure Release where
  t : Nat
  msg : List Val := []
deriving DecidableEq, Repr

/-- A running instance of a task (R78, R79, R93, R94, R109). `pc` counts words from the code start. -/
structure Inst where
  release : Nat
  pc : Nat := 0
  steps : Nat := 16
  regs : List VQ := []
  loops : List LoopFrame := []
  calls : List Nat := []
  snap : List View := []
  wbuf : List (Option VQ) := []
  scratch : List VQ := []
  retain : List VQ := []
  fbi : List Fbi := []
  reqs : List SysReq := []
  msg : List Val := []
  began : Nat := 0
deriving DecidableEq, Repr

/-- A DIC image (R92, R513), parsed; `raw` is the image as loaded. -/
structure Image where
  imageId : W32
  prevId : W32
  codeOff : Nat
  code : List W32
  consts : List (Val × Nat)
  retain : List (VQ × Nat)
  scratch : List Nat
  fbi : List Nat
  migration : Option (List (Nat × Nat))
  raw : List Byte
deriving DecidableEq, Repr

/-- A task record (R72) with its two lists of handles. -/
structure TaskRec where
  task : Nat := 0
  event : Bool := false
  cls : Nat := 3
  prio : Nat := 31
  pair : Nat := 0xFF
  startOnRun : Bool := false
  haltOnSkip : Bool := false
  period : Nat := 250
  phase : Nat := 0
  deadline : Nat := 0
  wcSteps : Nat := 0
  entry : Nat := 0
  unit : W32 := 0
  reads : List W32 := []
  writes : List W32 := []
  evSource : W32 := 0
  evKind : Nat := 0
  qDepth : Nat := 0
  evCode : Nat := 0
  imageId : W32 := 0
  raw : List Byte := []
  key : Nat := 0
deriving DecidableEq, Repr

/-- A task (R70, R77, R324). -/
structure Task where
  rcd : TaskRec
  home : Nat
  pair : Nat
  coreB : Bool := false
  st : TState := .stopped
  inst : Option Inst := none
  queue : List Release := []
  deferred : Option Nat := none
  lastRelease : Option Nat := none
  lastCommit : Option Nat := none
  cycles : BitVec 64 := 0
  skipped : W32 := 0
  merged : W32 := 0
  range : W32 := 0
  stopReq : Bool := false
  haltAtCommit : Bool := false
  stopAt : Option Nat := none
  rideDone : Bool := false
  window : Nat := 0
  wUs : Nat := 0
  results : List W32 := []
  retain : List VQ := []
  fbi : List Fbi := []
  switchTo : Option TaskRec := none
  edits : List (Nat × Val) := []
deriving DecidableEq, Repr

/-- A pending on-line change (R84, R85). -/
structure PendingChange where
  no : W32
  kind : Nat
  instant : Nat
  pkg : ChangePkg
  image : Option Image
  recs : List TaskRec
  req : Option Req
deriving DecidableEq, Repr

/-- A change record (R90). -/
structure ChangeRec where
  no : W32
  kind : Nat
  outcome : Nat
  tasks : List Nat
  instant : W32
  wrap : BitVec 16
  forced : List W32
  imageId : W32
  prevId : W32
  status : Status
deriving DecidableEq, Repr

/-! ### Loops -/

/-- A loop record (R113). -/
structure LoopRec where
  loop : Nat := 0
  micro : Bool := false
  enableOnRun : Bool := false
  autoRecover : Bool := false
  plausEn : Bool := false
  frozenEn : Bool := false
  period : Nat := 20
  phase : Nat := 0
  apply : Nat := 0
  unit : W32 := 0
  pvSrc : W32 := 0
  spSrc : W32 := 0
  ffSig : W32 := 0
  manSig : W32 := 0
  fbSig : W32 := 0
  outSig : W32 := 0
  out2Sig : W32 := 0
  outCh : Nat := 0xFFFF
  out2Ch : Nat := 0xFFFF
  statusSig : W32 := 0
  aux : List W32 := []
  ssRate : F32 := 0
  ssStep : F32 := 0
  reactRate : F32 := 0
  fallback : F32 := 0
  safeValue : F32 := 0
  offValue : F32 := 0
  a1 : F32 := 0
  a2 : F32 := 0
  b1 : F32 := 0
  b2 : F32 := 0
  dead : Nat := 0
  lostN : Nat := 1
  resN : Nat := 1
  resLambda : F32 := 0
  resLimit : F32 := 0
  frozenWin : Nat := 8
  recoverN : Nat := 1
  frozenMove : F32 := 0
  frozenBand : F32 := 0
  reactLost : Nat := 0
  reactImpl : Nat := 0
  reactFrozen : Nat := 0
  reactAfter : Nat := 0
  mdTimeMs : Nat := 100
  raw : List Byte := []
deriving DecidableEq, Repr

/-- A microprogram record (R137). -/
structure Micro where
  count : Nat
  curve : List F32
  code : List W32
  raw : List Byte
deriving DecidableEq, Repr

/-- A loop's computed output waiting for its apply instant `due` (R117), with what the next sample needs of it. -/
structure LoopOut where
  u : F32
  u2 : Option F32
  qual : Qual
  subst : Bool
  i : F64
  write : Bool
  anchor : Bool
  due : Nat := 0
deriving DecidableEq, Repr

/-- A loop: record, banks, and its working state (R113, R121 to R135). -/
structure Loop where
  rcd : LoopRec
  bank0 : List F32 := List.replicate 16 0
  bank1 : List F32 := List.replicate 16 0
  micro : Option Micro := none
  active : Nat := 0
  swap : Option Nat := none
  enabled : Bool := false
  offPending : Bool := false
  closed : Bool := false
  wasMode : Mode := .off
  w : F32 := 0
  ramping : Bool := false
  rPrev : F32 := 0
  rHold : F32 := 0
  i : F64 := 0
  d : F32 := 0
  yPrev : F32 := 0
  yLaw : F32 := 0
  wPrev : F32 := 0
  u : F32 := 0
  u2 : F32 := 0
  applied : Bool := false
  pendingOut : Option LoopOut := none
  lastSp : F32 := 0
  lastFf : F32 := 0
  lastAux : List F32 := [0, 0, 0, 0]
  badRun : Nat := 0
  badQ : Qual := 0
  cleanRun : Nat := 0
  lost : Bool := false
  implausible : Bool := false
  frozen : Bool := false
  rf : F32 := 0
  overRun : Nat := 0
  underRun : Nat := 0
  sinceRestart : Nat := 0
  dy1 : F32 := 0
  dy2 : F32 := 0
  us : List F32 := []
  winCount : Nat := 0
  winMove : F32 := 0
  winMin : F32 := 0
  winMax : F32 := 0
  reaction : Option Nat := none
  holdTarget : F32 := 0
  anchorU : F32 := 0
  anchorY : F32 := 0
  mdSince : Nat := 0
  mdExpired : Bool := false
  limited : Bool := false
  frozenI : Bool := false
  tracking : Bool := false
  microFault : Bool := false
deriving DecidableEq, Repr

/-! ### Plans -/

/-- A step record (R145). -/
structure PStep where
  pauseOnRefusal : Bool
  wait : Nat
  actFirst : Nat
  actCount : Nat
  condOp : Nat
  next : Nat
  alt : Nat
  ticks : Nat
  condSig : W32
  condVal : F32
  condBand : F32
deriving DecidableEq, Repr

/-- An action record (R146). -/
structure PAct where
  kind : Nat
  arg8 : Nat
  arg16 : Nat
  target : W32
  value : F32
  rate : F32
deriving DecidableEq, Repr

/-- A running ramp (R146): the ticks to its next update, and whether the present step started it. -/
structure Ramp where
  sig : Nat
  target : F32
  rate : F32
  every : Nat
  left : Nat
  ofStep : Bool
deriving DecidableEq, Repr

/-- A plan: header, steps, actions (R144 to R146) and working state (R154 to R157). -/
structure Plan where
  abortStep : Nat := 0xFFFF
  unit : W32 := 0
  stateSig : W32 := 0
  version : W32 := 1
  resumeMode : Nat := 0
  maxGapS : Nat := 0
  planTag : W32 := 0
  steps : List PStep := []
  acts : List PAct := []
  raw : List Byte := []
  st : PlState := .idle
  aborting : Bool := false
  step : Nat := 0
  inStep : Nat := 0
  remain : Nat := 0
  slot : Nat := 0
  starts : W32 := 0
  pausedByUnit : Bool := false
  pausedByCmd : Bool := false
  altTaken : Bool := false
  resumed : Bool := false
  refused : Bool := false
  ramps : List Ramp := []
deriving DecidableEq, Repr

/-- A plan command accepted and waiting for its tick (R150, R156): `op` 0 start, 1 pause, 2 resume, 3 abort;
`source` as the journal's SOURCE (R158). -/
structure PlanCmd where
  plan : Nat
  op : Nat
  step : Nat
  source : Nat
  req : Option Req
deriving DecidableEq, Repr

/-- A journal record (R158); its CRC is over the other fields' bytes. -/
structure JRec where
  seq : W32
  plan : Nat
  kind : Nat
  cause : Nat
  fromStep : Nat
  toStep : Nat
  time : W32
  wrapCount : W32
  starts : W32
  version : W32
  inStep : Nat
  remain : Nat
  status : Status
  source : Nat
  slot : Nat
  trace : Bool
deriving DecidableEq, Repr

/-- A plan's resume slot: two copies, written alternately (R158); a copy whose CRC fails is `none`. -/
structure ResumeSlot where
  copyA : Option JRec := none
  copyB : Option JRec := none
  nextB : Bool := false
deriving DecidableEq, Repr

/-- An entry of the plan value area (R159). -/
structure ValueEnt where
  plan : Nat
  val : Val
  qual : Qual
  ramp : Option Ramp
deriving DecidableEq, Repr

/-! ### Channels -/

/-- A channel record: R164 for the digital functions, R190 for AI and AO. -/
structure ChanRec where
  function : Nat := 0
  safetyMember : Bool := false
  wbEn : Bool := false
  testEn : Bool := false
  signal : W32 := 0
  demand : W32 := 0
  filtThr : Nat := 1
  filtCeil : Nat := 1
  testSrc : Nat := 0xFFFF
  safeVal : Nat := 0
  testDiv : Nat := 0
  darkUs : Nat := 200
  brightUs : Nat := 50
  updateUs : Nat := 10
  pwmPeriodUs : Nat := 100
  wd100 : Nat := 5
  scaleLo : F32 := 0
  scaleHi : F32 := 0
  conv : Nat := 0
  persistMs : Nat := 200
  powered : Bool := false
  bandMs : Nat := 0
  filtTauUs : Nat := 0
  aoMin : F32 := 0
  aoMax : F32 := 0
  safeMa : F32 := 0
  raw : List Byte := []
deriving DecidableEq, Repr

/-- A test pulse in progress (R177): dark or bright, and its end. -/
structure Pulse where
  dark : Bool
  stop : Nat
deriving DecidableEq, Repr

/-- An input test window (R178): its start, the raw sample before it and the raw samples inside it, newest
first. -/
structure TestWin where
  start : Nat
  before : Bool
  samples : List (Nat × Bool)
deriving DecidableEq, Repr

/-- A calibration record (R202); `crc` as held in MRAM. -/
structure CalRec where
  channel : Nat := 0
  source : Nat := 1
  format : Nat := 1
  calTime : W32 := 0
  aiGain : F32 := 0x3F800000
  aiOffset : F32 := 0
  aoGain : F32 := 0x3F800000
  aoOffset : F32 := 0
  rbGain : F32 := 0x3F800000
  rbOffset : F32 := 0
  vtGain : F32 := 0x3F800000
  vtOffset : F32 := 0
  tcPpm : F32 := 0
  refTemp : F32 := 0
  calTag : W32 := 0
  crc : W32 := 0
deriving DecidableEq, Repr

/-- A channel: record in force, the record waiting for its boundary (R166, R191), and working state: among it the
latest completed sample (`smp`, `smpQ`, R116) and what a loop last applied to it directly (`direct`, R117). -/
structure Chan where
  rcd : ChanRec := {}
  shadow : Option ChanRec := none
  enabled : Bool := false
  count : Nat := 0
  q : Bool := false
  lastRaw : Bool := false
  lowAt : Option Nat := none
  run : Option (Nat × Nat) := none
  shown : Option (Nat × Nat) := none
  seenAt : Nat := 0
  driver : Bool := false
  demand : Bool := false
  direct : Option View := none
  smp : Val := 0
  smpQ : Qual := 0x0005
  duty : F32 := 0
  written : Bool := false
  status : W32 := 0
  latchTime : W32 := 0
  latchWrap : BitVec 16 := 0
  partners : List Nat := []
  rbHigh : Bool := false
  pulse : Option Pulse := none
  window : Option TestWin := none
  retest : Bool := false
  due : Bool := false
  armed : Bool := true
  switchedAt : Nat := 0
  naSince : Option Nat := none
  safeDriving : Bool := false
  holdOn : Bool := false
  holdMa : F32 := 0x40600000
  staleDem : Bool := false
  needEnable : Bool := true
  inOff : Bool := false
  offSeen : Option Nat := none
  demMa : Option F32 := none
  perAt : Option Nat := none
  onEnd : Option Nat := none
  wdTripped : Bool := false
  wdLast : Option Nat := none
  refBy : Bool := false
  currentMa : F32 := 0
  vt : F32 := 0
  setMa : F32 := 0
  setAt : Nat := 0
  filtI : Option F32 := none
  band : Nat := 2
  bandNew : Nat := 2
  bandSince : Nat := 0
  naRun : Nat := 0
  naOkRun : Nat := 0
  lcRun : Nat := 0
  lcOkRun : Nat := 0
  owRun : Nat := 0
  owOkRun : Nat := 0
  complianceRaised : Bool := false
  loopSupply : Bool := true
  nominal : Bool := false
  cal : Option CalRec := none
  calFn : Nat := 0
  calWait : Option (Nat × Req × F32 × F32) := none
  calPts : List (Nat × F32 × F32 × F32 × F32) := []
deriving DecidableEq, Repr

/-! ### Safety -/

/-- A safety function: record (R208) and working state (R212 to R219). -/
structure Func where
  kind : Nat := 1
  autoRestart : Bool := false
  stopCat1 : Bool := false
  powerToUnlock : Bool := false
  ins : List W32 := []
  resetSig : W32 := 0
  unlockReq : W32 := 0
  unlockPermit : W32 := 0
  outCh : List Nat := []
  lockCh : Nat := 0xFFFF
  discMs : Nat := 10
  stopDelayMs : Nat := 0
  syncMs : Nat := 0
  unit : W32 := 0
  stateSig : W32 := 0
  prestopSig : W32 := 0
  ossdPulseUs : Nat := 0
  ossdTestMs : Nat := 0
  raw : List Byte := []
  st : FState := .init
  cause : FCause := .none
  degBy : List DegCause := []
  degSeen : List DegCause := []
  word : W32 := 0
  shown : Bool := false
  discSince : Option Nat := none
  stopSince : Option Nat := none
  resetSince : Option Nat := none
  leftSince : Option Nat := none
  rightSince : Option Nat := none
  syncSince : Option Nat := none
  lockReleased : Bool := false
  outsLowSince : Option Nat := none
deriving DecidableEq, Repr

/-- A safe telegram connection: record (R222) and working state (R224 to R226). -/
structure Conn where
  send : Bool := false
  gmac : Bool := false
  peerId : W32 := 0
  peerConn : Nat := 0
  periodUs : Nat := 250
  watchdogUs : Nat := 0
  netlossMs : Nat := 0
  seed : W32 := 0
  safeBits : Val := 0
  map : List (W32 × Nat) := []
  raw : List Byte := []
  st : CState := .starting
  good : Nat := 0
  lastSeq : Nat := 0
  lastNet : Bool := false
  lastCopy : List Byte := []
  lastAccept : Nat := 0
  seenA : Option Nat := none
  seenB : Option Nat := none
  single : Bool := false
  seq : Nat := 0
  lastSend : Option Nat := none
  sentBytes : List Byte := []
deriving DecidableEq, Repr

/-- A degraded cause (R227 to R229); `left` is the remainder in ns when the timer last started. -/
structure Deg where
  active : Bool := false
  expired : Bool := false
  since : Nat := 0
  left : Nat := 0
  clearSince : Option Nat := none
deriving DecidableEq, Repr

/-- A path record (R237) with its computed bound. -/
structure PathRec where
  kind : Nat
  inCh : Nat
  conn : Nat
  func : Nat
  task : Nat
  outCh : Nat
  netUs : Nat
  peerUs : Nat
  limitUs : Nat
  boundUs : Nat
  raw : List Byte
deriving DecidableEq, Repr

/-! ### Permits -/

/-- A permit request or grant (R245 to R248): `who` names the requester, `stop` the end of a grant. -/
structure Permit where
  who : Nat
  op : HeavyOp
  c1 : Bool
  units : Nat
  durMs : Nat
  resync : Bool
  stop : Nat := 0
  again : Bool := false
deriving DecidableEq, Repr

/-! ### Host interface -/

/-- A completion waiting for its ring (R325), with the bytes written into BUF. -/
structure Compl where
  cring : Nat
  tag : W32
  status : Status
  register : Bool := false
  ring : Nat
  index : Nat
  res0 : W32 := 0
  res1 : W32 := 0
  res2 : W32 := 0
  res64 : Val := 0
  data : List Byte := []
deriving DecidableEq, Repr

/-- An operation in flight (R319): its descriptor's identity and opcode. -/
structure Flight where
  ring : Nat
  index : Nat
  tag : W32 := 0
  cring : Nat := 16
  noCompl : Bool := false
  opcode : Nat
  fence : Bool
  started : Bool := false
  finished : Bool := false
deriving DecidableEq, Repr

/-- An event (R329, R330). -/
structure Event where
  kind : Nat
  replay : Bool := false
  time : W32
  wrap : BitVec 16
  detail : Nat := 0
  subject : W32 := 0
  arg : Val := 0
  code : W32 := 0
deriving DecidableEq, Repr

/-- The OVERFLOW entry of an event queue (R330, R331). -/
structure Overflow where
  merged : W32
  mask : BitVec 16
  time : W32
  wrap : BitVec 16
  newest : W32
deriving DecidableEq, Repr

/-- A ring (R313 to R316, R336). `before` counts the queued entries that go ahead of a replay (R335),
`replay` the units still to replay, `entry` is the entry the module last wrote into the ring. -/
structure Ring where
  baseLo : W32 := 0
  baseHi : W32 := 0
  c1Rate : Nat := 0
  vector : Nat := 0
  defCring : Nat := 0
  cls : Nat := 2
  sizeLog2 : Nat := 4
  mask : BitVec 16 := 0
  st : RingSt := .disabled
  enable : Bool := false
  doorbell : BitVec 16 := 0
  index : BitVec 16 := 0
  modUs : Nat := 0
  modUsNew : Nat := 0
  lastMsi : Option Nat := none
  msiDue : Bool := false
  fetches : List Nat := []
  queue : List Event := []
  overflow : Option Overflow := none
  before : Nat := 0
  replay : List Nat := []
  replaying : Bool := false
  replayed : Nat := 0
  seq : W32 := 0
  entry : List Byte := []
deriving DecidableEq, Repr

/-! ### Pairs -/

/-- A pair (R250 to R263): `restarted` that the firmware's own restart is spent, `drain` the drain pair of each C1 task,
`maskB` the tasks of core B, `joinAt` the acceptance of a join. -/
structure Pair where
  st : PairSt := .down
  restarted : Bool := false
  lastMismatch : Option Nat := none
  drain : List (Nat × Nat) := []
  maskB : List Nat := []
  joinAt : Nat := 0
  req : Option Req := none
deriving DecidableEq, Repr

/-! ### Triad -/

/-- A round (R268): its number, its instant, this seat's own frame and the frames received from the peers, and whether
its window has closed. -/
structure Round where
  no : W32
  began : Nat
  own : RoundFrame
  frames : Tbl RoundFrame := []
  closed : Bool := false
deriving DecidableEq, Repr

/-- A claim heard (R280). -/
structure Claim where
  seat : Nat
  epoch : Nat
  version : Nat
  running : Bool
deriving DecidableEq, Repr

/-! ### Stations, navigation, time -/

/-- A remote station: record and map (R354) and working state (R356 to R359): the cycle in progress since `cycleAt`, the
segments of its input received, the OUT_SEG frames last sent, the acyclic request outstanding and those behind it. -/
structure Station where
  gmac : Bool := false
  wdCycles : Nat := 3
  stationId : W32 := 0
  cycleUs : Nat := 250
  respUs : Nat := 50
  ins : List W32 := []
  outs : List W32 := []
  wdMs : Nat := 1
  raw : List Byte := []
  mac : BitVec 48 := 0
  assigned : Bool := false
  joined : Bool := false
  cycle : W32 := 0
  cycleAt : Option Nat := none
  segs : Nat := 0
  got : List (Nat × List Byte) := []
  missed : Nat := 0
  acyc : Option (Req × Bool × Nat) := none
  waiting : List (Req × Bool × W32 × List Byte) := []
  sent : List (List Byte) := []
deriving DecidableEq, Repr

/-- A navigation map entry (R352) and the instant of its last accepted sentence. -/
structure NavEnt where
  signal : W32
  source : Nat
  field : Nat
  matchField : Nat
  address : List Byte
  timeoutMs : Nat
  matchText : List Byte
  scale : F32
  offset : F32
  last : Nat := 0
deriving DecidableEq, Repr

/-- An Ethernet port (R337 to R346): link, PTP set-up and the egress queues, each with its frames oldest
first and their ingress instants. -/
structure EPort where
  up : Bool := false
  giga : Bool := false
  ptp : Bool := false
  asym : Int := 0
  queue : List (Nat × Time × EthFrame) := []
  lastTx : Option EthFrame := none
  syncs : List (Nat × Time × Int) := []
  since3 : Nat := 0
  rr3 : Nat := 2
deriving DecidableEq, Repr

/-! ### CAN -/

/-- A buffer entry (R369) and what the buffer holds (R371, R373, R376, R378). -/
structure CanBuf where
  dir : Nat := 0
  ext : Bool := false
  fdf : Bool := false
  brs : Bool := false
  remote : Bool := false
  dlc : Nat := 0
  id : Nat := 0
  arg : Nat := 0
  frame : Option CanFrame := none
  stampTime : W32 := 0
  stampWrap : BitVec 16 := 0
  stores : BitVec 16 := 0
  newData : Bool := false
  overrun : Bool := false
  pending : Bool := false
  blocked : Bool := false
  noAck : Bool := false
  content : List Byte := []
deriving DecidableEq, Repr

/-- A map entry (R381) with the instant of its last store. -/
structure CanMap where
  signal : W32
  buffer : Nat
  format : Nat
  startBit : Nat
  length : Nat
  validBit : Nat
  timeoutMs : Nat
  scale : F32
  offset : F32
  last : Nat := 0
deriving DecidableEq, Repr

/-- A frame held in a FIFO with its stamp (R372). -/
structure CanStored where
  frame : CanFrame
  time : W32
  wrap : BitVec 16
deriving DecidableEq, Repr

/-- A CAN port: record (R366) and working state (R370 to R380, R387). -/
structure CanPort where
  mode : Nat := 0
  fdEn : Bool := false
  brsEn : Bool := false
  tdcEn : Bool := false
  autoRecover : Bool := false
  loneSingleShot : Bool := false
  term : Bool := false
  timeMaster : Bool := false
  partner : Nat := 0
  timing : List Nat := []
  tdco : Nat := 0
  tdcf : Nat := 0
  refId : Nat := 0
  refExt : Bool := false
  refCycleUs : Nat := 1000
  hbBase : Nat := 0
  hbExt : Bool := false
  hbTimeoutMs : Nat := 0
  recoverDelayMs : Nat := 0
  fifoMode : Nat := 0
  bufs : Tbl CanBuf := []
  filters : List (W32 × W32) := []
  maps : List CanMap := []
  raw : List Byte := []
  st : CanSt := .off
  tec : Nat := 0
  rxc : Nat := 0
  noPartner : Bool := false
  singleShot : Bool := false
  txOnPartner : Bool := false
  ackErrors : Nat := 0
  recovering : Bool := false
  busOffAt : Nat := 0
  tdcv : Nat := 0
  events : W32 := 0
  lost0 : Nat := 0
  lost1 : Nat := 0
  fifo0 : List CanStored := []
  fifo1 : List CanStored := []
  nodes : List (Nat × Nat) := []
  refCount : BitVec 8 := 0
  refTime : W32 := 0
  refWrap : BitVec 16 := 0
deriving DecidableEq, Repr

/-! ### Faults -/

/-- The capture record (R391). -/
structure Capture where
  addr : Nat
  master : BitVec 16
  access : Nat
  actClass : Nat
  time : W32
  wrapTag : BitVec 8
  src : Nat
  cls : Nat
  level : Nat
  mergeCount : Nat := 0
  merged : BitVec 8 := 0
  escalated : Bool := false
  acked : Bool := false
  f3Taken : Bool := false
  detail : W32 := 0
deriving DecidableEq, Repr

/-- An F2 fault that awaits acknowledgement (R396): source, object, whether it is contained. -/
structure Awaiting where
  src : Nat
  addr : Nat
  contained : Bool
deriving DecidableEq, Repr

/-! ### Recorder -/

/-- A bin class: EDGE1 to EDGE15 (R405). -/
structure BinClass where
  edges : List F32
deriving DecidableEq, Repr

/-- An accumulator (R407): its interval, the bin counts, and once a sample that is not BAD has come the extremes as
REAL64 with their times in ns of module time; `any` that a sample has come at all. -/
structure Accum where
  interval : Nat
  bins : List Nat
  any : Bool := false
  seen : Bool := false
  min : F64 := 0
  max : F64 := 0
  minAt : Nat := 0
  maxAt : Nat := 0
  qsum : BitVec 8 := 0
  handle : W32 := 0
deriving DecidableEq, Repr

/-- A summary record (R409) without START_S, GEN and CRC, which follow from its interval and these fields. -/
structure RecEntry where
  signal : W32
  min : F32
  max : F32
  minUs : Nat
  maxUs : Nat
  bins : List Nat
  exp : Nat
  qsum : BitVec 8
deriving DecidableEq, Repr

/-- An ended interval (R410): its number, its header's fields, and its records: of tiers 1 and 2 by position in the list,
of tier 3 by signal index, where an index not listed has a null record without samples. SEQ is given at closing. -/
structure Interval where
  no : Nat
  seq : W32 := 0
  traceable : Bool
  part : Bool
  count : Nat
  entries : Tbl RecEntry
deriving DecidableEq, Repr

/-- A tier of the recorder (R403, R406 to R408): its lists, each with the interval from which it holds, newest first;
whether it records, since which interval, and whether that interval began late; the accumulators; records made of an
interval in progress, by interval and key; intervals ended whose header is not written; closed intervals in DRAM. -/
structure Tier where
  lists : List (Nat × List (W32 × Nat)) := []
  running : Bool := false
  cur : Nat := 0
  part : Bool := false
  trace : Bool := false
  accums : Tbl Accum := []
  made : List (Nat × Nat × RecEntry) := []
  ended : List Interval := []
  kept : List Interval := []
deriving DecidableEq, Repr

/-! ### Update -/

/-- A firmware section in a slot (R424, R446): its header of R425 and its bytes; `genuine` that its SECTION_SIG
verified as it was written. -/
structure Section where
  header : List Byte := []
  bytes : List Byte := []
  rejected : Bool := false
  genuine : Bool := true
deriving DecidableEq, Repr

/-- A region (R423, R424, R428, R444): its slots and update state. `ran` is the RUN time in ns that its trial has from
earlier starts, and `ranBase` what the module's RUN time of this start stood at when the count began (R436). -/
structure Region where
  slotA : Section := {}
  slotB : Section := {}
  activeB : Bool := false
  trial : Bool := false
  st : RegionSt := .idle
  version : W32 := 1
  activeVersion : W32 := 1
  floor : W32 := 1
  compat : Nat := 0
  activeCompat : Nat := 0
  staged : Bool := false
  forwarding : Bool := false
  ran : Nat := 0
  ranBase : Nat := 0
  confirmMin : Nat := 10
  rejectedPkg : W32 := 0
  activatedAt : Nat := 0
  pkgId : W32 := 0
deriving DecidableEq, Repr

/-- The package in the update workspace (R425, R429). -/
structure Workspace where
  region : Nat
  header : List Byte
  payload : List Byte := []
  noRelay : Bool := false
  req : Option Req := none
  supersede : Bool := false
  fromId : W32 := 0
  output : List Byte := []
deriving DecidableEq, Repr

/-- A neighbour and its transfer (R431 to R433): an entry of the relay table, or in a triad a peer on T1 (port 9) or T2
(port 10); when it last acknowledged and when it last made progress. -/
structure Neighbour where
  nid : W32 := 0
  mac : BitVec 48 := 0
  port : Nat := 0
  regions : BitVec 8 := 0
  offered : Bool := false
  sending : Bool := false
  acked : Nat := 0
  sentTo : Nat := 0
  ackAt : Nat := 0
  movedAt : Nat := 0
  delivered : Bool := false
  failed : Bool := false
deriving DecidableEq, Repr

/-! ### Security -/

/-- A pending or expired proposal (R454 to R456). -/
structure Proposal where
  pkg : List Byte
  seq : W32
  target : W32
  acceptedAt : Nat
deriving DecidableEq, Repr

/-- A GMAC key set (R462): CURRENT and NEXT, empty when none is loaded. -/
structure KeySet where
  current : List Byte := []
  next : List Byte := []
deriving DecidableEq, Repr

/-! ### Panel -/

/-- A temperature band (R472). -/
structure Band where
  edgeLow : Int
  code : Nat
  fullCode : Nat
  precharge : Nat
deriving DecidableEq, Repr

/-- One entry of the configuration store: what a load wrote (R295 step 5, R439): the kind of R323, 12 for a
station, 13 for navigation, 14 for a CAN port, 15 for recorder classes, 16 for a recorder list; a number and the
record bytes; a deletion has its kind plus 100. -/
structure StoreEnt where
  kind : Nat
  num : Nat
  count : Nat
  buf : List Byte
deriving DecidableEq, Repr

end Sys2Proof.Machine
end

