-- ==== Sys2Proof/Machine/State.lean ====
section
/-! DEFINITION. The state of the block: every register, table, store, queue and timer the manual
gives the module, as plain data. Each field's default is its reset value (the release of reset of a
delivered module, R291, R295 step 2). What MRAM, flash and OTP keep through a start is in `NvBlk`. -/

namespace Sys2Proof.Machine

/-- What survives a MODULE restart and a POWER-UP: MRAM, flash and OTP. -/
structure NvBlk where
  /-- GEN_START.COUNT (R501). First start of a delivered module: DESIGN CHOICE 1, log 10. -/
  startCount : Nat := 1
  /-- GEN_MODULE_ID (R501): factory value, DESIGN CHOICE 1, log 10. -/
  moduleId : W32 := 1
  /-- NET_MAC (R362): factory value, DESIGN CHOICE, log 10. -/
  mac : BitVec 48 := 0x020000000001
  /-- PWR_CTRL.AUTO_RUN (R503): 1 on delivery. -/
  autoRun : Bool := true
  /-- PWR_RIDE.WINDOW_S (R503): 5 on delivery. -/
  windowS : Nat := 5
  /-- PWR_FAIL_CAUSE.CAUSE (R503): none since manufacture. -/
  failCause : FailCause := .none
  /-- PWR_FAIL_TIME (R503). -/
  failTime : W32 := 0
  /-- PWR_FAIL_CAUSE.WRAP_TAG (R503). -/
  failWrap : BitVec 8 := 0
  /-- The fault capture (R391, R393). -/
  capture : Option Capture := none
  /-- The prior capture (R393). -/
  prior : Option Capture := none
  /-- The plan journal ring (R158), oldest first. -/
  journal : List JRec := []
  /-- PLN_JOURNAL_SEQ (R158, R161): SEQ of the newest journal record; DESIGN CHOICE 0 on delivery, log 10. -/
  jseq : W32 := 0
  /-- The resume slots (R158). -/
  slots : Tbl ResumeSlot := []
  /-- The plan value area (R159), by the signal's index. -/
  values : Tbl ValueEnt := []
  /-- The change records (R90). -/
  changes : List ChangeRec := []
  /-- The calibration set (R202), by channel; a channel not listed holds its factory record, DESIGN CHOICE, log 10. -/
  cal : Tbl CalRec := []
  /-- The degraded remainders in ns, NET, PAIR, SEAT (R229). -/
  degLeft : List Nat := [0, 0, 0]
  /-- The causes whose remainder is saved (R229). -/
  degSaved : List Bool := [false, false, false]
  /-- The configuration store (R295 step 5, R306, R439), in load order. -/
  store : List StoreEnt := []
  /-- Tier 2's archive (R403, R416), oldest first. -/
  archive2 : List Interval := []
  /-- Tier 3's archive (R403, R416), oldest first. -/
  archive3 : List Interval := []
  /-- The newest closed SEQ of tiers 1 to 3 (R410, R422): DESIGN CHOICE 0 on delivery, log 10. -/
  recSeq : List W32 := [0, 0, 0]
  /-- The update regions CONTROL, SERVICE and PROGRAM (R423, R424). -/
  regions : List Region := [{}, {}, {}]
  /-- The staged slot S (R424) and the region it belongs to. -/
  slotS : Option (Nat × Section) := none
  /-- UPD_EPOCH (R446): the fused key epoch. -/
  epoch : Nat := 0
  /-- The lifecycle state (R447): DESIGN CHOICE SEALED on delivery, log 10. -/
  lifecycle : Lifecycle := .sealed
  /-- The device key pair in OTP (R445): the private scalar, of which the public half follows; factory value, DESIGN
  CHOICE 1, log 10. -/
  devicePriv : Nat := 1
  /-- The image keys, KEY_ID 0 to 3, as 97-byte public keys (R445 fuses their hashes); DESIGN CHOICE none provisioned, log 10. -/
  imageKeys : Tbl (List Byte) := []
  /-- SEC_STATUS.REVOKED (R445, R466): bit n, image key n revoked. -/
  revoked : BitVec 4 := 0
  /-- SEC_STATUS.REFURBISHED (R466). -/
  refurbished : Nat := 0
  /-- A move to RETURNED that takes effect at the next start (R447). -/
  returnPending : Bool := false
  /-- The role keys (R445), ENGINEERING 0 to 3 at 0 to 3 and SAFETY 0 to 3 at 4 to 7. -/
  roleKeys : Tbl (List Byte) := []
  /-- SEC_PROT_SEQ (R466). -/
  protSeq : W32 := 0
  /-- The PROT_SEQ marked as expired (R456). -/
  protExpired : Option W32 := none
  /-- The safe telegram key set (R462). -/
  gmacTel : KeySet := {}
  /-- The station-link key set (R462). -/
  gmacStn : KeySet := {}
  /-- The relay table (R431), eight entries of 16 bytes. -/
  relay : List (List Byte) := []
  /-- The configuration store's format (R439). -/
  configFormat : Nat := 0
  /-- The instants of this seat's abandonments and exclusions within 24 h, and of the last abandonment, after which
  it claims again 60 s later (R284). -/
  triOut : List Nat := []
  triRetry : Option Nat := none
  /-- The values of the RWP fields last set by a protection change, by BAR0 offset (R451, R452, log 97). -/
  protRegs : Tbl W32 := []
  /-- The copy of the store kept for a fall-back (R439): its format and entries. -/
  oldStore : Option (Nat × List StoreEnt) := none
deriving DecidableEq, Repr

/-- GEN (R501, R502). -/
structure GenBlk where
  /-- GEN_START.CAUSE: POWER_UP at the first start. -/
  cause : StartCause := .powerUp
  /-- GEN_SENSE.SUPPLY_MV: 0. -/
  supplyMv : Nat := 0
  /-- GEN_SENSE.DIE_C: 0. -/
  dieC : Int := 0
  /-- GEN_SCRATCH: 0. -/
  scratch : W32 := 0
  /-- GEN_CTRL.SOFT_LOCK: 0. -/
  softLock : Bool := false
deriving DecidableEq, Repr

/-- PWR (R290 to R310, R503). -/
structure PwrBlk where
  /-- PWR_STATE.STATE: 2 HOLD. -/
  st : PState := .hold
  /-- PWR_STATE.STARTING: 1. -/
  starting : Bool := true
  /-- PWR_STATE.RECOVERY (R310). -/
  recovery : Bool := false
  /-- PWR_STATE.HOLDUP_LOW (R308). -/
  holdupLow : Bool := false
  /-- PWR_EVENTS: 0. -/
  events : W32 := 0
  /-- The last completed step of R295: step 2 at the release of reset. -/
  startStep : Nat := 2
  /-- In OFF: the supply has risen above 18.0 V and step 1 runs (R295), since when. -/
  charging : Option Nat := none
  /-- In OFF after SHUTDOWN: the supply has not yet been below 5 V for 1 s (R307). -/
  needRemoval : Bool := false
  /-- The dip timer of R305: the instant L of the fall. -/
  dip : Option Nat := none
  /-- The energy last sensed in the hold-up store, in µJ (R486). -/
  storeUj : Nat := 800000
  /-- The cause of the FAIL in progress (R305). -/
  failCause : FailCause := .none
  /-- The start that follows a FAIL with cause RESTART (R307, R501). -/
  nextCause : StartCause := .hostRestart
  /-- The instant of the first entry to RUN (R310). -/
  firstRun : Option Nat := none
  /-- The entry to HOLD (R299). -/
  holdAt : Option Nat := none
  /-- A PROGRAM restart is in progress (R299). -/
  program : Bool := false
  /-- A HOLD, QUIET or RUN command that has not completed, with its target (R320). -/
  cmd : Option (PState × Option Req) := none
  /-- A RUN command given while STARTING (R298). -/
  runAsked : Bool := false
  /-- The release epoch (R74, R297). -/
  epoch : Nat := 0
  /-- The service pairs do not run (R16, R328). -/
  svcStopped : Bool := false
  /-- The SERVICE restart in progress, since when (R294, R397). -/
  svcRestart : Option Nat := none
  /-- A load of the configuration store was refused at step 5 (R436). -/
  storeRefused : Bool := false
  /-- The ride-through window's first expiry in this HOLD has passed (R303, R400). -/
  rideExpired : Bool := false
  /-- The entries of the configuration store that step 5 of this start loads (R295): those held at step 2. -/
  replay : Nat := 0
  /-- The time spent in RUN in this start, in ns; for a seat only while IN_STEP or FOLLOWER (R436). -/
  ranNs : Nat := 0
deriving DecidableEq, Repr

/-- HIF (R311 to R336). -/
structure HifBlk where
  /-- HIF_CTRL.REG_CRING: 0. -/
  regCring : Nat := 0
  /-- HIF_CTRL.HOST_READY: 0. -/
  ready : Bool := false
  /-- HIF_STATUS.ATTACHED: 0. -/
  attached : Bool := false
  /-- HIF_STATUS.LINK_SPEED: 0. -/
  speed : Nat := 0
  /-- HIF_STATUS.LINK_WIDTH: 0. -/
  width : Nat := 0
  /-- HIF_EVENTS: 0. -/
  events : W32 := 0
  /-- HIF_HOST_WD.PERIOD_MS: 0. -/
  wdMs : Nat := 0
  /-- The instant the host watchdog was last restarted (R336). -/
  wdAt : Nat := 0
  /-- HIF_DROPPED: 0. -/
  dropped : W32 := 0
  /-- HIF_DISCARDED: 0. -/
  discarded : W32 := 0
  /-- The 64 rings; a ring not listed is at its reset values (`Ring.reset`). -/
  rings : Tbl Ring := []
  /-- The operations in flight (R319), oldest first. -/
  flights : List Flight := []
  /-- Operations started before a detach that still run: ring and position; their completions are dropped (R334). -/
  orphans : List (Nat × Nat) := []
  /-- Completions that wait for their ring (R319), oldest first. -/
  compl : List Compl := []
deriving DecidableEq, Repr

/-- ADM and the winding arbiter (R237 to R249, R504). -/
structure AdmBlk where
  /-- ADM_POWER.BASE: 0 until admission computes it (R244). -/
  base : Nat := 0
  /-- ADM_LAST: 0. -/
  last : W32 := 0
  /-- ADM_EVENTS: 0. -/
  events : W32 := 0
  /-- The standing grants (R246). -/
  grants : List Permit := []
  /-- The queued requests, oldest first (R246). -/
  waiting : List Permit := []
  /-- The hold-back of R248 stands. -/
  holdBack : Bool := false
  /-- The requester whose request was last granted in the C1 level and in the C2 and C3 level, from which
  the round-robin goes on (R22, R246). -/
  rr1 : Nat := 0
  rr2 : Nat := 0
  /-- The head of each level, once chosen (R246). -/
  head1 : Option Nat := none
  head2 : Option Nat := none
  /-- Grants made to C2 in a row (R23). -/
  c2run : Nat := 0
  /-- The path records (R237). -/
  paths : Tbl PathRec := []
deriving DecidableEq, Repr

/-- SIG: the signal table, its directory and the unit tree (R36 to R68). -/
structure SigBlk where
  /-- The defined signals (R36, R40). -/
  sigs : Tbl SigRec := []
  /-- The generations of signal indices that have been deleted (R45); 1 where none is listed. -/
  gens : Tbl Nat := []
  /-- The defined user units and the station units created so far (R56, R57). Unit 0 is `unit0`. -/
  units : Tbl Unit := []
  /-- The generations of unit indices that have been deleted (R45). -/
  ugens : Tbl Nat := []
  /-- Unit 0, the module (R56). -/
  unit0 : Unit := {}
  /-- The member records (R58), by signal index. -/
  members : Tbl Member := []
  /-- SIG_CTRL.SAFETY_FORCE_PERMIT: 0. -/
  safetyForce : Bool := false
  /-- SIG_CTRL.FORCE_EN: 1. -/
  forceEn : Bool := true
  /-- SIG_REFUSED: 0. -/
  refused : W32 := 0
  /-- The mode commands being executed, in subtrees apart (R64). -/
  walking : List WalkCmd := []
  /-- The mode commands that wait, in the order they will run (R64). -/
  walkQ : List WalkCmd := []
deriving DecidableEq, Repr

/-- PGE: the program engine (R69 to R112). -/
structure PgeBlk where
  /-- PGE_CTRL.CHANGE_EN: 1. -/
  changeEn : Bool := true
  /-- PGE_CTRL.RELEASE_EN as last written: 1. -/
  releaseEn : Bool := true
  /-- The instant RELEASE_EN was last written (R91: in force from each task's next release instant). -/
  releaseAt : Nat := 0
  /-- The loaded tasks. -/
  tasks : Tbl Task := []
  /-- The loaded images (R92), by IMAGE_ID. -/
  images : Tbl Image := []
  /-- The task running on each core (R71). -/
  running : Tbl Nat := []
  /-- The pending on-line change (R85). -/
  change : Option PendingChange := none
  /-- An on-line change that is switching (R88, R91): number, tasks not yet switched. -/
  switching : Option (W32 × List Nat) := none
  /-- PGE_CHANGE_SEQ: 0. -/
  changeSeq : W32 := 0
  /-- PGE_ABORT0 to 2: 0. -/
  aborts : List W32 := [0, 0, 0]
  /-- PGE_SKIP0: 0. -/
  skips : W32 := 0
  /-- Messages sent and not yet taken by their event task (R111), oldest first. -/
  msgs : List Msg := []
deriving DecidableEq, Repr

/-- LPE: the loop engine (R113 to R142). -/
structure LpeBlk where
  /-- LPE_CTRL.PLAUS_EN: 1. -/
  plausEn : Bool := true
  /-- LPE_BANK_SWAP: 7. -/
  bankSwap : BitVec 3 := 7
  /-- The loops. -/
  loops : Tbl Loop := []
  /-- LPE_EVENTS: 0. -/
  events : W32 := 0
  /-- LOOP_ENABLE operations above 128 loops that wait for their permit (R120): requester number, value, loops. -/
  waiting : List (Nat × Req × Bool × List Nat) := []
deriving DecidableEq, Repr

/-- PLN: plans (R144 to R161). -/
structure PlnBlk where
  /-- PLN_CTRL.RESUME_EN: 1. -/
  resumeEn : Bool := true
  /-- PLN_CTRL.START_EN in force: 1. -/
  startEn : Bool := true
  /-- PLN_CTRL.START_EN as last written (RWB): 1. -/
  startEnNew : Bool := true
  /-- The plans. -/
  plans : Tbl Plan := []
  /-- The commands accepted for the next tick, oldest first (R150, R151). -/
  cmds : List PlanCmd := []
  /-- PLN_EVENTS: 0. -/
  events : W32 := 0
  /-- The ticks since the start of the module. -/
  ticks : Nat := 0
deriving DecidableEq, Repr

/-- FIO: the field channels (R162 to R204). -/
structure FioBlk where
  /-- FIO_CTRL.NONSAFE_TEST_EN in force: 1. -/
  testEn : Bool := true
  /-- FIO_CTRL.NONSAFE_TEST_EN as last written (RWB): 1. -/
  testEnNew : Bool := true
  /-- The channels; a channel not listed has no record and is inert (R296). -/
  chans : Tbl Chan := []
  /-- FIO_BLOCK_STATUS.CLOSE_REFUSED: 0. -/
  closeRefused : BitVec 8 := 0
  /-- FIO_BLOCK_STATUS.GSW_CLOSED: 0. -/
  closed : BitVec 8 := 0
  /-- FIO_BLOCK_STATUS.SUPPLY_LOW: 0. -/
  low : BitVec 8 := 0
  /-- FIO_BLOCK_STATUS.SUPPLY_OK: 0 until the supply is above 19.0 V (R163). -/
  okb : BitVec 8 := 0
  /-- FIO_GSW_OPENED: 0. -/
  gswOpened : W32 := 0
  /-- The switches whose rail is to be checked 1 ms after opening (false) or closing (true), since when (R174). -/
  railCheck : Tbl (Bool × Nat) := []
  /-- The blocks whose switched rail reads 5.0 V or more with the switch open (R389 GSW_STUCK). -/
  stuck : BitVec 8 := 0
  /-- The blocks whose readback checks and test pulses are suspended (R489). -/
  suspended : BitVec 8 := 0
  /-- FIO_FRAME: 0. -/
  frame : W32 := 0
  /-- The start of the present test frame (R175). -/
  frameAt : Nat := 0
  /-- The end of the slot of the earlier frame that was in progress at the release epoch (R176). -/
  slotEnd : Nat := 0
  /-- FIO_TEST_DISCARDS: 0. -/
  discards : W32 := 0
  /-- FIO_AN_CTRL.CAL_EN: 0. -/
  calEn : Bool := false
  /-- FIO_AN_EVENTS: 0. -/
  anEvents : W32 := 0
deriving DecidableEq, Repr

/-- SAF: safety functions and safe telegrams (R205 to R233). -/
structure SafBlk where
  /-- SAF_CTRL.GMAC_REQUIRED: 0. -/
  gmacReq : Bool := false
  /-- SAF_CTRL.DEGRADED_LIMIT_MIN: 480. -/
  limitMin : Nat := 480
  /-- SAF_NET: 0. -/
  net : W32 := 0
  /-- The safety functions. -/
  funcs : Tbl Func := []
  /-- The safe telegram connections. -/
  conns : Tbl Conn := []
  /-- The degraded causes NET, PAIR, SEAT (R227). -/
  degNet : Deg := {}
  degPair : Deg := {}
  degSeat : Deg := {}
  /-- Connections that lack one network's copies for NETLOSS_MS (R227): connection and network. -/
  netLost : List (Nat × Bool) := []
  /-- SAF_EVENTS: 0. -/
  events : W32 := 0
  /-- SAF_DISCARDS: 0. -/
  discards : W32 := 0
deriving DecidableEq, Repr

/-- LKS: the lockstep pairs (R250 to R264). -/
structure LksBlk where
  /-- LKS_FALLBACK (R264). -/
  fallback : W32 := 0x000254C1
  /-- LKS_SERVICE_MODE (R262, R264): 0. -/
  serviceMode : W32 := 0
  /-- The pairs; all DOWN at the release of reset. -/
  pairs : Tbl Pair := []
  /-- LKS_MISMATCH: 0. -/
  mismatch : W32 := 0
  /-- LKS_CAPTURE: 0. -/
  capture : W32 := 0
  /-- LKS_MIGRATED: 0. -/
  migrated : W32 := 0
deriving DecidableEq, Repr

/-- TRI: the triad exchange unit (R265 to R289). -/
structure TriBlk where
  /-- TRI_CFG.AI_TOL: 5. -/
  aiTol : Nat := 5
  /-- TRI_CFG.SOLO_START: 0. -/
  soloStart : Bool := false
  /-- TRI_CFG.SEAT in force and as last written (from the next start): 0. -/
  seat : Nat := 0
  seatNew : Nat := 0
  /-- TRI_ID in force and as last written (from the next start): 0. -/
  id : W32 := 0
  idNew : W32 := 0
  /-- TRI_STATUS.EPOCH: set at start from the running image. -/
  epoch : Nat := 0
  /-- TRI_STATUS.LINK_UP: T1, T2. -/
  t1 : Bool := false
  t2 : Bool := false
  /-- TRI_STATUS.SEAT_STATE: ALONE. -/
  st : SeatSt := .alone
  /-- TRI_STATUS.ROLE: none. -/
  role : Role := .none
  /-- TRI_STATUS.MODE: 0 not formed, 1 SOLO, 2 DUO, 3 TRIAD. -/
  mode : Nat := 0
  /-- TRI_STATUS.IN_STEP: bit n − 1 for seat n. -/
  inStep : BitVec 3 := 0
  /-- The roles of the seats, by seat number (R277). -/
  roles : Tbl Role := []
  /-- Seats that stop voting, and seats that begin to vote, at the next round instant (R277, R283). -/
  leaving : List Nat := []
  entering : List Nat := []
  /-- TRI_ROUND: 0. -/
  round : W32 := 0
  /-- TRI_RESYNC.REMAIN_MIB and PASS: 0. -/
  remain : BitVec 16 := 0
  passes : Nat := 0
  /-- TRI_EVENTS: 0. -/
  events : W32 := 0
  /-- TRI_DISCREPANT: 0. -/
  discrepant : W32 := 0
  /-- The rounds in progress, oldest first (R268). -/
  rounds : List Round := []
  /-- The number of the round frame last received (R268). -/
  heard : Option W32 := none
  /-- This seat's local result of each voted input, and those written since the last round instant (R268, R272). -/
  locals : Tbl View := []
  changed : List Nat := []
  /-- The triad exchange area: the copies of every voted input that the rounds have carried, by signal and
  seat (R272). -/
  copies : List (Nat × Nat × View) := []
  /-- The output commands of this seat since the last round instant, the last of each output (R268, R270). -/
  cmds : List OutCmd := []
  /-- The LEAD's navigation and CAN receive writes since the last round instant (R353, R384). -/
  navOut : List InCopy := []
  /-- The station output records and telegram words last put into a round frame, and those released (R274). -/
  offered : Tbl (Val × Qual) := []
  rel : Tbl (Val × Qual) := []
  /-- The outputs that drive SAFE_VAL for the present round (R274). -/
  diverged : List Nat := []
  /-- Rounds in a row that each seat was in the minority (R275), and that DUO differed. -/
  minor : Tbl Nat := []
  differing : Nat := 0
  /-- Rounds in a row that this seat's copy of a signal stood outside the vote (R273). -/
  outside : Tbl Nat := []
  /-- Rounds in a row that each voting peer's frame has been missing (R278). -/
  missing : Tbl Nat := []
  /-- The instant a heartbeat of a seat was last received, by seat (R278). -/
  beats : Tbl Nat := []
  /-- The instant this seat last sent a heartbeat (R278). -/
  beatAt : Option Nat := none
  /-- The claims heard (R280). -/
  claims : List Claim := []
  /-- The start of claiming (R280). -/
  claimAt : Option Nat := none
  /-- C of the resynchronisation in progress, and the seat that returns (R283). -/
  resyncAt : Option Nat := none
  resyncSeat : Nat := 0
  /-- BULK's permit has been asked for; the delta passes have ended (R283). -/
  passesDone : Bool := false
  /-- In SHADOW: the latest comparison of regions matched, and the matching rounds since then (R283). -/
  compared : Bool := false
  matching : Nat := 0
  /-- The compatibility epochs of the followers, by seat (R285). -/
  followers : Tbl Nat := []
  /-- An epoch switch accepted: the round named and the request (R286). -/
  switch : Option (W32 × Req) := none
deriving DecidableEq, Repr

/-- NET: the switch, navigation and the stations (R337 to R342, R351 to R362). -/
structure NetBlk where
  /-- NET_VID.CTRL_VID: 1. -/
  ctrlVid : Nat := 1
  /-- NET_VID.DEFAULT_VID: 1. -/
  defVid : Nat := 1
  /-- The Ethernet ports 1 to 8. -/
  ports : Tbl EPort := []
  /-- The addresses learned (R337): MAC, port, instant. -/
  fdb : List (BitVec 48 × Nat × Nat) := []
  /-- The frames delivered to the module itself, newest first (R339). -/
  local_ : List EthFrame := []
  /-- The stations 0 to 63. -/
  stations : Tbl Station := []
  /-- The navigation map entries (R352). -/
  navs : Tbl NavEnt := []
  /-- NET_EVENTS: 0. -/
  events : W32 := 0
  /-- NET_UNMATCHED: 0. -/
  unmatched : W32 := 0
  /-- The sentences rejected so far (R351). -/
  rejected : W32 := 0
deriving DecidableEq, Repr

/-- TIM: module time and PTP (R343 to R350, R363). -/
structure TimBlk where
  /-- The value of the clock at which module time was 0 (R343). -/
  zero : Nat := 0
  /-- What steps and slews have added to module time since (R348). -/
  off : Int := 0
  /-- TIM_CTRL.DOMAIN: 0. -/
  domain : Nat := 0
  /-- TIM_CTRL.TC_EN: 1. -/
  tcEn : Bool := true
  /-- TIM_CTRL.P2P: 0. -/
  p2p : Bool := false
  /-- TIM_CTRL.MASTER_EN: 0. -/
  masterEn : Bool := false
  /-- TIM_CTRL.PTP_EN: 1. -/
  ptpEn : Bool := true
  /-- TIM_JUMP: 0xF4240. -/
  jump : Nat := 0xF4240
  /-- TIM_NOW_HI, latched by a read of TIM_NOW_LO (R344): 0. -/
  nowHi : W32 := 0
  /-- TIM_STATUS.TRACEABLE: 0. -/
  traceable : Bool := false
  /-- TIM_STATUS.LOCKED: 0. -/
  locked : Bool := false
  /-- TIM_STATUS.STEPPED: 0. -/
  stepped : Bool := false
  /-- TIM_STATUS.MASTER_PORT: 0. -/
  masterPort : Nat := 0
  /-- The present master's Announce (R349). -/
  master : Option Announce := none
  /-- The instant the present master's Announce last arrived (R349). -/
  announceAt : Nat := 0
  /-- The first offset of this start has been taken (R348). -/
  first : Bool := false
  /-- TIM_OFFSET: 0. -/
  offset : Int := 0
  /-- Consecutive offsets within the lock limit, and refused ones (R348). -/
  good : Nat := 0
  refusedRun : Nat := 0
  /-- The servo's rate (R348). -/
  rate : Int := 0
  /-- TIM_EVENTS: 0. -/
  events : W32 := 0
  /-- TIM_PPS_IN: 0. -/
  ppsIn : W32 := 0
  /-- The rising edges of PPS out so far (R350). -/
  ppsOut : Nat := 0
  /-- The wraps of TIME already counted in TIM_EVENTS (R344). -/
  wraps : Nat := 0
  /-- The PTP messages sent, newest first: port and message (R345). -/
  sent : List (Nat × PtpMsg) := []
deriving DecidableEq, Repr

/-- CAN: the ports C1 to C8 (R364 to R387). -/
structure CanBlk where
  /-- The ports by number 1 to 8; a port not listed has no record and is OFF. -/
  ports : Tbl CanPort := []
deriving DecidableEq, Repr

/-- FLT: the fault collector (R388 to R402). -/
structure FltBlk where
  /-- FLT_CTRL.HOST_ACK: 0. -/
  hostAck : Bool := false
  /-- FLT_CTRL.JIB_MS: 20. -/
  jibMs : Nat := 20
  /-- FLT_CAP_SEL: 0. -/
  capSel : Bool := false
  /-- FLT_ACTIVE0 and FLT_ACTIVE1: 0. -/
  active : BitVec 64 := 0
  /-- The objects that raised a fault of a source since its bit was last cleared (R401): source, object. -/
  raised : List (Nat × Nat) := []
  /-- FLT_COUNT01 and FLT_COUNT23: faults of F0 to F3. -/
  counts : List (BitVec 16) := [0, 0, 0, 0]
  /-- FLT_EVENTS: 0. -/
  events : W32 := 0
  /-- The F2 faults that await acknowledgement (R396). -/
  awaiting : List Awaiting := []
  /-- The jack-in-the-box timer: the time it has left, in ns, at the instant given (R395). -/
  jib : Option (Nat × Nat) := none
  /-- FLT_STATUS.F3_TAKEN: 0. -/
  f3 : Bool := false
  /-- FLT_STATUS.PRIOR: set at start when a prior capture is held. -/
  priorSet : Bool := false
  /-- FLT_STATUS.ALIVE: 0. -/
  alive : Bool := false
  /-- The level of ALIVE: inactive, and the instant it last changed (R400, R485). -/
  aliveLevel : Bool := false
  aliveAt : Option Nat := none
  /-- OK_A to OK_B is closed (R485). -/
  okContact : Bool := false
deriving DecidableEq, Repr

/-- REC: the histogram recorder (R403 to R422). -/
structure RcrBlk where
  /-- REC_CTRL.FREEZE_MAX_MIN: 30. -/
  freezeMax : Nat := 30
  /-- REC_CTRL.COMMIT_S: 60. -/
  commitS : Nat := 60
  /-- REC_CTRL.T3_BUFFERED and T2_BUFFERED as last written (RWB): 0. -/
  t3New : Bool := false
  t2New : Bool := false
  /-- The write-safety modes in force (R416): CHECKED. -/
  t3Buf : Bool := false
  t2Buf : Bool := false
  /-- REC_CTRL.EN: 1. -/
  en : Bool := true
  /-- REC_BUF: 7 and 8 MiB. -/
  t3Mib : Nat := 7
  t2Mib : Nat := 8
  /-- Bin classes loaded (R405, R406): the tier, the interval from which it holds, the class and its edges, newest
  first. -/
  classes : List (Nat × Nat × Nat × BinClass) := []
  /-- The tiers. -/
  tier1 : Tier := {}
  tier2 : Tier := {}
  tier3 : Tier := {}
  /-- REC_STATUS.FROZEN: 0; the instant of the freeze (R414). -/
  frozen : Option Nat := none
  /-- The recorder has begun at an entry to RUN (R309). -/
  begun : Bool := false
  /-- The samples waiting in the tap's queue (R408), and the instant of the last one. -/
  queued : Nat := 0
  queuedAt : Nat := 0
  /-- REC_LOST: 0. -/
  lost : W32 := 0
  /-- REC_EVENTS: 0. -/
  events : W32 := 0
  /-- The instant of the last flush of tiers 2 and 3 (R416). -/
  flush2 : Nat := 0
  flush3 : Nat := 0
deriving DecidableEq, Repr

/-- UPD: updates (R423 to R444); regions, floors, epoch and slots are in `NvBlk`. -/
structure UpdBlk where
  /-- UPD_CTRL.CONFIRM_MIN: 10. -/
  confirmMin : Nat := 10
  /-- UPD_CTRL.RELAY_EN: 1. -/
  relayEn : Bool := true
  /-- UPD_CTRL.RECEIVE_EN: 1. -/
  receiveEn : Bool := true
  /-- The update workspace (R429). -/
  ws : Option Workspace := none
  /-- The package being forwarded (R433): header, payload, SUPERSEDE; it stays in the update workspace. -/
  fwd : Option (List Byte × List Byte × Bool) := none
  /-- The neighbours and their transfers of the latest package (R431 to R433, R440): the peers of a triad, then the relay
  table. -/
  nbrs : Tbl Neighbour := []
  /-- UPD_PACKAGE: 0. -/
  package : W32 := 0
  /-- UPD_EVENTS: 0. -/
  events : W32 := 0
  /-- The relay frames sent, newest first: neighbour identity, TYPE, OFFSET or status (R432). -/
  sent : List (W32 × Nat × Nat) := []
  /-- The transfer coming in by relay (R432): source, package, frames since the last ACK. -/
  incoming : Option (W32 × W32 × Nat) := none
  /-- The triad sequence (R440): region, and the seats from the one being activated on. -/
  triad : Option (Nat × List Nat) := none
deriving DecidableEq, Repr

/-- SEC: protection and debug (R445 to R466); keys, lifecycle and sequence are in `NvBlk`. -/
structure SecBlk where
  /-- SEC_DEBUG_POLICY: 5. -/
  policy : BitVec 3 := 5
  /-- SEC_EVENTS: 0. -/
  events : W32 := 0
  /-- SEC_STATUS.BOOT_FAIL: set at start (R446), with the failed region. -/
  bootFail : Option Nat := none
  /-- The pending proposal (R454). -/
  pending : Option Proposal := none
  /-- The confirmed proposal that waits for its protection instant (R455). -/
  confirmed : Option (Proposal × Req) := none
  /-- SEC_STATUS.DEBUG: CLOSED. -/
  debug : Debug := .closed
  /-- The end of the running DEBUG_GRANT (R459). -/
  grantEnd : Option Nat := none
  /-- Token attempts so far, which number the challenges (R458). -/
  attempts : Nat := 0
  /-- Failed tokens in a row (R458). -/
  failures : Nat := 0
  /-- Tokens are refused since (R458). -/
  lockout : Option Nat := none
  /-- What G1 last read (R458). -/
  g1 : List Byte := []
  /-- Cores halted by G1 (R458). -/
  halted : List Nat := []
deriving DecidableEq, Repr

/-- The band table in force at reset (R472), PRECHARGE in units of 0.5 µs. -/
def resetBands : List Band :=
  [{ edgeLow := -128, code := 48, fullCode := 63, precharge := 8 }, { edgeLow := -10, code := 44, fullCode := 58, precharge := 6 },
   { edgeLow := 10, code := 40, fullCode := 54, precharge := 6 }, { edgeLow := 30, code := 36, fullCode := 50, precharge := 4 },
   { edgeLow := 50, code := 32, fullCode := 44, precharge := 4 }, { edgeLow := 70, code := 28, fullCode := 38, precharge := 4 }]

/-- PNL: the local panel (R467 to R482); the frame memory is in `State`. -/
structure PnlBlk where
  /-- PNL_CTRL.EN: 1. -/
  en : Bool := true
  /-- PNL_RATE in force and as last written (RWB): 0x178. -/
  rate : W32 := 0x178
  rateNew : W32 := 0x178
  /-- PNL_STATUS.STATE: OFF. -/
  st : PanelSt := .off
  /-- The logic rail is on, and PNL_STATUS.RAIL_OK: 0. -/
  logic : Bool := false
  railOk : Bool := false
  /-- The 12 V rail has been switched on, since when (R477). -/
  railOn : Option Nat := none
  /-- The identification record read (R467). -/
  ident : List Byte := []
  /-- PNL_GEOM: 0. -/
  cols : Nat := 0
  rows : Nat := 0
  maxCode : Nat := 0
  /-- PNL_CRC_EXP: 0. -/
  crcExp : W32 := 0
  /-- The CRC of the image that waits for the next frame start (R469). -/
  crcNew : Option W32 := none
  /-- PNL_EVENTS: 0. -/
  events : W32 := 0
  /-- The bands in force, and a table accepted for the next frame start (R472, R473). -/
  bands : List Band := resetBands
  bandsNew : Option (List Band) := none
  /-- PNL_STATUS.BAND: 0, and the band decided for the next frame start (R473). -/
  band : Nat := 0
  bandNew : Nat := 0
  /-- PNL_STATUS.TEMP_C: 0, and the consecutive readings for a move up and a move down (R473). -/
  tempC : Int := 0
  upRun : Nat := 0
  downRun : Nat := 0
  /-- PNL_STATUS.INTEGRITY: 0; the pattern is due at the next frame start; an image accepted since has been shown (R476). -/
  pattern : Bool := false
  patternDue : Bool := false
  patternNew : Bool := false
  /-- PNL_STATUS.FULL: 0, and the PNL_FULL that waits for its grant (R475). -/
  full : Bool := false
  fullReq : Option Req := none
  /-- The start of the present frame (R470), a frame is being scanned, and pixel drive is enabled (R474, R477). -/
  frameAt : Nat := 0
  scanning : Bool := false
  drive : Bool := false
  /-- The check of the present frame has been made (R476). -/
  checked : Bool := false
  /-- The starts of the panel so far, each of which clears the frame memory; the instant E of the start in progress, the
  last identification read, and the instant of the next try (R477). -/
  starts : Nat := 0
  startAt : Nat := 0
  identAt : Nat := 0
  retryAt : Option Nat := none
deriving DecidableEq, Repr

/-- The module: every block, and the clock. -/
structure Mod where
  /-- The greatest instant a command has named, in ns (log 1). -/
  clk : Nat := 0
  /-- The MODEL's own counter of free values (log 2); not the manual's. -/
  free : Nat := 0
  nv : NvBlk := {}
  gen : GenBlk := {}
  pwr : PwrBlk := {}
  hif : HifBlk := {}
  adm : AdmBlk := {}
  sig : SigBlk := {}
  pge : PgeBlk := {}
  lpe : LpeBlk := {}
  pln : PlnBlk := {}
  fio : FioBlk := {}
  saf : SafBlk := {}
  lks : LksBlk := {}
  tri : TriBlk := {}
  net : NetBlk := {}
  tim : TimBlk := {}
  can : CanBlk := {}
  flt : FltBlk := {}
  rcr : RcrBlk := {}
  upd : UpdBlk := {}
  sec : SecBlk := {}
  pnl : PnlBlk := {}
deriving DecidableEq, Repr

/-- The state: the module, the memories the manual gives it addresses in, and the queue of the
commands that wait, first in, first out. -/
structure State where
  /-- The module. -/
  m : Mod := {}
  /-- The panel's frame memory (R468): bytes by offset; a byte not listed is 0 (R477). -/
  frame : List Host.Cell := []
  /-- The image accepted and waiting for the next frame start (R469). -/
  image : List Host.Cell := []
  /-- What FULL debug has written into cores and memories since the start (R458), by address. -/
  dbg : List Host.Cell := []
  /-- The commands that wait. -/
  pending : List Instr := []
deriving DecidableEq, Repr

/-- The faults a step can stop with: none. Every command of the table has an effect by the manual. -/
inductive Fault where
deriving DecidableEq, Repr

/-- The refusals a step can stop with. -/
inductive Refusal where
  /-- A command that has no meaning yet, by its mnemonic; raised by exec alone; safe. -/
  | notModelled (mnemonic : String)
deriving DecidableEq, Repr

/-- The block at the release of reset of a delivered module (R291, R295 step 2). -/
def State.reset : State := {}

end Sys2Proof.Machine
end

