-- ==== Sys2Proof/Machine/Bits.lean ====
section
/-! DEFINITION. Bytes, fields and sparse tables: little-endian records (R9), bit fields of
registers (R8), and tables kept sorted by key. -/

namespace Sys2Proof.Machine

/-! ### Sparse tables -/

/-- The entry of a table under key `k`. -/
def tget {α : Type} (t : Tbl α) (k : Nat) : Option α :=
  match t with
  | [] => none
  | (a, v) :: r => if a = k then some v else tget r k

/-- The table with entry `v` under key `k`, in rising order of keys. -/
def tset {α : Type} (t : Tbl α) (k : Nat) (v : α) : Tbl α :=
  match t with
  | [] => [(k, v)]
  | (a, w) :: r =>
    if k < a then (k, v) :: (a, w) :: r
    else if a = k then (k, v) :: r
    else (a, w) :: tset r k v

/-- The table without key `k`. -/
def tdel {α : Type} (t : Tbl α) (k : Nat) : Tbl α := t.filter (fun e => e.1 != k)

/-- The table with the entry under `k`, if there is one, changed by `f`. -/
def tmod {α : Type} (t : Tbl α) (k : Nat) (f : α → α) : Tbl α :=
  t.map (fun e => if e.1 = k then (e.1, f e.2) else e)

/-- The table with every entry changed by `f`, which sees the key. -/
def tmap {α : Type} (t : Tbl α) (f : Nat → α → α) : Tbl α := t.map (fun e => (e.1, f e.1 e.2))

/-- A table's keys rise strictly. -/
def tsorted {α : Type} (t : Tbl α) : Prop := List.Pairwise (· < ·) (t.map Prod.fst)

/-- The first `n` natural numbers from `a`. -/
def span (a n : Nat) : List Nat := (List.range n).map (· + a)

/-! ### Memories -/

/-- The byte at an address; an address not listed reads as 0 (R477). -/
def Memory.read (mem : List Host.Cell) (a : Nat) : Byte :=
  match mem with
  | [] => 0
  | (b, v) :: r => if b = a then v else Memory.read r a

/-- The memory with byte `v` at address `a`; a zero byte is not listed, so that equal memories are
equal lists. -/
def Memory.write (mem : List Host.Cell) (a : Nat) (v : Byte) : List Host.Cell :=
  match mem with
  | [] => if v = 0 then [] else [(a, v)]
  | (b, w) :: r =>
    if a < b then (if v = 0 then (b, w) :: r else (a, v) :: (b, w) :: r)
    else if b = a then (if v = 0 then r else (a, v) :: r)
    else (b, w) :: Memory.write r a v

/-- The canonical form: addresses rise strictly and no byte equal to what an unlisted address reads as. -/
abbrev Memory.wf (mem : List Host.Cell) : Prop :=
  List.Pairwise (fun x y => x.1 < y.1) mem ∧ ∀ c ∈ mem, c.2 ≠ 0

/-- A memory that holds the bytes of a list from address `a` on, and nothing else. -/
def Memory.ofBytes (a : Nat) (bs : List Byte) : List Host.Cell :=
  match bs with
  | [] => []
  | b :: r => if b = 0 then Memory.ofBytes (a + 1) r else (a, b) :: Memory.ofBytes (a + 1) r

/-! ### Little-endian records (R9) -/

/-- The number spelled by bytes, least significant first. -/
def leNat (bs : List Byte) : Nat :=
  match bs with
  | [] => 0
  | b :: r => b.toNat + 256 * leNat r

/-- `n` bytes of `bs` from offset `o`; bytes past the end read as 0. -/
def slice (bs : List Byte) (o n : Nat) : List Byte :=
  let r := (bs.drop o).take n
  r ++ List.replicate (n - r.length) 0

/-- The byte at offset `o`. -/
def u8 (bs : List Byte) (o : Nat) : Nat := leNat (slice bs o 1)
/-- The 16-bit field at offset `o`. -/
def u16 (bs : List Byte) (o : Nat) : Nat := leNat (slice bs o 2)
/-- The 32-bit field at offset `o`, as a number. -/
def u32 (bs : List Byte) (o : Nat) : Nat := leNat (slice bs o 4)
/-- The 32-bit field at offset `o`, as a word. -/
def w32 (bs : List Byte) (o : Nat) : W32 := BitVec.ofNat 32 (u32 bs o)
/-- The 64-bit field at offset `o`. -/
def w64 (bs : List Byte) (o : Nat) : Val := BitVec.ofNat 64 (leNat (slice bs o 8))
/-- A signed 16-bit field at offset `o`. -/
def i16 (bs : List Byte) (o : Nat) : Int := (BitVec.ofNat 16 (u16 bs o)).toInt

/-- `n` bytes of a number, least significant first. -/
def leBytes (n v : Nat) : List Byte :=
  match n with
  | 0 => []
  | k + 1 => BitVec.ofNat 8 v :: leBytes k (v / 256)

/-- The four bytes of a word. -/
def bytes32 (v : W32) : List Byte := leBytes 4 v.toNat
/-- The eight bytes of a value. -/
def bytes64 (v : Val) : List Byte := leBytes 8 v.toNat
/-- The two bytes of a number. -/
def bytes16 (v : Nat) : List Byte := leBytes 2 v

/-- Bytes `o` to `o + n − 1` of a record are all zero. -/
def zeros (bs : List Byte) (o n : Nat) : Bool := (slice bs o n).all (· == 0)

/-- A list with the bytes from `o` on replaced by `v`. -/
def patch (bs : List Byte) (o : Nat) (v : List Byte) : List Byte :=
  bs.take o ++ v ++ bs.drop (o + v.length)

/-- The `n`-byte pieces of a list, `k` of them. -/
def pieces (bs : List Byte) (n k : Nat) : List (List Byte) :=
  match k with
  | 0 => []
  | j + 1 => slice bs 0 n :: pieces (bs.drop n) n j

/-! ### Bit fields -/

/-- Bit `i` of a number. -/
def bitOf (v i : Nat) : Bool := v.testBit i

/-- The field [hi:lo] of a 32-bit word, as a number. -/
def fld (v : W32) (hi lo : Nat) : Nat := (v.toNat / 2 ^ lo) % 2 ^ (hi + 1 - lo)

/-- The sum of fractions (numerator, denominator) as one fraction; a term of denominator 0 adds nothing. -/
def sumFrac (xs : List (Nat × Nat)) : Nat × Nat :=
  xs.foldl (fun a x => if x.2 = 0 then a else (a.1 * x.2 + x.1 * a.2, a.2 * x.2)) (0, 1)

/-- A truth value as 0 or 1. -/
def b2n (b : Bool) : Nat := if b then 1 else 0

/-- Bit `i` of a word set. -/
def setBit32 (v : W32) (i : Nat) : W32 := v ||| BitVec.ofNat 32 (2 ^ i)

/-- Bit `i` of a word set when `c`. -/
def orBit (v : W32) (c : Bool) (i : Nat) : W32 := if c then setBit32 v i else v

/-- A word with the bits that are one in `mask` cleared (W1C, R11). -/
def clr32 (v mask : W32) : W32 := v &&& ~~~mask

/-- Bit `i` of a byte-wide register, set or cleared. -/
def setBit8 (v : BitVec 8) (i : Nat) (b : Bool) : BitVec 8 :=
  if b then v ||| BitVec.ofNat 8 (2 ^ i) else v &&& ~~~(BitVec.ofNat 8 (2 ^ i))

/-- A saturating 32-bit count, incremented. -/
def satInc (v : W32) : W32 := if v = 0xFFFFFFFF then v else v + 1

/-- A saturating 16-bit count, incremented. -/
def satInc16 (v : BitVec 16) : BitVec 16 := if v = 0xFFFF then v else v + 1

/-- `b` is later than `a` as serial numbers modulo 2^32 (R507). -/
def serialLater (a b : W32) : Bool := 1 ≤ (b - a).toNat && (b - a).toNat < 2 ^ 31

/-- The element at a position of a list replaced. -/
def lset {α : Type} (l : List α) (i : Nat) (v : α) : List α := l.set i v

/-- The element at a position of a list changed. -/
def lmod {α : Type} (l : List α) (i : Nat) (f : α → α) : List α := l.modify i f

end Sys2Proof.Machine
end

