-- ==== Sys2Proof/Machine/Float.lean ====
section
/-! DEFINITION. IEEE 754 binary32 and binary64 (R38, R98), with round to nearest, ties to even. A number
is its pattern, as a natural number; a format gives the widths of its fields. What IEEE 754 does not
fix (the bits of a NaN result, log 4; the value of EXP, LN, SIN, COS and ATAN2, log 3) is free. -/

namespace Sys2Proof.Machine

/-- A binary format: fraction bits and exponent bits. -/
structure Fmt where
  mb : Nat
  eb : Nat
deriving DecidableEq, Repr

/-- REAL32 and REAL64 (R38). -/
def r32 : Fmt := { mb := 23, eb := 8 }
def r64 : Fmt := { mb := 52, eb := 11 }

/-- The weight of the sign bit. -/
def Fmt.signW (f : Fmt) : Nat := 2 ^ (f.mb + f.eb)

/-- The pattern of plus infinity. -/
def Fmt.infP (f : Fmt) : Nat := (2 ^ f.eb - 1) * 2 ^ f.mb

/-- A pattern's magnitude bits and its sign. -/
def fMag (f : Fmt) (a : Nat) : Nat := a % f.signW
def fNeg (f : Fmt) (a : Nat) : Bool := bitOf a (f.mb + f.eb)

def fIsNan (f : Fmt) (a : Nat) : Bool := f.infP < fMag f a
def fIsInf (f : Fmt) (a : Nat) : Bool := fMag f a == f.infP
def fIsZero (f : Fmt) (a : Nat) : Bool := fMag f a == 0
def fFinite (f : Fmt) (a : Nat) : Bool := fMag f a < f.infP

/-- A pattern with a sign. -/
def withSign (f : Fmt) (neg : Bool) (mag : Nat) : Nat := if neg then mag + f.signW else mag

/-- The exponent of the least place, 2^emin = 2^(1 − bias − mb). -/
def Fmt.emin (f : Fmt) : Int := 2 - 2 ^ (f.eb - 1) - f.mb

/-- The significand of a finite pattern, and the exponent of its unit. -/
def fSig (f : Fmt) (a : Nat) : Nat :=
  let m := fMag f a
  if m / 2 ^ f.mb = 0 then m else m % 2 ^ f.mb + 2 ^ f.mb
def fExp (f : Fmt) (a : Nat) : Int :=
  let e := fMag f a / 2 ^ f.mb
  f.emin + ((e - 1 : Nat) : Int)

/-- n ÷ d rounded to the nearest integer, ties to even. -/
def divRne (n d : Nat) : Nat :=
  let q := n / d
  let r := n % d
  if d < 2 * r || (2 * r == d && q % 2 == 1) then q + 1 else q

/-- (num ÷ den) × 2^x as a numerator and a denominator. -/
def scaleQ (num den : Nat) (x : Int) : Nat × Nat :=
  if 0 ≤ x then (num * 2 ^ x.toNat, den) else (num, den * 2 ^ (-x).toNat)

/-- The largest l with 2^l ≤ num ÷ den. -/
def log2Q (num den : Nat) : Int :=
  let l : Int := (num.log2 : Int) - den.log2
  let s := scaleQ num den (-l)
  if s.2 ≤ s.1 then l else l - 1

/-- The pattern nearest to ±(num ÷ den) × 2^x, ties to even; infinity past the range (R98). -/
def roundQ (f : Fmt) (neg : Bool) (num den : Nat) (x : Int) : Nat :=
  if num = 0 then withSign f neg 0
  else
    let e := max (log2Q num den + x - f.mb) f.emin
    let s := scaleQ num den (x - e)
    withSign f neg (min ((e - f.emin).toNat * 2 ^ f.mb + divRne s.1 s.2) f.infP)

/-- A NaN result: a quiet NaN whose other bits are free (log 4). -/
def nanOf (f : Fmt) (op a b : Nat) : Nat :=
  if f.mb = 23 then (Config.nanPayload32 op (BitVec.ofNat 32 a) (BitVec.ofNat 32 b) ||| 0x7FC00000).toNat
  else (Config.nanPayload64 op (BitVec.ofNat 64 a) (BitVec.ofNat 64 b) ||| 0x7FF8000000000000).toNat

/-- The exact value of a finite pattern as an integer multiple of 2^x, for x at most its own exponent. -/
def fInt (f : Fmt) (a : Nat) (x : Int) : Int :=
  let v : Int := (fSig f a * 2 ^ (fExp f a - x).toNat : Nat)
  if fNeg f a then -v else v

/-- The pattern nearest to v × 2^x; `z` the sign of a zero result. -/
def roundI (f : Fmt) (v : Int) (x : Int) (z : Bool) : Nat :=
  if v = 0 then withSign f z 0 else roundQ f (v < 0) v.natAbs 1 x

/-- The negated pattern. -/
def fNegate (f : Fmt) (a : Nat) : Nat := withSign f (!fNeg f a) (fMag f a)

/-- A + B (R98). -/
def fAdd (f : Fmt) (a b : Nat) : Nat :=
  if fIsNan f a || fIsNan f b then nanOf f 0x20 a b
  else if fIsInf f a then (if fIsInf f b && fNeg f a != fNeg f b then nanOf f 0x20 a b else a)
  else if fIsInf f b then b
  else
    let x := min (fExp f a) (fExp f b)
    roundI f (fInt f a x + fInt f b x) x (fNeg f a && fNeg f b)

/-- A − B (R98). -/
def fSub (f : Fmt) (a b : Nat) : Nat :=
  if fIsNan f a || fIsNan f b then nanOf f 0x21 a b else fAdd f a (fNegate f b)

/-- A × B (R98). -/
def fMul (f : Fmt) (a b : Nat) : Nat :=
  let s := fNeg f a != fNeg f b
  if fIsNan f a || fIsNan f b then nanOf f 0x22 a b
  else if fIsInf f a || fIsInf f b then
    (if fIsZero f a || fIsZero f b then nanOf f 0x22 a b else withSign f s f.infP)
  else roundQ f s (fSig f a * fSig f b) 1 (fExp f a + fExp f b)

/-- A ÷ B (R98). -/
def fDiv (f : Fmt) (a b : Nat) : Nat :=
  let s := fNeg f a != fNeg f b
  if fIsNan f a || fIsNan f b then nanOf f 0x23 a b
  else if fIsInf f a then (if fIsInf f b then nanOf f 0x23 a b else withSign f s f.infP)
  else if fIsInf f b then withSign f s 0
  else if fIsZero f b then (if fIsZero f a then nanOf f 0x23 a b else withSign f s f.infP)
  else roundQ f s (fSig f a) (fSig f b) (fExp f a - fExp f b)

/-- The integer square root of `n`, from `k` candidate bits down. -/
def isqrt (n k acc : Nat) : Nat :=
  match k with
  | 0 => acc
  | j + 1 =>
    let c := acc + 2 ^ j
    isqrt n j (if c * c ≤ n then c else acc)

/-- √A (R96): the root of the significand to more bits than are kept, with a sticky bit. -/
def fSqrt (f : Fmt) (a : Nat) : Nat :=
  if fIsNan f a then nanOf f 0x29 a 0
  else if fIsZero f a then a
  else if fNeg f a then nanOf f 0x29 a 0
  else if fIsInf f a then a
  else
    let x := fExp f a
    let sh : Nat := 2 * f.mb + 8 + (x % 2).toNat
    let n := fSig f a * 2 ^ sh
    let r := isqrt n (2 * f.mb + 8) 0
    roundQ f false (2 * r + b2n (r * r != n)) 2 ((x - sh) / 2)

/-- The order key of a pattern that is no NaN: −0 and +0 are equal. -/
def fKey (f : Fmt) (a : Nat) : Int := if fNeg f a then -(fMag f a : Int) else fMag f a

def fLt (f : Fmt) (a b : Nat) : Bool := !fIsNan f a && !fIsNan f b && fKey f a < fKey f b
def fLe (f : Fmt) (a b : Nat) : Bool := !fIsNan f a && !fIsNan f b && fKey f a ≤ fKey f b
def fEq (f : Fmt) (a b : Nat) : Bool := !fIsNan f a && !fIsNan f b && fKey f a == fKey f b

/-- The minimum and the maximum (R96, R98): a NaN operand gives NaN; −0 is below +0. -/
def fMin (f : Fmt) (a b : Nat) : Nat :=
  if fIsNan f a || fIsNan f b then nanOf f 0x27 a b
  else if fLt f a b || (fKey f a == fKey f b && fNeg f a) then a else b
def fMax (f : Fmt) (a b : Nat) : Nat :=
  if fIsNan f a || fIsNan f b then nanOf f 0x28 a b
  else if fLt f b a || (fKey f a == fKey f b && !fNeg f a) then a else b

/-- The absolute value. -/
def fAbs (f : Fmt) (a : Nat) : Nat := fMag f a

/-- The nearest pattern to an integer, ties to even (R99). -/
def fOfInt (f : Fmt) (v : Int) : Nat := roundI f v 0 false

/-- A finite pattern as the nearest integer, ties to even (R99). -/
def fToInt (f : Fmt) (a : Nat) : Int :=
  let s := scaleQ (fSig f a) 1 (fExp f a)
  let v : Int := divRne s.1 s.2
  if fNeg f a then -v else v

/-- REAL64 to REAL32 (R99). -/
def f64to32 (a : Nat) : Nat :=
  if fIsNan r64 a then nanOf r32 0x48 (a % 2 ^ 32) (a / 2 ^ 32)
  else if fIsInf r64 a then withSign r32 (fNeg r64 a) r32.infP
  else roundQ r32 (fNeg r64 a) (fSig r64 a) 1 (fExp r64 a)

/-- REAL32 to REAL64: exact; a NaN keeps its value (R99). -/
def f32to64 (a : Nat) : Nat :=
  if fIsNan r32 a then withSign r64 (fNeg r32 a) (r64.infP + (fMag r32 a - r32.infP) * 2 ^ 29)
  else if fIsInf r32 a then withSign r64 (fNeg r32 a) r64.infP
  else roundQ r64 (fNeg r32 a) (fSig r32 a) 1 (fExp r32 a)

/-- EXP, LN, SIN, COS and ATAN2 at operands without an exact result: free (log 3). -/
def fFree (f : Fmt) (op a b : Nat) : Nat :=
  if f.mb = 23 then (Config.real32 op (BitVec.ofNat 32 a) (BitVec.ofNat 32 b)).toNat
  else (Config.real64 op (BitVec.ofNat 64 a) (BitVec.ofNat 64 b)).toNat

/-- The pattern of 1. -/
def fOne (f : Fmt) : Nat := (2 ^ (f.eb - 1) - 1) * 2 ^ f.mb

/-- The exponential (R96), exact where IEEE 754 fixes it. -/
def fExpo (f : Fmt) (a : Nat) : Nat :=
  if fIsNan f a then nanOf f 0x2B a 0
  else if fIsZero f a then fOne f
  else if fIsInf f a then (if fNeg f a then 0 else f.infP)
  else fFree f 0x2B a 0

/-- The natural logarithm (R96). -/
def fLn (f : Fmt) (a : Nat) : Nat :=
  if fIsNan f a then nanOf f 0x2C a 0
  else if fIsZero f a then withSign f true f.infP
  else if fNeg f a then nanOf f 0x2C a 0
  else if fIsInf f a then a
  else if a = fOne f then 0
  else fFree f 0x2C a 0

/-- Sine and cosine (R96). -/
def fSin (f : Fmt) (a : Nat) : Nat :=
  if fIsNan f a || fIsInf f a then nanOf f 0x2D a 0 else if fIsZero f a then a else fFree f 0x2D a 0
def fCos (f : Fmt) (a : Nat) : Nat :=
  if fIsNan f a || fIsInf f a then nanOf f 0x2E a 0 else if fIsZero f a then fOne f else fFree f 0x2E a 0

/-- atan2(A, B) (R96). -/
def fAtan2 (f : Fmt) (a b : Nat) : Nat :=
  if fIsNan f a || fIsNan f b then nanOf f 0x2F a b
  else if (fIsZero f a && !fNeg f b) || (fFinite f a && fIsInf f b && !fNeg f b) then withSign f (fNeg f a) 0
  else fFree f 0x2F a b

/-! ### REAL32 as the loop engine and the analogue channels use it -/

def add32 (a b : F32) : F32 := BitVec.ofNat 32 (fAdd r32 a.toNat b.toNat)
def sub32 (a b : F32) : F32 := BitVec.ofNat 32 (fSub r32 a.toNat b.toNat)
def mul32 (a b : F32) : F32 := BitVec.ofNat 32 (fMul r32 a.toNat b.toNat)
def div32 (a b : F32) : F32 := BitVec.ofNat 32 (fDiv r32 a.toNat b.toNat)
def sqrt32 (a : F32) : F32 := BitVec.ofNat 32 (fSqrt r32 a.toNat)
def neg32 (a : F32) : F32 := BitVec.ofNat 32 (fNegate r32 a.toNat)
def abs32 (a : F32) : F32 := BitVec.ofNat 32 (fAbs r32 a.toNat)
def min32 (a b : F32) : F32 := BitVec.ofNat 32 (fMin r32 a.toNat b.toNat)
def max32 (a b : F32) : F32 := BitVec.ofNat 32 (fMax r32 a.toNat b.toNat)
def lt32 (a b : F32) : Bool := fLt r32 a.toNat b.toNat
def le32 (a b : F32) : Bool := fLe r32 a.toNat b.toNat
def eq32 (a b : F32) : Bool := fEq r32 a.toNat b.toNat
def isNan32 (a : F32) : Bool := fIsNan r32 a.toNat
def finite32 (a : F32) : Bool := fFinite r32 a.toNat
def ofInt32 (v : Int) : F32 := BitVec.ofNat 32 (fOfInt r32 v)
/-- num ÷ den as REAL32. -/
def ratio32 (num den : Nat) : F32 := BitVec.ofNat 32 (roundQ r32 false num den 0)
/-- A finite REAL32 rounded to an integer. -/
def toInt32 (a : F32) : Int := fToInt r32 a.toNat
/-- A value clamped to a range. -/
def clamp32 (v lo hi : F32) : F32 := if lt32 v lo then lo else if lt32 hi v then hi else v

/-! ### REAL64 -/

def add64 (a b : F64) : F64 := BitVec.ofNat 64 (fAdd r64 a.toNat b.toNat)
def sub64 (a b : F64) : F64 := BitVec.ofNat 64 (fSub r64 a.toNat b.toNat)
def mul64 (a b : F64) : F64 := BitVec.ofNat 64 (fMul r64 a.toNat b.toNat)
def div64 (a b : F64) : F64 := BitVec.ofNat 64 (fDiv r64 a.toNat b.toNat)
def neg64 (a : F64) : F64 := BitVec.ofNat 64 (fNegate r64 a.toNat)
def abs64 (a : F64) : F64 := BitVec.ofNat 64 (fAbs r64 a.toNat)
def lt64 (a b : F64) : Bool := fLt r64 a.toNat b.toNat
def le64 (a b : F64) : Bool := fLe r64 a.toNat b.toNat
def isNan64 (a : F64) : Bool := fIsNan r64 a.toNat
def ofInt64 (v : Int) : F64 := BitVec.ofNat 64 (fOfInt r64 v)
def ratio64 (num den : Nat) : F64 := BitVec.ofNat 64 (roundQ r64 false num den 0)
def widen (a : F32) : F64 := BitVec.ofNat 64 (f32to64 a.toNat)
def narrow (a : F64) : F32 := BitVec.ofNat 32 (f64to32 a.toNat)

end Sys2Proof.Machine
end

