-- ==== Sys2Proof/Machine/Ops.lean ====
section
/-! DEFINITION. The shared operations: time, events, completions, signal records, the safe state of
the outputs, task aborts, winding permits, entry to FAIL and fault collection. Every meaning is
written over these. -/

namespace Sys2Proof.Machine

/-! ### Running a command -/

/-- The time of this interval counts as RUN time (R436): the module is in RUN, and a seat of a triad has been taken in. -/
def countsRun (m : Mod) : Bool := m.pwr.st == .run && (m.tri.seat == 0 || m.tri.st == .inStep || m.tri.st == .follower)

/-- The clock goes on to an instant, and RUN time with it. -/
def Mod.advance (m : Mod) (t : Nat) : Mod :=
  let c := max m.clk t
  { m with clk := c, pwr := { m.pwr with ranNs := if countsRun m then m.pwr.ranNs + (c - m.clk) else m.pwr.ranNs } }

/-- The next state of a timed command: the clock goes on to the command's instant, `f` changes the
module, and nothing but this moves the clock (log 1). -/
def State.run (s : State) (t : Nat) (f : Mod → Mod) : Host.Outcome State Fault Refusal :=
  .next { s with m := { f (s.m.advance t) with clk := max s.m.clk t } }

/-- As `State.run`, for a happening of a powered module: in OFF (R290) only the clock goes on. -/
def State.runOn (s : State) (t : Nat) (f : Mod → Mod) : Host.Outcome State Fault Refusal :=
  s.run t (fun m => if m.pwr.st = .off then m else f m)

/-! ### Time (R343, R344) -/

/-- Module time in ns: it starts at 0 at step 3 of a start, and before that there is none, so what is recorded carries
time 0 (R343). -/
def nowNs (m : Mod) : Nat := if m.pwr.startStep < 3 then 0 else (((m.clk - m.tim.zero : Nat) : Int) + m.tim.off).toNat

/-- The 32-bit ns timestamp of now (R36). -/
def time32 (m : Mod) : W32 := BitVec.ofNat 32 (nowNs m)

/-- The TIM wrap count (R344). -/
def wrapNo (m : Mod) : Nat := nowNs m / 2 ^ 32

/-- The low 16 bits of the wrap count (R36). -/
def wrap16 (m : Mod) : BitVec 16 := BitVec.ofNat 16 (wrapNo m)

/-- A number of microseconds in ns. -/
def us (n : Nat) : Nat := n * 1000
/-- A number of milliseconds in ns. -/
def ms (n : Nat) : Nat := n * 1000000
/-- A number of seconds in ns. -/
def sec (n : Nat) : Nat := n * 1000000000

/-- The next free value's number (log 2). -/
def Mod.tick (m : Mod) : Mod := { m with free := m.free + 1 }

/-! ### Rings, events and completions (R313 to R336) -/

/-- A ring at its reset values (R336). -/
def Ring.reset (n : Nat) : Ring := { mask := if n = 32 then 0xFFFF else 0 }

/-- Ring `n`. -/
def ringOf (m : Mod) (n : Nat) : Ring := (tget m.hif.rings n).getD (Ring.reset n)

/-- Ring `n` replaced. -/
def setRing (m : Mod) (n : Nat) (r : Ring) : Mod :=
  { m with hif := { m.hif with rings := tset m.hif.rings n r } }

/-- The numbers of the event rings (R313). -/
def eventRings : List Nat := span 32 16

/-- An event queue with one event more: when it is full its oldest entry is merged into OVERFLOW (R331). -/
def enqueue (r : Ring) (e : Event) : Ring :=
  if r.queue.length < 8192 then { r with queue := r.queue ++ [e] }
  else
    match r.queue with
    | [] => r
    | o :: rest =>
      let ov : Overflow :=
        match r.overflow with
        | none =>
          { merged := 1, mask := BitVec.ofNat 16 (2 ^ o.kind), time := o.time, wrap := o.wrap, newest := o.time }
        | some v =>
          { v with merged := satInc v.merged, mask := v.mask ||| BitVec.ofNat 16 (2 ^ o.kind), newest := o.time }
      { r with overflow := some ov, queue := rest ++ [e], before := r.before - 1 }

/-- An event is queued for every event ring whose mask has its KIND (R331). -/
def postEvent (m : Mod) (e : Event) : Mod :=
  eventRings.foldl (fun m n =>
    let r := ringOf m n
    if bitOf r.mask.toNat e.kind then setRing m n (enqueue r e) else m) m

/-- An event of now (R329). -/
def event (m : Mod) (kind detail : Nat) (subject : W32) (arg : Val) (code : W32) : Mod :=
  postEvent m { kind := kind, time := time32 m, wrap := wrap16 m, detail := detail, subject := subject, arg := arg, code := code }

/-- The seat speaks for the triad: it is not a seat of a formed triad, or it is the LEAD (R288). -/
def speaks (m : Mod) : Bool := m.tri.mode == 0 || m.tri.role == .lead

/-- An event that only the LEAD of a triad posts (R330). -/
def leadEvent (m : Mod) (kind detail : Nat) (subject : W32) (arg : Val) (code : W32) : Mod :=
  if speaks m then event m kind detail subject arg code else m

/-- A DISCOVERY event (R330). -/
def discovery (m : Mod) (what : Nat) (partner : W32) (present : Bool) : Mod :=
  event m 6 what partner (if present then 1 else 0) 0

/-- The STATUS number of a completion (R326 and the chapters that add to it). -/
def Status.code : Status → Nat
  | .ok => 0x00 | .partly => 0x01 | .badOpcode => 0x02 | .badField => 0x03 | .ringClass => 0x04
  | .hostDma => 0x05 | .serviceRestart => 0x06 | .notLead => 0x07 | .notReady => 0x08 | .busy => 0x09
  | .staleHandle => 0x0A | .inUse => 0x0B | .notOwner => 0x0C | .ownerConflict => 0x0D
  | .typeMismatch => 0x0E | .constant => 0x0F | .isProtected => 0x10 | .locked => 0x11
  | .forceDisabled => 0x12 | .forceFull => 0x13 | .treeCycle => 0x14 | .refusedMode => 0x15
  | .interlocked => 0x16 | .notAdmitted => 0x17 | .classRead => 0x18 | .classCall => 0x19
  | .badImage => 0x1A | .badSteps => 0x1B | .changeBusy => 0x1C | .changeDisabled => 0x1D
  | .tooLate => 0x1E | .bankActive => 0x1F | .swapDisabled => 0x20 | .swapPending => 0x21
  | .noSpace => 0x22 | .planRunning => 0x23 | .noSlot => 0x24 | .startDisabled => 0x25
  | .planState => 0x26 | .pairState => 0x27 | .pairC0 => 0x28 | .calRange => 0x29 | .calDisabled => 0x2A
  | .stationAbsent => 0x40 | .stationTimeout => 0x41 | .stationRefused => 0x42
  | .pnlCrc => 0x48 | .pnlAbsent => 0x49
  | .canListenOnly => 0x50 | .canPortOff => 0x51 | .canBufferDir => 0x52 | .canEmpty => 0x53
  | .canBlocked => 0x54 | .noAck => 0x55
  | .protSignature => 0x58 | .protExpired => 0x59 | .protPending => 0x5A | .protNone => 0x5B
  | .protSeq => 0x5C | .lifecycle => 0x5D
  | .freezeNotAllowed => 0x60 | .recGone => 0x61 | .recOpen => 0x62
  | .updSignature => 0x70 | .updVersion => 0x71 | .updBase => 0x72 | .updDependency => 0x73
  | .updConfigFormat => 0x74 | .updState => 0x75 | .trialActive => 0x76 | .updRejected => 0x77

/-- The completion of a descriptor's operation (R325): `RES0` to `RES64` and the bytes written into BUF. -/
structure Res where
  r0 : W32 := 0
  r1 : W32 := 0
  r2 : W32 := 0
  r64 : Val := 0
  data : List Byte := []
deriving DecidableEq, Repr

/-- The descriptor's own completion ring, or its ring's DEFAULT_CRING (R318). -/
def cringOf (m : Mod) (q : Req) : Nat :=
  if q.cring = 0 then 16 + (ringOf m q.ring).defCring else q.cring

/-- The operation of a descriptor goes on after its command: it is started (R319, R334). -/
def startOp (m : Mod) (q : Req) : Mod :=
  { m with hif := { m.hif with flights := m.hif.flights.map (fun f =>
      if f.ring == q.ring && f.index == q.index && !f.finished then { f with started := true } else f) } }

/-- As `startOp` where there may be no descriptor. -/
def startOpt (m : Mod) (q : Option Req) : Mod :=
  match q with
  | none => m
  | some q => startOp m q

/-- The operation of a descriptor ends: its completion waits for its ring; with NO_COMPLETION a success
posts none; with no host attached, or started before a detach, it is dropped and counted (R318, R319, R334). -/
def post (m : Mod) (q : Req) (st : Status) (r : Res := {}) : Mod :=
  let h := m.hif
  let mine : Flight → Bool := fun f => f.ring == q.ring && f.index == q.index && !f.finished
  if !h.attached || h.orphans.contains (q.ring, q.index) then
    { m with hif := { h with
        dropped := satInc h.dropped
        orphans := h.orphans.erase (q.ring, q.index)
        flights := h.flights.filter (fun f => !mine f) } }
  else if q.noCompl && st == .ok then
    { m with hif := { h with flights := h.flights.filter (fun f => !mine f) } }
  else
    { m with hif := { h with
        flights := h.flights.map (fun f => if mine f then { f with started := true, finished := true } else f)
        compl := h.compl ++ [{ cring := cringOf m q, tag := q.tag, status := st, ring := q.ring, index := q.index,
                               res0 := r.r0, res1 := r.r1, res2 := r.r2, res64 := r.r64, data := r.data }] } }

/-- The completion of an operation that may have no descriptor of its own. -/
def postOpt (m : Mod) (q : Option Req) (st : Status) (r : Res := {}) : Mod :=
  match q with
  | none => m
  | some q => post m q st r

/-- A refused register write (R327): REG_REFUSED is set, and with HOST_READY a refusal is posted. -/
def regRefuse (m : Mod) (st : Status) (off : Nat) (v : W32) : Mod :=
  let h := { m.hif with events := setBit32 m.hif.events 3 }
  if h.ready then
    { m with hif := { h with compl := h.compl ++
        [{ cring := 16 + h.regCring, tag := 0xFFFFFFFF, status := st, register := true, ring := 0xFF, index := 0,
           res0 := BitVec.ofNat 32 off, res1 := v }] } }
  else { m with hif := h }

/-! ### Signals (R36 to R55) -/

/-- The signal at an index. -/
def sigAt (m : Mod) (i : Nat) : Option SigRec := tget m.sig.sigs i

/-- The signal at an index replaced. -/
def setSig (m : Mod) (i : Nat) (r : SigRec) : Mod :=
  { m with sig := { m.sig with sigs := tset m.sig.sigs i r } }

/-- The signal at an index changed by `f`. -/
def modSig (m : Mod) (i : Nat) (f : SigRec → SigRec) : Mod :=
  { m with sig := { m.sig with sigs := tmod m.sig.sigs i f } }

/-- The handle of a signal (R44). -/
def sigHandle (i gen : Nat) : W32 := BitVec.ofNat 32 (i % 2 ^ 21 + gen % 128 * 2 ^ 21)

/-- The handle of a unit (R44). -/
def unitHandle (i gen : Nat) : W32 := BitVec.ofNat 32 (i % 2 ^ 16 + gen % 256 * 2 ^ 16)

/-- The index a signal handle names. -/
def hIdx (h : W32) : Nat := fld h 20 0

/-- How a signal handle that a field requires is judged (R45): the index it names, or the refusal. -/
def judgeSig (m : Mod) (h : W32) : Except Status Nat :=
  if h = 0 then .error .badField
  else if fld h 27 21 = 0 || fld h 31 28 != 0 then .error .badField
  else
    match sigAt m (hIdx h) with
    | none => .error .staleHandle
    | some r => if r.gen = fld h 27 21 then .ok (hIdx h) else .error .staleHandle

/-- As `judgeSig` where null means none (R45). -/
def judgeSigOpt (m : Mod) (h : W32) : Except Status (Option Nat) :=
  if h = 0 then .ok none
  else
    match judgeSig m h with
    | .ok i => .ok (some i)
    | .error e => .error e

/-- SIG_REFUSED bit `i` set. -/
def sigRefused (m : Mod) (i : Nat) : Mod :=
  { m with sig := { m.sig with refused := setBit32 m.sig.refused i } }

/-- A refusal of a descriptor; a stale handle also sets SIG_REFUSED.STALE_HANDLE (R45). -/
def refuse (m : Mod) (q : Req) (st : Status) (r : Res := {}) : Mod :=
  post (if st = .staleHandle then sigRefused m 1 else m) q st r

/-- What a reader obtains from a record (R51). -/
def SigRec.view (r : SigRec) : View :=
  if r.forced then { val := r.forceVal, qual := 0xC000, time := r.time, wrap := r.wrap }
  else { val := r.val, qual := r.qual, time := r.time, wrap := r.wrap }

/-- The visible value and quality of a signal by handle; an undefined index reads BAD, NO_SOURCE. -/
def viewOf (m : Mod) (h : W32) : View :=
  match sigAt m (hIdx h) with
  | some r => r.view
  | none => { val := 0, qual := 0x0005, time := 0, wrap := 0 }

/-- The major code of a quality (R41): 0 BAD, 1 UNCERTAIN, 3 GOOD. -/
def major (q : Qual) : Nat := q.toNat / 2 ^ 14

/-- A quality is BAD, GOOD. -/
def isBad (q : Qual) : Bool := major q == 0
def isGood (q : Qual) : Bool := major q == 3

/-- The worse of two qualities (R42): the worse major code, then the lower subcode. -/
def worse (a b : Qual) : Qual :=
  if major a < major b then a
  else if major b < major a then b
  else if a.toNat % 64 ≤ b.toNat % 64 then a else b

/-- The visible value of a BOOL signal is TRUE. -/
def isTrue (v : View) : Bool := v.val.toNat % 2 == 1

/-- TRUE as a safety evaluator takes it (R211): visible TRUE and GOOD. -/
def safeTrue (v : View) : Bool := isTrue v && isGood v.qual

/-- An interlock or an alarm source is active (R58, R62). -/
def activeSig (v : View) : Bool := isTrue v || isBad v.qual

/-- A BOOL as VALUE (R38). -/
def boolVal (b : Bool) : Val := if b then 1 else 0

/-- A REAL32 as VALUE, and back (R38). -/
def realVal (f : F32) : Val := f.zeroExtend 64
def valReal (v : Val) : F32 := v.truncate 32

/-- The record after an owner write (R37, R47): the written value changes, STALE clears, a standing
force notes the write. -/
def SigRec.write (r : SigRec) (v : Val) (q : Qual) (time : W32) (wrap : BitVec 16) (subst : Bool := false) : SigRec :=
  { r with val := v, qual := q, time := time, wrap := wrap, stale := false, subst := subst, wwf := r.wwf || r.forced,
           writes := r.writes + 1 }

/-- In a formed triad the records of channels, stations and connections carry the voted result (R272), and those of
navigation and CAN maps the LEAD's (R353, R384). -/
def isVoted (m : Mod) (r : SigRec) : Bool := m.tri.mode != 0 && (r.ownKind == 1 || r.ownKind == 5 || r.ownKind == 6)
def isLed (m : Mod) (r : SigRec) : Bool := m.tri.mode != 0 && (r.ownKind == 10 || r.ownKind == 11)

/-- A local result of a voted input, sent with the next round frame (R268, R272). -/
def localCopy (m : Mod) (sig : Nat) (v : View) : Mod :=
  { m with tri := { m.tri with
      locals := tset m.tri.locals sig v
      changed := if m.tri.changed.contains sig then m.tri.changed else m.tri.changed ++ [sig] } }

/-- An owner write at a given instant (R47); a CONST signal refuses every run-time write (R50). In a formed triad a voted
input is a local copy until v_k, and a led one waits for the LEAD's round frame (R268, R272). -/
def ownerWriteAt (m : Mod) (h : W32) (v : Val) (q : Qual) (time : W32) (wrap : BitVec 16) (subst : Bool := false) : Mod :=
  if h = 0 then m
  else
    match sigAt m (hIdx h) with
    | none => m
    | some r =>
      if r.isConst then m
      else if isVoted m r then localCopy m (hIdx h) { val := v, qual := q, time := time, wrap := wrap }
      else if isLed m r then
        (if m.tri.role == .lead then
          { m with tri := { m.tri with navOut := m.tri.navOut ++ [{ sig := hIdx h, val := v, qual := q, time := time, wrap := wrap }] } }
         else m)
      else setSig m (hIdx h) (r.write v q time wrap subst)

/-- An owner write of now (R47). -/
def ownerWrite (m : Mod) (h : W32) (v : Val) (q : Qual) (subst : Bool := false) : Mod :=
  ownerWriteAt m h v q (time32 m) (wrap16 m) subst

/-- The module sets a signal BAD, STALE and keeps its value and time (R300, R508). -/
def SigRec.toStale (r : SigRec) : SigRec := { r with qual := 0x0001, stale := true }

/-- The signal of a handle goes BAD, STALE; in a formed triad a voted one by way of this seat's copy (R272). -/
def staleSig (m : Mod) (h : W32) : Mod :=
  if h = 0 then m
  else
    match sigAt m (hIdx h) with
    | none => m
    | some r =>
      if isVoted m r then localCopy m (hIdx h) { r.view with qual := 0x0001 }
      else if isLed m r then ownerWrite m h r.val 0x0001
      else setSig m (hIdx h) r.toStale

/-- Every signal of an owner goes BAD, STALE (R300, R301). -/
def staleOwned (m : Mod) (kind id : Nat) : Mod :=
  { m with sig := { m.sig with sigs := tmap m.sig.sigs (fun _ r =>
      if r.ownKind = kind && r.ownId = id then r.toStale else r) } }

/-- The signals of a removed owner keep their value, take BAD, NO_SOURCE and become ownerless (R512), of class 0 (log 105);
those of `keep` gain a new owner in the same load. -/
def orphan (m : Mod) (kind id : Nat) (keep : List Nat := []) : Mod :=
  { m with sig := { m.sig with sigs := tmap m.sig.sigs (fun i r =>
      if r.ownKind = kind && r.ownId = id && !keep.contains i then
        { r with qual := 0x0005, ownKind := 0, ownId := 0, ownClass := 0, refs := r.refs - 1 } else r) } }

/-- A signal gains an owner, which counts as one reference (R46, R47). -/
def SigRec.own (r : SigRec) (kind id cls : Nat) : SigRec :=
  if r.ownKind = kind && r.ownId = id then { r with ownClass := cls }
  else { r with ownKind := kind, ownId := id, ownClass := cls, refs := r.refs + 1 }

/-- The signal of a handle gains an owner; null names none. -/
def ownSig (m : Mod) (h : W32) (kind id cls : Nat) : Mod :=
  if h = 0 then m else modSig m (hIdx h) (fun r => r.own kind id cls)

/-- The signals an object names beside those it owns, each once: its references (R46). -/
def objRefs (named owned : List W32) : List W32 := (named.filter (· != 0)).dedup.filter (fun h => !owned.contains h)

/-- References of an object to signals are taken, or released (R46). -/
def addRefs (m : Mod) (hs : List W32) : Mod :=
  hs.foldl (fun m h => if h = 0 then m else modSig m (hIdx h) (fun r => { r with refs := r.refs + 1 })) m
def dropRefs (m : Mod) (hs : List W32) : Mod :=
  hs.foldl (fun m h => if h = 0 then m else modSig m (hIdx h) (fun r => { r with refs := r.refs - 1 })) m

/-- A signal may take the owner named: it has none, or has it already, or the owner it has goes (R48). -/
def ownable (r : SigRec) (kind id : Nat) : Bool := r.ownKind == 0 || (r.ownKind == kind && r.ownId == id)

/-- A value in the encoding of its TYPE (R38): the bits the encoding holds at zero are zero, INT32 is
sign-extended. -/
def encodeVal (ty : Nat) (v : Val) : Val :=
  match ty with
  | 0 => v &&& 1
  | 1 => (v.truncate 32 : W32).signExtend 64
  | 2 => (v.truncate 32 : W32).zeroExtend 64
  | 4 => (v.truncate 32 : W32).zeroExtend 64
  | 6 => v &&& 0xFFFF
  | _ => v

/-! ### Units (R56 to R67), as other blocks read them -/

/-- The unit at an index, if it is defined: unit 0, a station unit or a user unit. -/
def unitAt (m : Mod) (i : Nat) : Option Unit := if i = 0 then some m.sig.unit0 else tget m.sig.units i

/-- The index a unit handle names. -/
def uIdx (h : W32) : Nat := fld h 15 0

/-- How a unit handle that a field requires is judged (R45). -/
def judgeUnit (m : Mod) (h : W32) : Except Status Nat :=
  if h = 0 then .error .badField
  else if fld h 23 16 = 0 || fld h 31 24 != 0 then .error .badField
  else
    match unitAt m (uIdx h) with
    | none => .error .staleHandle
    | some u => if u.gen = fld h 23 16 then .ok (uIdx h) else .error .staleHandle

/-- The mode of the unit a handle names; a null handle names none. -/
def modeOf (m : Mod) (h : W32) : Option Mode :=
  if h = 0 then none else (unitAt m (uIdx h)).map Unit.mode

/-! ### Cores, pairs and tasks, as other blocks act on them -/

/-- Pair `p`. -/
def pairOf (m : Mod) (p : Nat) : Pair := (tget m.lks.pairs p).getD {}

/-- Pair `p` replaced. -/
def setPair (m : Mod) (p : Nat) (v : Pair) : Mod :=
  { m with lks := { m.lks with pairs := tset m.lks.pairs p v } }

/-- The task with a number. -/
def taskAt (m : Mod) (k : Nat) : Option Task := tget m.pge.tasks k

/-- The task with a number replaced. -/
def setTask (m : Mod) (k : Nat) (t : Task) : Mod :=
  { m with pge := { m.pge with tasks := tset m.pge.tasks k t } }

/-- The core a task runs on: the lead 2p of its pair, or the shadow 2p + 1 of a split pair. -/
def coreOf (t : Task) : Nat := 2 * t.pair + b2n t.coreB

/-- A task leaves the core it runs on. -/
def unrun (m : Mod) (k : Nat) : Mod :=
  { m with pge := { m.pge with running := m.pge.running.filter (fun e => e.2 != k) } }

/-- The signals a task owns go BAD, STALE (R300, R301). -/
def staleTask (m : Mod) (k : Nat) : Mod := staleOwned m 4 k

/-- A task reaches its stop instant: a C0 task's signals go BAD, STALE at once, any other's
ride-through window starts (R299 to R301). -/
def stopInstant (m : Mod) (k : Nat) : Mod :=
  match taskAt m k with
  | none => m
  | some t =>
    let m := setTask m k { t with stopAt := some m.clk, rideDone := false, window := sec m.nv.windowS }
    if t.rcd.cls = 0 then staleTask m k else m

/-- An instance in progress is dropped: it commits nothing (R83). -/
def dropInst (t : Task) (st : TState) : Task := { t with inst := none, st := st }

/-- A task has an instance in progress. -/
def Task.busy (t : Task) : Bool :=
  t.st == .snapshot || t.st == .ready || t.st == .running || t.st == .committing

/-- Every instance in progress is aborted and commits nothing (R305, R398). -/
def abortAll (m : Mod) : Mod :=
  { m with pge := { m.pge with
      tasks := tmap m.pge.tasks (fun _ t => if t.busy then dropInst t .idle else t)
      running := [] } }

/-! ### The outputs' safe state (R174, R184, R196) -/

/-- A channel. -/
def chanOf (m : Mod) (c : Nat) : Chan := (tget m.fio.chans c).getD {}

/-- A channel replaced, where it has a record. -/
def setChan (m : Mod) (c : Nat) (v : Chan) : Mod :=
  { m with fio := { m.fio with chans := tmod m.fio.chans c (fun _ => v) } }

/-- A channel put into the table. -/
def putChan (m : Mod) (c : Nat) (v : Chan) : Mod :=
  { m with fio := { m.fio with chans := tset m.fio.chans c v } }

/-- The channel's function drives an output (R164). -/
def Chan.isDo (c : Chan) : Bool := c.rcd.function == 3 || c.rcd.function == 4
def Chan.isAo (c : Chan) : Bool := c.rcd.function == 7
def Chan.isDi (c : Chan) : Bool := c.rcd.function == 1 || c.rcd.function == 2
def Chan.isSource (c : Chan) : Bool := c.rcd.function == 5

/-- The channel is a safety output member (R164). -/
def Chan.safeOut (c : Chan) : Bool := c.rcd.safetyMember && c.isDo

/-- The channel comes under a condition of R184: what it drives now is what HOLD keeps (R184, R196). -/
def Chan.safeEntry (c : Chan) : Chan :=
  if c.safeDriving then c else { c with safeDriving := true, holdOn := c.driver, holdMa := c.setMa }

/-- What SAFE_VAL drives (R184): before the first owner write HOLD reads as OFF for a DO (R296). -/
def Chan.safeOn (c : Chan) : Bool :=
  match c.rcd.safeVal with
  | 0 => false
  | 1 => true
  | _ => c.written && c.holdOn

/-- The current of an AO's SAFE_VAL (R196): before the first owner write HOLD reads as FAIL_LOW (R296). -/
def Chan.safeMa_ (c : Chan) : F32 :=
  match c.rcd.safeVal with
  | 0 => 0x40600000
  | 1 => 0x41AC0000
  | 2 => if c.written then c.holdMa else 0x40600000
  | _ => c.rcd.safeMa

/-- The diagnostics of the status word that latch (R182, R200), and the channel holds one. -/
def latchMask : W32 := 0x0000043E
def Chan.latched (c : Chan) : Bool := c.status &&& latchMask != 0

/-- An output is held off by a latched diagnostic or as a suspect (R180, R182); a latched WATCHDOG keeps
SAFE_VAL instead (R185, log 60). -/
def Chan.blocked (c : Chan) : Bool := c.status &&& 0x0000009E != 0

/-- The channel drives its SAFE_VAL (R184, R196). Test pulses go on only where the output is ON. -/
def Chan.driveSafe (c : Chan) : Chan :=
  let c := c.safeEntry
  if c.isAo then { c with setMa := if bitOf c.status.toNat 10 then 0x40600000 else c.safeMa_ }
  else if c.isDo || c.isSource then
    let on := c.safeOn && !c.blocked
    { c with driver := on, pulse := if on then c.pulse else none }
  else c

/-- Every output is commanded to its SAFE_VAL (R398 step 2, R305 step 2). -/
def allSafe (m : Mod) : Mod :=
  { m with fio := { m.fio with chans := tmap m.fio.chans (fun _ c => c.driveSafe) } }

/-- The group safety switch of block `b` opens (R174): OPENED is set, the rail is checked 1 ms later, and the
block's safety outputs are driven OFF (R220). -/
def openSwitch (m : Mod) (b : Nat) : Mod :=
  if bitOf m.fio.closed.toNat b then
    { m with fio := { m.fio with
        closed := setBit8 m.fio.closed b false
        gswOpened := setBit32 m.fio.gswOpened b
        railCheck := tset m.fio.railCheck b (false, m.clk)
        chans := tmap m.fio.chans (fun n c => if n / 32 = b && c.safeOut then { c with driver := false, pulse := none, needEnable := true } else c) } }
  else m

/-- Every group safety switch opens. -/
def openAll (m : Mod) : Mod := (List.range 8).foldl openSwitch m

/-! ### Winding permits (R244 to R249) -/

/-- The units of a heavy operation and its longest grant in ms (R245). -/
def opUnits : HeavyOp → Nat
  | .flashBurst => 16 | .bulkCopy => 12 | .sigVerify => 16 | .deltaApply => 20
  | .resyncBulk => 32 | .archiveFlush => 24 | .panelFull => 4 | .loopBurst => 8
def opMaxMs : HeavyOp → Nat
  | .flashBurst => 100 | .bulkCopy => 1000 | .sigVerify => 2000 | .deltaApply => 10000
  | .resyncBulk => 10000 | .archiveFlush => 2000 | .panelFull => 1000 | .loopBurst => 100

/-- The pool: 388 units less the base reservation (R244). -/
def pool (m : Mod) : Nat := 388 - m.adm.base

/-- The units of all standing grants (R504). -/
def granted (m : Mod) : Nat := (m.adm.grants.map Permit.units).sum

/-- The units granted to RESYNC requests (R248). -/
def resyncUnits (m : Mod) : Nat := ((m.adm.grants.filter Permit.resync).map Permit.units).sum

/-- The permit's activity is C2: a burst of loops enabled from a C2 ring, and the panel's full brightness (R475); every other
heavy operation below C1 is C3 (R18, R245). -/
def Permit.isC2 (p : Permit) : Bool := p.op == .loopBurst || p.op == .panelFull

/-- The next request of a level by R246: one queued again after a suspension first, then round-robin by
requester, from the requester after the one granted last. -/
def nextOf (ps : List Permit) (rr : Nat) : Option Permit :=
  match ps.find? Permit.again with
  | some p => some p
  | none =>
    let later := ps.filter (fun p => rr < p.who)
    let least : List Permit → Option Permit := fun l =>
      l.foldl (fun a p => match a with
        | none => some p
        | some b => if p.who < b.who then some p else some b) none
    match least later with
    | some p => some p
    | none => least ps

/-- The head of a level: it stays head until it is granted (R246). -/
def headOf (m : Mod) (c1 : Bool) : Option Permit :=
  let ps := m.adm.waiting.filter (fun p => p.c1 == c1)
  let held := if c1 then m.adm.head1 else m.adm.head2
  match held.bind (fun w => ps.find? (fun p => p.who == w)) with
  | some p => some p
  | none =>
    if c1 then nextOf ps m.adm.rr1
    else
      let c3 := ps.filter (fun p => !p.isC2)
      if m.adm.c2run ≥ 7 && !c3.isEmpty then nextOf c3 m.adm.rr2 else nextOf ps m.adm.rr2

/-- A request may be granted now: its units fit, and with a hold-back 32 units stay for RESYNC (R246, R248). -/
def fits (m : Mod) (p : Permit) : Bool :=
  granted m + p.units ≤ pool m &&
  (p.resync || !m.adm.holdBack || pool m - (granted m + p.units) + resyncUnits m ≥ 32)

/-- A C1 request that arrived before `p` waits (R246). -/
def c1Before (m : Mod) (p : Permit) : Bool :=
  (m.adm.waiting.takeWhile (fun w => w.who != p.who)).any Permit.c1

/-- A request is granted: it leaves the queue and its grant runs for its duration (R246, R247). -/
def grant (m : Mod) (p : Permit) : Mod :=
  let a := m.adm
  { m with adm := { a with
      waiting := a.waiting.filter (fun w => w.who != p.who)
      grants := a.grants.filter (fun g => g.who != p.who) ++ [{ p with stop := m.clk + ms p.durMs, again := false }]
      head1 := if p.c1 then none else a.head1
      head2 := if p.c1 then a.head2 else none
      rr1 := if p.c1 then p.who else a.rr1
      rr2 := if p.c1 then a.rr2 else p.who
      c2run := if p.c1 then a.c2run else if p.isC2 then a.c2run + 1 else 0 } }

/-- The arbiter grants heads while it can (R246, R248); `n` bounds the grants of one decision. -/
def arbitrate (m : Mod) (n : Nat) : Mod :=
  match n with
  | 0 => m
  | k + 1 =>
    let rs := if m.adm.holdBack then m.adm.waiting.find? Permit.resync else none
    match rs with
    | some p => if fits m p then arbitrate (grant m p) k else m
    | none =>
      let h1 := headOf m true
      let h2 := headOf m false
      let m := { m with adm := { m.adm with head1 := h1.map Permit.who, head2 := h2.map Permit.who } }
      match h1.filter (fits m) with
      | some p => arbitrate (grant m p) k
      | none =>
        match h2.filter (fun p => fits m p && !c1Before m p) with
        | some p => arbitrate (grant m p) k
        | none => m

/-- The arbiter's decision after a request or a release (R246). -/
def decide_ (m : Mod) : Mod := arbitrate m (m.adm.waiting.length + 1)

/-- A heavy operation requests its units; a requester has one request at a time (R245, R246). -/
def request (m : Mod) (who : Nat) (op : HeavyOp) (c1 : Bool) (durMs : Nat) : Mod :=
  let d := if durMs = 0 then 1 else min durMs (opMaxMs op)
  let p : Permit := { who := who, op := op, c1 := c1, units := opUnits op, durMs := d, resync := op == .resyncBulk }
  if m.adm.waiting.any (fun w => w.who == who) || m.adm.grants.any (fun g => g.who == who) then m
  else decide_ { m with adm := { m.adm with waiting := m.adm.waiting ++ [p] } }

/-- A grant ends (R247). -/
def releasePermit (m : Mod) (who : Nat) : Mod :=
  decide_ { m with adm := { m.adm with grants := m.adm.grants.filter (fun g => g.who != who) } }

/-- A requester holds a grant. -/
def holds (m : Mod) (who : Nat) : Bool := m.adm.grants.any (fun g => g.who == who)

/-- The requesters of the module's own heavy operations. -/
def whoLoops : Nat := 1
def whoFlush (tier : Nat) : Nat := 10 + tier
def whoVerify : Nat := 20
def whoApply : Nat := 21
def whoResync : Nat := 30
def whoPanel : Nat := 40

end Sys2Proof.Machine
end

