-- ==== Sys2Proof/Machine/RecStore.lean ====
section
/-! DEFINITION. The recorder's tiers and stores: intervals, their ends, the archives (R403 to R418). -/

namespace Sys2Proof.Machine

/-! ### Tiers (R403) -/

/-- Tier `n`, and the same replaced. -/
def tierOf (m : Mod) (n : Nat) : Tier := if n = 1 then m.rcr.tier1 else if n = 2 then m.rcr.tier2 else m.rcr.tier3
def setTier (m : Mod) (n : Nat) (t : Tier) : Mod :=
  { m with rcr := if n = 1 then { m.rcr with tier1 := t } else if n = 2 then { m.rcr with tier2 := t } else { m.rcr with tier3 := t } }

/-- A tier's interval in ns, and the interval of an instant of module time, aligned to whole multiples (R403). -/
def tierNs (n : Nat) : Nat := if n = 1 then sec 1 else if n = 2 then sec 60 else sec 3600
def tierInterval (m : Mod) (n : Nat) : Nat := nowNs m / tierNs n

/-- START_S of an interval (R409). -/
def startS (n iv : Nat) : Nat := iv * tierNs n / sec 1

/-- The list that holds for an interval (R406). -/
def listAt (t : Tier) (iv : Nat) : List (W32 × Nat) :=
  match t.lists.find? (fun e => e.1 ≤ iv) with
  | some e => e.2
  | none => []

/-- The records an interval has (R410): one for each entry of the list, in tier 3 one for each index. -/
def tierCount (t : Tier) (n iv : Nat) : Nat := if n = 3 then 2097152 else (listAt t iv).length

/-! ### Records (R409, R411) -/

/-- The smallest exponent from `e` up to 16 by which every count fits 16 bits (R411). -/
def shareExp (bins : List Nat) (e fuel : Nat) : Nat :=
  match fuel with
  | 0 => e
  | k + 1 => if bins.all (fun c => c ≤ 65535 * 2 ^ e) then e else shareExp bins (e + 1) k

/-- A signal is FORCED or STALE now, as QSUM bits 2 and 3 (R409). -/
def flagBits (m : Mod) (h : W32) : BitVec 8 :=
  match sigAt m (hIdx h) with
  | some r => if sigHandle (hIdx h) r.gen = h then (if r.forced then 4 else 0) ||| (if r.stale then 8 else 0) else 0
  | none => 0

/-- The record of a signal without samples in its interval. -/
def emptyRec (m : Mod) (h : W32) (part : Bool) : RecEntry :=
  { signal := h, min := 0, max := 0, minUs := 0, maxUs := 0, bins := List.replicate 16 0, exp := 0,
    qsum := 0x40 ||| (if part then 0x20 else 0) ||| flagBits m h }

/-- The µs from an interval's START_S to an instant of module time. -/
def usFrom (n iv t : Nat) : Nat := (t - startS n iv * sec 1) / 1000

/-- An accumulator closed into a record (R407, R409, R411). -/
def closeAccum (m : Mod) (n : Nat) (a : Accum) (part : Bool) : RecEntry :=
  let e := shareExp a.bins 0 16
  let q := a.qsum ||| (if part then 0x20 else 0) ||| flagBits m a.handle
  if !a.any then { emptyRec m a.handle part with qsum := 0x40 ||| q }
  else
    { signal := a.handle, min := if a.seen then narrow a.min else 0, max := if a.seen then narrow a.max else 0,
      minUs := if a.seen then usFrom n a.interval a.minAt else 0, maxUs := if a.seen then usFrom n a.interval a.maxAt else 0,
      bins := a.bins.map (fun c => c / 2 ^ e), exp := e,
      qsum := q ||| (if a.bins.any (fun c => c ≥ 0xFFFFFFFF) then 0x10 else 0) }

/-- The current handle of a defined signal. -/
def handleAt (m : Mod) (i : Nat) : W32 := match sigAt m i with | some r => sigHandle i r.gen | none => 0

/-- The keys of an interval that has records without samples: the positions of the list, in tier 3 the defined signals. -/
def intervalKeys (m : Mod) (t : Tier) (n iv : Nat) : List (Nat × W32) :=
  if n = 3 then m.sig.sigs.map (fun e => (e.1, sigHandle e.1 e.2.gen))
  else (listAt t iv).mapIdx (fun i e => (i, e.1))

/-- Every record of an interval (R408): those already made, those of its accumulators, and the rest without samples. -/
def intervalRecs (m : Mod) (t : Tier) (n iv : Nat) (part : Bool) : Tbl RecEntry :=
  let made := (t.made.filter (fun e => e.1 == iv)).map (fun e => (e.2.1, if part then { e.2.2 with qsum := e.2.2.qsum ||| 0x20 } else e.2.2))
  let accs := (t.accums.filter (fun e => e.2.interval == iv)).map (fun e => (e.1, closeAccum m n e.2 part))
  let have_ := made ++ accs
  let rest := ((intervalKeys m t n iv).filter (fun e => !have_.any (fun x => x.1 == e.1))).map (fun e => (e.1, emptyRec m e.2 part))
  (have_ ++ rest).foldl (fun l e => tset l e.1 e.2) []

/-- An interval that has ended, with its records. -/
def endedInterval (m : Mod) (t : Tier) (n iv : Nat) (part : Bool) : Interval :=
  { no := iv, traceable := if iv = t.cur then t.trace else m.tim.traceable, part := part, count := tierCount t n iv,
    entries := intervalRecs m t n iv part }

/-! ### The ends and beginnings of recording (R409, R415) -/

/-- Recording of a tier ends now: the interval in progress ends as PARTIAL, and its header is still to be written. -/
def endTier (m : Mod) (n : Nat) : Mod :=
  let t := tierOf m n
  if !t.running then m
  else
    let last := max t.cur (tierInterval m n)
    let ivs := (span t.cur (last - t.cur + 1)).map (fun iv =>
      endedInterval m t n iv (iv == last || (iv == t.cur && t.part)))
    setTier m n { t with running := false, ended := t.ended ++ ivs, accums := [], made := [] }

/-- Recording of a tier may go on: the recorder has begun (R309), EN is set, no freeze stands, and tier 1 not in QUIET
(R304). -/
def mayRecord (m : Mod) (n : Nat) : Bool :=
  m.rcr.begun && m.rcr.en && m.rcr.frozen.isNone && m.pwr.st != .fail && (n != 1 || m.pwr.st != .quiet)

/-- Recording of a tier begins now, with an interval that is PARTIAL where it does not start aligned. -/
def startTier (m : Mod) (n : Nat) : Mod :=
  let t := tierOf m n
  if t.running || !mayRecord m n then m
  else setTier m n { t with running := true, cur := tierInterval m n, part := nowNs m % tierNs n != 0, trace := m.tim.traceable }

/-- Every tier ends, or begins. -/
def endTiers (m : Mod) : Mod := endTier (endTier (endTier m 1) 2) 3
def startTiers (m : Mod) : Mod := startTier (startTier (startTier m 1) 2) 3

/-- A standing freeze ends, and recording resumes (R415). -/
def endFreeze (m : Mod) : Mod :=
  if m.rcr.frozen.isNone then m
  else startTiers { m with rcr := { m.rcr with frozen := none, events := setBit32 m.rcr.events 0 } }

/-! ### Stores (R410, R416 to R418) -/

/-- The bytes of an interval's records. -/
def intervalBytes (i : Interval) : Nat := 64 * i.count

/-- The oldest intervals that stay in a store of `cap` bytes: those before them are gone. -/
def keepWithin (cap : Nat) (l : List Interval) : List Interval :=
  match l with
  | [] => []
  | i :: r => if (l.map intervalBytes).sum ≤ cap then i :: r else keepWithin cap r

/-- The bytes of the tier-1 ring and of the archive partitions (R403). -/
def tierCap (n : Nat) : Nat := if n = 1 then 8184 * 2 ^ 20 else if n = 2 then 192 * 2 ^ 30 else 64 * 2 ^ 30

/-- A partition takes intervals: where it needs space, the oldest erase block goes with every interval in it; its size is
not given, so how many more intervals go is free (R418, log 94). -/
def archived (m : Mod) (n : Nat) (old new : List Interval) : List Interval :=
  if ((old ++ new).map intervalBytes).sum ≤ tierCap n then old ++ new
  else
    let rest := keepWithin (tierCap n) (old ++ new)
    rest.drop ((Config.fresh32 m.free).toNat % (rest.length + 1))

/-- Tier 2 or 3: the closed intervals held in DRAM are written to its partition and committed. -/
def flushTier (m : Mod) (n : Nat) : Mod :=
  let t := tierOf m n
  let nv := if n = 2 then { m.nv with archive2 := archived m 2 m.nv.archive2 t.kept }
            else { m.nv with archive3 := archived m 3 m.nv.archive3 t.kept }
  setTier { m with nv := nv }.tick n { t with kept := [] }

/-- A tier's BUFFERED mode is in force (R416): not while HOLDUP_LOW stands. -/
def buffered (m : Mod) (tier : Nat) : Bool :=
  !m.pwr.holdupLow && (if tier = 2 then m.rcr.t2Buf else m.rcr.t3Buf)

/-- The flush of the BUFFERED tiers at power-fail, without a permit (R306, R416). -/
def flushBuffered (m : Mod) : Mod :=
  let m := if buffered m 2 then flushTier m 2 else m
  if buffered m 3 then flushTier m 3 else m

/-- The flush at the F3 reaction begins: it ends a freeze (R415, R416), and asks for its permits. -/
def faultFlush (m : Mod) : Mod :=
  let m := if buffered m 2 || buffered m 3 then endFreeze m else m
  let m := if buffered m 2 && !m.rcr.tier2.kept.isEmpty then request m (whoFlush 2) .archiveFlush false 2000 else m
  if buffered m 3 && !m.rcr.tier3.kept.isEmpty then request m (whoFlush 3) .archiveFlush false 2000 else m

end Sys2Proof.Machine
end

