-- ==== Sys2Proof/Machine/Reactions.lean ====
section
/-! DEFINITION. What the module does to itself: detach of the host (R334), entry to HOLD (R299) and
to FAIL (R305), the F3 reaction (R398), fall-back of an update (R437) and the fault collector (R390). -/

namespace Sys2Proof.Machine

/-! ### Detach (R333, R334) -/

/-- The host is detached; `flr` for a function-level reset, which also resets the HIF set-up but neither
the event masks nor the queues (R331, R334, log 20). -/
def detach (m : Mod) (flr : Bool) : Mod :=
  let h := m.hif
  let off : Ring → Ring := fun r =>
    let r := { r with st := .disabled, enable := false, replaying := false, replay := [], before := 0, fetches := [] }
    if flr then { ({} : Ring) with mask := r.mask, queue := r.queue, overflow := r.overflow, seq := r.seq } else r
  let count : W32 → Nat → W32 := fun v n => if v.toNat + n ≥ 0xFFFFFFFF then 0xFFFFFFFF else v + BitVec.ofNat 32 n
  { m with hif := { h with
      ready := false
      attached := false
      events := setBit32 h.events 0
      rings := tmap h.rings (fun _ r => off r)
      discarded := count h.discarded (h.flights.filter (fun f => !f.started && !f.finished)).length
      dropped := count h.dropped (h.compl.filter (fun c => !c.register)).length
      orphans := h.orphans ++ (h.flights.filter (fun f => f.started && !f.finished)).map (fun f => (f.ring, f.index))
      flights := []
      compl := []
      regCring := if flr then 0 else h.regCring
      wdMs := if flr then 0 else h.wdMs } }

/-! ### ALIVE (R303, R400) -/

/-- An application pair runs (R400). -/
def pairRuns (m : Mod) : Bool :=
  (List.range 6).any (fun p => (pairOf m p).st == .joined || (pairOf m p).st == .split)

/-- ALIVE toggles while this holds (R400). -/
def aliveOk (m : Mod) : Bool :=
  !m.flt.f3 && (((m.pwr.st == .run || m.pwr.st == .quiet) && pairRuns m) ||
    (m.pwr.st == .hold && !m.pwr.starting && !m.pwr.rideExpired))

/-- ALIVE at a level; the pulse detector closes OK_A to OK_B at a change that follows the previous one
within 1.5 ms, and not at a single change (R485). -/
def setAlive (m : Mod) (level : Bool) : Mod :=
  if m.flt.aliveLevel = level then m
  else
    let quick := match m.flt.aliveAt with | some x => m.clk ≤ x + us 1500 | none => false
    { m with flt := { m.flt with aliveLevel := level, aliveAt := some m.clk, okContact := quick } }

/-- ALIVE stops, held at its inactive level, and ALIVE_STOPPED is set (R400). -/
def stopAlive (m : Mod) : Mod :=
  if m.flt.alive then
    let m := setAlive m false
    { m with flt := { m.flt with alive := false, events := setBit32 m.flt.events 4 } }
  else m

/-! ### Debug (R461) -/

/-- Debug closes. -/
def closeDebug (m : Mod) : Mod :=
  { m with sec := { m.sec with debug := .closed, halted := [], grantEnd := none } }

/-! ### Panel (R478) -/

/-- The panel shuts down (R478): no column is driven and both rails are off. -/
def panelOff (p : PnlBlk) : PnlBlk :=
  { p with st := .off, logic := false, railOk := false, railOn := none, scanning := false, full := false, drive := false,
           pattern := false, patternDue := false, patternNew := false, bandNew := p.band, upRun := 0, downRun := 0 }

/-! ### Degraded remainders (R229) -/

/-- What is left of a cause's time, in ns: it runs while something stands for the cause (R227). -/
def Deg.remain (d : Deg) (clk : Nat) : Nat := d.left - (d.clearSince.getD clk - d.since)

/-- The remainders of the standing causes are saved to MRAM (R229). -/
def saveDegraded (m : Mod) : Mod :=
  let f : Deg → Nat := fun d => if d.active then d.remain m.clk else 0
  { m with nv := { m.nv with
      degLeft := [f m.saf.degNet, f m.saf.degPair, f m.saf.degSeat]
      degSaved := [m.saf.degNet.active, m.saf.degPair.active, m.saf.degSeat.active] } }

/-! ### Application pairs -/

/-- The application pairs stop. -/
def stopPairs (m : Mod) (st : PairSt) : Mod :=
  (List.range 6).foldl (fun m p => setPair m p { pairOf m p with st := st, req := none }) m

/-! ### Power states (R299, R305) -/

/-- Entry to FAIL (R305 steps 2 to 4): outputs safe, switches open, instances aborted, grants revoked,
debug closed, ALIVE stopped, loads shed but for H1 (`flushDone` sheds it), the FAIL record written and the
buffered tiers flushed. -/
def enterFail (m : Mod) (cause : FailCause) : Mod :=
  let m := abortAll (openAll (allSafe m))
  let m := closeDebug (stopAlive m)
  let m := { m with adm := { m.adm with grants := [], waiting := [], head1 := none, head2 := none } }
  let m := flushBuffered (saveDegraded m)
  let m := stopPairs m .down
  { m with
    pwr := { m.pwr with st := .fail, failCause := cause, dip := none, cmd := none, program := false }
    nv := { m.nv with failCause := cause, failTime := time32 m, failWrap := BitVec.ofNat 8 (wrapNo m) }
    net := { m.net with ports := tmap m.net.ports (fun _ p => { p with up := false, giga := false, queue := [] }) }
    tri := { m.tri with t1 := false, t2 := false }
    can := { m.can with ports := tmap m.can.ports (fun _ p => { p with st := .off }) }
    pnl := panelOff m.pnl }

/-- A MODULE restart: FAIL with cause RESTART, and the cause of the start that follows (R294, R307, R501). -/
def restartModule_ (m : Mod) (next : StartCause) : Mod :=
  let m := enterFail m .restart
  { m with pwr := { m.pwr with nextCause := next } }

/-- A task becomes HALTED (R83): its instance commits nothing and its ride-through window starts (R301). -/
def haltTask (m : Mod) (k : Nat) : Mod :=
  match taskAt m k with
  | none => m
  | some t => stopInstant (unrun (setTask m k (dropInst t .halted)) k) k

/-- Entry to HOLD from RUN or QUIET (R299): an idle task stops here; one in progress runs on; from QUIET
tier 1 of the recorder goes on (R304). -/
def enterHold (m : Mod) : Mod :=
  let m := { m with pwr := { m.pwr with
    st := .hold, holdAt := some m.clk, rideExpired := false, events := setBit32 m.pwr.events 1 } }
  startTier (m.pge.tasks.foldl (fun m e => if e.2.st = .idle then stopInstant m e.1 else m) m) 1

/-- A SERVICE restart begins (R16, R294, R397): the service pairs stop, operations whose final step has
not been taken complete with SERVICE_RESTART, and the jack-in-the-box timer is held. -/
def beginServiceRestart (m : Mod) : Mod :=
  let lost := m.hif.flights.filter (fun f => !f.finished && !f.started)
  let m := lost.foldl (fun m f =>
    { m with hif := { m.hif with
        flights := m.hif.flights.map (fun g =>
          if g.ring == f.ring && g.index == f.index && !g.finished then { g with finished := true } else g)
        compl := m.hif.compl ++ [{ cring := f.cring, tag := f.tag, status := .serviceRestart,
                                   ring := f.ring, index := f.index }] } }) m
  let m := m.lpe.waiting.foldl (fun m w => releasePermit (post m w.2.1 .serviceRestart) w.1) m
  { m with
    lpe := { m.lpe with waiting := [] }
    adm := { m.adm with waiting := m.adm.waiting.filter (fun p => p.who != whoLoops) }
    pwr := { m.pwr with svcStopped := true, svcRestart := some m.clk }
    flt := { m.flt with jib := m.flt.jib.map (fun j => (j.1 - (m.clk - j.2), m.clk)) }
    lks := { m.lks with pairs := tmap m.lks.pairs (fun p v => if p = 6 || p = 7 then { v with st := .selftest } else v) } }

/-- A PROGRAM restart begins: HOLD, and the application pairs restart once the tasks have stopped (R299); in a start
they pass through SELFTEST once more. -/
def beginProgramRestart (m : Mod) : Mod :=
  if m.pwr.starting then (if m.pwr.startStep ≥ 4 then stopPairs m .selftest else m)
  else
  let m := if m.pwr.st = .run || m.pwr.st = .quiet then enterHold m else m
  { m with pwr := { m.pwr with program := true, cmd := none } }

/-! ### The fault collector (R388 to R401) -/

/-- An F2 fault is contained at once (R396): all but a service pair's mismatch and the triad's two. -/
def containedAtOnce (f : FaultInfo) : Bool :=
  if f.src = 0x02 then f.addr < 6 else f.src != 0x12

/-- The capture a fault opens (R391, R393). -/
def openCapture (m : Mod) (f : FaultInfo) : Capture :=
  { addr := f.addr, master := f.master, access := f.access, actClass := f.actClass,
    time := time32 m, wrapTag := BitVec.ofNat 8 (wrapNo m), src := f.src, cls := f.cls, level := f.cls, detail := f.detail }

/-- A fault merged into a capture (R394). -/
def mergeInto (c : Capture) (cls : Nat) : Capture :=
  { c with mergeCount := min (c.mergeCount + 1) 65535, merged := setBit8 c.merged cls true, level := max c.level cls }

/-- The collector takes a fault (R390, R393 to R395): count, active bit, event, and the capture opened or
the fault merged; an F2 awaits acknowledgement and may start the jack-in-the-box timer. No reaction yet. -/
def collect (m : Mod) (f : FaultInfo) : Mod :=
  let held := m.nv.capture.isSome
  let opens := !held && f.cls ≥ 2
  let cap := match m.nv.capture with
    | some c => some (mergeInto c f.cls)
    | none => if opens then some (openCapture m f) else none
  let starts := f.cls = 2 && m.flt.awaiting.isEmpty && !m.flt.f3
  let v := m.flt
  let m := { m with
    nv := { m.nv with capture := cap.map (fun c => { c with acked := m.flt.awaiting.isEmpty && f.cls != 2 }) }
    flt := { v with
      counts := lmod v.counts f.cls satInc16
      active := v.active ||| BitVec.ofNat 64 (2 ^ f.src)
      raised := if v.raised.contains (f.src, f.addr) then v.raised else v.raised ++ [(f.src, f.addr)]
      awaiting := if f.cls = 2 then v.awaiting ++ [{ src := f.src, addr := f.addr, contained := containedAtOnce f }]
                  else v.awaiting
      jib := if starts then some (ms v.jibMs, m.clk) else v.jib } }
  event m 5 f.cls
    (BitVec.ofNat 32 (f.src + 256 * b2n held + 512 * b2n opens + 65536 * (f.addr % 65536))) 0 0

/-- The F3 reaction (R398): F3_TAKEN, outputs safe, switches open, pairs stopped, instances aborted,
the flush of buffered tiers begun, ALIVE stopped. A reaction already taken is not taken again (R394). -/
def f3Reaction (m : Mod) : Mod :=
  if m.flt.f3 then m
  else
    let m := { m with
      flt := { m.flt with f3 := true, events := setBit32 m.flt.events 3, jib := none }
      nv := { m.nv with capture := m.nv.capture.map (fun c => { c with f3Taken := true, level := 3 }) } }
    let m := abortAll (openAll (allSafe m))
    stopAlive (faultFlush (stopPairs m .down))

/-- The fault record of a source with its object. -/
def faultOf (src cls addr : Nat) (master : BitVec 16 := 0) (access : Nat := 0) (act : Nat := 0xFF) (detail : W32 := 0) :
    FaultInfo :=
  { src := src, cls := cls, addr := addr, master := master, access := access, actClass := act, detail := detail }

/-- The inactive section of a region, and a region with it replaced (R424). -/
def Region.inactive (r : Region) : Section := if r.activeB then r.slotA else r.slotB
def Region.setInactive (r : Region) (s : Section) : Region :=
  if r.activeB then { r with slotA := s } else { r with slotB := s }

/-- Region `n` (1 CONTROL, 2 SERVICE, 3 PROGRAM) and the same replaced. -/
def regionOf (m : Mod) (n : Nat) : Region := (m.nv.regions[n - 1]?).getD {}
def setRegion (m : Mod) (n : Nat) (r : Region) : Mod :=
  { m with nv := { m.nv with regions := lset m.nv.regions (n - 1) r } }

/-- A region's restart (R423): CONTROL by a MODULE restart, SERVICE by a SERVICE restart, PROGRAM by a
PROGRAM restart; in a triad always by a MODULE restart. -/
def regionRestart (m : Mod) (n : Nat) (cause : StartCause) : Mod :=
  if m.tri.seat != 0 || n = 1 then restartModule_ m cause
  else if n = 2 then beginServiceRestart m
  else beginProgramRestart m

/-- A region's restart is complete and it runs its new section: ACTIVATING becomes TRIAL (R428, R435, R436). At the first
start of a CONTROL or SERVICE section with a higher CONFIG_FORMAT the configuration store is migrated, and the old copy
kept (R439, log 98). -/
def beginTrial (m : Mod) (n : Nat) : Mod :=
  let r := regionOf m n
  if r.st != .activating then m
  else
    let h := r.inactive.header
    let m := setRegion m n { r with st := .trial, trial := true, version := w32 h 8, compat := u16 h 16, ran := 0, ranBase := m.pwr.ranNs,
                                    confirmMin := m.upd.confirmMin }
    if n != 3 && m.nv.configFormat < u16 h 28 then
      { m with nv := { m.nv with
          oldStore := if m.nv.oldStore.isSome then m.nv.oldStore else some (m.nv.configFormat, m.nv.store), configFormat := u16 h 28 } }
    else m

/-- What a fall-back does to a region (R437): TRIAL cleared, the section REJECTED, the kept configuration copy current
again, FELL_BACK and an F1 fault. -/
def fallBackState (m : Mod) (n : Nat) : Mod :=
  let r := regionOf m n
  let r := (r.setInactive { r.inactive with rejected := true })
  let r := { r with trial := false, st := .idle, version := r.activeVersion, compat := r.activeCompat,
                    rejectedPkg := u32 r.inactive.header 44 |> BitVec.ofNat 32 }
  let m := setRegion m n r
  let nv := match m.nv.oldStore with
    | some (fmt, es) => if n = 3 then m.nv else { m.nv with store := es, configFormat := fmt, oldStore := none }
    | none => m.nv
  let m := { m with nv := nv, upd := { m.upd with events := setBit32 m.upd.events 2, triad := none } }
  collect m (faultOf 0x24 1 n (0x0C00))

/-- A region falls back (R437), and restarts on its ACTIVE section. -/
def fallBack (m : Mod) (n : Nat) : Mod := regionRestart (fallBackState m n) n .fallBack

/-- Every region in TRIAL falls back on an event of R436; a MODULE restart is every region's. -/
def fallBackAll (m : Mod) : Mod :=
  let ns := if m.pwr.st = .fail then [] else [3, 2, 1].filter (fun n => (regionOf m n).st = .trial)
  ns.foldl (fun m n => if m.pwr.st = .fail then m else regionRestart m n .fallBack) (ns.foldl fallBackState m)

/-- A fault is reported (R390): collected, the F3 reaction taken at once for an F3 (R388, R394), and a
capture opened at LEVEL 2 or 3 ends every trial (R436, R437). -/
def reportFault (m : Mod) (f : FaultInfo) : Mod :=
  let opens := m.nv.capture.isNone && f.cls ≥ 2
  let m := collect m f
  let m := if f.cls = 3 then f3Reaction m else m
  if opens then fallBackAll m else m

/-- What is left of the jack-in-the-box timer, in ns; it is held during a SERVICE restart (R397). -/
def jibLeft (m : Mod) : Option Nat :=
  m.flt.jib.map (fun j => if m.pwr.svcRestart.isSome then j.1 else j.1 - (m.clk - j.2))

/-- LEVEL becomes 3 by escalation (R395, R397): ESCALATED and the F3 reaction. -/
def escalate (m : Mod) (byTimer : Bool) : Mod :=
  let m := { m with
    flt := { m.flt with jib := none, events := orBit m.flt.events byTimer 0 }
    nv := { m.nv with capture := m.nv.capture.map (fun c => { c with level := 3, escalated := c.escalated || byTimer }) } }
  f3Reaction m

/-- A fault of a channel's diagnostic (R182, R389): sensed by the field sequencer; DETAIL is the status bit. -/
def chanFault (m : Mod) (c cls bit : Nat) : Mod :=
  reportFault m (faultOf 0x0D cls c 0x0300 6 (if (chanOf m c).rcd.safetyMember then 0 else 1) (BitVec.ofNat 32 bit))

end Sys2Proof.Machine
end

