-- ==== Sys2Proof/Machine/Degraded.lean ====
section
/-! DEFINITION. The causes of degraded mode (R227 to R229). -/

namespace Sys2Proof.Machine

/-! ### Degraded mode (R227, R228) -/

/-- The record of a cause, and the same replaced. -/
def degOf (m : Mod) (c : DegCause) : Deg :=
  match c with
  | .net => m.saf.degNet
  | .pair => m.saf.degPair
  | .seat => m.saf.degSeat
def setDeg (m : Mod) (c : DegCause) (d : Deg) : Mod :=
  match c with
  | .net => { m with saf := { m.saf with degNet := d } }
  | .pair => { m with saf := { m.saf with degPair := d } }
  | .seat => { m with saf := { m.saf with degSeat := d } }

/-- The place of a cause in the saved remainders (R229). -/
def degIx (c : DegCause) : Nat :=
  match c with
  | .net => 0 | .pair => 1 | .seat => 2

/-- The ports of SAF_NET: A and B, 0 for none (R231). -/
def aPort (m : Mod) : Nat := fld m.saf.net 3 0
def bPort (m : Mod) : Nat := fld m.saf.net 7 4

/-- A port has link for the safety networks: at 1 Gbit/s (R341). -/
def portLinked (m : Mod) (p : Nat) : Bool :=
  match tget m.net.ports p with
  | some e => e.up && e.giga
  | none => false

/-- A task of class C0 runs on a pair other than its own (R227, R262). -/
def Task.migratedC0 (t : Task) : Bool := t.rcd.cls == 0 && t.pair != t.home

/-- Something stands for a cause (R227). -/
def degStands (m : Mod) (c : DegCause) : Bool :=
  match c with
  | .net => (aPort m != 0 && !portLinked m (aPort m)) || (bPort m != 0 && !portLinked m (bPort m)) || !m.saf.netLost.isEmpty
  | .pair => m.pge.tasks.any (fun e => e.2.migratedC0)
  | .seat => m.tri.mode == 1 || m.tri.mode == 2

/-- The time allowed at a cause's first occurrence, in ns (R227), or the saved remainder (R229). -/
def degAllowance (m : Mod) (c : DegCause) : Nat :=
  if (m.nv.degSaved[degIx c]?).getD false then (m.nv.degLeft[degIx c]?).getD 0 else sec (60 * m.saf.limitMin)

/-- A cause follows what stands for it (R227): its first occurrence starts the timer and raises an F1; when
nothing stands the 10 s begin. -/
def degUpdate (m : Mod) (c : DegCause) : Mod :=
  let d := degOf m c
  if degStands m c then
    if d.active then
      match d.clearSince with
      | some x => setDeg m c { d with clearSince := none, left := d.left - (x - d.since), since := m.clk }
      | none => m
    else
      let m := setDeg m c { active := true, expired := false, since := m.clk, left := degAllowance m c, clearSince := none }
      let m := { m with saf := { m.saf with events := setBit32 m.saf.events 2 } }
      reportFault m (faultOf 0x11 1 0 0x0600 5 0)
  else if d.active && d.clearSince.isNone then setDeg m c { d with clearSince := some m.clk }
  else m

/-- LKS_MIGRATED, and the PAIR cause with it (R227, R264). -/
def settleMigrated (m : Mod) : Mod :=
  let bits := m.pge.tasks.foldl (fun v e => if e.2.migratedC0 then setBit32 v e.2.home else v) (0 : W32)
  degUpdate { m with lks := { m.lks with migrated := bits } } .pair

end Sys2Proof.Machine
end

