-- ==== Sys2Proof/Machine/Crc.lean ====
section
/-! DEFINITION. CRC-32C, as the records of the manual carry it (R92, R158, R202, R391, R409, R425, R476). -/

namespace Sys2Proof.Machine

/-- Eight shifts of the reflected CRC-32C register. -/
def crcShift (n : Nat) (c : Nat) : Nat :=
  match n with
  | 0 => c
  | k + 1 => crcShift k (if c % 2 = 1 then Nat.xor (c / 2) 0x82F63B78 else c / 2)

/-- The register over bytes. -/
def crcRun (bs : List Byte) (c : Nat) : Nat :=
  match bs with
  | [] => c
  | b :: r => crcRun r (crcShift 8 (Nat.xor c b.toNat))

/-- CRC-32C: initial value and final inversion all ones. -/
def crc32c (bs : List Byte) : W32 := BitVec.ofNat 32 (Nat.xor (crcRun bs 0xFFFFFFFF) 0xFFFFFFFF)

/-- A record whose last four bytes are the CRC-32C of those before it. -/
def sealed (bs : List Byte) : List Byte := bs ++ bytes32 (crc32c bs)

/-- The CRC field at offset `o` is right: CRC-32C over the first `n` bytes with the field as zero. -/
def crcOkAt (bs : List Byte) (n o : Nat) : Bool := w32 bs o == crc32c (patch (bs.take n) o (leBytes 4 0))

end Sys2Proof.Machine
end

