-- ==== Sys2Proof/Machine/Drive.lean ====
section
/-! DEFINITION. What an output channel drives (R60, R171, R172, R184, R195, R196, R220, R296, R302): its
demand, the off value of its unit, its safe value or nothing. -/

namespace Sys2Proof.Machine

/-- The unit that an owner of signals names in its own table: a loop, a plan or a task (R58, R60). -/
def ownerUnit (m : Mod) (kind id : Nat) : W32 :=
  match kind with
  | 2 => match tget m.lpe.loops id with | some l => l.rcd.unit | none => 0
  | 3 => match tget m.pln.plans id with | some p => p.unit | none => 0
  | 4 => match taskAt m id with | some t => t.rcd.unit | none => 0
  | _ => 0

/-- The loop that names a channel as OUT_CH or OUT2_CH (R117). -/
def loopOn (m : Mod) (n : Nat) : Option Loop :=
  (m.lpe.loops.find? (fun e => e.2.rcd.outCh == n || e.2.rcd.out2Ch == n)).map Prod.snd

/-- The mode of the unit that an output channel follows (R60): of the owner of its DEMAND, or of its loop; a
unit's mode never drives a safety output member. -/
def chanMode (m : Mod) (n : Nat) (c : Chan) : Option Mode :=
  if c.rcd.safetyMember then none
  else if c.rcd.demand != 0 then
    (sigAt m (hIdx c.rcd.demand)).bind (fun r => modeOf m (ownerUnit m r.ownKind r.ownId))
  else (loopOn m n).bind (fun l => modeOf m l.rcd.unit)

/-- A loop with a null unit holds reaction SAFE, so that its direct channels drive their safe values (R134). -/
def loopHoldsSafe (m : Mod) (n : Nat) : Bool :=
  match loopOn m n with
  | some l => l.rcd.unit == 0 && l.reaction == some 3
  | none => false

/-- The channel's owner has written it since the module start (R296). -/
def firstSeen (m : Mod) (c : Chan) : Bool :=
  c.direct.isSome || (c.rcd.demand != 0 && (match sigAt m (hIdx c.rcd.demand) with | some r => r.writes > 0 | none => false))

/-- A condition of R184, R296 or R302 stands for an output channel; in a triad, the seat does not vote, or the seats
differ on the output (R274, R280). -/
def safeStands (m : Mod) (n : Nat) (c : Chan) : Bool :=
  m.flt.f3 || m.pwr.st == .fail || m.sec.debug == .full || bitOf c.status.toNat 5 ||
  (m.tri.seat != 0 && m.tri.st != .inStep) || m.tri.diverged.contains n ||
  (!c.rcd.safetyMember &&
    (chanMode m n c == some .safe || c.staleDem || loopHoldsSafe m n || (!c.isSource && !c.written)))

/-- The off value of a DO (R60): its loop's OFF_VALUE, or off. -/
def offOn (m : Mod) (n : Nat) (c : Chan) : Bool :=
  c.rcd.demand == 0 && (match loopOn m n with | some l => lt32 0x3F000000 l.rcd.offValue | none => false)

/-- A safety function names the channel as OUT_CH (R220). -/
def isFuncOut (m : Mod) (n : Nat) : Bool := m.saf.funcs.any (fun e => e.2.outCh.contains n)

/-- What a DO, PWM or TEST_SOURCE channel drives with no condition of R184: a TEST_SOURCE ON (R171), a safety
output its evaluator's command while its switch is closed, which by itself turns no output on (R220), the off value in OFF (R60), a PWM channel
what its period drives (R172), a DO its demand (R171). -/
def wantOn (m : Mod) (n : Nat) (c : Chan) : Bool :=
  if c.isSource then true
  else if c.rcd.safetyMember then c.demand && bitOf m.fio.closed.toNat (n / 32) && (!c.needEnable || !isFuncOut m n)
  else if c.inOff then offOn m n c
  else if c.offSeen.isSome then false
  else if c.rcd.function = 4 then c.driver
  else c.demand

/-- The current of a value in scaled units (R195). -/
def toMa (r : ChanRec) (v : F32) : F32 :=
  clamp32 (add32 0x40800000 (div32 (mul32 0x41800000 (sub32 v r.scaleLo)) (sub32 r.scaleHi r.scaleLo))) r.aoMin r.aoMax

/-- The current an AO sets with no condition of R184: AO_MIN_MA or the loop's OFF_VALUE in OFF (R60), else its
latest accepted demand (R195). -/
def wantMa (m : Mod) (n : Nat) (c : Chan) : F32 :=
  if c.inOff then
    (if c.rcd.demand = 0 then (match loopOn m n with | some l => toMa c.rcd l.rcd.offValue | none => c.rcd.aoMin)
     else c.rcd.aoMin)
  else if c.offSeen.isSome then c.rcd.aoMin
  else match c.demMa with
    | some i => i
    | none => c.setMa

/-- The channel notes whether its unit is OFF, and on leaving OFF how often its owner has written (R60). -/
def noteOff (m : Mod) (n : Nat) (c : Chan) : Chan :=
  if chanMode m n c == some .off then { c with inOff := true, offSeen := none }
  else if c.inOff then
    { c with inOff := false
             offSeen := if c.rcd.demand = 0 then none
                        else (sigAt m (hIdx c.rcd.demand)).map SigRec.writes }
  else c

/-- The driver of a digital output takes a state: a change restarts the 30 µs of R173 and R180 and ends
NOT_ACHIEVED; switching off arms the check of R180 again (R183). -/
def Chan.switchTo (c : Chan) (on : Bool) (clk : Nat) : Chan :=
  if c.driver = on then c
  else { c with driver := on, switchedAt := clk, armed := c.armed || !on, status := c.status &&& ~~~0x00000100#32, naSince := none }

/-- A channel drives what it has to drive now; a demand wins over a test pulse, whose test is discarded and
rescheduled (R179), and under a condition of R184 pulses go on only where the output is ON. -/
def drive (m : Mod) (n : Nat) : Mod :=
  let c := noteOff m n (chanOf m n)
  let c := { c with written := c.written || firstSeen m c }
  let safe := safeStands m n c
  let c := if safe then c.safeEntry else { c with safeDriving := false }
  if c.isAo then
    let i : F32 := if bitOf c.status.toNat 10 then 0x40600000 else if safe then c.safeMa_ else wantMa m n c
    setChan m n (if i = c.setMa then c else { c with setMa := i, setAt := m.clk })
  else if c.isDo || c.isSource then
    let on := !c.blocked && (if safe then c.safeOn else wantOn m n c)
    if on != c.driver && c.pulse.isSome then
      let m := setChan m n { c.switchTo on m.clk with pulse := none, retest := true }
      { m with fio := { m.fio with discards := satInc m.fio.discards } }
    else setChan m n { c.switchTo on m.clk with pulse := if safe && !on then none else c.pulse }
  else m

/-- Every output channel drives what it has to drive now. -/
def driveAll (m : Mod) : Mod :=
  m.fio.chans.foldl (fun m e => if e.2.isDo || e.2.isSource || e.2.isAo then drive m e.1 else m) m

/-- A command for an output channel takes effect (R117, R171, R172, R195, R220): above 0.5 or TRUE is ON; an AO
ignores one that is BAD or not finite. -/
def takeCommand (m : Mod) (n : Nat) (v : Val) (q : Qual) : Mod :=
  let c := chanOf m n
  let x := valReal v
  let w : View := { val := v, qual := q, time := time32 m, wrap := wrap16 m }
  let loop := !c.rcd.safetyMember && c.rcd.demand = 0 && (loopOn m n).isSome
  drive (setChan m n { c with
    direct := if loop || (m.tri.mode != 0 && c.rcd.function = 4) then some w else c.direct
    refBy := c.refBy || loop
    demand := if loop then lt32 0x3F000000 x else v.toNat % 2 == 1
    demMa := if c.isAo && !isBad q && finite32 x then some (toMa c.rcd x) else c.demMa }) n

/-- An output is commanded: in a formed triad the command waits to be compared, the last of a round in place of any
earlier one (R268, R270, R274). -/
def command (m : Mod) (n : Nat) (v : Val) (q : Qual) : Mod :=
  if m.tri.mode = 0 then takeCommand m n v q
  else
    { m with tri := { m.tri with cmds := m.tri.cmds.filter (fun o => o.out != n) ++ [{ out := n, val := v, qual := q }] } }

/-- An output takes its loop's output (R117). -/
def driveFrom (m : Mod) (n : Nat) (w : View) : Mod := command m n w.val w.qual

/-- A channel reads its DEMAND (R171, R195): UPDATE_US and WD_100US of a new record take effect (R166, R191); a
STALE demand drives SAFE_VAL (R302); the owner's next write ends the hold of R60. -/
def readDemand (m : Mod) (n : Nat) : Mod :=
  let c := chanOf m n
  let rcd := match c.shadow with
    | some h => { c.rcd with updateUs := h.updateUs, wd100 := h.wd100, aoMin := h.aoMin, aoMax := h.aoMax, safeMa := h.safeMa }
    | none => c.rcd
  match (if c.rcd.demand = 0 then none else sigAt m (hIdx c.rcd.demand)) with
  | none => setChan m n { c with rcd := rcd }
  | some r =>
    let w := r.view
    let m := setChan m n { c with
      rcd := rcd
      staleDem := r.stale && !r.forced
      offSeen := match c.offSeen with | some k => if k < r.writes then none else some k | none => none }
    drive (command m n w.val w.qual) n

end Sys2Proof.Machine
end

