-- ==== Sys2Proof/Machine/Units.lean ====
section
/-! DEFINITION. The unit tree (R56 to R67): modes, interlocks, mode commands and their order, and the
roll-up of state words. -/

namespace Sys2Proof.Machine

/-! ### The tree -/

/-- The number of defined units besides unit 0, which bounds every walk of the tree. -/
def unitFuel (m : Mod) : Nat := m.sig.units.length + 1

/-- A unit replaced. -/
def setUnit (m : Mod) (i : Nat) (u : Unit) : Mod :=
  if i = 0 then { m with sig := { m.sig with unit0 := u } }
  else { m with sig := { m.sig with units := tset m.sig.units i u } }

/-- The unit and its ancestors, the unit first. -/
def chainUp (m : Mod) (fuel i : Nat) : List Nat :=
  match fuel with
  | 0 => [i]
  | k + 1 => if i = 0 then [0] else
    match unitAt m i with
    | none => [i]
    | some u => i :: chainUp m k u.parent

/-- The unit and its ancestors (R61, R62). -/
def lineage (m : Mod) (i : Nat) : List Nat := chainUp m (unitFuel m) i

/-- The children of a unit, in rising order of index. -/
def childrenOf (m : Mod) (i : Nat) : List Nat :=
  (m.sig.units.filter (fun e => e.2.parent = i)).map Prod.fst

/-- The unit and its descendants, parents before children (R63). -/
def treeDown (m : Mod) (fuel i : Nat) : List Nat :=
  match fuel with
  | 0 => [i]
  | k + 1 => i :: (childrenOf m i).flatMap (treeDown m k)

/-- The subtree of a unit (R63). -/
def subtree (m : Mod) (i : Nat) : List Nat := treeDown m (unitFuel m) i

/-- One unit lies in the other's subtree. -/
def overlap (m : Mod) (a b : Nat) : Bool := (lineage m a).contains b || (lineage m b).contains a

/-! ### Interlocks and SAFE causes (R61, R62) -/

/-- An interlock of the unit itself is active (R62). -/
def ilkHere (m : Mod) (i : Nat) : Bool :=
  match unitAt m i with
  | none => false
  | some u => u.ilk.any (fun h => h != 0 && activeSig (viewOf m h))

/-- An interlock of the unit or of an ancestor is active (R61, R66 ILK_OWN). -/
def ilkOwn (m : Mod) (i : Nat) : Bool := (lineage m i).any (ilkHere m)

/-- The loop is a SAFE cause of its unit: it holds reaction SAFE while a condition stands (R61, R134, log 21). -/
def Loop.safeCause (l : Loop) : Bool := l.reaction == some 3 && (l.lost || l.implausible || l.frozen)

/-- The function is a SAFE cause of its unit (R215): in STOPPING, TRIPPED or FAULT; a TWO_HAND only in FAULT. -/
def Func.safeCause (f : Func) : Bool :=
  f.st == .fault || (f.kind != 4 && (f.st == .stopping || f.st == .tripped))

/-- A SAFE cause stands for the unit itself (R61). -/
def causeHere (m : Mod) (i : Nat) : Bool :=
  m.lpe.loops.any (fun e => e.2.rcd.unit != 0 && uIdx e.2.rcd.unit == i && e.2.safeCause) ||
  m.saf.funcs.any (fun e => e.2.unit != 0 && uIdx e.2.unit == i && e.2.safeCause)

/-- A SAFE cause is active on the unit: it stands for the unit or an ancestor (R61). -/
def causeActive (m : Mod) (i : Nat) : Bool := (lineage m i).any (causeHere m)

/-! ### Modes (R59, R61) -/

/-- The number of a mode (R59). -/
def modeNo : Mode → Nat
  | .off => 0 | .manual => 1 | .auto => 2 | .hold => 3 | .safe => 4

/-- The mode with a number. -/
def modeOfNo (n : Nat) : Option Mode :=
  match n with
  | 0 => some .off | 1 => some .manual | 2 => some .auto | 3 => some .hold | 4 => some .safe
  | _ => none

/-- How a unit judges a mode command (R61): the refusal, or none where it accepts. A command to the mode
already held is accepted. -/
def judgeMode (m : Mod) (i : Nat) (target : Mode) : Option Status :=
  match unitAt m i with
  | none => some .staleHandle
  | some u =>
    if u.mode = target then none
    else if target != .safe && !bitOf u.allowed.toNat (modeNo target) then some .refusedMode
    else if u.mode == .off && target == .hold then some .refusedMode
    else if u.mode == .safe && (target == .auto || target == .hold || causeActive m i) then some .refusedMode
    else if (target == .manual || target == .auto) && ilkOwn m i then some .interlocked
    else none

/-- How a unit judges RESUME (R61): a unit not in HOLD is left unchanged and not counted. -/
def judgeResume (m : Mod) (i : Nat) : Option Status := if ilkOwn m i then some .interlocked else none

/-- A unit takes a mode: MANUAL and AUTO are remembered at HOLD for RESUME, MODE_SIG follows (R57, R61), and its
output channels drive what the mode asks (R59, R60, R184). -/
def enterMode (m : Mod) (i : Nat) (target : Mode) : Mod :=
  match unitAt m i with
  | none => m
  | some u =>
    if u.mode = target then m
    else
      let prior := if target == .hold && (u.mode == .manual || u.mode == .auto) then u.mode else u.prior
      let m := setUnit m i { u with mode := target, prior := prior }
      driveAll (ownerWrite m u.modeSig (BitVec.ofNat 64 (modeNo target)) 0xC000)

/-- What a mode command did (R63). -/
structure CmdRes where
  accepted : Nat
  refused : Nat
  firstUnit : W32
  firstStatus : Status
  status : Status
deriving DecidableEq, Repr

/-- The result of a command from the units that accept and the refusals in order (R63, R326). -/
def cmdRes (m : Mod) (acc : Nat) (ref : List (Nat × Status)) : CmdRes :=
  match ref with
  | [] => { accepted := acc, refused := 0, firstUnit := 0, firstStatus := .ok, status := .ok }
  | (i, st) :: _ =>
    let g := match unitAt m i with | some u => u.gen | none => 0
    { accepted := acc, refused := ref.length, firstUnit := unitHandle i g, firstStatus := st,
      status := if acc = 0 then st else .partly }

/-- A mode command carried out over its subtree (R61, R63): `mode` none is RESUME. -/
def walk (m : Mod) (c : WalkCmd) : Mod × CmdRes :=
  let tree := subtree m c.unit
  let tree := match c.mode with
    | some _ => tree
    | none => tree.filter (fun i => match unitAt m i with | some u => u.mode == Mode.hold | none => false)
  let judge : Nat → Option Status := fun i =>
    match c.mode with
    | some md => judgeMode m i md
    | none => judgeResume m i
  let ref := tree.filterMap (fun i => (judge i).map (fun st => (i, st)))
  let ok := tree.filter (fun i => (judge i).isNone)
  let none_ := c.aon && !ref.isEmpty
  let res := cmdRes m (if none_ then 0 else ok.length) ref
  let m1 := if none_ then m else ok.foldl (fun m i =>
    match c.mode with
    | some md => enterMode m i md
    | none => match unitAt m i with | some u => enterMode m i u.prior | none => m) m
  (if ref.isEmpty then m1 else sigRefused m1 3, res)

/-- The completion of a mode command (R320, R321): RESUME returns no results. -/
def walkDone (m : Mod) (c : WalkCmd) (r : CmdRes) : Mod :=
  postOpt m c.req r.status
    (if c.mode.isNone then {}
     else { r0 := BitVec.ofNat 32 r.accepted, r1 := BitVec.ofNat 32 r.refused, r2 := r.firstUnit,
            r64 := BitVec.ofNat 64 r.firstStatus.code })

/-- A mode command starts: it is carried out and completed, and its subtree is the walker's until it ends
(R64, R65). -/
def startWalk (m : Mod) (c : WalkCmd) : Mod :=
  let (m, r) := walk m c
  walkDone { m with sig := { m.sig with walking := m.sig.walking ++ [c] } } c r

/-- The subtree of a command is being commanded (R64). -/
def walkBusy (m : Mod) (c : WalkCmd) : Bool := m.sig.walking.any (fun w => overlap m w.unit c.unit)

/-- Where a waiting command stands (R64): C1 before C2, arrival order within a class. -/
def enqueueWalk (q : List WalkCmd) (c : WalkCmd) : List WalkCmd :=
  if c.c1 then q.takeWhile WalkCmd.c1 ++ [c] ++ q.dropWhile WalkCmd.c1 else q ++ [c]

/-- A mode command arrives (R64): it starts, or waits for its subtree. -/
def commandUnit (m : Mod) (c : WalkCmd) : Mod :=
  if walkBusy m c then startOpt { m with sig := { m.sig with walkQ := enqueueWalk m.sig.walkQ c } } c.req
  else startWalk m c

/-- The command to SAFE of a SAFE cause runs ahead of every waiting command (R61, R64). -/
def commandSafe (m : Mod) (h : W32) : Mod :=
  if h = 0 then m
  else
    let c : WalkCmd := { unit := uIdx h, mode := some .safe, aon := false, c1 := true, req := none }
    if walkBusy m c then { m with sig := { m.sig with walkQ := c :: m.sig.walkQ } } else startWalk m c

/-- The earliest walking command ends, and the first waiting command whose subtree is free starts (R64). -/
def nextWalk (m : Mod) : Mod :=
  let m := { m with sig := { m.sig with walking := m.sig.walking.drop 1 } }
  match m.sig.walkQ.find? (fun c => !walkBusy m c) with
  | none => m
  | some c => startWalk { m with sig := { m.sig with walkQ := m.sig.walkQ.erase c } } c

/-- An active interlock sends the MANUAL and AUTO units at and below its unit to HOLD (R62). -/
def interlockHold (m : Mod) (i : Nat) : Mod :=
  if ilkHere m i then
    (subtree m i).foldl (fun m j =>
      match unitAt m j with
      | none => m
      | some u => if u.mode == .manual || u.mode == .auto then enterMode m j .hold else m) m
  else m

/-! ### Roll-up (R65 to R67) -/

/-- The rank of a mode from worst to best (R67). -/
def modeRank : Mode → Nat
  | .safe => 0 | .off => 1 | .hold => 2 | .manual => 3 | .auto => 4

/-- The worse of two modes (R67). -/
def worstMode (a b : Mode) : Mode := if modeRank a ≤ modeRank b then a else b

/-- The member signals of a list of units, with their records. -/
def membersOf (m : Mod) (us : List Nat) : List (Nat × Member) := m.sig.members.filter (fun e => us.contains e.2.unit)

/-- The highest active alarm level in a subtree (R66). -/
def alarmOf (m : Mod) (us : List Nat) : Nat :=
  (membersOf m us).foldl (fun a e =>
    match sigAt m e.1 with
    | some r => if e.2.alarmSource && activeSig r.view then max a e.2.level else a
    | none => a) 0

/-- The handle of the first active alarm source of a level in a subtree, or null (R330). -/
def alarmSourceOf (m : Mod) (us : List Nat) (level : Nat) : W32 :=
  match (membersOf m us).find? (fun e => e.2.alarmSource && e.2.level == level &&
      (match sigAt m e.1 with | some r => activeSig r.view | none => false)) with
  | some e => (match sigAt m e.1 with | some r => sigHandle e.1 r.gen | none => 0)
  | none => 0

/-- The composite state word of a unit (R66). -/
def stateWord (m : Mod) (i : Nat) : W32 :=
  match unitAt m i with
  | none => 0
  | some u =>
    let us := subtree m i
    let modes := us.filterMap (fun j => (unitAt m j).map Unit.mode)
    let mem := (membersOf m us).filterMap (fun e => sigAt m e.1)
    let mism := (us.filter (fun j => j != i && (match unitAt m j with | some v => v.mode != u.mode | none => false))).length
    let q := mem.foldl (fun a r => if major r.view.qual < a then major r.view.qual else a) 3
    BitVec.ofNat 32 (modeNo (modes.foldl worstMode u.mode) + 8 * modeNo u.mode + 64 * alarmOf m us
      + 256 * b2n (ilkOwn m i) + 512 * b2n (us.any (ilkHere m)) + 1024 * q
      + 4096 * b2n (mem.any SigRec.forced) + 65536 * min mism 65535)

/-- The event UNIT_STATE of a unit (R330). -/
def unitStateEvent (m : Mod) (i : Nat) (u : Unit) (word : W32) (replay : Bool) : Event :=
  { kind := 1, replay := replay, time := time32 m, wrap := wrap16 m, subject := unitHandle i u.gen,
    arg := word.zeroExtend 64, code := u.nameTag }

/-- A change rolls up into one unit: its alarm level and state word, their signals and events (R57, R66, R330). -/
def rollOne (m : Mod) (i : Nat) : Mod :=
  match unitAt m i with
  | none => m
  | some u =>
    let us := subtree m i
    let a := alarmOf m us
    let w := stateWord m i
    let m := setUnit m i { u with alarm := a, word := w }
    let m := if a = u.alarm then m else
      leadEvent (ownerWrite m u.alarmSig (BitVec.ofNat 64 a) 0xC000) 2 a (unitHandle i u.gen)
        ((alarmSourceOf m us a).zeroExtend 64) u.nameTag
    if w = u.word then m else
      let m := ownerWrite m u.stateSig (w.zeroExtend 64) 0xC000
      if speaks m then postEvent m (unitStateEvent m i u w false) else m

/-- A change of a unit rolls up into it and its ancestors (R65). -/
def rollUp (m : Mod) (i : Nat) : Mod := (lineage m i).foldl rollOne m

/-! ### The commands -/

/-- The unit a handle of a descriptor names; the descriptor is refused where it is not current (R45). -/
def onUnit (m : Mod) (q : Req) (h : W32) (f : Nat → Mod) : Mod :=
  match judgeUnit m h with
  | .error e => refuse m q e
  | .ok i => f i

/-- The ring's class is C1 (R64, R313). -/
def c1Ring (m : Mod) (q : Req) : Bool := 1 ≤ q.ring && q.ring ≤ 15 && (ringOf m q.ring).cls == 1

/-! ### Descriptor operations -/

/-- An earlier descriptor of the same ring has not completed and this one asked for a FENCE (R318). -/
def fenced (m : Mod) (q : Req) : Bool :=
  match m.hif.flights.find? (fun f => f.ring == q.ring && f.index == q.index && !f.finished) with
  | none => false
  | some f => f.fence && (m.hif.flights.takeWhile (fun g => g != f)).any (fun g => g.ring == q.ring)

/-- The boot ROM serves no operations of this kind (R446, R449). -/
def bootHeld (m : Mod) : Bool := m.sec.bootFail.isSome || m.nv.lifecycle == .void

/-- The rings an operation is permitted on. -/
inductive RingUse where
  | admin | command | commandC2 | bulk
deriving DecidableEq, Repr

/-- The operations and their rings (R320 to R322, R360, R385, R419, R441, R464, R480). -/
def ringUse (op : Nat) : Option RingUse :=
  if 0x0001 ≤ op && op ≤ 0x000B || 0x0010 ≤ op && op ≤ 0x0014 then some .admin
  else if 0x0020 ≤ op && op ≤ 0x002C then some .command
  else if 0x0040 ≤ op && op ≤ 0x0045 || op = 0x0103 || op = 0x0180 then some .bulk
  else if 0x0100 ≤ op && op ≤ 0x0102 || 0x0181 ≤ op && op ≤ 0x0183 || 0x0200 ≤ op && op ≤ 0x0205
    || 0x0280 ≤ op && op ≤ 0x0283 || op = 0x0300 || op = 0x0303 || op = 0x0381 then some .admin
  else if op = 0x0284 || op = 0x0285 || op = 0x0301 || op = 0x0302 || op = 0x0380 || op = 0x0382 || op = 0x0383 then
    some .commandC2
  else none

/-- The operation is permitted on the ring (R318). -/
def permitted (m : Mod) (op ring : Nat) : Bool :=
  match ringUse op with
  | none => false
  | some .admin => ring == 0
  | some .command => 1 ≤ ring && ring ≤ 15
  | some .commandC2 => 1 ≤ ring && ring ≤ 15 && (ringOf m ring).cls == 2
  | some .bulk => 48 ≤ ring && ring ≤ 63

/-- A descriptor's CRING is 0 or names an ACTIVE completion ring (R318). -/
def cringOk (m : Mod) (q : Req) : Bool :=
  q.cring == 0 || (16 ≤ q.cring && q.cring ≤ 31 && (ringOf m q.cring).st == .active)

/-- A descriptor's operation can run: the module is powered and not in FAIL, the service pairs run, no
FENCE holds it, the module is not in boot recovery unless the operation is served there (`boot`), and its ring
and CRING are right (R16, R290, R318, R446). -/
def opReady (m : Mod) (op : Nat) (q : Req) (boot : Bool := false) : Bool :=
  m.pwr.st != .off && m.pwr.st != .fail && (!m.pwr.svcStopped || m.sec.bootFail.isSome) && !fenced m q &&
    (!bootHeld m || (boot && m.sec.bootFail.isSome)) && permitted m op q.ring && cringOk m q

/-- The next state of a descriptor's operation `op`. In OFF and FAIL there is no host (R305); while the
service pairs do not run it completes with SERVICE_RESTART (R328), in boot recovery with NOT_READY (R446),
with a bad CRING with BAD_FIELD and on a wrong ring with RING_CLASS (R318); a FENCE leaves it waiting. -/
def State.runOp (s : State) (t op : Nat) (q : Req) (f : Mod → Mod) (boot : Bool := false) :
    Host.Outcome State Fault Refusal :=
  s.run t (fun m =>
    if opReady m op q boot then f m
    else if m.pwr.st == .off || m.pwr.st == .fail || fenced m q then m
    else if m.pwr.svcStopped && m.sec.bootFail.isNone then post m q .serviceRestart
    else if !cringOk m q then post m { q with cring := 0 } .badField
    else if !permitted m op q.ring then post m q .ringClass
    else post m q .notReady)

/-- A seat of a formed triad other than the LEAD (R287). -/
def notLead (m : Mod) : Bool := m.tri.mode != 0 && m.tri.role != .lead

/-- The next state of a command, administration or configuration descriptor: as `State.runOp`, and a seat
that is not the LEAD refuses it with NOT_LEAD (R287). -/
def State.runCmd (s : State) (t op : Nat) (q : Req) (f : Mod → Mod) : Host.Outcome State Fault Refusal :=
  s.runOp t op q (fun m => if notLead m then post m q .notLead else f m)

/-- UNIT_CMD (R63, R321). -/
def execUnitCmd (t : Nat) (q : Req) (unit : W32) (mode : Nat) (aon : Bool) (s : State) :
    Host.Outcome State Fault Refusal :=
  s.runCmd t 0x0020 q (fun m => onUnit m q unit (fun i =>
    match modeOfNo mode with
    | none => refuse m q .badField
    | some md => commandUnit m { unit := i, mode := some md, aon := aon, c1 := c1Ring m q, req := some q }))

/-- UNIT_RESUME (R61, R321). -/
def execUnitResume (t : Nat) (q : Req) (unit : W32) (s : State) : Host.Outcome State Fault Refusal :=
  s.runCmd t 0x0021 q (fun m => onUnit m q unit (fun i =>
    commandUnit m { unit := i, mode := none, aon := false, c1 := c1Ring m q, req := some q }))

/-- WALKER_NEXT_COMMAND (R64). -/
def execWalkerNextCommand (t : Nat) (s : State) : Host.Outcome State Fault Refusal := s.runOn t nextWalk

/-- INTERLOCK_ACTIVE (R62). -/
def execInterlockActive (t unit : Nat) (s : State) : Host.Outcome State Fault Refusal :=
  s.runOn t (fun m => interlockHold m unit)

/-- UNIT_ROLL_UP (R65, R66). -/
def execUnitRollUp (t unit : Nat) (s : State) : Host.Outcome State Fault Refusal := s.runOn t (fun m => rollUp m unit)

end Sys2Proof.Machine
end

