-- ==== Sys2Proof/Machine/Signals.lean ====
section
/-! DEFINITION. Forces, host writes and reads of signals (R36 to R55, R321, R322), and the way a
register write with behaviour of its own reaches the module (R327, R502). -/

namespace Sys2Proof.Machine

/-- A register is not served: in boot recovery only GEN, SEC and HIF are (R446). -/
def regHeld (m : Mod) (off : Nat) : Bool := bootHeld m && !(off < 0x2000 || (0x13000 ≤ off && off < 0x14000))

/-- A register write with behaviour of its own: `off` its BAR0 offset, `v` the value written, `chg` whether it would
change or act. While SOFT_LOCK is 1 it is refused with LOCKED (R502). -/
def regGate (off : Nat) (v : W32) (chg : Mod → Bool) (f : Mod → Mod) (m : Mod) : Mod :=
  if regHeld m off then m
  else if m.gen.softLock then (if chg m then regRefuse m .locked off v else m)
  else f m

/-- The next state of a register write with behaviour of its own. -/
def State.runReg (s : State) (t off : Nat) (v : W32) (chg : Mod → Bool) (f : Mod → Mod) :
    Host.Outcome State Fault Refusal :=
  s.runOn t (regGate off v chg f)

/-- The next state of a write to W1C bits or to the fields SOFT_LOCK leaves open (R502). -/
def State.runW1c (s : State) (t off : Nat) (f : Mod → Mod) : Host.Outcome State Fault Refusal :=
  s.runOn t (fun m => if regHeld m off then m else f m)

/-! ### Forces (R51 to R55) -/

/-- The number of forced signals (R68 FORCE_COUNT). -/
def forceCount (m : Mod) : Nat := (m.sig.sigs.filter (fun e => e.2.forced)).length

/-- Why a force is refused (R54, R55), in the order of the table. -/
def forceCheck (m : Mod) (r : SigRec) (ty : Nat) : Option Status :=
  if r.isConst then some .constant
  else if r.safety && !m.sig.safetyForce then some .isProtected
  else if !m.sig.forceEn then some .forceDisabled
  else if !r.forced && forceCount m ≥ 4096 then some .forceFull
  else if r.ty != ty then some .typeMismatch
  else none

/-- A record with a force set, and with it released (R52). -/
def SigRec.force (r : SigRec) (v : Val) : SigRec := { r with forced := true, forceVal := encodeVal r.ty v }
def SigRec.unforce (r : SigRec) : SigRec := { r with forced := false, wwf := false }

/-- The signal a handle of a descriptor names; the descriptor is refused where it is not current (R45). -/
def onSignal (m : Mod) (q : Req) (h : W32) (f : Nat → SigRec → Mod) : Mod :=
  match judgeSig m h with
  | .error e => refuse m q e
  | .ok i =>
    match sigAt m i with
    | some r => f i r
    | none => refuse m q .staleHandle

/-- FORCE (R54). -/
def execForceSet (t : Nat) (q : Req) (sig : W32) (ty : Nat) (val : Val) (s : State) : Host.Outcome State Fault Refusal :=
  s.runCmd t 0x0026 q (fun m => onSignal m q sig (fun i r =>
    match forceCheck m r ty with
    | some e => refuse (sigRefused m 2) q e
    | none => post (setSig m i (r.force val)) q .ok))

/-- RELEASE (R52): accepted whatever FORCE_EN holds (R55). -/
def execReleaseForce (t : Nat) (q : Req) (sig : W32) (s : State) : Host.Outcome State Fault Refusal :=
  s.runCmd t 0x0027 q (fun m => onSignal m q sig (fun i r => post (setSig m i r.unforce) q .ok))

/-- Every force is released, or every force on a SAFETY signal (R55, R68). -/
def releaseForces (m : Mod) (safetyOnly : Bool) : Mod :=
  { m with sig := { m.sig with sigs := tmap m.sig.sigs (fun _ r =>
      if r.forced && (r.safety || !safetyOnly) then r.unforce else r) } }

/-- RELEASE_ALL (R68). -/
def execReleaseAll (t : Nat) (s : State) : Host.Outcome State Fault Refusal :=
  s.runReg t 0x3008 0x100 (fun _ => true) (fun m => releaseForces m false)

/-! ### Host writes and reads (R321, R322) -/

/-- SIGNAL_WRITE (R321): an owner write of the ring that owns the signal; NOT_OWNER from any other (R47). -/
def execSignalWrite (t : Nat) (q : Req) (sig : W32) (qual : Qual) (val : Val) (s : State) :
    Host.Outcome State Fault Refusal :=
  s.runCmd t 0x0028 q (fun m => onSignal m q sig (fun i r =>
    if r.isConst then refuse m q .constant
    else if r.ownKind = 7 && r.ownId = q.ring then
      post (setSig m i (r.write (encodeVal r.ty val) (qual &&& 0xC03F) (time32 m) (wrap16 m))) q .ok
    else refuse (sigRefused m 0) q .notOwner))

/-- The FLAGS word of a record (R37). -/
def flagsWord (r : SigRec) : Nat :=
  b2n r.forced + 2 * b2n r.subst + 4 * b2n r.stale + 8 * (r.ownClass % 4) + 32 * (r.ownKind % 8)
    + 256 * b2n r.isConst + 512 * b2n r.safety + 1024 * b2n r.wwf + 2048 * (r.ownKind / 8 % 2) + 4096 * (r.ty % 16)

/-- SIGNAL_READ (R321). -/
def execSignalRead (t : Nat) (q : Req) (sig : W32) (s : State) : Host.Outcome State Fault Refusal :=
  s.runOp t 0x0029 q (fun m => onSignal m q sig (fun _ r =>
    post m q .ok { r0 := BitVec.ofNat 32 (r.view.qual.toNat + 65536 * flagsWord r), r1 := r.time,
                   r2 := r.wrap.zeroExtend 32, r64 := r.view.val }))

/-- A signal record as a bulk read copies it (R36, R322): the visible value and quality, the rest as held. -/
def sigBytes (r : SigRec) : List Byte :=
  bytes64 r.view.val ++ bytes16 r.view.qual.toNat ++ bytes16 (flagsWord r) ++ bytes32 r.time ++
    bytes16 r.wrap.toNat ++ bytes16 r.ownId ++ bytes64 r.forceVal ++ leBytes 4 0

/-- The record of an index: zero where DRAM still holds what it was cleared to (R295), free where a deleted
signal left it (log 22). -/
def sigBytesAt (m : Mod) (i : Nat) : List Byte :=
  match sigAt m i with
  | some r => sigBytes r
  | none => if (tget m.sig.gens i).isSome then
      (List.range 8).flatMap (fun k => bytes32 (Config.fresh32 (m.free + 8 * i + k)))
    else leBytes 32 0

/-- SIGNAL_BLOCK (R322). -/
def execSignalBlock (t : Nat) (q : Req) (first count : Nat) (s : State) : Host.Outcome State Fault Refusal :=
  s.runOp t 0x0040 q (fun m =>
    if count = 0 || count > 65536 || first + count > 2097152 then refuse m q .badField
    else post m.tick q .ok { r0 := BitVec.ofNat 32 count, data := (span first count).flatMap (sigBytesAt m) })

/-- The generation an index of the signal directory has now (R44, R45). -/
def genAt (m : Mod) (i : Nat) : Nat :=
  match sigAt m i with
  | some r => r.gen
  | none => (tget m.sig.gens i).getD 1

/-- A directory entry (R40): its layout is free, log 9. -/
def dirBytes (m : Mod) (i : Nat) : List Byte :=
  bytes64 (Config.dirEntry (genAt m i) (match sigAt m i with | some r => r.refs | none => 0) (sigAt m i).isSome)

/-- DIRECTORY_BLOCK (R322). -/
def execDirectoryBlock (t : Nat) (q : Req) (first count : Nat) (s : State) : Host.Outcome State Fault Refusal :=
  s.runOp t 0x0041 q (fun m =>
    if count = 0 || count > 65536 || first + count > 2097152 then refuse m q .badField
    else post m q .ok { r0 := BitVec.ofNat 32 count, data := (span first count).flatMap (dirBytes m) })

end Sys2Proof.Machine
end

