-- ==== Sys2Proof/Machine/HostIf.lean ====
section
/-! DEFINITION. The host interface: doorbells, descriptor fetch, completions, events, MSI-X, rings in
and out of service, attach and detach (R311 to R336). -/

namespace Sys2Proof.Machine

/-! ### Ring indices (R314) -/

/-- The entries of a ring. -/
def Ring.size (r : Ring) : Nat := 2 ^ r.sizeLog2

/-- The position and the phase of an index (R314). -/
def ixPos (i : BitVec 16) : Nat := i.toNat % 2 ^ 15
def ixPhase (i : BitVec 16) : Bool := bitOf i.toNat 15

/-- The entries from index `a` to index `b` (R314); meaningful from 0 to the size. -/
def dist (size : Nat) (a b : BitVec 16) : Int :=
  (ixPos b : Int) - (ixPos a : Int) + (if ixPhase a != ixPhase b then (size : Int) else 0)

/-- The index after `i`: the phase toggles as the position wraps (R314). -/
def ixNext (size : Nat) (i : BitVec 16) : BitVec 16 :=
  if ixPos i + 1 < size then i + 1
  else BitVec.ofNat 16 (if ixPhase i then 0 else 2 ^ 15)

/-- The roles of the rings (R313). -/
def isSubmission (n : Nat) : Bool := n ≤ 15 || (48 ≤ n && n ≤ 63)
def isCompletion (n : Nat) : Bool := 16 ≤ n && n ≤ 31
def isEvent (n : Nat) : Bool := 32 ≤ n && n ≤ 47

/-- A command ring of class C1 (R313). -/
def isC1Ring (m : Mod) (n : Nat) : Bool := 1 ≤ n && n ≤ 15 && (ringOf m n).cls == 1

/-! ### Doorbells (R315) -/

/-- A doorbell value is valid for a ring: the high half zero, the position inside the ring, and between 0
and size entries past the last accepted value; for a consumer index, not past the module's own. -/
def bellOk (r : Ring) (consumer : Bool) (v : W32) : Bool :=
  let b : BitVec 16 := v.truncate 16
  let d := dist r.size r.doorbell b
  v.toNat < 65536 && ixPos b < r.size && 0 ≤ d && d ≤ r.size &&
    (!consumer || d ≤ dist r.size r.doorbell r.index)

/-- A doorbell write (R315): ignored for a DISABLED or PENDING ring; an invalid one sets ERROR and
DOORBELL_ERR. -/
def doorbell (m : Mod) (n : Nat) (v : W32) (consumer : Bool) : Mod :=
  let r := ringOf m n
  if r.st == .disabled || r.st == .pending then m
  else if bellOk r consumer v then setRing m n { r with doorbell := v.truncate 16 }
  else
    let m := setRing m n { r with st := if r.st == .active then .error else r.st }
    { m with hif := { m.hif with events := setBit32 m.hif.events 2 } }

/-- DOORBELL_SUBMIT (R315). -/
def execDoorbellSubmit (t ring : Nat) (v : W32) (s : State) : Host.Outcome State Fault Refusal :=
  s.runOn t (fun m => if isSubmission ring then doorbell m ring v false else m)

/-- DOORBELL_CONSUME (R315). -/
def execDoorbellConsume (t ring : Nat) (v : W32) (s : State) : Host.Outcome State Fault Refusal :=
  s.runOn t (fun m => if isCompletion ring || isEvent ring then doorbell m ring v true else m)

/-! ### Descriptor fetch (R318, R319) -/

/-- The level a submission ring is served in (R319). -/
def levelOf (m : Mod) (n : Nat) : Nat :=
  if n = 0 then 0 else if isC1Ring m n then 1 else if n ≤ 15 then 2 else 3

/-- The operations in flight from a ring, and from all bulk rings (R319). -/
def flightsOf (m : Mod) (n : Nat) : Nat := (m.hif.flights.filter (fun f => f.ring == n)).length
def bulkFlights (m : Mod) : Nat := (m.hif.flights.filter (fun f => 48 ≤ f.ring)).length

/-- A slot is free for a ring (R319): 128 in all, 16 of them kept for ring 0 and C1 rings, 64 for bulk. -/
def slotFree (m : Mod) (n : Nat) : Bool :=
  m.hif.flights.length < 128 &&
  (levelOf m n ≤ 1 || (m.hif.flights.filter (fun f => 2 ≤ levelOf m f.ring)).length < 112) &&
  (n < 48 || bulkFlights m < 64)

/-- A ring can be fetched from now (R16, R316, R319): ACTIVE with a descriptor pending, the service pairs
running, ring 0 one at a time, a C1 ring within C1_RATE in any 1 ms. -/
def fetchable (m : Mod) (n : Nat) : Bool :=
  let r := ringOf m n
  isSubmission n && m.hif.attached && (!m.pwr.svcStopped || m.sec.bootFail.isSome) && r.st == .active && r.doorbell != r.index && slotFree m n &&
  (n != 0 || flightsOf m 0 == 0) &&
  (!isC1Ring m n || (r.fetches.filter (fun x => m.clk < x + ms 1)).length < r.c1Rate)

/-- No ring of a higher level waits: ring 0 first, then C1 rings (R319). -/
def noneBefore (m : Mod) (n : Nat) : Bool :=
  (levelOf m n == 0 || !fetchable m 0) &&
  (levelOf m n ≤ 1 || !(span 1 15).any (fun k => isC1Ring m k && fetchable m k))

/-- What a fetched descriptor says of itself (R318). -/
def descReq (n : Nat) (r : Ring) (d : List Byte) : Req :=
  { ring := n, index := ixPos r.index, tag := w32 d 4, noCompl := bitOf (u16 d 2) 0, cring := u8 d 8 }

/-- A descriptor fetched and decoded (R318, R319): it is in flight; a bad CRING, an unknown OPCODE or an
operation of another ring completes it. -/
def takeDescriptor (m : Mod) (n : Nat) (d : List Byte) : Mod :=
  let r := ringOf m n
  let q := descReq n r d
  let op := u16 d 0
  let recent := r.fetches.filter (fun x => m.clk < x + ms 1)
  let m := setRing m n { r with index := ixNext r.size r.index,
                                fetches := if isC1Ring m n then recent ++ [m.clk] else [] }
  let m := { m with hif := { m.hif with flights := m.hif.flights ++
    [{ ring := n, index := q.index, tag := q.tag, cring := cringOf m q, noCompl := q.noCompl, opcode := op,
       fence := bitOf (u16 d 2) 1 }] } }
  if !cringOk m q then post m { q with cring := 0 } .badField
  else if (ringUse op).isNone then post m q .badOpcode
  else if !permitted m op n then post m q .ringClass
  else m

/-- DESCRIPTOR_FETCH (R319): a fetch that fails sets the ring to ERROR (R316). -/
def execDescriptorFetch (t ring : Nat) (desc : List Byte) (ok : Bool) (s : State) : Host.Outcome State Fault Refusal :=
  s.runOn t (fun m =>
    if fetchable m ring && noneBefore m ring then
      if ok then takeDescriptor m ring desc
      else setRing m ring { ringOf m ring with st := .error }
    else m)

/-! ### Entries written by the module (R315, R325, R329) -/

/-- A completion or event ring that can take an entry: in service and not full (R314, R319). -/
def hasRoom (r : Ring) : Bool :=
  (r.st == .active || r.st == .draining) && dist r.size r.doorbell r.index < r.size

/-- PHASE of the entry written at an index: the inverse of its bit 15 (R315). -/
def phaseOf (r : Ring) : Nat := if ixPhase r.index then 0 else 1

/-- The 32 bytes of a completion (R325). -/
def complBytes (r : Ring) (c : Compl) : List Byte :=
  bytes32 c.tag ++ bytes16 c.status.code ++ bytes16 (phaseOf r + 2 * b2n c.register) ++ leBytes 1 c.ring ++
    leBytes 1 0 ++ bytes16 c.index ++ bytes32 c.res0 ++ bytes32 c.res1 ++ bytes32 c.res2 ++ bytes64 c.res64

/-- The 32 bytes of an event (R329). -/
def eventBytes (r : Ring) (e : Event) : List Byte :=
  bytes16 e.kind ++ bytes16 (phaseOf r + 2 * b2n e.replay) ++ bytes32 e.time ++ bytes16 e.wrap.toNat ++
    bytes16 e.detail ++ bytes32 e.subject ++ bytes64 e.arg ++ bytes32 e.code ++ bytes32 r.seq

/-- A ring with an entry written, and an MSI-X message due (R319). -/
def putEntry (r : Ring) (bs : List Byte) : Ring :=
  { r with index := ixNext r.size r.index, entry := bs, msiDue := true }

/-- A draining or failed ring with nothing in flight is DISABLED (R316). -/
def settle (m : Mod) (n : Nat) : Mod :=
  let r := ringOf m n
  if r.st == .draining && flightsOf m n == 0 then setRing m n { r with st := .disabled } else m

/-- The oldest completion of a ring is written, and its operation's slot ends (R319). -/
def writeCompletion (m : Mod) (n : Nat) (c : Compl) : Mod :=
  let r := ringOf m n
  let m := setRing m n (putEntry r (complBytes r c))
  let m := { m with hif := { m.hif with
      compl := m.hif.compl.erase c
      flights := if c.register then m.hif.flights
        else m.hif.flights.filter (fun f => !(f.ring == c.ring && f.index == c.index && f.finished)) } }
  settle m c.ring

/-- COMPLETION_WRITE (R319): a write whose address then fails on read-back detaches the host (R333). -/
def execCompletionWrite (t ring : Nat) (ok : Bool) (s : State) : Host.Outcome State Fault Refusal :=
  s.runOn t (fun m =>
    match m.hif.compl.find? (fun c => c.cring == ring) with
    | none => m
    | some c =>
      if m.hif.attached && hasRoom (ringOf m ring) then
        if ok then writeCompletion m ring c else discovery (detach m false) 6 0 false
      else m)

/-! ### Events out (R330, R331, R335) -/

/-- The OVERFLOW entry of a queue (R330, R331). -/
def overflowEvent (o : Overflow) : Event :=
  { kind := 14, time := o.time, wrap := o.wrap, subject := o.merged,
    arg := BitVec.ofNat 64 (o.mask.toNat + 2 ^ 32 * o.newest.toNat) }

/-- The next entry of an event ring and the ring without it (R331, R335): OVERFLOW, then the queued entries,
then with a replay one UNIT_STATE for each unit and REPLAY_END, then what was queued meanwhile. -/
def nextEntry (m : Mod) (r : Ring) : Option (Event × Ring) :=
  match r.overflow with
  | some o => some (overflowEvent o, { r with overflow := none })
  | none =>
    if r.replaying && r.before = 0 then
      match r.replay with
      | i :: rest =>
        match unitAt m i with
        | some u => some (unitStateEvent m i u (stateWord m i) true, { r with replay := rest, replayed := r.replayed + 1 })
        | none => some ({ kind := 15, time := time32 m, wrap := wrap16 m, subject := BitVec.ofNat 32 r.replayed },
                        { r with replay := [], replaying := false })
      | [] => some ({ kind := 15, time := time32 m, wrap := wrap16 m, subject := BitVec.ofNat 32 r.replayed },
                    { r with replaying := false })
    else
      match r.queue with
      | [] => none
      | e :: rest => some (e, { r with queue := rest, before := r.before - 1 })

/-- EVENT_DELIVERY (R331). -/
def execEventDelivery (t ring : Nat) (ok : Bool) (s : State) : Host.Outcome State Fault Refusal :=
  s.runOn t (fun m =>
    let r := ringOf m ring
    if isEvent ring && m.hif.attached && m.hif.ready && r.st == .active && hasRoom r then
      match nextEntry m r with
      | none => m
      | some (e, r') =>
        if ok then setRing m ring { putEntry r' (eventBytes r e) with seq := r.seq + 1 }
        else discovery (detach m false) 6 0 false
    else m)

/-- MSIX_MESSAGE (R319, R336): spaced by MOD_US; a new MOD_US takes effect at the next message. -/
def execMsixMessage (t ring : Nat) (s : State) : Host.Outcome State Fault Refusal :=
  s.runOn t (fun m =>
    let r := ringOf m ring
    let free := match r.lastMsi with | none => true | some x => x + us r.modUs ≤ m.clk
    if r.msiDue && free && m.hif.attached then
      setRing m ring { r with msiDue := false, lastMsi := some m.clk, modUs := r.modUsNew }
    else m)

/-! ### Rings in and out of service (R316) -/

/-- The BAR0 offset of RING_CTRL of ring `n` (R336). -/
def ringCtrlOff (n : Nat) : Nat := 0x1000 + 0x800 + 0x20 * n + 0x10

/-- A ring passes the checks of ENABLE (R316, R446). -/
def enableOk (m : Mod) (n : Nat) : Bool :=
  let r := ringOf m n
  r.st == .disabled && 4 ≤ r.sizeLog2 && r.sizeLog2 ≤ 15 &&
  (!isSubmission n || (ringOf m (16 + r.defCring)).st == .active) &&
  (!isC1Ring m n || 1 ≤ r.c1Rate) &&
  (!m.sec.bootFail.isSome || n == 0 || n == 48 || isCompletion n)

/-- A ring becomes ACTIVE: it starts at index 0 (R314). -/
def Ring.activate (r : Ring) : Ring := { r with st := .active, enable := true, doorbell := 0, index := 0 }

/-- ENABLE written 1 (R316). -/
def ringOn (m : Mod) (n : Nat) (v : W32 := 1) : Mod :=
  let r := ringOf m n
  if r.enable then m
  else if enableOk m n then
    setRing m n (if isC1Ring m n then { r with st := .pending, enable := true } else r.activate)
  else regRefuse m .badField (ringCtrlOff n) v

/-- RING_ENABLE (R316). -/
def execRingEnable (t ring : Nat) (s : State) : Host.Outcome State Fault Refusal :=
  s.runReg t (ringCtrlOff ring) 1 (fun m => !(ringOf m ring).enable) (fun m => if ring < 64 then ringOn m ring else m)

/-- A completion ring is the DEFAULT_CRING of a ring that is not DISABLED (R316). -/
def cringInUse (m : Mod) (n : Nat) : Bool :=
  (List.range 64).any (fun k => isSubmission k && (ringOf m k).st != .disabled && 16 + (ringOf m k).defCring == n)

/-- ENABLE written 0 (R316). -/
def ringOff (m : Mod) (n : Nat) (v : W32 := 0) : Mod :=
  let r := ringOf m n
  if !r.enable then m
  else if isCompletion n && cringInUse m n then regRefuse m .locked (ringCtrlOff n) v
  else settle (setRing m n { r with enable := false, st := if r.st == .pending then .disabled else .draining }) n

/-- RING_DISABLE (R316). -/
def execRingDisable (t ring : Nat) (s : State) : Host.Outcome State Fault Refusal :=
  s.runReg t (ringCtrlOff ring) 0 (fun m => (ringOf m ring).enable) (fun m => if ring < 64 then ringOff m ring else m)

/-! ### Attach, detach, watchdog (R332 to R336) -/

/-- HOST_ATTACH (R332): the function reports the speed and width reached (R311). -/
def execHostAttach (t speed width : Nat) (s : State) : Host.Outcome State Fault Refusal :=
  s.runOn t (fun m =>
    if m.hif.attached || m.pwr.st == .fail then m
    else
      discovery { m with hif := { m.hif with attached := true, speed := speed, width := width, wdAt := m.clk,
                                             events := setBit32 m.hif.events 1 } } 6 0 true)

/-- HOST_DETACH (R334): each cause detaches; after link down no speed or width is trained. -/
def execHostDetach (t : Nat) (cause : DetachCause) (s : State) : Host.Outcome State Fault Refusal :=
  s.runOn t (fun m =>
    if m.hif.attached || cause == .functionReset then
      let m := discovery (detach m (cause == .functionReset)) 6 0 false
      if cause == .linkDown || cause == .perst then { m with hif := { m.hif with speed := 0, width := 0 } } else m
    else m)

/-- HOST_READY written 1 (R335): delivery starts, and each event ring replays the units its mask asks for. -/
def hostReadyOn (m : Mod) : Mod :=
  if m.hif.ready then m
  else
    let m := { m with hif := { m.hif with ready := true } }
    eventRings.foldl (fun m n =>
      let r := ringOf m n
      if r.st == .active then
        setRing m n { r with replaying := true, before := r.queue.length, replayed := 0,
                             replay := if bitOf r.mask.toNat 1 then subtree m 0 else [] }
      else m) m

/-- HOST_READY_SET (R335); with no host attached the bit does not set (R336). -/
def execHostReadySet (t : Nat) (s : State) : Host.Outcome State Fault Refusal :=
  s.runReg t 0x1004 1 (fun m => !m.hif.ready) (fun m => if m.hif.attached then hostReadyOn m else m)

/-- HOST_READY written 0 (R335): delivery stops and events queue. -/
def hostReadyOff (m : Mod) : Mod :=
  { m with hif := { m.hif with
      ready := false
      rings := tmap m.hif.rings (fun _ r => { r with replaying := false, replay := [], before := 0 }) } }

/-- HOST_READY_CLEAR (R335). -/
def execHostReadyClear (t : Nat) (s : State) : Host.Outcome State Fault Refusal :=
  s.runReg t 0x1004 0 (fun m => m.hif.ready) hostReadyOff

/-- HOST_WD_KICK (R336); KICK acts under SOFT_LOCK too (R502). -/
def execHostWdKick (t : Nat) (s : State) : Host.Outcome State Fault Refusal :=
  s.runW1c t 0x1010 (fun m => { m with hif := { m.hif with wdAt := m.clk } })

/-- HOST_WD_EXPIRY (R333, R336): PERIOD_MS without a kick detaches the host. -/
def execHostWdExpiry (t : Nat) (s : State) : Host.Outcome State Fault Refusal :=
  s.runOn t (fun m =>
    if m.hif.attached && m.hif.wdMs != 0 && m.hif.wdAt + ms m.hif.wdMs ≤ m.clk then
      let m := detach m false
      discovery { m with hif := { m.hif with events := setBit32 m.hif.events 4 } } 6 0 false
    else m)

/-- TIM_NOW_LO_READ (R344): TIM_NOW_HI latches the wrap count. -/
def execTimNowLoRead (t : Nat) (s : State) : Host.Outcome State Fault Refusal :=
  s.runOn t (fun m => if bootHeld m then m else { m with tim := { m.tim with nowHi := BitVec.ofNat 32 (wrapNo m) } })

end Sys2Proof.Machine
end

