-- ==== Sys2Proof/Machine/Faults.lean ====
section
/-! DEFINITION. The fault collector's commands: reports, acknowledgement, escalation, clearing, and the
spinning top (R388 to R402, R485). -/

namespace Sys2Proof.Machine

/-- The state of a task is `st`. -/
def taskIs (m : Mod) (k : Nat) (st : TState) : Bool :=
  match taskAt m k with
  | some t => t.st == st
  | none => false

/-- A calibration record in force is nominal (R203): a bit of FIO_CAL_NOMINAL is set. -/
def anyNominal (m : Mod) : Bool := m.fio.chans.any (fun e => e.2.nominal)

/-- The cause of a fault of a source persists for an object (R389, R421, R443, R465, R481); `cls` is the
class it was raised with. -/
def causePersists (m : Mod) (src addr cls : Nat) : Bool :=
  match src with
  | 0x02 => (pairOf m addr).st == .lost
  | 0x03 | 0x04 | 0x05 => taskIs m addr .halted
  | 0x06 => taskIs m addr .stopped
  | 0x0A => anyNominal m
  | 0x0D => (chanOf m addr).status != 0
  | 0x0E => bitOf m.fio.stuck.toNat addr
  | 0x0F => m.saf.funcs.any (fun e => e.1 == addr && e.2.st == .fault)
  | 0x11 => m.saf.degNet.active || m.saf.degPair.active || m.saf.degSeat.active
  | 0x12 => cls < 2 && m.tri.seat != 0 && (m.tri.mode != 3 || !m.tri.t1 || !m.tri.t2)
  | 0x13 => !(m.net.stations.any (fun e => e.1 == addr && e.2.joined))
  | 0x14 => m.tim.refusedRun != 0
  | 0x15 => m.can.ports.any (fun e => e.1 == addr && (e.2.st == .busOff || e.2.noPartner))
  | 0x17 => m.pwr.holdupLow
  | 0x18 => m.gen.dieC > 115
  | 0x2C => m.pnl.pattern
  | 0x2D => !m.pnl.railOk
  | 0x2E => m.pnl.tempC ≥ 90
  | _ => false

/-- The tasks a failed transfer of an application pair's core halts (R261, R396): the instance running on
a joined pair; on a split pair every task of that core, which the fault does not name (free, log 23). -/
def haltIssuers (m : Mod) (f : FaultInfo) : Mod :=
  let p := f.master.toNat % 256
  if (f.src == 0x07 || f.src == 0x08) && f.master.toNat / 256 == 1 && p < 6 then
    if (pairOf m p).st == .split then
      let b := Config.freshBool m.free
      (m.tick.pge.tasks.filter (fun e => e.2.pair == p && e.2.coreB == b)).foldl (fun m e => haltTask m e.1) m.tick
    else
      match tget m.pge.running (2 * p) with
      | some k => haltTask m k
      | none => m
  else m

/-- FAULT_REPORT (R390). -/
def execFaultReport (t : Nat) (f : FaultInfo) (s : State) : Host.Outcome State Fault Refusal :=
  s.runOn t (fun m => if f.src < 64 && f.cls < 4 then reportFault (haltIssuers m f) f else m)

/-- An acknowledgement of the faults `cov` names: refused while one of them is not contained (R396). -/
def acknowledge (m : Mod) (cov : Awaiting → Bool) : Mod :=
  if m.flt.awaiting.any (fun a => cov a && !a.contained) then
    { m with flt := { m.flt with events := setBit32 m.flt.events 1 } }
  else
    let rest := m.flt.awaiting.filter (fun a => !cov a)
    { m with
      flt := { m.flt with awaiting := rest, jib := if rest.isEmpty then none else m.flt.jib }
      nv := { m.nv with capture := m.nv.capture.map (fun c => { c with acked := rest.isEmpty }) } }

/-- The firmware restarts each LOST pair once, by itself (R257). -/
def restartLost (m : Mod) : Mod :=
  if m.flt.f3 || m.pwr.st == .fail then m
  else
    (List.range 6).foldl (fun m p =>
      let x := pairOf m p
      if x.st == .lost && !x.restarted then setPair m p { x with st := .selftest, restarted := true } else m) m

/-- FIRMWARE_ACK (R396): all faults, or with HOST_ACK set the pair mismatches alone; the LOST pairs restart (R257). -/
def execFirmwareAck (t : Nat) (s : State) : Host.Outcome State Fault Refusal :=
  s.runOn t (fun m =>
    if m.pwr.svcStopped then m
    else restartLost (acknowledge m (fun a => !m.flt.hostAck || a.src == 0x02)))

/-- FLT_ACK (R396): a host write covers every F2 that awaits; it acts under SOFT_LOCK (R502). -/
def execFltAck (t : Nat) (s : State) : Host.Outcome State Fault Refusal :=
  s.runW1c t 0x1000C (fun m => acknowledge m (fun _ => true))

/-- JIB_EXPIRY (R395). -/
def execJibExpiry (t : Nat) (s : State) : Host.Outcome State Fault Refusal :=
  s.runOn t (fun m =>
    match jibLeft m with
    | some 0 => if m.pwr.svcRestart.isSome then m else escalate m true
    | _ => m)

/-- ALIVE_TOGGLE (R400): a change of level at each 500 µs instant while its conditions hold. -/
def execAliveToggle (t : Nat) (s : State) : Host.Outcome State Fault Refusal :=
  s.runOn t (fun m =>
    if (m.clk - m.tim.zero) % us 500 != 0 then m
    else if aliveOk m then
      let m := setAlive m (!m.flt.aliveLevel)
      { m with flt := { m.flt with alive := true } }
    else stopAlive m)

/-- OK_CONTACT_DROP (R485): the contact opens when no change has followed the last one; it is open when the
module is unpowered. -/
def execOkContactDrop (t : Nat) (s : State) : Host.Outcome State Fault Refusal :=
  s.run t (fun m =>
    let late := match m.flt.aliveAt with | some x => x + us 1500 < m.clk | none => true
    if late || m.pwr.st == .off then { m with flt := { m.flt with okContact := false } } else m)

/-- The capture is cleared, or the clear refused (R401). -/
def clearCapture (m : Mod) : Mod :=
  match m.nv.capture with
  | none => m
  | some c =>
    if causePersists m c.src c.addr c.cls || (!m.flt.awaiting.isEmpty && !m.flt.f3) then
      { m with flt := { m.flt with events := setBit32 m.flt.events 2 } }
    else { m with nv := { m.nv with capture := none } }

/-- CAPTURED_CLEAR (R401). -/
def execCapturedClear (t : Nat) (s : State) : Host.Outcome State Fault Refusal := s.runW1c t 0x10008 clearCapture

/-- The prior capture is cleared (R393). -/
def clearPrior (m : Mod) : Mod := { m with nv := { m.nv with prior := none }, flt := { m.flt with priorSet := false } }

/-- PRIOR_CLEAR (R393). -/
def execPriorClear (t : Nat) (s : State) : Host.Outcome State Fault Refusal := s.runW1c t 0x10008 clearPrior

/-- The cause of a source persists for an object that raised it since its bit was cleared (R401). -/
def sourceStands (m : Mod) (src : Nat) : Bool :=
  m.flt.raised.any (fun r => r.1 == src && causePersists m src r.2 0)

/-- A bit of FLT_ACTIVE is cleared unless its cause persists (R401). -/
def clearActive (m : Mod) (src : Nat) : Mod :=
  if sourceStands m src then m
  else { m with flt := { m.flt with
      active := m.flt.active &&& ~~~(BitVec.ofNat 64 (2 ^ src))
      raised := m.flt.raised.filter (fun r => r.1 != src) } }

/-- The ones of a write to FLT_ACTIVE (R401). -/
def clearActives (m : Mod) (mm mask : Nat) : Mod :=
  (List.range 32).foldl (fun m n => if bitOf mask n then clearActive m (32 * mm + n) else m) m

/-- ACTIVE_CLEAR (R401). -/
def execActiveClear (t mm : Nat) (mask : W32) (s : State) : Host.Outcome State Fault Refusal :=
  s.runW1c t (0x10040 + 4 * mm) (fun m => if mm < 2 then clearActives m mm mask.toNat else m)

/-- THERMAL_TRIP (R31): the junction's temperature is sensed; at 125 °C an F3 is raised. -/
def execThermalTrip (t : Nat) (dieC : Int) (s : State) : Host.Outcome State Fault Refusal :=
  s.runOn t (fun m =>
    let m := { m with gen := { m.gen with dieC := dieC } }
    if dieC ≥ 125 then reportFault m (faultOf 0x18 3 0 0x0E00 6) else m)

end Sys2Proof.Machine
end

