-- ==== Sys2Proof/Machine/Power.lean ====
section
/-! DEFINITION. Power states, restarts and riding through (R290 to R310, R486, R487). The start itself is
in Start.lean. -/

namespace Sys2Proof.Machine

/-! ### Supply and FAIL (R305 to R308) -/

/-- The length of the dip timer in ns, from the energy E in µJ at the fall: min(10 ms, (E − 0.60 J) ÷ 20 W) (R487). -/
def dipLen (uj : Nat) : Nat := min (ms 10) ((uj - 600000) * 50)

/-- SUPPLY_DIP (R305): with E at or below 0.60 J FAIL is entered at the fall (R487). -/
def execSupplyDip (t mv uj : Nat) (s : State) : Host.Outcome State Fault Refusal :=
  s.runOn t (fun m =>
    let m := { m with gen := { m.gen with supplyMv := mv } }
    if mv < 16000 && m.pwr.st != .fail && m.pwr.dip.isNone then
      let m := { m with pwr := { m.pwr with storeUj := uj, dip := some m.clk } }
      if uj ≤ 600000 then enterFail m .supply else m
    else m)

/-- DIP_END (R305): the supply is above 16.5 V again before the timer ends. -/
def execDipEnd (t mv uj : Nat) (s : State) : Host.Outcome State Fault Refusal :=
  s.runOn t (fun m =>
    let m := { m with gen := { m.gen with supplyMv := mv } }
    match m.pwr.dip with
    | some l =>
      if mv > 16500 && m.clk < l + dipLen m.pwr.storeUj then { m with pwr := { m.pwr with dip := none, storeUj := uj } }
      else m
    | none => m)

/-- DIP_TIMER_EXPIRY (R305). -/
def execDipTimerExpiry (t : Nat) (s : State) : Host.Outcome State Fault Refusal :=
  s.runOn t (fun m =>
    match m.pwr.dip with
    | some l => if l + dipLen m.pwr.storeUj ≤ m.clk then enterFail m .supply else m
    | none => m)

/-- The flush is committed and the logic switched off (R305 steps 3, 5 and 6); H1 is down. -/
def flushDone (m : Mod) : Mod :=
  let m := if m.hif.attached then detach m false else m
  { m with
    pwr := { m.pwr with st := .off, charging := none, needRemoval := m.pwr.failCause == .shutdown }
    hif := { m.hif with speed := 0, width := 0 } }

/-- FLUSH_COMPLETE (R305). -/
def execFlushComplete (t : Nat) (s : State) : Host.Outcome State Fault Refusal :=
  s.runOn t (fun m => if m.pwr.st == .fail then flushDone m else m)

/-- SUPPLY_REMOVED (R307): after a SHUTDOWN the supply has been below 5 V for 1 s. -/
def execSupplyRemoved (t : Nat) (s : State) : Host.Outcome State Fault Refusal :=
  s.run t (fun m =>
    if m.pwr.st == .off then
      { m with pwr := { m.pwr with needRemoval := false, charging := none, nextCause := .powerUp }, gen := { m.gen with supplyMv := 0 } }
    else m)

/-- HOLDUP_RECHECK (R308): every 10 s; HOLDUP_LOW clears once the store holds its charge. -/
def execHoldupRecheck (t uj : Nat) (charged : Bool) (s : State) : Host.Outcome State Fault Refusal :=
  s.runOn t (fun m => { m with pwr := { m.pwr with storeUj := uj, holdupLow := m.pwr.holdupLow && !charged } })

/-! ### Power commands (R292, R293, R298, R399, R450, R460) -/

/-- A C0 task is admitted (R293). -/
def hasC0 (m : Mod) : Bool := m.pge.tasks.any (fun e => e.2.rcd.cls == 0)

/-- POWER and RESTART commands are refused with NOT_READY: after an F3 reaction, in FULL debug, in BLANK
and VOID (R399, R450, R460). -/
def cmdHeld (m : Mod) : Bool :=
  m.flt.f3 || m.sec.debug == .full || m.nv.lifecycle == .blank || m.nv.lifecycle == .void

/-- The conditions of the first entry to RUN hold (R297). -/
def runConditions (m : Mod) : Bool :=
  m.pwr.startStep ≥ 5 && (List.range 6).all (fun p => (pairOf m p).st == .joined) &&
  ((pairOf m 6).st == .joined || (pairOf m 6).st == .split || (pairOf m 7).st == .joined || (pairOf m 7).st == .split) &&
  m.sec.bootFail.isNone && m.nv.lifecycle != .blank && m.nv.lifecycle != .void &&
  (m.tri.seat == 0 || m.tri.st == .inStep || m.tri.mode != 0)

/-- Return to RUN from HOLD (R292, R303): every pair is JOINED; each task's next instance counts as the
first after a start. -/
def backToRun (m : Mod) : Mod :=
  let q := match m.pwr.cmd with | some (.run, r) => r | _ => none
  let m := { m with
    pwr := { m.pwr with st := .run, holdAt := none, program := false, cmd := none, rideExpired := false,
                        events := setBit32 m.pwr.events 0 }
    pge := { m.pge with tasks := tmap m.pge.tasks (fun _ t => { t with lastRelease := none }) } }
  postOpt m q .ok

/-- All application pairs are JOINED. -/
def allJoined (m : Mod) : Bool := (List.range 6).all (fun p => (pairOf m p).st == .joined)

/-- A RUN command (R292, R298). `q` none where it comes in a protection package. -/
def cmdRun (m : Mod) (q : Option Req) : Mod :=
  if cmdHeld m then postOpt m q .notReady
  else
    match m.pwr.st with
    | .run => postOpt m q .ok
    | .quiet => startOpt { m with pwr := { m.pwr with cmd := some (.run, q) } } q
    | .hold =>
      if m.pwr.starting then
        if runConditions m then startOpt { m with pwr := { m.pwr with runAsked := true, cmd := some (.run, q) } } q
        else postOpt m q .notReady
      else
        let m := startOpt { m with pwr := { m.pwr with cmd := some (.run, q) } } q
        if allJoined m then backToRun m
        else (List.range 6).foldl (fun m p =>
          if (pairOf m p).st == .down then setPair m p { pairOf m p with st := .selftest } else m) m
    | _ => postOpt m q .notReady

/-- A HOLD command (R293, R299); `prot` within a protection change. -/
def cmdHold (m : Mod) (q : Option Req) (prot : Bool) : Mod :=
  if cmdHeld m then postOpt m q .notReady
  else if hasC0 m && !prot then postOpt m q .isProtected
  else
    match m.pwr.st with
    | .run | .quiet =>
      let m := enterHold m
      startOpt { m with pwr := { m.pwr with cmd := some (.hold, q) } } q
    | .hold => postOpt m q .ok
    | _ => postOpt m q .notReady

/-- A QUIET command (R304): the change is at the next plan tick. -/
def cmdQuiet (m : Mod) (q : Option Req) : Mod :=
  if cmdHeld m then postOpt m q .notReady
  else
    match m.pwr.st with
    | .run => startOpt { m with pwr := { m.pwr with cmd := some (.quiet, q) } } q
    | .quiet => postOpt m q .ok
    | _ => postOpt m q .notReady

/-- QUIET and RUN take effect at the plan tick (R292); tier 1 of the recorder ends its interval as PARTIAL
at both (R304, R409). -/
def powerAtTick (m : Mod) : Mod :=
  match m.pwr.st, m.pwr.cmd with
  | .run, some (.quiet, q) =>
    postOpt (endTier { m with pwr := { m.pwr with st := .quiet, cmd := none } } 1) q .ok
  | .quiet, some (.run, q) =>
    postOpt (startTier { m with pwr := { m.pwr with st := .run, cmd := none, events := setBit32 m.pwr.events 0 } } 1) q .ok
  | _, _ => m

/-- POWER_RUN (R292). -/
def execPowerRun (t : Nat) (q : Req) (s : State) : Host.Outcome State Fault Refusal :=
  s.runCmd t 0x0005 q (fun m => cmdRun m (some q))

/-- POWER_HOLD (R299). -/
def execPowerHold (t : Nat) (q : Req) (s : State) : Host.Outcome State Fault Refusal :=
  s.runCmd t 0x0005 q (fun m => cmdHold m (some q) false)

/-- POWER_QUIET (R304). -/
def execPowerQuiet (t : Nat) (q : Req) (s : State) : Host.Outcome State Fault Refusal :=
  s.runCmd t 0x0005 q (fun m => cmdQuiet m (some q))

/-- POWER_SHUTDOWN (R305): FAIL at acceptance, with the completion. -/
def execPowerShutdown (t : Nat) (q : Req) (s : State) : Host.Outcome State Fault Refusal :=
  s.runCmd t 0x0005 q (fun m => enterFail (post m q .ok) .shutdown)

/-! ### Restarts (R294) -/

/-- RESTART_SERVICE (R294). -/
def execRestartService (t : Nat) (q : Req) (s : State) : Host.Outcome State Fault Refusal :=
  s.runCmd t 0x0006 q (fun m => if cmdHeld m then post m q .notReady else beginServiceRestart (post m q .ok))

/-- A PROGRAM restart command (R293, R299): in a triad the seat named restarts as a module. -/
def cmdProgram (m : Mod) (q : Option Req) (seat : Nat) (prot : Bool) : Mod :=
  if cmdHeld m || m.pwr.starting then postOpt m q .notReady
  else if hasC0 m && !prot then postOpt m q .isProtected
  else
    let m := postOpt m q .ok
    if m.tri.mode != 0 then (if seat = m.tri.seat then restartModule_ m .hostRestart else m)
    else beginProgramRestart m

/-- RESTART_PROGRAM (R299). -/
def execRestartProgram (t : Nat) (q : Req) (seat : Nat) (s : State) : Host.Outcome State Fault Refusal :=
  s.runCmd t 0x0006 q (fun m => cmdProgram m (some q) seat false)

/-- A MODULE restart command (R294, R399, R501): after an F3 reaction only once the capture is cleared, and
the start's cause is then FAULT. -/
def cmdModule (m : Mod) (q : Option Req) (seat : Nat) : Mod :=
  if m.nv.lifecycle == .blank || m.nv.lifecycle == .void || (m.flt.f3 && m.nv.capture.isSome) then postOpt m q .notReady
  else
    let m := postOpt m q .ok
    if m.tri.mode != 0 && seat != m.tri.seat then m
    else restartModule_ m (if m.flt.f3 then .fault else .hostRestart)

/-- RESTART_MODULE (R294); it is served in boot recovery too (R446). -/
def execRestartModule (t : Nat) (q : Req) (seat : Nat) (s : State) : Host.Outcome State Fault Refusal :=
  s.runOp t 0x0006 q (fun m => if notLead m then post m q .notLead else cmdModule m (some q) seat) true

/-- SERVICE_RESTART_COMPLETE (R16): the service pairs run; a service pair's mismatch is contained (R396);
a SERVICE region that was activating is on trial (R428). -/
def execServiceRestartComplete (t : Nat) (s : State) : Host.Outcome State Fault Refusal :=
  s.runOn t (fun m =>
    if m.pwr.svcRestart.isNone then m
    else
      let st : Nat → PairSt := fun p =>
        if bitOf m.lks.serviceMode.toNat (p + 10) then .split else .joined
      let m := beginTrial m 2
      { m with
        pwr := { m.pwr with svcStopped := false, svcRestart := none }
        lks := { m.lks with pairs := tset (tset m.lks.pairs 6 { pairOf m 6 with st := st 6 }) 7 { pairOf m 7 with st := st 7 } }
        flt := { m.flt with
          jib := m.flt.jib.map (fun j => (j.1, m.clk))
          awaiting := m.flt.awaiting.map (fun a => if a.src == 0x02 && a.addr ≥ 6 then { a with contained := true } else a) } })

/-- SERVICE_RESTART_TIMEOUT (R397): 2 s without completion. -/
def execServiceRestartTimeout (t : Nat) (s : State) : Host.Outcome State Fault Refusal :=
  s.runOn t (fun m =>
    match m.pwr.svcRestart with
    | some x => if x + sec 2 ≤ m.clk then escalate m false else m
    | none => m)

/-! ### Riding through (R299 to R303) -/

/-- A release is skipped (R83): SKIPPED, the PGE_SKIP0 bit of a cyclic task, and a TASK_SKIP fault. -/
def skipRelease (m : Mod) (k cls : Nat) : Mod :=
  match taskAt m k with
  | none => m
  | some t =>
    let m := setTask m k { t with skipped := satInc t.skipped }
    let m := if k < 32 then { m with pge := { m.pge with skips := setBit32 m.pge.skips k } } else m
    reportFault m (faultOf 0x05 cls k (BitVec.ofNat 16 (0x0100 + t.pair)) 5 t.rcd.cls)

/-- HOLD_ABANDON (R299). -/
def execHoldAbandon (t task : Nat) (s : State) : Host.Outcome State Fault Refusal :=
  s.runOn t (fun m =>
    match m.pwr.st, m.pwr.holdAt, taskAt m task with
    | .hold, some x, some k =>
      if x + ms 100 ≤ m.clk && k.rcd.cls ≥ 2 && k.busy then
        stopInstant (unrun (skipRelease (setTask m task (dropInst k .idle)) task 0) task) task
      else m
    | _, _, _ => m)

/-- Every task has reached its stop instant. -/
def allStopped (m : Mod) : Bool := m.pge.tasks.all (fun e => !e.2.busy)

/-- PAIRS_STOPPED (R299): the pairs stop, or pass through SELFTEST for a PROGRAM restart; a HOLD command is
then complete (R320). -/
def execPairsStopped (t : Nat) (s : State) : Host.Outcome State Fault Refusal :=
  s.runOn t (fun m =>
    if m.pwr.st == .hold && !m.pwr.starting && m.pwr.holdAt.isSome && allStopped m then
      let q := match m.pwr.cmd with | some (.hold, r) => r | _ => none
      let m := stopPairs m (if m.pwr.program then .selftest else .down)
      match m.pwr.cmd with
      | some (.hold, _) => postOpt { m with pwr := { m.pwr with cmd := none } } q .ok
      | _ => m
    else m)

/-- RIDE_THROUGH_EXPIRY (R301): the stopped task's signals go BAD, STALE; the first expiry in HOLD counts
for ALIVE (R303, R400). -/
def execRideThroughExpiry (t task : Nat) (s : State) : Host.Outcome State Fault Refusal :=
  s.runOn t (fun m =>
    match taskAt m task with
    | none => m
    | some k =>
      match k.stopAt with
      | none => m
      | some x =>
        if k.rcd.cls != 0 && !k.rideDone && x + k.window ≤ m.clk then
          let m := staleTask (setTask m task { k with rideDone := true }) task
          let m := if m.pwr.st == .hold then { m with pwr := { m.pwr with rideExpired := true } } else m
          if aliveOk m then m else stopAlive m
        else m)

/-! ### RECOVERY and AUTO_RUN (R298, R310, R503) -/

/-- RECOVERY_TIMEOUT (R310): 10 min after the first entry to RUN. -/
def execRecoveryTimeout (t : Nat) (s : State) : Host.Outcome State Fault Refusal :=
  s.runOn t (fun m =>
    match m.pwr.firstRun with
    | some x => if x + sec 600 ≤ m.clk then { m with pwr := { m.pwr with recovery := false } } else m
    | none => m)

/-- RECOVERY_CLEAR (R310). -/
def execRecoveryClear (t : Nat) (s : State) : Host.Outcome State Fault Refusal :=
  s.runReg t 0x15004 2 (fun _ => true) (fun m => { m with pwr := { m.pwr with recovery := false } })

/-- AUTO_RUN is kept in MRAM; written 1 while STARTING with the conditions met it acts as a RUN command (R503). -/
def setAutoRun (m : Mod) (v : Bool) : Mod :=
  let m := { m with nv := { m.nv with autoRun := v } }
  if v && m.pwr.starting && runConditions m && !cmdHeld m then { m with pwr := { m.pwr with runAsked := true } } else m

/-- AUTO_RUN_WRITE (R503). -/
def execAutoRunWrite (t : Nat) (v : Bool) (s : State) : Host.Outcome State Fault Refusal :=
  s.runReg t 0x15004 (if v then 1 else 0) (fun m => m.nv.autoRun != v) (fun m => setAutoRun m v)

end Sys2Proof.Machine
end

