-- ==== Sys2Proof/Machine/Dic.lean ====
section
/-! DEFINITION. Driold code: typed values, the execution of one instruction by the task that runs on
a core, and the meaning of each opcode (R92 to R105). -/

namespace Sys2Proof.Machine

/-! ### Typed values (R38, R97) -/

/-- The integer a VALUE holds under an integer TYPE, BOOL, ENUM16 or BITS64. -/
def asInt (ty : Nat) (v : Val) : Int :=
  match ty with
  | 0 => (v.toNat % 2 : Nat)
  | 1 => (v.truncate 32 : W32).toInt
  | 2 => (v.truncate 32 : W32).toNat
  | 3 => v.toInt
  | 6 => (v.toNat % 65536 : Nat)
  | _ => v.toNat

/-- The limits of an integer type. -/
def tyMin (ty : Nat) : Int :=
  match ty with
  | 1 => -2147483648
  | 3 => -9223372036854775808
  | _ => 0
def tyMax (ty : Nat) : Int :=
  match ty with
  | 0 => 1
  | 1 => 2147483647
  | 2 => 4294967295
  | 3 => 9223372036854775807
  | 6 => 65535
  | _ => 18446744073709551615

/-- The type is REAL32 or REAL64, and its format. -/
def tyReal (ty : Nat) : Bool := ty == 4 || ty == 5
def tyFmt (ty : Nat) : Fmt := if ty = 4 then r32 else r64

/-- The pattern a VALUE holds under a real type, and a pattern as a VALUE. -/
def asPat (ty : Nat) (v : Val) : Nat := if ty = 4 then v.toNat % 2 ^ 32 else v.toNat
def ofPat (p : Nat) : Val := BitVec.ofNat 64 p

/-- An integer result, saturated with UNCERTAIN out of range (R98). -/
def satVal (ty : Nat) (x : Int) (q : Qual) : VQ :=
  if x < tyMin ty then { v := BitVec.ofInt 64 (tyMin ty), q := worse q 0x4000 }
  else if tyMax ty < x then { v := BitVec.ofInt 64 (tyMax ty), q := worse q 0x4000 }
  else { v := BitVec.ofInt 64 x, q := q }

/-- A real result: BAD where it is a NaN or infinite (R98). -/
def realVQ (ty : Nat) (p : Nat) (q : Qual) : VQ :=
  { v := ofPat p, q := if fFinite (tyFmt ty) p then q else 0x0000 }

/-- A BOOL result. -/
def boolVQ (b : Bool) (q : Qual) : VQ := { v := boolVal b, q := q }

/-- The width of a type in bits (R97). -/
def tyWidth (ty : Nat) : Nat := if ty = 1 || ty = 2 || ty = 4 then 32 else 64

/-- A quality code of R41. -/
def isCode (q : Qual) : Bool := q == 0xC000 || (q.toNat / 4 == 0x1000 && q != 0x4003) || q.toNat < 8

/-! ### Registers and entries (R93, R94) -/

def Inst.reg (i : Inst) (n : Nat) : VQ := (i.regs[n]?).getD {}
def Inst.setReg (i : Inst) (n : Nat) (x : VQ) : Inst := { i with regs := lset i.regs n x }

/-- The image of a task (R72). -/
def imageOf (m : Mod) (t : Task) : Option Image := tget m.pge.images t.rcd.key

/-- An entry of a memory space as a load reads it (R94); a space or an index that no image passing the load
checks names reads zero, BAD. -/
def loadEntry (m : Mod) (t : Task) (i : Inst) (sp ix : Nat) : VQ :=
  let bad : VQ := { v := 0, q := 0 }
  match sp with
  | 0 => ((i.snap[ix]?).map (fun e => ({ v := e.val, q := e.qual } : VQ))).getD bad
  | 2 => (i.retain[ix]?).getD bad
  | 3 => (((imageOf m t).bind (fun g => g.consts[ix]?)).map (fun e => ({ v := e.1, q := 0xC000 } : VQ))).getD bad
  | 4 => (i.scratch[ix]?).getD bad
  | 5 => ((i.msg[ix]?).map (fun v => ({ v := v, q := 0xC000 } : VQ))).getD { v := 0, q := 0xC000 }
  | 7 => ((t.results[ix]?).map (fun r => ({ v := r.zeroExtend 64, q := 0xC000 } : VQ))).getD { v := 0, q := 0xC000 }
  | _ => bad

/-- The instance with an entry of a memory space stored (R79, R94). -/
def storeEntry (i : Inst) (sp ix : Nat) (x : VQ) : Inst :=
  match sp with
  | 1 => { i with wbuf := lset i.wbuf ix (some x) }
  | 2 => { i with retain := lset i.retain ix x }
  | 4 => { i with scratch := lset i.scratch ix x }
  | _ => i

/-! ### One instruction (R77, R96, R101) -/

/-- The end of the innermost loop body at the present call depth: the next iteration, or on behind the loop;
`fuel` bounds loops that end at the same word (R101: at most 8). -/
def loopEnd (fuel : Nat) (i : Inst) : Inst :=
  match fuel with
  | 0 => i
  | n + 1 =>
    match i.loops with
    | [] => i
    | f :: rest =>
      if f.depth = i.calls.length && i.pc = f.stop then
        if f.idx + 1 < f.total then { i with pc := f.start, loops := { f with idx := f.idx + 1 } :: rest }
        else loopEnd n { i with loops := rest }
      else i

/-- The task that runs on a core, with its instance; none where no task runs there or debug has halted the
core (R458). -/
def runningOn (m : Mod) (core : Nat) : Option (Nat × Task × Inst) :=
  if m.sec.halted.contains core then none
  else
    match tget m.pge.running core with
    | none => none
    | some k =>
      match taskAt m k with
      | none => none
      | some t =>
        match t.st, t.inst with
        | .running, some i => some (k, t, i)
        | _, _ => none

/-- The program engine after the core's next instruction, of `words` words and `steps` steps, with effect `f`:
the pc goes on, then `f`, then the end of a loop body. -/
def dicPge (m : Mod) (core words steps : Nat) (f : Task → Inst → Task × Inst) : PgeBlk :=
  match runningOn m core with
  | none => m.pge
  | some (k, t, i) =>
    let r := f t { i with pc := i.pc + words, steps := i.steps + steps }
    { m.pge with tasks := tset m.pge.tasks k { r.1 with inst := some (loopEnd 9 r.2) } }

/-- The next state of a DIC instruction: it changes the program engine alone. -/
def State.dic (s : State) (core words steps : Nat) (f : Mod → Task → Inst → Task × Inst) :
    Host.Outcome State Fault Refusal :=
  .next { s with m := { s.m with pge := dicPge s.m core words steps (f s.m) } }

/-- As `State.dic`, for an instruction that only writes register `d` from the instance. -/
def State.dicReg (s : State) (core words steps d : Nat) (f : Mod → Task → Inst → VQ) : Host.Outcome State Fault Refusal :=
  s.dic core words steps (fun m t i => (t, i.setReg d (f m t i)))

/-- A one-operand and a two-operand instruction of one word. -/
def State.dicUn (s : State) (core steps d a : Nat) (f : VQ → VQ) : Host.Outcome State Fault Refusal :=
  s.dicReg core 1 steps d (fun _ _ i => f (i.reg a))
def State.dicBin (s : State) (core steps d a b : Nat) (f : VQ → VQ → VQ) : Host.Outcome State Fault Refusal :=
  s.dicReg core 1 steps d (fun _ _ i => f (i.reg a) (i.reg b))

/-! ### Loads and stores -/

/-- NOP (R96). -/
def execDicNop (core : Nat) (s : State) : Host.Outcome State Fault Refusal := s.dic core 1 1 (fun _ t i => (t, i))

/-- A value read or written under a TYPE: the bits outside the type's encoding follow R38. -/
def VQ.typed (x : VQ) (ty : Nat) : VQ := { x with v := encodeVal ty x.v }

/-- LD (R96, R100). -/
def execDicLd (core ty d sp ix : Nat) (s : State) : Host.Outcome State Fault Refusal :=
  s.dicReg core 1 2 d (fun m t i => let e := loadEntry m t i sp ix; if sp = 5 then e else e.typed ty)

/-- ST (R96). -/
def execDicSt (core ty d sp ix : Nat) (s : State) : Host.Outcome State Fault Refusal :=
  s.dic core 1 2 (fun _ t i => (t, storeEntry i sp ix ((i.reg d).typed ty)))

/-- The index of LDX and STX: register A as UINT32 (R103). -/
def xIndex (i : Inst) (a : Nat) : Nat := (i.reg a).v.toNat % 2 ^ 32

/-- LDX (R103). -/
def execDicLdx (core ty d a sp base len : Nat) (s : State) : Host.Outcome State Fault Refusal :=
  s.dic core 2 3 (fun m t i =>
    let x := xIndex i a
    if x < len then
      let e := loadEntry m t i sp (base + x)
      (t, i.setReg d (if sp = 5 then e else e.typed ty))
    else ({ t with range := satInc t.range }, i.setReg d { v := 0, q := 0 }))

/-- STX (R103). -/
def execDicStx (core ty d a sp base len : Nat) (s : State) : Host.Outcome State Fault Refusal :=
  s.dic core 2 3 (fun _ t i =>
    let x := xIndex i a
    if x < len then (t, storeEntry i sp (base + x) ((i.reg d).typed ty))
    else ({ t with range := satInc t.range }, i))

/-- LDI16 (R95): sign-extended for INT32 and INT64, else zero-extended. -/
def execDicLdi16 (core ty d : Nat) (imm : BitVec 16) (s : State) : Host.Outcome State Fault Refusal :=
  s.dicReg core 1 1 d (fun _ _ _ =>
    ({ v := if ty = 1 || ty = 3 then imm.signExtend 64 else imm.zeroExtend 64, q := 0xC000 } : VQ).typed ty)

/-- LDI32 (R95). -/
def execDicLdi32 (core ty d : Nat) (imm : W32) (s : State) : Host.Outcome State Fault Refusal :=
  s.dicReg core 2 1 d (fun _ _ _ => ({ v := imm.zeroExtend 64, q := 0xC000 } : VQ).typed ty)

/-- LDI64 (R95). -/
def execDicLdi64 (core ty d : Nat) (imm : Val) (s : State) : Host.Outcome State Fault Refusal :=
  s.dicReg core 3 1 d (fun _ _ _ => ({ v := imm, q := 0xC000 } : VQ).typed ty)

/-- MOV (R96). -/
def execDicMov (core ty d a : Nat) (s : State) : Host.Outcome State Fault Refusal :=
  s.dicUn core 1 d a (fun x => x.typed ty)

/-- A 32-bit TIME with its WRAP_TAG extended against a wrap count (R344). -/
def extendTime (nowHi : W32) (time : W32) (tag : BitVec 16) : Val :=
  let c : W32 := (nowHi &&& 0xFFFF0000) ||| tag.zeroExtend 32
  let c := if nowHi < c then c - 0x10000 else c
  BitVec.ofNat 64 (c.toNat * 2 ^ 32 + time.toNat)

/-- TGET (R96): against the release instant of the instance. -/
def execDicTget (core d ix : Nat) (s : State) : Host.Outcome State Fault Refusal :=
  s.dicReg core 1 2 d (fun _ _ i =>
    match i.snap[ix]? with
    | some e => { v := extendTime (BitVec.ofNat 32 (i.release / 2 ^ 32)) e.time e.wrap, q := e.qual }
    | none => { v := 0, q := 0 })

/-! ### Arithmetic (R97, R98, R100) -/

/-- A binary arithmetic instruction: `r` over reals, `z` over integers, the quality the worst of the operands'. -/
def arith (ty : Nat) (r : Fmt → Nat → Nat → Nat) (z : Int → Int → Int) (x y : VQ) : VQ :=
  let q := worse x.q y.q
  if tyReal ty then realVQ ty (r (tyFmt ty) (asPat ty x.v) (asPat ty y.v)) q
  else satVal ty (z (asInt ty x.v) (asInt ty y.v)) q

/-- Step costs of R97. -/
def addCost (ty : Nat) : Nat := if ty = 4 then 2 else if ty = 5 then 3 else 1
def mulCost (ty : Nat) : Nat := if ty = 3 then 3 else if ty = 5 then 4 else 2
def divCost (ty : Nat) : Nat := if ty = 3 || ty = 5 then 16 else 8
def cmpCost (ty : Nat) : Nat := if tyReal ty then 2 else 1

/-- ADD, SUB, MUL (R98). -/
def execDicAdd (core ty d a b : Nat) (s : State) : Host.Outcome State Fault Refusal :=
  s.dicBin core (addCost ty) d a b (arith ty fAdd (· + ·))
def execDicSub (core ty d a b : Nat) (s : State) : Host.Outcome State Fault Refusal :=
  s.dicBin core (addCost ty) d a b (arith ty fSub (· - ·))
def execDicMul (core ty d a b : Nat) (s : State) : Host.Outcome State Fault Refusal :=
  s.dicBin core (mulCost ty) d a b (arith ty fMul (· * ·))

/-- DIV: towards zero; by zero 0, BAD (R98). -/
def divVQ (ty : Nat) (x y : VQ) : VQ :=
  if !tyReal ty && asInt ty y.v = 0 then { v := 0, q := 0 } else arith ty fDiv Int.tdiv x y
def execDicDiv (core ty d a b : Nat) (s : State) : Host.Outcome State Fault Refusal :=
  s.dicBin core (divCost ty) d a b (divVQ ty)

/-- MOD: the sign of the dividend; by zero 0, BAD (R98). -/
def modVQ (ty : Nat) (x y : VQ) : VQ :=
  if asInt ty y.v = 0 then { v := 0, q := 0 } else satVal ty (Int.tmod (asInt ty x.v) (asInt ty y.v)) (worse x.q y.q)
def execDicMod (core ty d a b : Nat) (s : State) : Host.Outcome State Fault Refusal :=
  s.dicBin core (divCost ty) d a b (modVQ ty)

/-- NEG and ABS (R96, R98). -/
def execDicNeg (core ty d a : Nat) (s : State) : Host.Outcome State Fault Refusal :=
  s.dicUn core 1 d a (fun x =>
    if tyReal ty then realVQ ty (fNegate (tyFmt ty) (asPat ty x.v)) x.q else satVal ty (-asInt ty x.v) x.q)
def execDicAbs (core ty d a : Nat) (s : State) : Host.Outcome State Fault Refusal :=
  s.dicUn core 1 d a (fun x =>
    if tyReal ty then realVQ ty (fAbs (tyFmt ty) (asPat ty x.v)) x.q else satVal ty |asInt ty x.v| x.q)

/-- MIN and MAX (R96, R98). -/
def execDicMin (core ty d a b : Nat) (s : State) : Host.Outcome State Fault Refusal :=
  s.dicBin core (cmpCost ty) d a b (arith ty fMin min)
def execDicMax (core ty d a b : Nat) (s : State) : Host.Outcome State Fault Refusal :=
  s.dicBin core (cmpCost ty) d a b (arith ty fMax max)

/-- SQRT (R96). -/
def execDicSqrt (core ty d a : Nat) (s : State) : Host.Outcome State Fault Refusal :=
  s.dicUn core (if ty = 4 then 12 else 24) d a (fun x => realVQ ty (fSqrt (tyFmt ty) (asPat ty x.v)) x.q)

/-- D clamped to A to B; with A above B the result is B, UNCERTAIN (R98). -/
def limVQ (ty : Nat) (d a b : VQ) : VQ :=
  let q := worse d.q (worse a.q b.q)
  if tyReal ty then
    let f := tyFmt ty
    let lo := asPat ty a.v
    let hi := asPat ty b.v
    realVQ ty (fMin f (fMax f (asPat ty d.v) lo) hi) (if fLt f hi lo then worse q 0x4000 else q)
  else
    let lo := asInt ty a.v
    let hi := asInt ty b.v
    satVal ty (min (max (asInt ty d.v) lo) hi) (if hi < lo then worse q 0x4000 else q)
/-- LIM (R96). -/
def execDicLim (core ty d a b : Nat) (s : State) : Host.Outcome State Fault Refusal :=
  s.dicReg core 1 (cmpCost ty) d (fun _ _ i => limVQ ty (i.reg d) (i.reg a) (i.reg b))

/-- A real function of one operand. -/
def fun1 (ty : Nat) (f : Fmt → Nat → Nat) (x : VQ) : VQ := realVQ ty (f (tyFmt ty) (asPat ty x.v)) x.q

/-- EXP, LN, SIN, COS (R96). -/
def execDicExp (core ty d a : Nat) (s : State) : Host.Outcome State Fault Refusal :=
  s.dicUn core (if ty = 4 then 24 else 40) d a (fun1 ty fExpo)
def execDicLn (core ty d a : Nat) (s : State) : Host.Outcome State Fault Refusal :=
  s.dicUn core (if ty = 4 then 24 else 40) d a (fun1 ty fLn)
def execDicSin (core ty d a : Nat) (s : State) : Host.Outcome State Fault Refusal :=
  s.dicUn core (if ty = 4 then 24 else 40) d a (fun1 ty fSin)
def execDicCos (core ty d a : Nat) (s : State) : Host.Outcome State Fault Refusal :=
  s.dicUn core (if ty = 4 then 24 else 40) d a (fun1 ty fCos)

/-- ATAN2 (R96). -/
def execDicAtan2 (core ty d a b : Nat) (s : State) : Host.Outcome State Fault Refusal :=
  s.dicBin core (if ty = 4 then 28 else 48) d a b (fun x y =>
    realVQ ty (fAtan2 (tyFmt ty) (asPat ty x.v) (asPat ty y.v)) (worse x.q y.q))

/-! ### Bitwise (R97) -/

/-- AND, OR, XOR, NOT. -/
def execDicAnd (core ty d a b : Nat) (s : State) : Host.Outcome State Fault Refusal :=
  s.dicBin core 1 d a b (fun x y => ({ v := x.v &&& y.v, q := worse x.q y.q } : VQ).typed ty)
def execDicOr (core ty d a b : Nat) (s : State) : Host.Outcome State Fault Refusal :=
  s.dicBin core 1 d a b (fun x y => ({ v := x.v ||| y.v, q := worse x.q y.q } : VQ).typed ty)
def execDicXor (core ty d a b : Nat) (s : State) : Host.Outcome State Fault Refusal :=
  s.dicBin core 1 d a b (fun x y => ({ v := x.v ^^^ y.v, q := worse x.q y.q } : VQ).typed ty)
def execDicNot (core ty d a : Nat) (s : State) : Host.Outcome State Fault Refusal :=
  s.dicUn core 1 d a (fun x => ({ v := ~~~x.v, q := x.q } : VQ).typed ty)

/-- The shift and bit count: B as UINT32, modulo 64. -/
def bitCount (y : VQ) : Nat := y.v.toNat % 64

/-- The bits of a value within its type's width. -/
def widthBits (ty : Nat) (v : Val) : Nat := v.toNat % 2 ^ tyWidth ty

/-- SHL and SHR: logical on the width of TYPE; a shift by the width or more gives zero. -/
def execDicShl (core ty d a b : Nat) (s : State) : Host.Outcome State Fault Refusal :=
  s.dicBin core 1 d a b (fun x y =>
    ({ v := BitVec.ofNat 64 (widthBits ty x.v * 2 ^ bitCount y % 2 ^ tyWidth ty), q := worse x.q y.q } : VQ).typed ty)
def execDicShr (core ty d a b : Nat) (s : State) : Host.Outcome State Fault Refusal :=
  s.dicBin core 1 d a b (fun x y =>
    ({ v := BitVec.ofNat 64 (widthBits ty x.v / 2 ^ bitCount y), q := worse x.q y.q } : VQ).typed ty)

/-- BITGET: FALSE at or above the width. -/
def execDicBitget (core ty d a b : Nat) (s : State) : Host.Outcome State Fault Refusal :=
  s.dicBin core 1 d a b (fun x y => boolVQ (bitOf (widthBits ty x.v) (bitCount y)) (worse x.q y.q))

/-- BITSET: a bit at or above the width leaves D's value unchanged. -/
def bitsetVQ (ty : Nat) (d a b : VQ) : VQ :=
  let n := bitCount b
  let one : Val := BitVec.ofNat 64 (2 ^ n)
  let v := if n < tyWidth ty then (if bitOf a.v.toNat 0 then d.v ||| one else d.v &&& ~~~one) else d.v
  ({ v := v, q := worse d.q a.q } : VQ).typed ty
def execDicBitset (core ty d a b : Nat) (s : State) : Host.Outcome State Fault Refusal :=
  s.dicReg core 1 1 d (fun _ _ i => bitsetVQ ty (i.reg d) (i.reg a) (i.reg b))

/-! ### Compare, select, convert, quality -/

/-- A comparison from less and equal, by COND (R96). -/
def condOf (cond : Nat) (lt eq : Bool) : Bool :=
  match cond with
  | 0 => eq
  | 1 => !eq
  | 2 => lt
  | 3 => lt || eq
  | 4 => !lt && !eq
  | _ => !lt

/-- CMP (R96, R98): with a NaN FALSE, or TRUE for NE, and BAD. -/
def cmpVQ (ty cond : Nat) (x y : VQ) : VQ :=
  let q := worse x.q y.q
  if tyReal ty then
    let f := tyFmt ty
    let p := asPat ty x.v
    let r := asPat ty y.v
    if fIsNan f p || fIsNan f r then boolVQ (cond == 1) 0 else boolVQ (condOf cond (fLt f p r) (fEq f p r)) q
  else
    let p := asInt ty x.v
    let r := asInt ty y.v
    boolVQ (condOf cond (p < r) (p == r)) q
def execDicCmp (core ty d a b cond : Nat) (s : State) : Host.Outcome State Fault Refusal :=
  s.dicBin core (cmpCost ty) d a b (cmpVQ ty cond)

/-- SEL (R96, R100): the worst of the selector D and the chosen operand. -/
def execDicSel (core ty d a b : Nat) (s : State) : Host.Outcome State Fault Refusal :=
  s.dicReg core 1 1 d (fun _ _ i =>
    let sel := i.reg d
    let c := if bitOf sel.v.toNat 0 then i.reg a else i.reg b
    ({ v := c.v, q := worse sel.q c.q } : VQ).typed ty)

/-- The DIC conversion rules (R99). -/
def convert (src dst : Nat) (x : VQ) : VQ :=
  if dst = 0 then
    if tyReal src then
      (if fIsNan (tyFmt src) (asPat src x.v) then boolVQ false 0 else boolVQ (!fIsZero (tyFmt src) (asPat src x.v)) x.q)
    else boolVQ (asInt src x.v != 0) x.q
  else if src = 7 || dst = 7 then x.typed dst
  else if tyReal src && tyReal dst then
    let p := asPat src x.v
    realVQ dst (if src = dst then p else if src = 5 then f64to32 p else f32to64 p) x.q
  else if tyReal src then
    let f := tyFmt src
    let p := asPat src x.v
    if fIsNan f p then { v := 0, q := 0 }
    else if fIsInf f p then satVal dst (if fNeg f p then tyMin dst - 1 else tyMax dst + 1) x.q
    else satVal dst (fToInt f p) x.q
  else if tyReal dst then realVQ dst (fOfInt (tyFmt dst) (asInt src x.v)) x.q
  else satVal dst (asInt src x.v) x.q

/-- CVT (R99): `src` the source type in the B field. -/
def execDicCvt (core ty d a src : Nat) (s : State) : Host.Outcome State Fault Refusal :=
  s.dicUn core 2 d a (convert src ty)

/-- QGET (R96). -/
def execDicQget (core _ty d a : Nat) (s : State) : Host.Outcome State Fault Refusal :=
  s.dicUn core 1 d a (fun x => { v := x.q.zeroExtend 64, q := 0xC000 })

/-- QSET (R100): BAD where the low 16 bits of A are no code of R41. -/
def execDicQset (core _ty d a : Nat) (s : State) : Host.Outcome State Fault Refusal :=
  s.dicReg core 1 1 d (fun _ _ i =>
    let q : Qual := (i.reg a).v.truncate 16
    { v := (i.reg d).v, q := if isCode q then q else 0 })

/-- QSEL (R96). -/
def execDicQsel (core ty d a b : Nat) (s : State) : Host.Outcome State Fault Refusal :=
  s.dicBin core 1 d a b (fun x y => (if isGood x.q then x else y).typed ty)

/-! ### Control flow (R101, R102) -/

/-- BR, BRT, BRF. -/
def execDicBr (core off : Nat) (s : State) : Host.Outcome State Fault Refusal :=
  s.dic core 1 1 (fun _ t i => (t, { i with pc := i.pc + off }))
def execDicBrt (core a off : Nat) (s : State) : Host.Outcome State Fault Refusal :=
  s.dic core 1 1 (fun _ t i => (t, if bitOf (i.reg a).v.toNat 0 then { i with pc := i.pc + off } else i))
def execDicBrf (core a off : Nat) (s : State) : Host.Outcome State Fault Refusal :=
  s.dic core 1 1 (fun _ t i => (t, if bitOf (i.reg a).v.toNat 0 then i else { i with pc := i.pc + off }))

/-- LOOP entered with its iterations: none, or an empty body, goes on behind it. -/
def enterLoop (i : Inst) (n off : Nat) : Inst :=
  let i := { i with steps := i.steps + 2 * n }
  if n = 0 || off = 0 then { i with pc := i.pc + off }
  else { i with loops := { start := i.pc, stop := i.pc + off, total := n, idx := 0, depth := i.calls.length } :: i.loops }

/-- LOOP (R101): min(A, MAX) iterations, A read as UINT32. -/
def execDicLoop (core a off max : Nat) (s : State) : Host.Outcome State Fault Refusal :=
  s.dic core 2 2 (fun _ t i => (t, enterLoop i (min (xIndex i a) max) off))

/-- LIDX (R96). -/
def execDicLidx (core d : Nat) (s : State) : Host.Outcome State Fault Refusal :=
  s.dicReg core 1 1 d (fun _ _ i =>
    { v := match i.loops with | f :: _ => BitVec.ofNat 64 f.idx | [] => 0, q := 0xC000 })

/-- CALL and RET (R102): a return leaves the loops the subroutine runs. -/
def execDicCall (core target : Nat) (s : State) : Host.Outcome State Fault Refusal :=
  s.dic core 2 2 (fun _ t i => (t, { i with calls := i.pc :: i.calls, pc := target }))
def execDicRet (core : Nat) (s : State) : Host.Outcome State Fault Refusal :=
  s.dic core 1 1 (fun _ t i =>
    match i.calls with
    | [] => (t, i)
    | r :: rest => (t, { i with pc := r, calls := rest, loops := i.loops.dropWhile (fun f => rest.length < f.depth) }))

/-- END (R77, R96): the task enters COMMITTING and leaves its core; the commit carries this instant (R80). -/
def endPge (m : Mod) (core : Nat) : PgeBlk :=
  match runningOn m core with
  | none => m.pge
  | some (k, t, i) =>
    { m.pge with
      tasks := tset m.pge.tasks k { t with st := .committing, inst := some { i with pc := i.pc + 1, steps := i.steps + 1, began := m.clk } }
      running := tdel m.pge.running core }
def execDicEnd (core : Nat) (s : State) : Host.Outcome State Fault Refusal :=
  .next { s with m := { s.m with pge := endPge s.m core } }

/-- NOW (R105). -/
def execDicNow (core d : Nat) (s : State) : Host.Outcome State Fault Refusal :=
  s.dicReg core 1 1 d (fun _ _ i => { v := BitVec.ofNat 64 i.release, q := 0xC000 })

end Sys2Proof.Machine
end

