-- ==== Sys2Proof/Machine/DicBlocks.lean ====
section
/-! DEFINITION. The built-in function blocks (R106, R107) and the service requests an instance queues
(R108, R109). A block's entry holds its state in four words: the state of the block is the model's
layout, which no reader sees. -/

namespace Sys2Proof.Machine

/-! ### Function blocks -/

/-- What a block computes: its new state, V0, and V1 where it has a second output. -/
structure FbOut where
  st : Fbi
  v0 : VQ
  v1 : Option VQ := none
deriving DecidableEq, Repr

/-- The elapsed time of an instance (R105): zero for the first after a start, a HALTED clear or a CODE change. -/
def elapsed (t : Task) (i : Inst) : Nat :=
  match t.lastCommit with
  | some x => i.release - x
  | none => 0

/-- The next state of FB: `used` inputs carry their worst quality to the outputs (R107). -/
def State.fb (s : State) (core inst steps used : Nat) (f : Mod → Task → Inst → Fbi → Qual → FbOut) :
    Host.Outcome State Fault Refusal :=
  s.dic core 1 steps (fun m t i =>
    let q := (List.range used).foldl (fun q n => worse q (i.reg n).q) 0xC000
    let o := f m t i ((i.fbi[inst]?).getD {}) q
    let i := { i.setReg 0 o.v0 with fbi := lset i.fbi inst o.st }
    (t, match o.v1 with | some x => i.setReg 1 x | none => i))

/-- A register's bit 0, INT64, INT32 and REAL64. -/
def Inst.b (i : Inst) (n : Nat) : Bool := bitOf (i.reg n).v.toNat 0
def Inst.i64 (i : Inst) (n : Nat) : Int := (i.reg n).v.toInt
def Inst.i32 (i : Inst) (n : Nat) : Int := asInt 1 (i.reg n).v
def Inst.r64 (i : Inst) (n : Nat) : F64 := (i.reg n).v

/-- A time as INT64, saturated at its limit (R106). -/
def timeVQ (n : Nat) (q : Qual) : VQ := { v := BitVec.ofNat 64 (min n (2 ^ 63 - 1)), q := q }

/-- TON: w0 holds whether IN was TRUE, w1 since when. -/
def ton (i : Inst) (st : Fbi) (q : Qual) : FbOut :=
  if i.b 0 then
    let since := if st.w0 = 1 then st.w1.toNat else i.release
    let et := i.release - since
    { st := { st with w0 := 1, w1 := BitVec.ofNat 64 since }, v0 := boolVQ (i.i64 1 ≤ et) q, v1 := some (timeVQ et q) }
  else { st := {}, v0 := boolVQ false q, v1 := some (timeVQ 0 q) }
def execFbTon (core inst : Nat) (s : State) : Host.Outcome State Fault Refusal :=
  s.fb core inst 12 2 (fun _ _ i st q => ton i st q)

/-- TOF: w0 is 0 before IN was ever TRUE, 1 while it is, 2 after its fall at w1. -/
def tof (i : Inst) (st : Fbi) (q : Qual) : FbOut :=
  if i.b 0 then { st := { st with w0 := 1 }, v0 := boolVQ true q, v1 := some (timeVQ 0 q) }
  else if st.w0 = 0 then { st := st, v0 := boolVQ false q, v1 := some (timeVQ 0 q) }
  else
    let since := if st.w0 = 2 then st.w1.toNat else i.release
    let et := i.release - since
    { st := { st with w0 := 2, w1 := BitVec.ofNat 64 since }, v0 := boolVQ (et < i.i64 1) q, v1 := some (timeVQ et q) }
def execFbTof (core inst : Nat) (s : State) : Host.Outcome State Fault Refusal :=
  s.fb core inst 12 2 (fun _ _ i st q => tof i st q)

/-- TP: w0 the last IN, w1 since when the pulse runs, w2 whether a pulse runs or its time is still shown. -/
def tp (i : Inst) (st : Fbi) (q : Qual) : FbOut :=
  let x := i.b 0
  let running := st.w2 = 1 && ((i.release - st.w1.toNat : Nat) : Int) < i.i64 1
  let starts := !running && x && st.w0 = 0
  let since := if starts then i.release else st.w1.toNat
  let on := running || (starts && 0 < i.i64 1)
  let et := if on || (x && (st.w2 = 1 || starts)) then i.release - since else 0
  { st := { st with w0 := boolVal x, w1 := BitVec.ofNat 64 since, w2 := boolVal (on || (x && (st.w2 = 1 || starts))) }
    v0 := boolVQ on q, v1 := some (timeVQ et q) }
def execFbTp (core inst : Nat) (s : State) : Host.Outcome State Fault Refusal :=
  s.fb core inst 12 2 (fun _ _ i st q => tp i st q)

/-- CTU and CTD: w0 the last count input, w1 CV (saturating at INT32's limits). -/
def counter (i : Inst) (st : Fbi) (q : Qual) (up : Bool) : FbOut :=
  let cv := asInt 1 st.w1
  let edge := i.b 0 && st.w0 = 0
  let next := if i.b 1 then (if up then 0 else i.i32 2)
    else if edge then (if up then min (cv + 1) (tyMax 1) else max (cv - 1) (tyMin 1)) else cv
  let w : Val := BitVec.ofInt 64 next
  { st := { st with w0 := boolVal (i.b 0), w1 := w }
    v0 := boolVQ (if up then i.i32 2 ≤ next else next ≤ 0) q, v1 := some { v := w, q := q } }
def execFbCtu (core inst : Nat) (s : State) : Host.Outcome State Fault Refusal :=
  s.fb core inst 8 3 (fun _ _ i st q => counter i st q true)
def execFbCtd (core inst : Nat) (s : State) : Host.Outcome State Fault Refusal :=
  s.fb core inst 8 3 (fun _ _ i st q => counter i st q false)

/-- EDGE: w0 the last IN. -/
def execFbEdge (core inst : Nat) (s : State) : Host.Outcome State Fault Refusal :=
  s.fb core inst 4 1 (fun _ _ i st q =>
    let x := i.b 0
    { st := { st with w0 := boolVal x }, v0 := boolVQ (x && st.w0 = 0) q, v1 := some (boolVQ (!x && st.w0 = 1) q) })

/-- SETL and RSTL: w0 is Q. -/
def latch (i : Inst) (st : Fbi) (q : Qual) (setDom : Bool) : FbOut :=
  let old := st.w0 = 1
  let on := if setDom then i.b 0 || (old && !i.b 1) else !i.b 1 && (i.b 0 || old)
  { st := { st with w0 := boolVal on }, v0 := boolVQ on q }
def execFbSetl (core inst : Nat) (s : State) : Host.Outcome State Fault Refusal :=
  s.fb core inst 4 2 (fun _ _ i st q => latch i st q true)
def execFbRstl (core inst : Nat) (s : State) : Host.Outcome State Fault Refusal :=
  s.fb core inst 4 2 (fun _ _ i st q => latch i st q false)

/-- HYST: w0 is Q. -/
def execFbHyst (core inst : Nat) (s : State) : Host.Outcome State Fault Refusal :=
  s.fb core inst 6 3 (fun _ _ i st q =>
    let on := if lt64 (i.r64 1) (i.r64 0) then true else if lt64 (i.r64 0) (i.r64 2) then false else st.w0 == 1
    { st := { st with w0 := boolVal on }, v0 := boolVQ on q })

/-- A block whose main input is BAD holds its state and outputs it UNCERTAIN (R107); w0 is the state. -/
def heldOr (i : Inst) (st : Fbi) (q : Qual) (y : F64) : FbOut :=
  if isBad (i.reg 0).q then { st := st, v0 := { v := st.w0, q := 0x4000 } }
  else { st := { st with w0 := y }, v0 := realVQ 5 y.toNat q }

/-- FILT1: no lag for a time constant of zero or less; unchanged when no time has elapsed. -/
def execFbFilt1 (core inst : Nat) (s : State) : Host.Outcome State Fault Refusal :=
  s.fb core inst 20 2 (fun _ t i st q =>
    let dt := elapsed t i
    heldOr i st q (if i.i64 1 ≤ 0 then i.r64 0 else if dt = 0 then st.w0 else Config.lag64 st.w0 (i.r64 0) dt (i.i64 1)))

/-- A rate per second over an elapsed time in ns, as REAL64. -/
def overTime (rate : F64) (dt : Nat) : F64 := mul64 rate (ratio64 dt 1000000000)

/-- IN approached from a state by no more than a step. -/
def approach (y x step : F64) : F64 :=
  let d := sub64 x y
  if le64 (abs64 d) step then x else if lt64 d 0 then sub64 y step else add64 y step

/-- RAMPL: a rate of zero or less holds the output. -/
def execFbRampl (core inst : Nat) (s : State) : Host.Outcome State Fault Refusal :=
  s.fb core inst 20 2 (fun _ t i st q =>
    heldOr i st q (if le64 (i.r64 1) 0 then st.w0 else approach st.w0 (i.r64 0) (overTime (i.r64 1) (elapsed t i))))

/-- TOTAL: the integral of the rate, zero while RESET is TRUE. -/
def execFbTotal (core inst : Nat) (s : State) : Host.Outcome State Fault Refusal :=
  s.fb core inst 16 2 (fun _ t i st q =>
    heldOr i st q (if i.b 1 then 0 else add64 st.w0 (overTime (i.r64 0) (elapsed t i))))

/-- DEADB. -/
def deadband (x band : F64) : F64 :=
  if le64 (abs64 x) band then 0 else if lt64 x 0 then add64 x band else sub64 x band
def execFbDeadb (core inst : Nat) (s : State) : Host.Outcome State Fault Refusal :=
  s.fb core inst 6 2 (fun _ _ i st q => { st := st, v0 := realVQ 5 (deadband (i.r64 0) (i.r64 1)).toNat q })

/-- The values of a run of constants, all of one type. -/
def constRun (cs : List (Val × Nat)) (o n ty : Nat) : Option (List Val) :=
  let r := (cs.drop o).take n
  if r.length = n && r.all (fun e => e.2 == ty) then some (r.map Prod.fst) else none

/-- Values rise strictly. -/
def rising64 (xs : List F64) : Bool :=
  match xs with
  | a :: b :: r => lt64 a b && rising64 (b :: r)
  | _ => true

/-- The table of INTERP at constant `k` (R106), or none where it breaks its layout. -/
def interpTable (cs : List (Val × Nat)) (k : Nat) : Option (List (F64 × F64)) :=
  match constRun cs k 1 2 with
  | some [n] =>
    let n := n.toNat
    if 2 ≤ n && n ≤ 32 then
      match constRun cs (k + 1) n 5, constRun cs (k + n + 1) n 5 with
      | some xs, some ys => if rising64 xs then some (xs.zip ys) else none
      | _, _ => none
    else none
  | _ => none

/-- Linear interpolation over points, held constant beyond the ends (R106). -/
def interp (ps : List (F64 × F64)) (x : F64) : F64 :=
  match ps with
  | [] => 0
  | [(_, y)] => y
  | (x0, y0) :: (x1, y1) :: r =>
    if le64 x x0 then y0
    else if le64 x x1 then add64 y0 (div64 (mul64 (sub64 y1 y0) (sub64 x x0)) (sub64 x1 x0))
    else interp ((x1, y1) :: r) x

/-- INTERP: a table that breaks its layout gives zero, BAD. -/
def execFbInterp (core inst : Nat) (s : State) : Host.Outcome State Fault Refusal :=
  s.fb core inst 40 2 (fun m t i st q =>
    match (imageOf m t).bind (fun g => interpTable g.consts (xIndex i 1)) with
    | none => { st := st, v0 := { v := 0, q := 0 } }
    | some ps =>
      { st := st, v0 := realVQ 5 (if isNan64 (i.r64 0) then i.r64 0 else interp ps (i.r64 0)).toNat q })

/-! ### Service requests -/

/-- SYS: the request is queued with V0 to V4, and issued at commit (R108, R109). -/
def State.sys (s : State) (core num : Nat) : Host.Outcome State Fault Refusal :=
  s.dic core 1 4 (fun _ t i =>
    (t, if i.reqs.length < 64 then
          { i with reqs := i.reqs ++ [{ num := num, v0 := (i.reg 0).v, v1 := (i.reg 1).v, v2 := (i.reg 2).v,
                                        v3 := (i.reg 3).v, v4 := (i.reg 4).v }] }
        else i))

def execSysLoopBank (core : Nat) (s : State) : Host.Outcome State Fault Refusal := s.sys core 0x01
def execSysLoopEnable (core : Nat) (s : State) : Host.Outcome State Fault Refusal := s.sys core 0x02
def execSysLoopCoef (core : Nat) (s : State) : Host.Outcome State Fault Refusal := s.sys core 0x03
def execSysPlanStart (core : Nat) (s : State) : Host.Outcome State Fault Refusal := s.sys core 0x10
def execSysPlanPause (core : Nat) (s : State) : Host.Outcome State Fault Refusal := s.sys core 0x11
def execSysPlanResume (core : Nat) (s : State) : Host.Outcome State Fault Refusal := s.sys core 0x12
def execSysPlanAbort (core : Nat) (s : State) : Host.Outcome State Fault Refusal := s.sys core 0x13
def execSysUnitCmd (core : Nat) (s : State) : Host.Outcome State Fault Refusal := s.sys core 0x20
def execSysUnitResume (core : Nat) (s : State) : Host.Outcome State Fault Refusal := s.sys core 0x21
def execSysMsgSend (core : Nat) (s : State) : Host.Outcome State Fault Refusal := s.sys core 0x30
def execSysHostEvent (core : Nat) (s : State) : Host.Outcome State Fault Refusal := s.sys core 0x31

end Sys2Proof.Machine
end

