-- ==== Sys2Proof/Machine/Loops.lean ====
section
/-! DEFINITION. The loop engine (R113 to R142): inputs, the standard law, microprograms, soft start, tests,
reactions, banks and the commands on them. -/

namespace Sys2Proof.Machine

/-! ### Instants (R30, R74, R115) -/

/-- The control plane runs: in RUN and QUIET, and in HOLD once RUN has been entered (R14, R290). -/
def ctlRuns (m : Mod) : Bool :=
  m.pwr.st == .run || m.pwr.st == .quiet || (m.pwr.st == .hold && !m.pwr.starting)

/-- Now is an instant PHASE_US + k × PERIOD_US after the release epoch (R74, R115). -/
def onInstant (m : Mod) (periodUs phaseUs : Nat) : Bool :=
  m.pwr.epoch + us phaseUs ≤ nowNs m && (nowNs m - m.pwr.epoch - us phaseUs) % us periodUs == 0

/-! ### Inputs (R116, R125) -/

/-- A value with its quality, as REAL32. -/
structure RQ where
  v : F32
  q : Qual
deriving DecidableEq, Repr

/-- A visible value as REAL32: of a signal of another type, its value converted (R99, log 40). -/
def realOf (m : Mod) (h : W32) : RQ :=
  let w := viewOf m h
  let ty := match sigAt m (hIdx h) with | some r => r.ty | none => 4
  { v := if ty = 4 then valReal w.val else valReal (convert ty 4 { v := w.val, q := w.qual }).v, q := w.qual }

/-- The inputs of one sample, and whether an input has BAD quality. -/
structure LoopIn where
  y : RQ
  r : RQ
  v : RQ
  man : RQ
  fb : RQ
  aux : List RQ
  fbBad : Bool
deriving DecidableEq, Repr

/-- The latest completed sample of a channel as REAL32, a digital channel's as 0.0 or 1.0, with its quality (R116); in a triad the voted one (R272). -/
def directSample (m : Mod) (c : Nat) : RQ :=
  let ch := chanOf m c
  let w := viewOf m ch.rcd.signal
  let (v, q) := if m.tri.mode != 0 && ch.rcd.signal != 0 then (w.val, w.qual) else (ch.smp, ch.smpQ)
  { v := if ch.rcd.function = 6 || ch.isAo then valReal v else if v = 1 then 0x3F800000 else 0, q := q }

/-- PV_SRC: a signal, or 0x8000_00nn for the direct path (R116). -/
def readPv (m : Mod) (h : W32) : RQ := if fld h 31 31 = 1 then directSample m (fld h 7 0) else realOf m h

/-- An input with BAD quality gives way to its last value of other quality (R125); a null input is 0, GOOD. -/
def keepGood (m : Mod) (h : W32) (last : F32) : RQ × F32 × Bool :=
  if h = 0 then ({ v := 0, q := 0xC000 }, last, false)
  else
    let x := realOf m h
    if isBad x.q then ({ v := last, q := 0x4000 }, last, true) else (x, x.v, false)

/-! ### The standard law (R121 to R124) -/

/-- Coefficient `n` of a bank (R121). -/
def coef (co : List F32) (n : Nat) : F32 := (co[n]?).getD 0

/-- The active bank. -/
def Loop.bank (l : Loop) (n : Nat) : List F32 := if n = 1 then l.bank1 else l.bank0

/-- The sample period h in seconds, REAL32 and REAL64 (R122). -/
def hOf (l : Loop) : F32 := ratio32 l.rcd.period 1000000
def hOf64 (l : Loop) : F64 := ratio64 l.rcd.period 1000000

/-- d[k] and uc of R122: p and d in binary32, the sum in binary64 rounded once (R123). -/
def lawTerms (l : Loop) (co : List F32) (i : F64) (w y v : F32) : F32 × F32 :=
  let h := hOf l
  let kp := coef co 0
  let td := coef co 2
  let n := coef co 3
  let c := coef co 5
  let p := mul32 kp (sub32 (mul32 (coef co 4) w) y)
  let den := add32 td (mul32 n h)
  let alpha := if eq32 td 0 then 0 else div32 td den
  let beta := if eq32 td 0 then 0 else div32 (mul32 (mul32 kp td) n) den
  let d := add32 (mul32 alpha l.d)
    (mul32 beta (sub32 (sub32 (mul32 c w) y) (sub32 (mul32 c l.wPrev) l.yLaw)))
  let sum := add64 (add64 (add64 (add64 (widen p) i) (widen d)) (mul64 (widen (coef co 6)) (widen v))) (widen (coef co 7))
  (d, narrow sum)

/-- The output of R122 from ul: the rate limit from the output applied last. -/
def rateLimit (l : Loop) (co : List F32) (uLast ul : F32) : F32 :=
  let rate := coef co 10
  if lt32 0 rate then
    let s := mul32 rate (hOf l)
    add32 uLast (clamp32 (sub32 ul uLast) (neg32 s) s)
  else ul

/-- i[k] of R122 and R124 from u and uc. -/
def integrate (l : Loop) (co : List F32) (i : F64) (w y u uc : F32) : F64 :=
  let e := sub32 w y
  let ei := if le32 (abs32 e) (coef co 12) then 0 else e
  let ti := coef co 1
  let ki := if lt32 0 ti then div64 (mul64 (widen (coef co 0)) (hOf64 l)) (widen ti) else 0
  let inc := mul64 ki (widen ei)
  let tt := coef co 11
  let gap := sub64 (widen uc) (widen u)
  if lt32 0 tt then add64 (add64 i inc) (mul64 (div64 (hOf64 l) (widen tt)) (neg64 gap))
  else if (lt64 0 gap && lt64 0 inc) || (lt64 gap 0 && lt64 inc 0) then i
  else add64 i inc

/-! ### Microprograms (R137 to R140) -/

/-- What a program has computed so far: registers, outputs, and the PID's uc, d and i. -/
structure MicroSt where
  w : List RQ := List.replicate 8 { v := 0, q := 0xC000 }
  out : Option RQ := none
  out2 : Option RQ := none
  uc : Option F32 := none
  ul : F32 := 0
  d : Option F32 := none
  i : Option F64 := none
  wPid : F32 := 0
  yPid : F32 := 0
deriving DecidableEq, Repr

/-- An operand of a microprogram (R138). -/
def microSel (l : Loop) (co : List F32) (x : LoopIn) (w : F32) (st : MicroSt) (n : Nat) : RQ :=
  let good : F32 → RQ := fun v => { v := v, q := 0xC000 }
  if n < 8 then (st.w[n]?).getD (good 0)
  else if n = 0x08 then x.y
  else if n = 0x09 then x.r
  else if n = 0x0A then { v := w, q := x.r.q }
  else if n = 0x0B then good l.u
  else if n = 0x0C then x.v
  else if n = 0x0D then x.man
  else if n = 0x0E then x.fb
  else if 0x10 ≤ n && n ≤ 0x13 then (x.aux[n - 0x10]?).getD (good 0)
  else if 0x20 ≤ n && n ≤ 0x2F then good (coef co (n - 0x20))
  else if n = 0x31 then good 0x3F800000
  else if n = 0x32 then good (hOf l)
  else good 0

/-- CURVE interpolated linearly at x clamped to 0 to 1 (R139). -/
def curveAt (curve : List F32) (x : F32) : F32 :=
  let x := clamp32 x 0 0x3F800000
  let s := mul32 x 0x41700000
  let n := if finite32 s then min ((fToInt r32 (sub32 s 0x3F000000).toNat).toNat) 14 else 0
  let n := if lt32 s (ofInt32 n) then n - 1 else if le32 (ofInt32 (n + 1)) s then min (n + 1) 14 else n
  let a := (curve[n]?).getD 0
  let b := (curve[n + 1]?).getD 0
  add32 a (mul32 (sub32 b a) (sub32 s (ofInt32 n)))

/-- The worst quality of two operands with a value. -/
def rq2 (v : F32) (a b : RQ) : RQ := { v := v, q := worse a.q b.q }

/-- One microprogram instruction (R139). -/
def microStep (l : Loop) (co : List F32) (x : LoopIn) (w : F32) (i : F64) (curve : List F32) (st : MicroSt) (c : W32) : MicroSt :=
  let d := fld c 25 23
  let a := microSel l co x w st (fld c 22 17)
  let b := microSel l co x w st (fld c 16 11)
  let dv := (st.w[d]?).getD { v := 0, q := 0xC000 }
  let set : RQ → MicroSt := fun r => { st with w := lset st.w d r }
  match fld c 31 26 with
  | 0x01 => set a
  | 0x02 => set (rq2 (add32 a.v b.v) a b)
  | 0x03 => set (rq2 (sub32 a.v b.v) a b)
  | 0x04 => set (rq2 (mul32 a.v b.v) a b)
  | 0x05 => set (rq2 (div32 a.v b.v) a b)
  | 0x06 => set (rq2 (min32 a.v b.v) a b)
  | 0x07 => set (rq2 (max32 a.v b.v) a b)
  | 0x08 => set (rq2 (min32 (max32 dv.v a.v) b.v) dv (rq2 0 a b))
  | 0x09 => set { a with v := abs32 a.v }
  | 0x0A => set (let s := if le32 0 dv.v then a else b; { s with q := worse dv.q s.q })
  | 0x0B => set { a with v := curveAt curve a.v }
  | 0x0C =>
    let (dk, uc) := lawTerms l co i a.v b.v x.v.v
    let ul := clamp32 uc (coef co 8) (coef co 9)
    { set (rq2 ul a b) with
      uc := some uc, ul := ul, d := some dk, i := some (integrate l co i a.v b.v ul uc), wPid := a.v, yPid := b.v }
  | 0x0D => { st with out := some a }
  | 0x0E => { st with out2 := some a }
  | _ => st

/-- A whole program over one sample. -/
def runMicro (l : Loop) (p : Micro) (co : List F32) (x : LoopIn) (w : F32) (i : F64) : MicroSt :=
  (p.code.take p.count).foldl (microStep l co x w i p.curve) {}

/-- uc of a sample with a bank, a working set-point and an integrator (R127, R139); none where a program has no PID. -/
def ucOf (l : Loop) (co : List F32) (x : LoopIn) (w : F32) : Option F32 :=
  match l.micro with
  | none => some (lawTerms l co l.i w x.y.v x.v.v).2
  | some p => if l.rcd.micro then (runMicro l p co x w l.i).uc else some (lawTerms l co l.i w x.y.v x.v.v).2

/-- i corrected by `a − b` (R127). -/
def correct (l : Loop) (a b : Option F32) : Loop :=
  match a, b with
  | some a, some b => { l with i := add64 l.i (sub64 (widen a) (widen b)) }
  | _, _ => l

/-! ### Swap, set-point and closing (R127 to R129) -/

/-- A pending swap takes effect (R127). -/
def takeSwap (l : Loop) (x : LoopIn) : Loop :=
  match l.swap with
  | none => l
  | some n =>
    if n = l.active then { l with swap := none }
    else
      let a := ucOf l (l.bank l.active) x l.w
      let b := ucOf l (l.bank n) x l.w
      { correct l a b with active := n, swap := none }

/-- The output applied last, or the channel's readback before any was applied (R128). -/
def lastOut (m : Mod) (l : Loop) : F32 :=
  if l.applied then l.u
  else if l.rcd.outCh < 256 then (directSample m l.rcd.outCh).v
  else (realOf m l.rcd.outSig).v

/-- The integrator is set so that uc equals an output (R128, R129). -/
def trackTo (l : Loop) (x : LoopIn) (u : F32) : Loop := correct l (some u) (ucOf l (l.bank l.active) x l.w)

/-- The loop closes (R128): w at y, d zero, uc at the output applied last. A ramp follows where the target
is more than SS_STEP from `ref` (R59, log 41). -/
def closeLoop (m : Mod) (l : Loop) (x : LoopIn) (ref : F32) : Loop :=
  let l := { l with w := x.y.v, wPrev := x.y.v, yLaw := x.y.v, d := 0, closed := true, rPrev := x.r.v }
  let l := trackTo l x (lastOut m l)
  { l with ramping := lt32 0 l.rcd.ssRate && lt32 l.rcd.ssStep (abs32 (sub32 x.r.v ref)) }

/-- The working set-point moves (R128). -/
def moveSetpoint (l : Loop) (x : LoopIn) : Loop :=
  let r := x.r.v
  let jump := lt32 l.rcd.ssStep (abs32 (sub32 r l.rPrev)) && lt32 0 l.rcd.ssRate
  let l := { l with rPrev := r }
  if l.ramping then
    let s := mul32 l.rcd.ssRate (hOf l)
    let e := sub32 r l.w
    if le32 (abs32 e) s then { l with w := r, ramping := false }
    else { l with w := if lt32 e 0 then sub32 l.w s else add32 l.w s }
  else if jump then
    let a := ucOf l (l.bank l.active) x l.w
    let b := ucOf l (l.bank l.active) x x.y.v
    { correct l a b with w := x.y.v, ramping := true }
  else { l with w := r }

/-! ### Tests (R130, R131) -/

/-- The predictor restarts (R130). -/
def restartPredictor (l : Loop) (y : F32) : Loop :=
  { l with dy1 := 0, dy2 := 0, rf := 0, us := List.replicate 66 l.u, yPrev := y, sinceRestart := 0,
           overRun := 0, underRun := 0, winCount := 0, winMove := 0, winMin := y, winMax := y }

/-- The predicted movement of R130; `us` holds the applied outputs, newest first. -/
def predict (l : Loop) : F32 :=
  let u : Nat → F32 := fun n => (l.us[n]?).getD l.u
  let d := l.rcd.dead
  add32 (add32 (add32 (mul32 l.rcd.a1 l.dy1) (mul32 l.rcd.a2 l.dy2)) (mul32 l.rcd.b1 (sub32 (u d) (u (d + 1)))))
    (mul32 l.rcd.b2 (sub32 (u (d + 1)) (u (d + 2))))

/-- The residual test and the variance test of one sample (R131). -/
def residualTests (l : Loop) (y dyhat : F32) : Loop :=
  let rho := sub32 y (add32 l.yPrev dyhat)
  let lam := l.rcd.resLambda
  let rf := add32 (mul32 lam l.rf) (mul32 (sub32 0x3F800000 lam) (abs32 rho))
  let n := l.sinceRestart + 1
  let tested := l.rcd.dead + 2 ≤ n && !l.lost
  let above := lt32 l.rcd.resLimit rf
  let overRun := if !tested then l.overRun else if above then l.overRun + 1 else 0
  let underRun := if !tested then l.underRun else if above then 0 else l.underRun + 1
  let imp := if tested && above && l.rcd.resN ≤ overRun then true
    else if tested && !above && l.rcd.recoverN ≤ underRun then false else l.implausible
  let move := add32 l.winMove (abs32 dyhat)
  let lo := min32 l.winMin y
  let hi := max32 l.winMax y
  let atEnd := l.rcd.frozenWin ≤ l.winCount + 1
  let still := le32 (sub32 hi lo) l.rcd.frozenBand
  let frozen := if atEnd && tested && l.rcd.frozenEn then
      (if still then l.frozen || le32 l.rcd.frozenMove move else false)
    else l.frozen
  { l with rf := rf, sinceRestart := n, overRun := overRun, underRun := underRun, implausible := imp, frozen := frozen,
           winCount := if atEnd then 0 else l.winCount + 1, winMove := if atEnd then 0 else move,
           winMin := if atEnd then y else lo, winMax := if atEnd then y else hi,
           dy2 := l.dy1, dy1 := sub32 y l.yPrev }

/-- The tests of a sample (R130, R131, R142). -/
def runTests (m : Mod) (l : Loop) (x : LoopIn) : Loop :=
  let plaus := l.rcd.plausEn && m.lpe.plausEn
  let l := if m.lpe.plausEn then l else { l with implausible := false, frozen := false }
  if isBad x.y.q then
    { l with badRun := l.badRun + 1, badQ := x.y.q, cleanRun := 0, lost := l.lost || l.rcd.lostN ≤ l.badRun + 1, us := [] }
  else
    let l := { l with badRun := 0, cleanRun := l.cleanRun + 1, lost := l.lost && l.cleanRun + 1 < l.rcd.recoverN }
    if !plaus then { l with us := [] }
    else if l.us.isEmpty then restartPredictor l x.y.v
    else
      let l := { l with us := (l.u :: l.us).take 66 }
      residualTests l x.y.v (predict l)

/-! ### Reactions (R132 to R134) -/

/-- The rank of a reaction (R133). -/
def reactRank (n : Nat) : Nat :=
  match n with
  | 3 => 3 | 1 => 2 | 0 => 1 | _ => 0

/-- The higher-ranked of two reactions. -/
def higher (a : Option Nat) (b : Nat) : Option Nat :=
  match a with
  | none => some b
  | some a => if reactRank a < reactRank b then some b else some a

/-- The highest reaction of the conditions named. -/
def topReaction (l : Loop) (lost imp frz : Bool) : Option Nat :=
  let r := if lost then higher none l.rcd.reactLost else none
  let r := if imp then higher r l.rcd.reactImpl else r
  if frz then higher r l.rcd.reactFrozen else r

/-- A condition stands. -/
def Loop.stands (l : Loop) : Bool := l.lost || l.implausible || l.frozen

/-- The reaction of a loop in AUTO or HOLD after the tests (R132 to R134); `old` is the loop before them. -/
def nextReaction (old l : Loop) : Option Nat :=
  match l.reaction with
  | none => topReaction l l.lost l.implausible l.frozen
  | some r =>
    match topReaction l (l.lost && !old.lost) (l.implausible && !old.implausible) (l.frozen && !old.frozen) with
    | none => some r
    | some n => higher (some r) n

/-- A reaction begins (R132, R133). -/
def beginReaction (m : Mod) (l : Loop) (r : Nat) : Loop :=
  { l with reaction := some r, holdTarget := lastOut m l, mdSince := m.clk, mdExpired := false }

/-- The static gain of R130. -/
def staticGain (r : LoopRec) : F32 := div32 (add32 r.b1 r.b2) (sub32 (sub32 0x3F800000 r.a1) r.a2)

/-- The target of a reaction (R132) from the output applied last. -/
def reactTarget (l : Loop) (r : Nat) (uLast : F32) : F32 :=
  match r with
  | 0 => l.holdTarget
  | 1 => l.rcd.fallback
  | 2 => add32 l.anchorU (div32 (sub32 l.w l.anchorY) (staticGain l.rcd))
  | 3 => l.rcd.safeValue
  | _ => uLast

/-- An output moved towards a target at REACT_RATE (R132); 0 means one step. -/
def rampOut (l : Loop) (u target : F32) : F32 :=
  if lt32 0 l.rcd.reactRate then
    let s := mul32 l.rcd.reactRate (hOf l)
    let e := sub32 target u
    if le32 (abs32 e) s then target else if lt32 e 0 then sub32 u s else add32 u s
  else target

/-! ### One sample (R136) -/

/-- The primary output is not achieved (R124): the integrator is frozen. -/
def outFrozen (m : Mod) (n : Nat) (l : Loop) : Bool :=
  (l.rcd.outCh < 256 && (viewOf m (chanOf m l.rcd.outCh).rcd.signal).qual == 0x0004) ||
  (l.rcd.fbSig != 0 && ((viewOf m l.rcd.fbSig).qual == 0x0004 ||
    (m.lpe.loops.any (fun e => e.1 != n && e.2.rcd.statusSig == l.rcd.fbSig) && bitOf (viewOf m l.rcd.fbSig).val.toNat 3)))

/-- The mode a loop follows (R129): AUTO for a null unit. -/
def loopMode (m : Mod) (l : Loop) : Mode := (modeOf m l.rcd.unit).getD .auto

/-- The reaction output of a sample (R132, R135). -/
def reactOut (m : Mod) (l : Loop) (r : Nat) (anchor : Bool) : LoopOut :=
  let u0 := lastOut m l
  { u := rampOut l u0 (reactTarget l r u0)
    u2 := if r = 1 || r = 3 then some (rampOut l l.u2 (reactTarget l r l.u2)) else some l.u2
    qual := 0x4002, subst := true, i := l.i, write := true, anchor := anchor }

/-- The output held: nothing is written and the integrator stays (R131). -/
def holdOut (m : Mod) (l : Loop) (anchor : Bool) : LoopOut :=
  { u := lastOut m l, u2 := none, qual := 0xC000, subst := false, i := l.i, write := false, anchor := anchor }

/-- The law's output of a closed sample (R122 to R125, R139), with the loop's new d and flags. -/
def lawOut (m : Mod) (n : Nat) (l : Loop) (x : LoopIn) (q : Qual) (anchor : Bool) : Loop × LoopOut :=
  let co := l.bank l.active
  let u0 := lastOut m l
  let fz := outFrozen m n l
  let keep : F64 → F64 := fun i => if fz then l.i else i
  match (if l.rcd.micro then l.micro else none) with
  | none =>
    let (d, uc) := lawTerms l co l.i l.w x.y.v x.v.v
    let ul := clamp32 uc (coef co 8) (coef co 9)
    let u := rateLimit l co u0 ul
    ({ l with d := d, wPrev := l.w, yLaw := x.y.v, limited := !eq32 ul uc || !eq32 u ul, frozenI := fz },
     { u := u, u2 := none, qual := q, subst := false, i := keep (integrate l co l.i l.w x.y.v u uc), write := true, anchor := anchor })
  | some p =>
    let st := runMicro l p co x l.w l.i
    let o := st.out.getD { v := u0, q := 0xC000 }
    let u := rateLimit l co u0 o.v
    let u2 := st.out2.map (fun o2 => rateLimit l co l.u2 o2.v)
    let lim := match st.uc with | some uc => !eq32 uc st.ul | none => false
    ({ l with d := st.d.getD l.d, wPrev := if st.uc.isSome then st.wPid else l.w,
              yLaw := if st.uc.isSome then st.yPid else x.y.v,
              limited := lim || !eq32 u o.v, frozenI := fz },
     { u := u, u2 := u2, qual := match st.out2 with | some o2 => worse o.q o2.q | none => o.q,
       subst := false, i := keep (st.i.getD l.i), write := true, anchor := anchor })

/-- An output that is not finite or has BAD quality is not applied (R141). -/
def outUsable (o : LoopOut) : Bool :=
  !o.write || (finite32 o.u && (match o.u2 with | some u => finite32 u | none => true) && !isBad o.qual)

/-- The loop `l1` after a sample whose output was not applied: the law goes on from the state `l` before the output,
with the working set-point of `l0` where the new one is not finite, so that the next sample evaluates afresh (R141). -/
def microFaulted (l0 l l1 : Loop) : Loop :=
  let back := !(finite32 l1.w && finite32 l1.rPrev)
  { l1 with microFault := true, closed := l.closed && l1.closed, d := l.d, wPrev := l.wPrev, yLaw := l.yLaw, i := l.i,
            w := if back then l0.w else l1.w, rPrev := if back then l0.rPrev else l1.rPrev,
            ramping := if back then l0.ramping else l1.ramping }

/-- STATUS_SIG's word (R135). -/
def statusWord (l : Loop) : W32 :=
  BitVec.ofNat 32 (b2n l.enabled + 2 * b2n l.closed + 4 * b2n l.ramping + 8 * b2n l.limited + 16 * b2n l.frozenI
    + 32 * b2n l.lost + 64 * b2n l.implausible + 128 * b2n l.frozen + 256 * b2n l.reaction.isSome
    + 512 * (l.reaction.getD 0 % 4) + 2048 * b2n l.mdExpired + 4096 * b2n (l.active == 1)
    + 8192 * b2n l.swap.isSome + 16384 * b2n l.microFault + 32768 * b2n l.tracking)

/-- STATUS_SIG written (R135): while LOST stands, with the BAD code the PV carried last. -/
def writeStatus (m : Mod) (l : Loop) : Mod :=
  let q : Qual := if l.lost then l.badQ else if l.implausible then 0x0006 else if l.frozen then 0x0007 else 0xC000
  ownerWrite m l.rcd.statusSig ((statusWord l).zeroExtend 64) q

/-- A loop replaced. -/
def setLoop (m : Mod) (n : Nat) (l : Loop) : Mod := { m with lpe := { m.lpe with loops := tset m.lpe.loops n l } }

/-- A direct output channel takes the visible value of the output signal (R117, R129). -/
def driveDirect (m : Mod) (ch : Nat) (sig : W32) : Mod :=
  if ch < 256 then driveFrom m ch (viewOf m sig) else m

/-- An output written to both signals and both channels (R117). -/
def writeOut (m : Mod) (l : Loop) (u : F32) (u2 : Option F32) (q : Qual) (subst : Bool) : Mod :=
  let m := ownerWrite m l.rcd.outSig (realVal u) q subst
  let m := match u2 with | some v => ownerWrite m l.rcd.out2Sig (realVal v) q subst | none => m
  driveDirect (driveDirect m l.rcd.outCh l.rcd.outSig) l.rcd.out2Ch l.rcd.out2Sig

/-- The inputs of a sample, and the loop with the input values it keeps (R116, R125). -/
def takeInputs (m : Mod) (l : Loop) : LoopIn × Loop :=
  let (r, sp, b1) := keepGood m l.rcd.spSrc l.lastSp
  let (v, ff, b2) := keepGood m l.rcd.ffSig l.lastFf
  let aux := (List.range 4).map (fun n => keepGood m ((l.rcd.aux[n]?).getD 0) ((l.lastAux[n]?).getD 0))
  ({ y := readPv m l.rcd.pvSrc, r := r, v := v, man := realOf m l.rcd.manSig,
     fb := if l.rcd.fbSig = 0 then { v := 0, q := 0xC000 } else realOf m l.rcd.fbSig,
     aux := aux.map Prod.fst, fbBad := b1 || b2 || aux.any (fun a => a.2.2) },
   { l with lastSp := sp, lastFf := ff, lastAux := aux.map (fun a => a.2.1) })

/-- A sample with the loop disabled or its unit OFF: OFF_VALUE once, then nothing (R129). -/
def sampleOff (m : Mod) (n : Nat) (l : Loop) (mode : Mode) : Mod :=
  if !l.offPending then setLoop m n { l with wasMode := mode }
  else
    let l := { l with offPending := false, closed := false, ramping := false, u := l.rcd.offValue, u2 := l.rcd.offValue,
                      applied := true, pendingOut := none, wasMode := mode, us := [], tracking := false, limited := false,
                      frozenI := false, i := 0, d := 0, swap := none, active := l.swap.getD l.active }
    let m := setLoop m n l
    writeStatus (writeOut m l l.rcd.offValue (some l.rcd.offValue) 0xC000 false) l

/-- The output of a sample by mode and reaction (R129, R131, R132), and the loop after it. -/
def sampleOut (m : Mod) (n : Nat) (l : Loop) (x : LoopIn) (mode : Mode) (ref : F32) : Loop × LoopOut :=
  let bad := isBad x.y.q
  let anchor := !bad && !l.stands
  let l := { l with limited := false, frozenI := false, microFault := false, tracking := false }
  let out := sigAt m (hIdx l.rcd.outSig)
  let forced := match out with | some r => r.forced | none => false
  let q := if bad then x.r.q else x.y.q
  let q := worse q (worse x.r.q x.v.q)
  let q := if x.fbBad then worse q 0x4000 else q
  if mode == .manual || forced then
    let co := l.bank l.active
    let u0 := lastOut m l
    let stale := l.rcd.manSig = 0 || x.man.q == 0x0001
    let u := if mode == .manual then
        (if stale then u0 else rateLimit l co u0 (clamp32 x.man.v (coef co 8) (coef co 9)))
      else (realOf m l.rcd.outSig).v
    let l := trackTo { l with closed := false, tracking := true, limited := mode == .manual && !stale && !eq32 u x.man.v } x u
    (l, { u := u, u2 := none, qual := q, subst := false, i := l.i, write := true, anchor := anchor })
  else if mode == .safe then
    ({ l with closed := false }, reactOut m l 3 anchor)
  else
    match l.reaction with
    | some r => ({ l with closed := false }, reactOut m l r anchor)
    | none =>
      if bad then (l, holdOut m l anchor)
      else
        let l := if l.closed then l else closeLoop m l x ref
        lawOut m n l x q anchor

/-- The unit is commanded to SAFE by a reaction SAFE that begins (R132). -/
def reactSafe (m : Mod) (old l : Loop) : Mod :=
  let m := if l.reaction.isSome && old.reaction != l.reaction then
      { m with lpe := { m.lpe with events := setBit32 m.lpe.events 3 } } else m
  if l.reaction == some 3 && old.reaction != some 3 then
    (if l.rcd.unit = 0 then drive (drive m l.rcd.outCh) l.rcd.out2Ch else commandSafe m l.rcd.unit)
  else m

/-- An output that cannot be applied raises MICRO_FAULT and an F1 (R141). -/
def outputFault (m : Mod) (n : Nat) : Mod :=
  reportFault { m with lpe := { m.lpe with events := setBit32 m.lpe.events 1 } } (faultOf 0x0C 1 n 0x0400 0 1)

/-- The apply instant of a sample taken now (R117); in a triad that of APPLY_US 0 is the next sample instant (R269). -/
def applyDue (m : Mod) (l : Loop) : Nat :=
  m.clk + us (if l.rcd.apply != 0 then l.rcd.apply else if m.tri.mode != 0 then l.rcd.period else 0)

/-- A sample of an enabled loop whose unit is not OFF (R136). -/
def sampleOn (m : Mod) (n : Nat) (l0 : Loop) (mode : Mode) : Mod :=
  let (x, l) := takeInputs m l0
  -- mode: a return from HOLD, and the release from SAFE or by AUTO_RECOVER, close the loop again
  let fromHold := l.wasMode == .hold && mode != .hold
  let ref := if fromHold && mode == .auto then l.rHold else x.y.v
  let l := if fromHold then { l with closed := false } else l
  let l := if mode == .hold && l.wasMode != .hold then { l with rHold := x.r.v } else l
  let unsafe_ := l.reaction == some 3 && l.rcd.unit != 0 && l.wasMode == .safe && mode != .safe
  let recov := l.reaction.isSome && l.reaction != some 3 && l.rcd.autoRecover && !l.stands
  let l := if unsafe_ || recov then { l with reaction := none, closed := false, mdExpired := false } else l
  let l := takeSwap l x
  let l := if mode == .hold then l
    else if l.closed && !isBad x.y.q then moveSetpoint l x
    else if l.reaction.isSome then (if isBad x.y.q && l.ramping then l else { l with w := x.r.v, rPrev := x.r.v })
    else if isBad x.y.q then l
    else { l with w := x.r.v, rPrev := x.r.v, ramping := false }
  let before := l
  let l := runTests m l x
  let reacts := mode == .auto || mode == .hold
  let r := if reacts then nextReaction before l else l.reaction
  let l := if r != l.reaction then (match r with | some c => beginReaction m l c | none => l) else l
  let anchor := !isBad x.y.q && !l.stands
  let l := if anchor then { l with anchorY := x.y.v, anchorU := lastOut m l } else l
  let (l1, o) := sampleOut m n l x mode ref
  let ok := outUsable o
  let l1 := if ok then l1 else microFaulted l0 l l1
  let o := if ok then o else holdOut m l1 anchor
  let l1 := { l1 with pendingOut := some { o with due := applyDue m l1 }, offPending := true, wasMode := mode,
                      yPrev := if isBad x.y.q then l1.yPrev else x.y.v,
                      yLaw := if l1.closed || isBad x.y.q then l1.yLaw else x.y.v,
                      wPrev := if l1.closed || isBad x.y.q then l1.wPrev else l1.w }
  let m := reactSafe (setLoop m n l1) l0 l1
  if ok then m else outputFault m n

/-! ### LOOP_ENABLE above 128 loops (R120) -/

/-- A loop enabled or disabled (R129): an enable starts it afresh; standing conditions stay declared. -/
def enableLoop (m : Mod) (n : Nat) (on : Bool) : Mod :=
  match tget m.lpe.loops n with
  | none => m
  | some l =>
    if l.enabled = on then m
    else if on then
      setLoop m n { l with enabled := true, closed := false, ramping := false, reaction := none, mdExpired := false,
                           us := [], offPending := true, wasMode := .off }
    else setLoop m n { l with enabled := false, reaction := none, mdExpired := false }

/-- Every loop of a list enabled or disabled. -/
def enableLoops (m : Mod) (ns : List Nat) (on : Bool) : Mod := ns.foldl (fun m n => enableLoop m n on) m

/-! ### Density (R118, R242) -/

/-- The weight of a microprogram (R139). -/
def microWeight (p : Micro) : Nat :=
  ((p.code.take p.count).map (fun c => if fld c 31 26 = 0x0B then 2 else if fld c 31 26 = 0x0C then 8 else 1)).sum

/-- The slots of a loop (R118). -/
def loopSlots (l : Loop) : Nat :=
  match l.micro with
  | some p => if l.rcd.micro then 1 + (microWeight p + 15) / 16 else 1
  | none => 1

/-- The loops counted: enabled, or enabled on RUN. -/
def countedLoops (m : Mod) : List Loop := (m.lpe.loops.map Prod.snd).filter (fun l => l.enabled || l.rcd.enableOnRun)

/-- D of R242 in tenths of a nanosecond. -/
def loopD (l : Loop) : Nat := 10000 * (if l.rcd.apply = 0 then l.rcd.period else l.rcd.apply)

/-- The density test of R242 over a list of loops. -/
def densityOk (ls : List Loop) : Bool :=
  let c : Loop → Nat := fun l => 833 * loopSlots l
  let cm := ls.foldl (fun a l => max a (c l)) 0
  let dm := ls.foldl (fun a l => if a = 0 then loopD l else min a (loopD l)) 0
  let r := sumFrac ((cm, dm) :: ls.map (fun l => (c l, loopD l)))
  ls.isEmpty || r.1 ≤ r.2

/-- The first loop of a load whose addition takes the density sum past 1 (R242, R504): the loops loaded count as enabling. -/
def firstDense (m : Mod) (ns : List Nat) : Option Nat :=
  let others := (m.lpe.loops.filter (fun e => !ns.contains e.1 && (e.2.enabled || e.2.rcd.enableOnRun))).map Prod.snd
  let loaded : Nat → List Loop := fun k => (m.lpe.loops.filter (fun e => (ns.take (k + 1)).contains e.1)).map Prod.snd
  ((List.range ns.length).find? (fun k => !densityOk (others ++ loaded k))).bind (fun k => ns[k]?)

/-- A refusal by admission noted in ADM_LAST and ADM_EVENTS (R504). -/
def noteRefused (m : Mod) (test obj kind : Nat) : Mod :=
  { m with adm := { m.adm with last := BitVec.ofNat 32 (65536 * obj + 256 * test + kind), events := setBit32 m.adm.events 0 } }

/-- Loops enabled where the density test still holds (R239, R242), or disabled: the module and the status. -/
def tryEnable (m : Mod) (ns : List Nat) (on : Bool) : Mod × Status :=
  if ns.any (fun n => (tget m.lpe.loops n).isNone) then (m, .badField)
  else
    match (if on then firstDense m ns else none) with
    | some n => (noteRefused m 2 n 0, .notAdmitted)
    | none => (enableLoops m ns on, .ok)

/-- A PNL_FULL that waits completes at its grant (R475, R480). -/
def pumpPanel (m : Mod) : Mod :=
  match m.pnl.fullReq with
  | none => m
  | some q =>
    if holds m whoPanel && !m.adm.waiting.any (fun w => w.who == whoPanel) then
      post { m with pnl := { m.pnl with fullReq := none } } q .ok
    else m

/-- A granted LOOP_ENABLE is carried out, and the next waiting one requests its permit (R120). -/
def pumpBurst (m : Mod) : Mod :=
  if holds m whoLoops then
    match m.lpe.waiting with
    | [] => m
    | (_, q, on, ns) :: rest =>
      let (m, st) := tryEnable { m with lpe := { m.lpe with waiting := rest } } ns on
      let m := releasePermit (post m q st { r0 := BitVec.ofNat 32 ns.length }) whoLoops
      match rest with
      | [] => m
      | (_, q', _, _) :: _ => request m whoLoops .loopBurst (c1Ring m q') 100
  else m

/-- The operations whose permit has been granted go on (R120, R475). -/
def pumpLoops (m : Mod) : Mod := pumpPanel (pumpBurst m)

/-! ### The commands -/

/-- LOOP_SAMPLE (R136). -/
def execLoopSample (t loop : Nat) (s : State) : Host.Outcome State Fault Refusal :=
  s.runOn t (fun m =>
    match tget m.lpe.loops loop with
    | none => m
    | some l =>
      if ctlRuns m && onInstant m l.rcd.period l.rcd.phase then
        let m := pumpLoops m
        match tget m.lpe.loops loop with
        | none => m
        | some l =>
          let mode := loopMode m l
          if !l.enabled || mode == .off then sampleOff m loop l mode else sampleOn m loop l mode
      else m)

/-- The output of the last sample applied, with its status (R117, R135). -/
def applyOut (m : Mod) (n : Nat) (l : Loop) (o : LoopOut) : Mod :=
  let l := { l with pendingOut := none, i := o.i, u := o.u, u2 := o.u2.getD l.u2, applied := true,
                    anchorU := if o.anchor then o.u else l.anchorU }
  let m := setLoop m n l
  let m := if o.write then writeOut m l o.u o.u2 o.qual o.subst else driveDirect m l.rcd.outCh l.rcd.outSig
  writeStatus m l

/-- LOOP_APPLY (R117, R119): an unfinished evaluation leaves output and integrator, and raises LATE and an F2. -/
def execLoopApply (t loop : Nat) (late : Bool) (s : State) : Host.Outcome State Fault Refusal :=
  s.runOn t (fun m =>
    match tget m.lpe.loops loop with
    | none => m
    | some l =>
      match l.pendingOut with
      | none => m
      | some o =>
        if m.clk < o.due then m
        else if late then
          reportFault { setLoop m loop { l with pendingOut := none } with
            lpe := { (setLoop m loop { l with pendingOut := none }).lpe with events := setBit32 m.lpe.events 0 } }
            (faultOf 0x0B 2 loop 0x0400 5 1)
        else applyOut m loop l o)

/-- MODEL_DRIVE_EXPIRY (R133): REACT_AFTER takes its place. -/
def execModelDriveExpiry (t loop : Nat) (s : State) : Host.Outcome State Fault Refusal :=
  s.runOn t (fun m =>
    match tget m.lpe.loops loop with
    | none => m
    | some l =>
      if l.reaction == some 2 && l.mdSince + ms l.rcd.mdTimeMs ≤ m.clk then
        let l1 := { l with reaction := some l.rcd.reactAfter, mdExpired := true, holdTarget := lastOut m l }
        reactSafe (setLoop m loop l1) l l1
      else m)

/-- A bank passes the check of R126. -/
def bankOk (co : List F32) : Bool :=
  let z : Nat → Bool := fun n => le32 0 (coef co n)
  co.all finite32 && lt32 (coef co 8) (coef co 9) && z 1 && z 2 && z 10 && z 11 && z 12 &&
    (!lt32 0 (coef co 2) || (le32 0x3F800000 (coef co 3) && le32 (coef co 3) 0x42C80000))

/-- A bank swap request (R126) from the source with bit `src` of LPE_BANK_SWAP: 0 host, 1 DIC, 2 plan. -/
def swapRequest (m : Mod) (loop bank src : Nat) : Mod × Status :=
  let no : Status → Mod × Status := fun st => ({ m with lpe := { m.lpe with events := setBit32 m.lpe.events 2 } }, st)
  match tget m.lpe.loops loop with
  | none => no .badField
  | some l =>
    if bank > 1 then no .badField
    else if !bitOf m.lpe.bankSwap.toNat src then no .swapDisabled
    else if !bankOk (l.bank bank) then no .badField
    else if bank = l.active && l.swap.isNone then (m, .ok)
    else (setLoop m loop { l with swap := some bank }, .ok)

/-- LOOP_BANK (R126). -/
def execLoopBank (t : Nat) (q : Req) (loop bank : Nat) (s : State) : Host.Outcome State Fault Refusal :=
  s.runCmd t 0x0023 q (fun m => let (m, st) := swapRequest m loop bank 0; refuse m q st)

/-- The loops a LOOP_ENABLE buffer names (R321). -/
def loopsNamed (buf : List Byte) : List Nat :=
  (List.range 1024).filter (fun n => bitOf ((buf[n / 8]?).getD 0).toNat (n % 8))

/-- LOOP_ENABLE (R120): a loop that has no record refuses the whole. -/
def execLoopEnable (t : Nat) (q : Req) (on : Bool) (buf : List Byte) (s : State) : Host.Outcome State Fault Refusal :=
  s.runCmd t 0x0024 q (fun m =>
    let ns := loopsNamed buf
    if buf.length != 128 || ns.any (fun n => (tget m.lpe.loops n).isNone) then refuse m q .badField
    else if on && ns.length > 128 then
      pumpLoops (request (startOp { m with lpe := { m.lpe with waiting := m.lpe.waiting ++ [(whoLoops, q, on, ns)] } } q)
        whoLoops .loopBurst (c1Ring m q) 100)
    else let (m, st) := tryEnable m ns on; post m q st { r0 := BitVec.ofNat 32 (if st = .ok then ns.length else 0) })

/-- A write to a bank of a loop (R126): the refusal, or the loop with `f` done to the bank. -/
def bankChange (m : Mod) (loop bank : Nat) (f : List F32 → List F32) : Except Status Mod :=
  match tget m.lpe.loops loop with
  | none => .error .badField
  | some l =>
    if bank > 1 then .error .badField
    else if bank = l.active then .error .bankActive
    else if l.swap = some bank then .error .swapPending
    else .ok (setLoop m loop (if bank = 1 then { l with bank1 := f l.bank1 } else { l with bank0 := f l.bank0 }))

/-- The sixteen coefficients of a bank record (R121). -/
def bankOf (buf : List Byte) : List F32 := (List.range 16).map (fun n => w32 buf (4 * n))

/-- BANK_WRITE (R126). -/
def execBankWrite (t : Nat) (q : Req) (loop bank : Nat) (buf : List Byte) (s : State) : Host.Outcome State Fault Refusal :=
  s.runCmd t 0x0025 q (fun m =>
    if buf.length != 64 then refuse m q .badField
    else
      match bankChange m loop bank (fun _ => bankOf buf) with
      | .ok m => post m q .ok
      | .error e => refuse m q e)

/-- PLAUS_EN_WRITE (R142): in force from each loop's next sample. -/
def execPlausEnWrite (t : Nat) (v : Bool) (s : State) : Host.Outcome State Fault Refusal :=
  s.runReg t 0x6004 (if v then 1 else 0) (fun m => m.lpe.plausEn != v) (fun m => { m with lpe := { m.lpe with plausEn := v } })

end Sys2Proof.Machine
end

