-- ==== Sys2Proof/Machine/Plans.lean ====
section
/-! DEFINITION. Plans: steps, actions, waits, states, commands and the journal (R143 to R159). -/

namespace Sys2Proof.Machine

/-! ### The journal (R158, R159) -/

/-- The 64 bytes of a journal record (R158). -/
def jBytes (r : JRec) : List Byte :=
  sealed (bytes32 r.seq ++ bytes16 r.plan ++ leBytes 1 r.kind ++ leBytes 1 r.cause ++ bytes16 r.fromStep ++
    bytes16 r.toStep ++ bytes32 r.time ++ bytes32 r.wrapCount ++ bytes32 r.starts ++ bytes32 r.version ++
    leBytes 4 r.inStep ++ leBytes 4 r.remain ++ bytes16 r.status.code ++ leBytes 1 r.source ++ leBytes 1 r.slot ++
    leBytes 1 (b2n r.trace) ++ leBytes 19 0)

/-- A record written to the copy of a resume slot that is due. -/
def ResumeSlot.put (r : ResumeSlot) (j : JRec) : ResumeSlot :=
  if r.nextB then { r with copyB := some j, nextB := false } else { r with copyA := some j, nextB := true }

/-- A plan replaced. -/
def setPlan (m : Mod) (n : Nat) (p : Plan) : Mod := { m with pln := { m.pln with plans := tset m.pln.plans n p } }

/-- What a record says beside the plan's own state. -/
structure JWhat where
  kind : Nat
  cause : Nat
  fromStep : Nat
  toStep : Nat
  source : Nat := 0
  status : Status := .ok
deriving DecidableEq, Repr

/-- The journal record of a plan now (R158). -/
def jrec (m : Mod) (n : Nat) (p : Plan) (w : JWhat) : JRec :=
  { seq := m.nv.jseq + 1, plan := n, kind := w.kind, cause := w.cause, fromStep := w.fromStep, toStep := w.toStep,
    time := time32 m, wrapCount := BitVec.ofNat 32 (wrapNo m), starts := p.starts, version := p.version,
    inStep := p.inStep, remain := p.remain, status := w.status, source := w.source, slot := p.slot, trace := m.tim.traceable }

/-- A record is written to the ring and the resume slot (R158), and the event PLAN is posted (R330): its step is the
one entered or held, or the one left where none is entered. -/
def journal (m : Mod) (n : Nat) (p : Plan) (w : JWhat) : Mod :=
  let j := jrec m n p w
  let ring := if m.nv.journal.length < 16384 then m.nv.journal ++ [j] else m.nv.journal.drop 1 ++ [j]
  let slot := (tget m.nv.slots n).getD {}
  let m := { m with nv := { m.nv with jseq := j.seq, journal := ring, slots := tset m.nv.slots n (slot.put j) } }
  leadEvent m 3 w.kind (BitVec.ofNat 32 n) (BitVec.ofNat 64 (if w.toStep = 0xFFFF then w.fromStep else w.toStep)) p.planTag

/-- The value area's entry of a plan-owned signal written (R159). -/
def noteValue (m : Mod) (n sig : Nat) (ramp : Option Ramp) : Mod :=
  match sigAt m sig with
  | none => m
  | some r => { m with nv := { m.nv with values := tset m.nv.values sig { plan := n, val := r.val, qual := r.qual, ramp := ramp } } }

/-- STATE_SIG's word (R157). -/
def planWord (p : Plan) : W32 :=
  let st := match p.st with | .idle => 0 | .running => 1 | .paused => 2 | .aborting => 3
  BitVec.ofNat 32 (p.step % 4096 + 65536 * st + 2 ^ 20 * b2n (p.pausedByUnit && p.st == .paused) + 2 ^ 21 * b2n p.resumed
    + 2 ^ 22 * b2n p.altTaken + 2 ^ 23 * b2n p.refused)

/-- STATE_SIG written (R157). -/
def writePlanState (m : Mod) (n : Nat) : Mod :=
  match tget m.pln.plans n with
  | none => m
  | some p => ownerWrite m p.stateSig ((planWord p).zeroExtend 64) 0xC000

/-! ### Commands, as accepted (R154, R156) -/

/-- What commands accepted for the next tick make of a plan: its state, and whether a command pauses it. -/
structure PlanView where
  st : PlState
  aborting : Bool
  byCmd : Bool
deriving DecidableEq, Repr

/-- A command on a plan's prospective state (R154). -/
def viewStep (p : Plan) (v : PlanView) (op : Nat) : PlanView :=
  match op with
  | 0 => { st := .running, aborting := false, byCmd := false }
  | 1 => { v with st := .paused, byCmd := true }
  | 2 => { v with st := if v.aborting then .aborting else .running, byCmd := false }
  | _ => if v.aborting || p.abortStep = 0xFFFF then { st := .idle, aborting := false, byCmd := false }
         else { st := .aborting, aborting := true, byCmd := false }

/-- A plan as the commands accepted before would leave it. -/
def planView (m : Mod) (n : Nat) (p : Plan) : PlanView :=
  (m.pln.cmds.filter (fun c => c.plan == n)).foldl (fun v c => viewStep p v c.op)
    { st := p.st, aborting := p.aborting, byCmd := p.pausedByCmd }

/-- The mode a plan follows (R154): AUTO for a null unit. -/
def planMode (m : Mod) (p : Plan) : Mode := (modeOf m p.unit).getD .auto

/-- The plans not IDLE, counting accepted starts (R156). -/
def plansBusy (m : Mod) : Nat := (m.pln.plans.filter (fun e => (planView m e.1 e.2).st != .idle)).length

/-- Why a plan command is refused (R155, R156): a plan that only its unit's mode holds paused takes a pause as well. -/
def planRefusal (m : Mod) (n op step : Nat) : Option Status :=
  match tget m.pln.plans n with
  | none => some .badField
  | some p =>
    let v := planView m n p
    match op with
    | 0 =>
      if v.st != .idle then some .planRunning
      else if plansBusy m ≥ 64 then some .noSlot
      else if !m.pln.startEn then some .startDisabled
      else if planMode m p != .auto then some .refusedMode
      else if p.steps.length ≤ step then some .badField
      else none
    | 1 =>
      if v.st == .running || v.st == .aborting || (v.st == .paused && p.pausedByUnit && !v.byCmd) then none
      else some .planState
    | 2 => if v.st != .paused then some .planState else if planMode m p != .auto then some .refusedMode else none
    | _ => if v.st == .idle then some .planState else none

/-- A plan command is accepted for the next tick or refused (R156); `source` as in R158. -/
def planCommand (m : Mod) (n op step source : Nat) (q : Option Req) : Mod × Status :=
  match planRefusal m n op step with
  | some st => (m, st)
  | none =>
    ({ m with pln := { m.pln with cmds := m.pln.cmds ++ [{ plan := n, op := op, step := step, source := source, req := q }] } }, .ok)

/-! ### Actions (R146, R151, R153) -/

/-- A unit command of an action or a task (R64): its status, or accepted where it waits for its subtree. -/
def unitCommand (m : Mod) (h : W32) (mode : Option Mode) (aon c1 : Bool) : Mod × Status :=
  match judgeUnit m h with
  | .error e => (if e = .staleHandle then sigRefused m 1 else m, e)
  | .ok i =>
    let c : WalkCmd := { unit := i, mode := mode, aon := aon, c1 := c1, req := none }
    if walkBusy m c then ({ m with sig := { m.sig with walkQ := enqueueWalk m.sig.walkQ c } }, .ok)
    else
      let (m, r) := walk m c
      ({ m with sig := { m.sig with walking := m.sig.walking ++ [c] } }, r.status)

/-- One update of a ramp (R146): at most RATE × ARG16 × 100 µs, the last exactly on VALUE; none when it is there. -/
def rampStep (ty : Nat) (v : Val) (r : Ramp) : Val × Bool :=
  let dt := ratio64 (r.every * 100) 1000000
  let s := mul64 (widen r.rate) dt
  let x : F64 := if ty = 4 then widen (valReal v) else v
  let tgt := widen r.target
  let e := sub64 tgt x
  if le64 (abs64 e) s then (if ty = 4 then realVal r.target else tgt, true)
  else
    let y := if lt64 e 0 then sub64 x s else add64 x s
    (if ty = 4 then realVal (narrow y) else y, false)

/-- A ramp's update is made: the signal, the value area, and the ramp or its end (R146, R159). -/
def updateRamp (m : Mod) (n : Nat) (p : Plan) (r : Ramp) : Mod × Plan :=
  match sigAt m r.sig with
  | none => (m, p)
  | some g =>
    let (v, done) := rampStep g.ty g.val r
    let r' := { r with left := r.every }
    let rest := p.ramps.filter (fun x => x.sig != r.sig)
    let m := ownerWrite m (sigHandle r.sig g.gen) v 0xC000
    if done then (noteValue m n r.sig none, { p with ramps := rest })
    else (noteValue m n r.sig (some r'), { p with ramps := rest ++ [r'] })

/-- One action (R146): the module, the plan and the target's status. -/
def act (m : Mod) (n : Nat) (p : Plan) (a : PAct) : Mod × Plan × Status :=
  let i := hIdx a.target
  match a.kind with
  | 1 =>
    match sigAt m i with
    | none => (m, p, .staleHandle)
    | some g =>
      let v := (convert 4 g.ty { v := realVal a.value, q := 0xC000 }).v
      let p := { p with ramps := p.ramps.filter (fun r => r.sig != i) }
      (noteValue (ownerWrite m a.target v 0xC000) n i none, p, .ok)
  | 2 =>
    let r : Ramp := { sig := i, target := a.value, rate := a.rate, every := max a.arg16 1, left := max a.arg16 1, ofStep := true }
    let (m, p) := updateRamp m n p r
    (m, p, .ok)
  | 3 => let (m, st) := swapRequest m a.target.toNat a.arg8 2; (m, p, st)
  | 4 => let (m, st) := tryEnable m [a.target.toNat] (a.arg8 == 1); (m, p, st)
  | 5 =>
    match modeOfNo a.arg8 with
    | none => (m, p, .badField)
    | some md => let (m, st) := unitCommand m a.target (some md) (bitOf a.arg16 0) true; (m, p, st)
  | 7 => (leadEvent m 4 1 (BitVec.ofNat 32 n) (realVal a.value) (BitVec.ofNat 32 a.arg16), p, .ok)
  | 8 => let (m, st) := planCommand m a.target.toNat 0 a.arg16 3 none; (m, p, st)
  | 9 => let (m, st) := planCommand m a.target.toNat 3 0 3 none; (m, p, st)
  | _ => (m, p, .ok)

/-- The actions of a step, in list order; each refusal is journalled (R151, R153). -/
def runActs (m : Mod) (n : Nat) (p : Plan) (as : List PAct) : Mod × Plan :=
  as.foldl (fun mp a =>
    let (m, p, st) := act mp.1 n mp.2 a
    if st == .ok || st == .partly then (m, p)
    else
      let p := { p with refused := true }
      let m := { m with pln := { m.pln with events := setBit32 m.pln.events 0 } }
      (journal m n p { kind := 8, cause := 6, fromStep := p.step, toStep := p.step, status := st }, p)) (m, p)

/-- The step record of the step a plan is in. -/
def Plan.now (p : Plan) : PStep :=
  (p.steps[p.step]?).getD { pauseOnRefusal := false, wait := 2, actFirst := 0, actCount := 0, condOp := 0, next := 0xFFFF,
                            alt := 0xFFFF, ticks := 0, condSig := 0, condVal := 0, condBand := 0 }

/-- A step is entered (R151): record, actions, STATE_SIG; with PAUSE_ON_REFUSAL a refusal pauses it (R153). -/
def enterStep (m : Mod) (n : Nat) (p : Plan) (k : Nat) (w : JWhat) : Mod :=
  let p := { p with step := k, inStep := 0, refused := false, ramps := p.ramps.map (fun (r : Ramp) => { r with ofStep := false }) }
  let s := p.now
  let p := { p with remain := s.ticks }
  let m := journal m n p w
  let (m, p) := runActs m n p ((p.acts.drop s.actFirst).take s.actCount)
  let (m, p) :=
    if p.refused && s.pauseOnRefusal then
      let p := { p with st := .paused, pausedByCmd := true }
      (journal m n p { kind := 3, cause := 6, fromStep := k, toStep := k }, p)
    else (m, p)
  writePlanState (setPlan m n p) n

/-- A plan ends (R154): IDLE, its ramps gone and its slot free. -/
def endPlan (m : Mod) (n : Nat) (p : Plan) (w : JWhat) : Mod :=
  let m := journal m n p w
  let p := { p with st := .idle, aborting := false, ramps := [], pausedByUnit := false, pausedByCmd := false }
  writePlanState (setPlan m n p) n

/-! ### Ticks (R147, R148, R150) -/

/-- A condition holds (R148). -/
def condHolds (m : Mod) (s : PStep) : Bool :=
  let v := viewOf m s.condSig
  let ty := match sigAt m (hIdx s.condSig) with | some r => r.ty | none => 0
  let x := (convert ty 5 { v := v.val, q := 0xC000 }).v
  let c := widen s.condVal
  !isBad v.qual &&
  match s.condOp with
  | 0 => isTrue v
  | 1 => !isTrue v
  | 2 => lt64 c x
  | 3 => lt64 x c
  | 4 => le64 c x
  | 5 => le64 x c
  | _ => le64 (abs64 (sub64 x c)) (widen s.condBand)

/-- Where a wait leaves to (R147) after this tick's count: the step named, the cause, whether by ALT. -/
def waitLeaves (m : Mod) (p : Plan) : Option (Nat × Nat × Bool) :=
  let s := p.now
  match s.wait with
  | 0 => some (s.next, 0, false)
  | 1 => if p.remain = 0 then some (s.next, 0, false) else none
  | 2 => if condHolds m s then some (s.next, 1, false) else none
  | 3 => if condHolds m s then some (s.next, 1, false) else if p.remain = 0 then some (s.alt, 2, true) else none
  | 4 => if p.remain = 0 && condHolds m s then some (s.next, 1, false) else none
  | 5 =>
    if !p.ramps.any Ramp.ofStep then some (s.next, 8, false)
    else if s.ticks != 0 && p.remain = 0 then some (s.alt, 2, true) else none
  | _ => if condHolds m s then some (s.next, 1, false) else some (s.alt, 3, true)

/-- A running plan's ramps at a tick (R146). -/
def tickRamps (m : Mod) (n : Nat) : Mod :=
  match tget m.pln.plans n with
  | none => m
  | some p =>
    if p.st != .running && p.st != .aborting then m
    else
      let (m, p) := p.ramps.foldl (fun mp r =>
        if r.left ≤ 1 then updateRamp mp.1 n mp.2 r
        else (mp.1, { mp.2 with ramps := mp.2.ramps.map (fun x => if x.sig = r.sig then { x with left := x.left - 1 } else x) })) (m, p)
      setPlan m n p

/-- A running plan's wait at a tick (R147, R150). -/
def tickWait (m : Mod) (n : Nat) : Mod :=
  match tget m.pln.plans n with
  | none => m
  | some p =>
    if p.st != .running && p.st != .aborting then m
    else
      let p := { p with inStep := p.inStep + 1, remain := p.remain - 1 }
      match waitLeaves m p with
      | none => setPlan m n p
      | some (k, cause, alt) =>
        let p := { p with altTaken := alt }
        let w : JWhat := { kind := if k = 0xFFFF then 5 else 2, cause := cause, fromStep := p.step, toStep := k }
        if k = 0xFFFF then endPlan m n p w else enterStep m n p k w

/-- The lowest free slot (R158 SLOT). -/
def freeSlot (m : Mod) : Nat :=
  ((List.range 64).find? (fun k => !m.pln.plans.any (fun e => e.2.st != .idle && e.2.slot == k))).getD 0

/-- Pause and resume as a plan takes them, with the record (R155, R158). -/
def pausePlan (m : Mod) (n : Nat) (p : Plan) (cause source : Nat) : Mod :=
  writePlanState (setPlan (journal m n p { kind := 3, cause := cause, fromStep := p.step, toStep := p.step, source := source }) n p) n
def resumePlan (m : Mod) (n : Nat) (p : Plan) (cause source : Nat) : Mod :=
  let p := { p with st := if p.aborting then .aborting else .running, pausedByUnit := false, pausedByCmd := false }
  writePlanState (setPlan (journal m n p { kind := 4, cause := cause, fromStep := p.step, toStep := p.step, source := source }) n p) n

/-- An abort (R154): ABORT_STEP is entered, or the plan ends; a second abort ends it. -/
def abortPlan (m : Mod) (n : Nat) (p : Plan) (cause source : Nat) : Mod :=
  if p.aborting || p.abortStep = 0xFFFF then
    endPlan m n p { kind := 6, cause := cause, fromStep := p.step, toStep := 0xFFFF, source := source }
  else
    enterStep m n { p with st := .aborting, aborting := true, pausedByUnit := false, pausedByCmd := false, altTaken := false }
      p.abortStep { kind := 6, cause := cause, fromStep := p.step, toStep := p.abortStep, source := source }

/-- One accepted command applied at its tick (R154, R156). -/
def applyCmd (m : Mod) (c : PlanCmd) : Mod :=
  match tget m.pln.plans c.plan with
  | none => m
  | some p =>
    match c.op with
    | 0 =>
      if p.st != .idle then m
      else
        enterStep m c.plan { p with st := .running, slot := freeSlot m, starts := p.starts + 1, resumed := false, altTaken := false,
                                    pausedByUnit := false, pausedByCmd := false, aborting := false } c.step
          { kind := 1, cause := 4, fromStep := 0xFFFF, toStep := c.step, source := c.source }
    | 1 => if p.st == .running || p.st == .aborting then
        pausePlan m c.plan { p with st := .paused, pausedByCmd := true } 4 c.source
      else if p.st == .paused then setPlan m c.plan { p with pausedByCmd := true } else m
    | 2 => if p.st == .paused then resumePlan m c.plan p 4 c.source else m
    | _ => if p.st == .idle then m else abortPlan m c.plan p 4 c.source

/-- The commands of a tick for one plan leave its state as it was (R150): a pause and a resume of it. -/
def idleCmds (p : Plan) (cs : List PlanCmd) : Bool :=
  cs.all (fun c => c.op == 1 || c.op == 2) &&
    cs.foldl (fun v c => viewStep p v c.op) { st := p.st, aborting := p.aborting, byCmd := p.pausedByCmd }
      == { st := p.st, aborting := p.aborting, byCmd := p.pausedByCmd }

/-- The commands accepted before the tick, in arrival order (R150), completed here (R320). -/
def applyCmds (m : Mod) : Mod :=
  let cs := m.pln.cmds
  let m0 := { m with pln := { m.pln with cmds := [] } }
  cs.foldl (fun m' c =>
    let skip := match tget m.pln.plans c.plan with
      | some p => idleCmds p (cs.filter (fun d => d.plan == c.plan))
      | none => false
    postOpt (if skip then m' else applyCmd m' c) c.req .ok) m0

/-- A unit's mode acts on a plan (R154, R155). -/
def unitOnPlan (m : Mod) (n : Nat) (mode : Mode) : Mod :=
  match tget m.pln.plans n with
  | none => m
  | some p =>
    if p.st == .idle then m
    else
      match mode with
      | .safe => endPlan m n p { kind := 6, cause := 5, fromStep := p.step, toStep := 0xFFFF, source := 4 }
      | .off => if p.aborting then m else abortPlan m n p 5 4
      | .auto =>
        if p.pausedByUnit then
          (if p.pausedByCmd then writePlanState (setPlan m n { p with pausedByUnit := false }) n else resumePlan m n p 5 4)
        else m
      | _ =>
        if p.st == .paused then (if p.pausedByUnit then m else writePlanState (setPlan m n { p with pausedByUnit := true }) n)
        else pausePlan m n { p with st := .paused, pausedByUnit := true } 5 4

/-- What a plan's one transition at a tick would change. -/
def sameState (a b : Plan) : Bool := a.st == b.st && a.step == b.step && a.starts == b.starts && a.aborting == b.aborting

/-- The commands accepted before a tick, and the modes units had before it on the plans no command changed (R150, R154). -/
def commandsAndModes (m : Mod) (ns : List Nat) : Mod :=
  ns.foldl (fun m' n =>
    match tget m.pln.plans n, tget m'.pln.plans n with
    | some a, some b => if sameState a b then unitOnPlan m' n (planMode m a) else m'
    | _, _ => m') (applyCmds m)

/-- The plans that the commands and unit modes of this tick leave paused: their ramps hold (R150, R155). -/
def heldPlans (m : Mod) (ns : List Nat) : List Nat :=
  let m1 := commandsAndModes m ns
  ns.filter (fun n => match tget m1.pln.plans n with | some p => p.st == .paused | none => false)

/-- One plan tick (R150): ramps of the plans that are not held, accepted commands, unit modes, then the waits of the plans
whose state did not change at this tick. -/
def planTick (m : Mod) : Mod :=
  let ns := m.pln.plans.map Prod.fst
  let m := { m with pln := { m.pln with ticks := m.pln.ticks + 1, startEn := m.pln.startEnNew } }
  let held := heldPlans m ns
  let m := (ns.filter (fun n => !held.contains n)).foldl tickRamps m
  let m1 := commandsAndModes m ns
  ns.foldl (fun m' n =>
    match tget m.pln.plans n, tget m1.pln.plans n with
    | some a, some b => if sameState a b then tickWait m' n else m'
    | _, _ => m') m1

/-! ### The commands -/

/-- PLAN_TICK (R150): a tick every 100 µs from the release epoch; power changes of R292 fall on it too. -/
def execPlanTick (t : Nat) (s : State) : Host.Outcome State Fault Refusal :=
  s.runOn t (fun m =>
    if ctlRuns m && onInstant m 100 0 then planTick (pumpLoops (powerAtTick m)) else m)

/-- RESUME_SLOT_REFRESH (R158): every 1,000 ticks in a step with TIME_TICKS set. -/
def execResumeSlotRefresh (t plan : Nat) (s : State) : Host.Outcome State Fault Refusal :=
  s.runOn t (fun m =>
    match tget m.pln.plans plan with
    | none => m
    | some p =>
      if (p.st == .running || p.st == .aborting) && p.now.ticks != 0 && p.inStep != 0 && p.inStep % 1000 == 0 then
        let slot := (tget m.nv.slots plan).getD {}
        match (if slot.nextB then slot.copyA else slot.copyB) with
        | none => m
        | some j =>
          { m with nv := { m.nv with slots := tset m.nv.slots plan (slot.put { j with inStep := p.inStep, remain := p.remain }) } }
      else m)

/-- A plan command from the host (R156): refused now, or completed at its tick (R321). -/
def hostPlanCmd (m : Mod) (q : Req) (plan op step : Nat) : Mod :=
  match planCommand m plan op step 1 (some q) with
  | (m, .ok) => startOp m q
  | (m, st) => post m q st

/-- PLAN_START, PLAN_PAUSE, PLAN_RESUME, PLAN_ABORT (R156). -/
def execPlanStart (t : Nat) (q : Req) (plan step : Nat) (s : State) : Host.Outcome State Fault Refusal :=
  s.runCmd t 0x0022 q (fun m => hostPlanCmd m q plan 0 step)
def execPlanPause (t : Nat) (q : Req) (plan : Nat) (s : State) : Host.Outcome State Fault Refusal :=
  s.runCmd t 0x0022 q (fun m => hostPlanCmd m q plan 1 0)
def execPlanResume (t : Nat) (q : Req) (plan : Nat) (s : State) : Host.Outcome State Fault Refusal :=
  s.runCmd t 0x0022 q (fun m => hostPlanCmd m q plan 2 0)
def execPlanAbort (t : Nat) (q : Req) (plan : Nat) (s : State) : Host.Outcome State Fault Refusal :=
  s.runCmd t 0x0022 q (fun m => hostPlanCmd m q plan 3 0)

/-- JOURNAL (R509, R322): only records still in the ring, from the first SEQ asked for or the oldest. -/
def execJournalRead (t : Nat) (q : Req) (first : W32) (count : Nat) (s : State) : Host.Outcome State Fault Refusal :=
  s.runOp t 0x0042 q (fun m =>
    if count = 0 || count > 16384 then refuse m q .badField
    else
      let rs := (m.nv.journal.filter (fun j => j.seq == first || serialLater first j.seq)).take count
      post m q .ok { r0 := BitVec.ofNat 32 rs.length, r1 := match rs with | j :: _ => j.seq | [] => first,
                     data := rs.flatMap jBytes })

/-- The bytes of a value-area entry (R159): its layout is free, log 9. -/
def valueBytes (e : ValueEnt) : List Byte :=
  leBytes 32 (Config.valueEntry e.val e.qual (e.ramp.map (fun r => (r.target, r.rate, r.every)))).toNat

/-- The plan-owned signals in rising order (R149). -/
def planOwned (m : Mod) : List Nat := (m.sig.sigs.filter (fun e => e.2.ownKind == 3)).map Prod.fst

/-- VALUE_AREA (R322): `first` counts plan-owned signals in order of index (log 44). -/
def execValueArea (t : Nat) (q : Req) (first count : Nat) (s : State) : Host.Outcome State Fault Refusal :=
  s.runOp t 0x0043 q (fun m =>
    if count = 0 || count > 8192 || first + count > 8192 then refuse m q .badField
    else
      let is := ((planOwned m).drop first).take count
      post m q .ok { r0 := BitVec.ofNat 32 is.length,
                     data := is.flatMap (fun i => valueBytes ((tget m.nv.values i).getD
                       { plan := 0, val := (match sigAt m i with | some r => r.val | none => 0),
                         qual := (match sigAt m i with | some r => r.qual | none => 0), ramp := none })) })

end Sys2Proof.Machine
end

