-- ==== Sys2Proof/Machine/Tasks.lean ====
section
/-! DEFINITION. The program engine (R69 to R83, R109 to R111): release, snapshot, dispatch, commit, aborts
and the commands on tasks. -/

namespace Sys2Proof.Machine

/-! ### Migration (R86, R513) and instances -/

/-- A retained entry converted from one declared type to another (R86, R99). -/
def migrateEntry (src dst : Nat) (x : VQ) : VQ := if src = dst then x else convert src dst x

/-- The retained variables of a new image from those of the old one (R86, R513). -/
def migrate (old new : Image) (vals : List VQ) : List VQ :=
  new.retain.mapIdx (fun n d =>
    match new.migration.bind (fun mp => mp.find? (fun e => e.1 == n)) with
    | none => d.1
    | some (_, o) =>
      if o = 0xFFFF then d.1
      else
        match vals[o]?, old.retain[o]? with
        | some v, some od => migrateEntry od.2 d.2 v
        | _, _ => d.1)

/-- A task switched to a new record and image at a release (R84, R86); the first instance after it has no
elapsed time (R105). -/
def switchTask (m : Mod) (t : Task) : Task :=
  match t.switchTo with
  | none => t
  | some r =>
    let new := tget m.pge.images r.key
    let ret := match imageOf m t, new with
      | some a, some b => migrate a b t.retain
      | _, some b => b.retain.map Prod.fst
      | _, none => t.retain
    let fb := match new with | some b => List.replicate b.fbi.length {} | none => t.fbi
    let home := if r.pair < 6 then r.pair else t.home
    { t with rcd := r, retain := ret, fbi := fb, switchTo := none, lastCommit := none, home := home,
             pair := if t.pair = t.home then home else t.pair, results := [] }

/-- A change that has switched a task counts it off; with none left it is over (R91), and images that no task
uses are freed (R85). -/
def countSwitched (m : Mod) (k : Nat) : Mod :=
  match m.pge.switching with
  | none => m
  | some (n, ks) =>
    let ks := ks.filter (fun j => j != k)
    let used : Nat → Bool := fun i => m.pge.tasks.any (fun e => e.2.rcd.key == i)
    if ks.isEmpty then
      { m with pge := { m.pge with switching := none, images := m.pge.images.filter (fun e => used e.1) } }
    else { m with pge := { m.pge with switching := some (n, ks) } }

/-- The signals a record's task owns or gives up at a switch, and its references (R46, R48, R86): a signal that moves
to another task's set passes to it, one that no task names becomes ownerless (R512). -/
def switchOwners (m : Mod) (k : Nat) (old new : TaskRec) : Mod :=
  let gone := old.writes.filter (fun h => !new.writes.contains h)
  let taker : W32 → Option (Nat × Nat) := fun h =>
    (m.pge.tasks.find? (fun e => e.1 != k && ((match e.2.switchTo with | some r => r | none => e.2.rcd).writes.contains h))).map
      (fun e => (e.1, e.2.rcd.cls))
  let m := gone.foldl (fun m h =>
    modSig m (hIdx h) (fun r =>
      if r.ownKind = 4 && r.ownId = k then
        match taker h with
        | some (j, c) => { r with ownId := j, ownClass := c }
        | none => { r with qual := 0x0005, ownKind := 0, ownId := 0, ownClass := 0, refs := r.refs - 1 }
      else r)) m
  let m := new.writes.foldl (fun m h =>
    modSig m (hIdx h) (fun r => if ownable r 4 k then r.own 4 k new.cls else r)) m
  let reads : TaskRec → List W32 := fun r => objRefs (r.reads ++ [r.evSource]) r.writes
  addRefs (dropRefs m (reads old)) (reads new)

/-- The instance a release begins (R78, R93, R94). -/
def newInst (m : Mod) (t : Task) (r : Release) : Inst :=
  let g := imageOf m t
  { release := r.t
    pc := (t.rcd.entry - (match g with | some g => g.codeOff | none => 0)) / 4
    regs := List.replicate 16 {}
    wbuf := List.replicate t.rcd.writes.length none
    scratch := List.replicate (match g with | some g => g.scratch.length | none => 0) {}
    retain := t.retain, fbi := t.fbi, msg := r.msg }

/-! ### Release (R74 to R76) -/

/-- Instances of a task can begin on its pair (R70, R260, R264). -/
def pairServes (m : Mod) (t : Task) : Bool :=
  match (pairOf m t.pair).st with
  | .joined | .draining => true
  | .split | .joining => decide (2 ≤ t.rcd.cls)
  | _ => false

/-- Releases occur for a task now (R91, R299, R304): in RUN, and in QUIET for C0 and C1; RELEASE_EN does not stop C0. -/
def releasesNow (m : Mod) (t : Task) : Bool :=
  (m.pwr.st == .run || (m.pwr.st == .quiet && t.rcd.cls < 2)) && (m.pge.releaseEn || t.rcd.cls == 0) && pairServes m t

/-- A C0 or C1 task that runs away from its own pair returns to it at its first release after that pair is JOINED
(R257, R260). -/
def Task.homing (m : Mod) (t : Task) : Task :=
  if t.pair != t.home && t.rcd.cls < 2 && (pairOf m t.home).st == .joined then { t with pair := t.home } else t

/-- The core of a pair a task's releases go to (R259, R260): core B for the masked tasks while the pair is SPLIT. -/
def Task.onCore (m : Mod) (k : Nat) (t : Task) : Task :=
  { t with coreB := (pairOf m t.pair).st == .split && (pairOf m t.pair).maskB.contains k }

/-- A release takes effect: the task goes to SNAPSHOT, after a switch that is due, on the pair and the core it is due
on (R77, R84, R257 to R260). -/
def beginRelease (m : Mod) (k : Nat) (t : Task) (r : Release) : Mod :=
  let sw := t.switchTo.isSome
  let old := t.rcd
  let away := t.migratedC0
  let t := ((switchTask m t).homing m).onCore m k
  let m := if sw then switchOwners m k old t.rcd else m
  let m := setTask m k { t with st := .snapshot, inst := some (newInst m t r), lastRelease := some r.t, cycles := t.cycles + 1 }
  let m := if sw then countSwitched m k else m
  if away then settleMigrated m else m

/-- The oldest pending release of an idle event task takes effect once PERIOD_US has passed (R76). -/
def tryRelease (m : Mod) (k : Nat) : Mod :=
  match taskAt m k with
  | none => m
  | some t =>
    match t.queue with
    | [] => m
    | r :: rest =>
      let due := match t.lastRelease with | some x => x + us t.rcd.period ≤ nowNs m | none => true
      if t.st == .idle && due && releasesNow m t then beginRelease m k { t with queue := rest } { r with t := nowNs m } else m

/-- A cyclic release instant (R74, R83). -/
def cyclicRelease (m : Mod) (k : Nat) (t : Task) : Mod :=
  if t.st == .idle then beginRelease m k t { t := nowNs m }
  else if t.busy then
    if t.rcd.cls < 2 then setTask m k { t with deferred := some (nowNs m) }
    else
      let m := skipRelease m k (if t.rcd.haltOnSkip then 1 else 0)
      match taskAt m k with
      | some t' => if t.rcd.haltOnSkip then setTask m k { t' with haltAtCommit := true } else m
      | none => m
  else m

/-- TASK_RELEASE (R74). -/
def execTaskRelease (t task : Nat) (s : State) : Host.Outcome State Fault Refusal :=
  s.runOn t (fun m =>
    match taskAt m task with
    | none => m
    | some k =>
      if !k.rcd.event && releasesNow m k && onInstant m k.rcd.period k.rcd.phase then cyclicRelease m task k else m)

/-- A source releases a task of this record (R75). -/
def sourceFits (r : TaskRec) (src : ReleaseSource) : Bool :=
  match src with
  | .edge rising => r.evKind == 3 || (r.evKind == 1 && rising) || (r.evKind == 2 && !rising)
  | .planEvent c => r.evKind == 4 && r.evCode == c
  | .fault cls => r.evKind == 5 && bitOf r.evCode cls
  | .message p => r.evKind == 6 && r.evCode == p
  | .unitCmd c => r.evKind == 7 && r.evCode == c

/-- The payload a release carries: the oldest message of its port (R111). -/
def takeMsg (m : Mod) (src : ReleaseSource) : Option (List Val) × Mod :=
  match src with
  | .message p =>
    match m.pge.msgs.find? (fun x => x.port == p) with
    | some x => (some x.payload, { m with pge := { m.pge with msgs := m.pge.msgs.erase x } })
    | none => (none, m)
  | _ => (some [], m)

/-- A release joins the pending ones; with the queue full it is merged into the newest (R76, R111). -/
def pushRelease (t : Task) (r : Release) : Task :=
  if t.queue.length < t.rcd.qDepth then { t with queue := t.queue ++ [r] }
  else { t with queue := t.queue.dropLast ++ (t.queue.getLast?.map (fun x => { x with msg := r.msg })).toList,
                merged := satInc t.merged }

/-- EVENT_RELEASE (R75, R76). -/
def execEventRelease (t task : Nat) (src : ReleaseSource) (s : State) : Host.Outcome State Fault Refusal :=
  s.runOn t (fun m =>
    match taskAt m task with
    | none => m
    | some k =>
      if k.rcd.event && sourceFits k.rcd src && releasesNow m k && (k.st == .idle || k.busy) then
        match takeMsg m src with
        | (none, m) => m
        | (some msg, m) => tryRelease (setTask m task (pushRelease k { t := nowNs m, msg := msg })) task
      else m)

/-- HELD_RELEASE (R76). -/
def execHeldRelease (t task : Nat) (s : State) : Host.Outcome State Fault Refusal := s.runOn t (fun m => tryRelease m task)

/-! ### Snapshot (R78, R81) -/

/-- Two lists of handles name a common signal. -/
def overlaps (a b : List W32) : Bool := a.any (fun h => b.any (fun g => hIdx g == hIdx h))

/-- A commit in progress that a snapshot must wait for (R81): it overlaps, and began no later. -/
def snapshotWaits (m : Mod) (t : Task) (i : Inst) : Bool :=
  m.pge.tasks.any (fun e => e.2.st == .committing && overlaps t.rcd.reads e.2.rcd.writes &&
    (match e.2.inst with | some j => j.began ≤ i.release | none => false))

/-- The views of a read set; a CONST value already taken stands (R84). -/
def takeSnap (m : Mod) (t : Task) (i : Inst) : List View :=
  t.rcd.reads.mapIdx (fun n h =>
    match sigAt m (hIdx h), i.snap[n]? with
    | some r, some v => if r.isConst then v else r.view
    | _, _ => viewOf m h)

/-- SNAPSHOT_COMPLETE (R81). -/
def execSnapshotComplete (t task : Nat) (s : State) : Host.Outcome State Fault Refusal :=
  s.runOn t (fun m =>
    match taskAt m task with
    | none => m
    | some k =>
      match k.st, k.inst with
      | .snapshot, some i =>
        if snapshotWaits m k i then m else setTask m task { k with st := .ready, inst := some { i with snap := takeSnap m k i } }
      | _, _ => m)

/-! ### Dispatch (R71, R77, R82) -/

/-- The order of R71: class, PRIORITY, release instant, task number. -/
def rankKey (k : Nat) (t : Task) : List Nat :=
  [t.rcd.cls, t.rcd.prio, (match t.inst with | some i => i.release | none => 0), k]

/-- A key comes before another. -/
def keyLt : List Nat → List Nat → Bool
  | a :: r, b :: s => a < b || (a == b && keyLt r s)
  | _, _ => false

/-- The highest-ranked ready task of a core (R71). -/
def bestReady (m : Mod) (core : Nat) : Option (Nat × Task) :=
  (m.pge.tasks.filter (fun e => e.2.st == .ready && coreOf e.2 == core)).foldl (fun a e =>
    match a with
    | none => some e
    | some b => if keyLt (rankKey e.1 e.2) (rankKey b.1 b.2) then some e else some b) none

/-- A task takes a core. -/
def runTask (m : Mod) (core k : Nat) (t : Task) : Mod :=
  let m := setTask m k { t with st := .running }
  { m with pge := { m.pge with running := tset m.pge.running core k } }

/-- TASK_DISPATCH (R77). -/
def execTaskDispatch (t core : Nat) (s : State) : Host.Outcome State Fault Refusal :=
  s.runOn t (fun m =>
    match tget m.pge.running core, bestReady m core with
    | none, some (k, x) => if pairServes m x then runTask m core k x else m
    | _, _ => m)

/-- PREEMPTION (R82): the pre-empted task keeps its snapshot and write buffer. -/
def execTaskPreemption (t core : Nat) (s : State) : Host.Outcome State Fault Refusal :=
  s.runOn t (fun m =>
    match tget m.pge.running core, bestReady m core with
    | some j, some (k, x) =>
      match taskAt m j with
      | some y =>
        if keyLt (rankKey k x) (rankKey j y) then runTask (setTask m j { y with st := .ready }) core k x else m
      | none => m
    | _, _ => m)

/-! ### Commit (R79 to R81, R109, R110) -/

/-- The module time in ns at a past instant of the clock. -/
def nsAt (m : Mod) (c : Nat) : Nat := (((c - m.tim.zero : Nat) : Int) + m.tim.off).toNat

/-- The logical instant of a commit in a triad (R269): the release instant and the task's admitted W, in whole µs. -/
def logicalNs (t : Task) (i : Inst) : Nat := i.release + us t.wUs

/-- The buffered records written, with the TIME of the instant the commit began (R80), in a triad of its logical
instant (R269). -/
def commitWrites (m : Mod) (t : Task) (i : Inst) : Mod :=
  let ns := if m.tri.mode != 0 && t.rcd.cls < 2 then logicalNs t i else nsAt m i.began
  (t.rcd.writes.zip i.wbuf).foldl (fun m e =>
    match e.2 with
    | none => m
    | some x => ownerWriteAt m e.1 x.v x.q (BitVec.ofNat 32 ns) (BitVec.ofNat 16 (ns / 2 ^ 32))) m

/-- One service request issued (R108, R109): its status. -/
def issue (m : Mod) (k cls : Nat) (r : SysReq) : Mod × Status :=
  let n0 := r.v0.toNat % 2 ^ 32
  let n1 := r.v1.toNat % 2 ^ 32
  let h : W32 := r.v0.truncate 32
  match r.num with
  | 0x01 => swapRequest m n0 n1 1
  | 0x02 => tryEnable m [n0] (bitOf n1 0)
  | 0x03 =>
    if n1 ≥ 16 then (m, .badField)
    else
      match tget m.lpe.loops n0 with
      | none => (m, .badField)
      | some l =>
        match bankChange m n0 (1 - l.active) (fun b => lset b n1 (valReal r.v2)) with
        | .ok m => (m, .ok)
        | .error e => (m, e)
  | 0x10 => planCommand m n0 0 n1 2 none
  | 0x11 => planCommand m n0 1 0 2 none
  | 0x12 => planCommand m n0 2 0 2 none
  | 0x13 => planCommand m n0 3 0 2 none
  | 0x20 =>
    match modeOfNo n1 with
    | none => (m, .badField)
    | some md => unitCommand m h (some md) (bitOf r.v2.toNat 0) (cls == 1)
  | 0x21 => unitCommand m h none false (cls == 1)
  | 0x30 =>
    if cls = 0 && m.pge.tasks.any (fun e => e.2.rcd.evKind == 6 && e.2.rcd.evCode == n0 && e.2.rcd.cls != 0) then (m, .classCall)
    else if n0 < 256 then
      ({ m with pge := { m.pge with msgs := m.pge.msgs ++ [{ port := n0, payload := [r.v1, r.v2, r.v3, r.v4] }] } }, .ok)
    else (m, .badField)
  | _ => (leadEvent m 4 0 (BitVec.ofNat 32 k) r.v1 h, .ok)

/-- The requests in program order, and the result entries (R109, R110). -/
def issueAll (m : Mod) (k cls : Nat) (rs : List SysReq) : Mod × List W32 :=
  rs.foldl (fun a r => let (m, st) := issue a.1 k cls r; (m, a.2 ++ [BitVec.ofNat 32 st.code])) (m, [])

/-- A commit that waits for an overlapping snapshot in progress (R81). -/
def commitWaits (m : Mod) (t : Task) (i : Inst) : Bool :=
  m.pge.tasks.any (fun e => e.2.st == .snapshot && overlaps e.2.rcd.reads t.rcd.writes &&
    (match e.2.inst with | some j => j.release < i.began | none => false))

/-- VALUE changes that waited for the task's commit (R84). -/
def applyEdits (t : Task) : Task :=
  { t with retain := t.edits.foldl (fun r e => lmod r e.1 (fun x => { x with v := e.2 })) t.retain, edits := [] }

/-- A task removed (R84, R88): its signals lose their owner, its references go. -/
def removeTask (m : Mod) (k : Nat) (keep : List Nat) : Mod :=
  match taskAt m k with
  | none => m
  | some t =>
    let m := dropRefs (orphan (unrun m k) 4 k keep) (objRefs (t.rcd.reads ++ [t.rcd.evSource]) t.rcd.writes)
    { m with pge := { m.pge with tasks := tdel m.pge.tasks k } }

/-- A C1 task of a DRAINING pair that is not running moves to its drain pair, with its pending releases (R259). -/
def drainMove (m : Mod) (k : Nat) : Mod :=
  match taskAt m k with
  | none => m
  | some t =>
    if t.busy || (pairOf m t.pair).st != .draining then m
    else
      match (pairOf m t.pair).drain.find? (fun e => e.1 == k) with
      | some (_, p) => setTask m k { t with pair := p }
      | none => m

/-- The task after its commit (R77, R83, R299): HALTED, STOPPED, or IDLE, with the next release. -/
def afterCommit (m : Mod) (k : Nat) : Mod :=
  match taskAt m k with
  | none => m
  | some t =>
    if t.haltAtCommit then stopInstant (setTask m k { t with st := .halted, haltAtCommit := false }) k
    else if t.stopReq then stopInstant (setTask m k { t with st := .stopped, stopReq := false, deferred := none }) k
    else if m.pwr.st == .hold then stopInstant (setTask m k { t with deferred := none }) k
    else
      match t.deferred with
      | some r => if releasesNow m t then beginRelease m k { t with deferred := none } { t := r } else m
      | none => tryRelease m k

/-- COMMIT_COMPLETE (R80). -/
def execCommitComplete (t task : Nat) (s : State) : Host.Outcome State Fault Refusal :=
  s.runOn t (fun m =>
    match taskAt m task with
    | none => m
    | some k =>
      match k.st, k.inst with
      | .committing, some i =>
        if commitWaits m k i || (m.tri.mode != 0 && k.rcd.cls < 2 && nowNs m < logicalNs k i) then m
        else
          let m := commitWrites m k i
          let (m, rs) := issueAll m task k.rcd.cls i.reqs
          let k := applyEdits { k with st := .idle, inst := none, lastCommit := some i.release, results := rs,
                                       retain := i.retain, fbi := i.fbi, stopAt := none, rideDone := false }
          afterCommit (drainMove (setTask m task k) task) task
      | _, _ => m)

/-! ### Budgets and deadlines (R83) -/

/-- PGE_ABORT's bit of a task set (R91). -/
def noteAbort (m : Mod) (k : Nat) : Mod :=
  { m with pge := { m.pge with aborts := lmod m.pge.aborts (k / 32) (fun w => setBit32 w (k % 32)) } }

/-- An abort of R83: a C0 task goes IDLE and raises an F3; any other is HALTED with an F2 or an F1. -/
def abortTask (m : Mod) (k : Nat) (t : Task) (src : Nat) : Mod :=
  let m := noteAbort m k
  let m := if t.rcd.cls = 0 then unrun (setTask m k (dropInst t .idle)) k else haltTask m k
  reportFault m (faultOf src (if t.rcd.cls = 0 then 3 else if t.rcd.cls = 1 then 2 else 1) k
    (BitVec.ofNat 16 (0x0100 + t.pair)) 5 t.rcd.cls (t.cycles.truncate 32))

/-- STEP_BUDGET_EXHAUSTED (R83). -/
def execStepBudgetExhausted (t task : Nat) (s : State) : Host.Outcome State Fault Refusal :=
  s.runOn t (fun m =>
    match taskAt m task with
    | none => m
    | some k =>
      match k.st, k.inst with
      | .running, some i => if k.rcd.wcSteps ≤ i.steps then abortTask m task k 0x03 else m
      | _, _ => m)

/-- DEADLINE_EXPIRY (R83): the commit has not begun. -/
def execDeadlineExpiry (t task : Nat) (s : State) : Host.Outcome State Fault Refusal :=
  s.runOn t (fun m =>
    match taskAt m task with
    | none => m
    | some k =>
      match k.inst with
      | none => m
      | some i =>
        let d := us (if k.rcd.deadline = 0 then k.rcd.period else k.rcd.deadline)
        if k.rcd.cls < 2 && k.busy && k.st != .committing && i.release + d ≤ nowNs m then abortTask m task k 0x04 else m)

/-! ### Commands on tasks (R77, R321) -/

/-- A task command of the host: no ring starts or stops a C0 activity (R20). -/
def onTask (m : Mod) (q : Req) (k : Nat) (f : Task → Mod × Status) : Mod :=
  match taskAt m k with
  | none => refuse m q .badField
  | some t => if t.rcd.cls = 0 then refuse m q .isProtected else let (m, st) := f t; post m q st

/-- A task started afresh (R77, R105). -/
def startTask (m : Mod) (k : Nat) (t : Task) : Mod :=
  setTask m k { t with st := .idle, lastRelease := none, lastCommit := none, stopReq := false }

/-- TASK_START: from STOPPED; a HALTED task is cleared first. -/
def execTaskStart (t : Nat) (q : Req) (task : Nat) (s : State) : Host.Outcome State Fault Refusal :=
  s.runCmd t 0x002A q (fun m => onTask m q task (fun k =>
    match k.st with
    | .stopped => (startTask m task k, .ok)
    | .halted => (m, .notReady)
    | _ => (setTask m task { k with stopReq := false }, .ok)))

/-- TASK_STOP: at the next commit end, or at once from IDLE. -/
def execTaskStop (t : Nat) (q : Req) (task : Nat) (s : State) : Host.Outcome State Fault Refusal :=
  s.runCmd t 0x002A q (fun m => onTask m q task (fun k =>
    match k.st with
    | .stopped => (m, .ok)
    | .halted => (m, .notReady)
    | .idle => (stopInstant (setTask m task { k with st := .stopped, queue := [] }) task, .ok)
    | _ => (setTask m task { k with stopReq := true }, .ok)))

/-- TASK_CLEAR: HALTED to STOPPED once the cause is gone: its pair is not LOST. -/
def execTaskClear (t : Nat) (q : Req) (task : Nat) (s : State) : Host.Outcome State Fault Refusal :=
  s.runCmd t 0x002A q (fun m => onTask m q task (fun k =>
    if k.st != .halted || (pairOf m k.pair).st == .lost then (m, .notReady)
    else (setTask m task { k with st := .stopped, queue := [], deferred := none, lastCommit := none }, .ok)))

/-- The number of a task state (R324). -/
def tstateNo : TState → Nat
  | .stopped => 0 | .idle => 1 | .snapshot => 2 | .ready => 3 | .running => 4 | .committing => 5 | .halted => 6

/-- TASK_STATUS (R324). -/
def execTaskStatus (t : Nat) (q : Req) (task : Nat) (s : State) : Host.Outcome State Fault Refusal :=
  s.runOp t 0x002B q (fun m =>
    match taskAt m task with
    | none => refuse m q .badField
    | some k =>
      let data := bytes64 k.cycles ++ bytes32 k.skipped ++ bytes32 k.merged ++ bytes32 k.range ++
        leBytes 1 (tstateNo k.st) ++ leBytes 1 (k.pair + 128 * b2n k.coreB) ++ leBytes 2 0 ++ leBytes 4 k.wUs ++ leBytes 4 0
      post m q .ok { data := data })

end Sys2Proof.Machine
end

