-- ==== Sys2Proof/Machine/DicLoad.lean ====
section
/-! DEFINITION. DIC images as loaded: their layout (R92, R94, R513), the instructions of their code (R95, R96),
the load checks (R101, R102, R112) and the worst-case step count (R104). -/

namespace Sys2Proof.Machine

/-! ### Instructions (R95 to R97) -/

/-- A decoded instruction: every form's fields, its size in words and its step cost without iterations. -/
structure Ins where
  op : Nat
  ty : Nat := 0
  d : Nat := 0
  a : Nat := 0
  b : Nat := 0
  sp : Nat := 0
  ix : Nat := 0
  len : Nat := 0
  off : Nat := 0
  max : Nat := 0
  target : Nat := 0
  num : Nat := 0
  size : Nat := 1
  cost : Nat := 1
deriving DecidableEq, Repr

/-- The types of the arithmetic instructions, of the integer ones and of the real ones (R97). -/
def isArith (ty : Nat) : Bool := 1 ≤ ty && ty ≤ 5
def isInteger (ty : Nat) : Bool := 1 ≤ ty && ty ≤ 3
def isLogic (ty : Nat) : Bool := ty == 0 || ty == 2 || ty == 7
def isShift (ty : Nat) : Bool := isInteger ty || ty == 7

/-- Step cost and whether the type is valid, for the form A opcodes; `one` where B is unused (R96, R97). -/
def formA (op ty b cond : Nat) : Option (Nat × Bool × Bool) :=
  let c2 : Nat := cmpCost ty
  let r : Nat → Nat → Nat := fun x y => if ty = 4 then x else y
  match op with
  | 0x17 => some (1, ty ≤ 7, true)
  | 0x20 | 0x21 => some (addCost ty, isArith ty, false)
  | 0x22 => some (mulCost ty, isArith ty, false)
  | 0x23 => some (divCost ty, isArith ty, false)
  | 0x24 => some (divCost ty, isInteger ty, false)
  | 0x25 | 0x26 => some (1, isArith ty, true)
  | 0x27 | 0x28 => some (c2, isArith ty, false)
  | 0x29 => some (r 12 24, tyReal ty, true)
  | 0x2A => some (c2, isArith ty, false)
  | 0x2B | 0x2C | 0x2D | 0x2E => some (r 24 40, tyReal ty, true)
  | 0x2F => some (r 28 48, tyReal ty, false)
  | 0x30 | 0x31 | 0x32 => some (1, isLogic ty, false)
  | 0x33 => some (1, isLogic ty, true)
  | 0x34 | 0x35 | 0x36 | 0x37 => some (1, isShift ty, false)
  | 0x40 => some (c2, cond ≤ 5 && (isArith ty || (ty ≤ 7 && cond ≤ 1)), false)
  | 0x41 | 0x52 => some (1, ty ≤ 7, false)
  | 0x48 => some (2, ty ≤ 7 && b ≤ 7 && !((tyReal ty && b == 7) || (ty == 7 && tyReal b)), false)
  | 0x50 | 0x51 => some (1, isArith ty, true)
  | _ => none

/-- The steps of a function block (R106). -/
def fbCost (n : Nat) : Option Nat :=
  match n with
  | 1 | 2 | 3 => some 12
  | 4 | 5 => some 8
  | 6 | 7 | 8 => some 4
  | 9 | 13 => some 6
  | 10 | 11 => some 20
  | 12 => some 16
  | 14 => some 40
  | _ => none

/-- The service numbers (R108). -/
def isService (n : Nat) : Bool :=
  (1 ≤ n && n ≤ 3) || (0x10 ≤ n && n ≤ 0x13) || n == 0x20 || n == 0x21 || n == 0x30 || n == 0x31

/-- The instruction whose first word is `w` and whose next words are `x` (R95); none where it is invalid or a
reserved bit is set. -/
def decodeIns (w : W32) (x : List W32) : Option Ins :=
  let op := fld w 31 24
  let ty := fld w 23 20
  let d := fld w 19 16
  let a := fld w 15 12
  let b := fld w 11 8
  let cond := fld w 7 4
  match op with
  | 0x00 | 0x66 | 0x67 => if fld w 23 0 = 0 then some { op := op } else none
  | 0x64 | 0x7E => if fld w 23 20 = 0 && fld w 15 0 = 0 then some { op := op, d := d } else none
  | 0x10 | 0x11 => if ty ≤ 7 then some { op := op, ty := ty, d := d, sp := fld w 15 13, ix := fld w 12 0, cost := 2 } else none
  | 0x18 =>
    if ty = 3 && fld w 15 13 = 0 then some { op := op, ty := ty, d := d, ix := fld w 12 0, cost := 2 } else none
  | 0x12 | 0x13 =>
    match x with
    | e :: _ =>
      if ty ≤ 7 && fld w 11 0 = 0 then
        some { op := op, ty := ty, d := d, a := a, sp := fld e 31 29, ix := fld e 28 16, len := fld e 15 0, size := 2, cost := 3 }
      else none
    | [] => none
  | 0x14 => if ty ≤ 7 then some { op := op, ty := ty, d := d } else none
  | 0x15 => if ty ≤ 7 && fld w 15 0 = 0 && 1 ≤ x.length then some { op := op, ty := ty, d := d, size := 2 } else none
  | 0x16 => if ty ≤ 7 && fld w 15 0 = 0 && 2 ≤ x.length then some { op := op, ty := ty, d := d, size := 3 } else none
  | 0x60 => if fld w 23 16 = 0 && 1 ≤ fld w 15 0 then some { op := op, off := fld w 15 0 } else none
  | 0x61 | 0x62 => if fld w 23 20 = 0 && 1 ≤ fld w 15 0 then some { op := op, a := d, off := fld w 15 0 } else none
  | 0x63 =>
    match x with
    | e :: _ =>
      if fld w 23 20 = 0 && fld e 31 16 = 0 && 1 ≤ fld e 15 0 then
        some { op := op, a := d, off := fld w 15 0, max := fld e 15 0, size := 2, cost := 2 }
      else none
    | [] => none
  | 0x65 =>
    match x with
    | e :: _ => if fld w 23 0 = 0 && fld e 31 22 = 0 then some { op := op, target := fld e 21 0, size := 2, cost := 2 } else none
    | [] => none
  | 0x70 => (fbCost (fld w 23 16)).map (fun c => { op := op, num := fld w 23 16, ix := fld w 15 0, cost := c })
  | 0x78 => if isService (fld w 23 16) && fld w 15 0 = 0 then some { op := op, num := fld w 23 16, cost := 4 } else none
  | _ =>
    match formA op ty b cond with
    | none => none
    | some (c, ok, one) =>
      if ok && fld w 3 0 = 0 && (cond = 0 || op = 0x40) && (b = 0 || !one) then
        some { op := op, ty := ty, d := d, a := a, b := b, cost := c }
      else none

/-- The instructions of a code area with their word indices; none where one is invalid or runs past the end. -/
def decodeAll (fuel pc : Nat) (code : List W32) : Option (List (Nat × Ins)) :=
  match fuel, code with
  | _, [] => some []
  | 0, _ => none
  | n + 1, w :: r =>
    match decodeIns w r with
    | none => none
    | some i =>
      if r.length + 1 < i.size then none
      else (decodeAll n (pc + i.size) (r.drop (i.size - 1))).map (fun l => (pc, i) :: l)

/-! ### Structure (R101, R102) -/

/-- The loop bodies of a code area, from their first word to the word behind them. -/
def bodies (is : List (Nat × Ins)) : List (Nat × Nat) :=
  is.filterMap (fun e => if e.2.op = 0x63 && e.2.off != 0 then some (e.1 + 2, e.1 + 2 + e.2.off) else none)

/-- The bodies a word lies in. -/
def inside (bs : List (Nat × Nat)) (pc : Nat) : List (Nat × Nat) := bs.filter (fun b => b.1 ≤ pc && pc < b.2)

/-- Branches stay in their loop, loops end on boundaries inside the loops around them and nest to 8, calls
go to boundaries outside loops. -/
def structureOk (is : List (Nat × Ins)) (size : Nat) : Bool :=
  let bs := bodies is
  let boundary : Nat → Bool := fun pc => pc == size || is.any (fun e => e.1 == pc)
  is.all (fun e =>
    let (pc, i) := e
    (inside bs pc).length ≤ 8 &&
    match i.op with
    | 0x60 | 0x61 | 0x62 => boundary (pc + 1 + i.off) && inside bs (pc + 1 + i.off) == inside bs pc
    | 0x63 => boundary (pc + 2 + i.off) && (inside bs pc).all (fun b => pc + 2 + i.off ≤ b.2)
    | 0x65 => i.target < size && is.any (fun f => f.1 == i.target) && (inside bs i.target).isEmpty
    | _ => true)

/-! ### Worst cases (R104, R112) -/

/-- The worst of the paths from a word: steps, requests, and whether one reaches RET. -/
structure Worst where
  steps : Nat
  reqs : Nat
  ret : Bool
deriving DecidableEq, Repr

def Worst.plus (a : Worst) (s r : Nat) : Worst := { a with steps := a.steps + s, reqs := a.reqs + r }
def Worst.join (a b : Worst) : Worst := { steps := max a.steps b.steps, reqs := max a.reqs b.reqs, ret := a.ret || b.ret }

/-- What the words behind are worth: a word's worst path to the end of its region; none where a path runs past it. -/
abbrev WTab := List (Nat × Worst)

/-- The worst of a word, where the end of the region is `fin`. -/
def wAt (tab : WTab) (stop : Nat) (fin : Option Worst) (pc : Nat) : Option Worst :=
  if pc = stop then fin else (tab.find? (fun e => e.1 == pc)).map Prod.snd

/-- Worst cases over the instructions of a region, last first; `call` gives a subroutine's worst case. Loop bodies
are regions of their own, `fuel` levels deep. -/
def worstTab (fuel : Nat) (is : List (Nat × Ins)) (stop : Nat) (fin : Option Worst) (call : Nat → Option Worst) : WTab :=
  match fuel with
  | 0 => []
  | n + 1 =>
    is.foldr (fun e tab =>
      let (pc, i) := e
      let next := wAt tab stop fin (pc + i.size)
      let add : Option Worst → WTab := fun w => match w with | some w => (pc, w) :: tab | none => tab
      match i.op with
      | 0x67 => add (some { steps := 1, reqs := 0, ret := false })
      | 0x66 => add (some { steps := 1, reqs := 0, ret := true })
      | 0x60 => add ((wAt tab stop fin (pc + 1 + i.off)).map (fun w => w.plus 1 0))
      | 0x61 | 0x62 =>
        match next, wAt tab stop fin (pc + 1 + i.off) with
        | some a, some b => add (some ((a.join b).plus 1 0))
        | _, _ => tab
      | 0x63 =>
        let last := pc + 2 + i.off
        let body := is.filter (fun f => pc + 2 ≤ f.1 && f.1 < last)
        let inner := worstTab n body last (some { steps := 0, reqs := 0, ret := false }) call
        match wAt inner last (some { steps := 0, reqs := 0, ret := false }) (pc + 2), wAt tab stop fin last with
        | some b, some a => add (some { steps := 2 + i.max * (2 + b.steps) + a.steps, reqs := i.max * b.reqs + a.reqs, ret := a.ret || b.ret })
        | _, _ => tab
      | 0x65 =>
        match call i.target, next with
        | some c, some a => add (some (a.plus (2 + c.steps) c.reqs))
        | _, _ => tab
      | 0x78 => add (next.map (fun w => w.plus i.cost 1))
      | _ => add (next.map (fun w => w.plus i.cost 0))) []

/-- The instructions outside every loop body, then those inside, as one region's list. -/
def topTab (is : List (Nat × Ins)) (size : Nat) (call : Nat → Option Worst) : WTab := worstTab 10 is size none call

/-- The worst cases of a code area with calls nested to a depth (R102); deeper calls have none. -/
def callTab (is : List (Nat × Ins)) (size depth : Nat) : WTab :=
  match depth with
  | 0 => topTab is size (fun _ => none)
  | n + 1 =>
    let inner := callTab is size n
    topTab is size (fun t => (inner.find? (fun e => e.1 == t)).map Prod.snd)

/-- The words reached from a set of words going forward, calls apart; loop bodies count as reached. -/
def reachPass (is : List (Nat × Ins)) (marks : List Nat) : List Nat :=
  is.foldl (fun ms e =>
    let (pc, i) := e
    if ms.contains pc then
      match i.op with
      | 0x66 | 0x67 => ms
      | 0x60 => (pc + 1 + i.off) :: ms
      | 0x61 | 0x62 => (pc + 1) :: (pc + 1 + i.off) :: ms
      | 0x63 => (pc + 2) :: (pc + 2 + i.off) :: ms
      | 0x65 => i.target :: (pc + 2) :: ms
      | _ => (pc + i.size) :: ms
    else ms) marks

/-- The instructions a task can reach from its entry (R112). -/
def reached (is : List (Nat × Ins)) (entry : Nat) : List Ins :=
  let ms := (List.range 17).foldl (fun ms _ => reachPass is ms) [entry]
  (is.filter (fun e => ms.contains e.1)).map Prod.snd

/-! ### The image (R92, R513) -/

/-- The entries of a table of 16-byte values (R94): value, quality, type; none where a reserved byte is set. -/
def valueTable (bs : List Byte) (n : Nat) : Option (List (VQ × Nat)) :=
  (pieces bs 16 n).mapM (fun p => if zeros p 11 5 && u8 p 10 ≤ 7 then some ({ v := w64 p 0, q := w32 p 8 |>.truncate 16 }, u8 p 10) else none)

/-- The migration map (R513). -/
def migrationMap (raw : List Byte) (off size : Nat) (prev : W32) (retain : Nat) : Option (Option (List (Nat × Nat))) :=
  if off = 0 then (if size = 0 then some none else none)
  else
    let n := u32 raw (off + 4)
    let es := (pieces (raw.drop (off + 8)) 4 n).map (fun p => (u16 p 0, u16 p 2))
    if off + size ≤ raw.length && size = 8 + 4 * n && w32 raw off = prev && es.all (fun e => e.1 < retain) &&
        (es.map Prod.fst).Nodup then some (some es)
    else none

/-- Padding to a multiple of 8. -/
def pad8 (n : Nat) : Nat := (n + 7) / 8 * 8

/-- An image read from its bytes: header, lists area and tables; none where its layout is broken (R112). -/
def parseImage (raw : List Byte) : Option Image :=
  let codeOff := u32 raw 16
  let codeSize := u32 raw 20
  let constOff := u32 raw 24
  let constN := u32 raw 28
  let lists := u32 raw 32
  let listsN := u32 raw 36
  let rn := u16 raw lists
  let sn := u16 raw (lists + 2)
  let fn := u16 raw (lists + 4)
  let decl := u32 raw (lists + 8)
  let declEnd := decl + 16 * rn + pad8 sn + pad8 fn
  let ok := 64 ≤ raw.length && u32 raw 0 = 0x31434944 && u16 raw 4 = 1 && zeros raw 6 2 && u32 raw 8 != 0 &&
    zeros raw 50 6 && zeros raw 60 4 && crcOkAt raw raw.length 56 &&
    codeOff % 4 = 0 && codeSize % 4 = 0 && codeSize ≤ 16777216 && codeOff + codeSize ≤ raw.length &&
    constOff % 8 = 0 && constN ≤ 8192 && constOff + 16 * constN ≤ raw.length &&
    lists + listsN ≤ raw.length && 16 ≤ listsN && zeros raw (lists + 6) 2 && zeros raw (lists + 12) 4 &&
    rn ≤ 8192 && sn ≤ 1024 && fn ≤ 1024 && decl % 8 = 0 && lists ≤ decl && declEnd ≤ lists + listsN
  if !ok then none
  else
    let st := slice raw (decl + 16 * rn) sn
    let ft := slice raw (decl + 16 * rn + pad8 sn) fn
    match valueTable (raw.drop decl) rn, valueTable (raw.drop constOff) constN,
          migrationMap raw (u32 raw 40) (u32 raw 44) (w32 raw 12) rn with
    | some ret, some cs, some mig =>
      if st.all (fun b => b.toNat ≤ 7) && ft.all (fun b => (fbCost b.toNat).isSome) then
        some { imageId := w32 raw 8, prevId := w32 raw 12, codeOff := codeOff,
               code := (pieces (raw.drop codeOff) 4 (codeSize / 4)).map (fun p => w32 p 0),
               consts := cs.map (fun c => (c.1.v, c.2)), retain := ret, scratch := st.map BitVec.toNat,
               fbi := ft.map BitVec.toNat, migration := mig, raw := raw }
      else none
    | _, _, _ => none

/-- The instructions of an image, where its code passes the checks of R101 and R102. -/
def imageCode (g : Image) : Option (List (Nat × Ins)) :=
  match decodeAll g.code.length 0 g.code with
  | none => none
  | some is => if structureOk is g.code.length then some is else none

/-! ### The task record (R72, R73, R112) -/

/-- A list of handles at an image offset (R513). -/
def handleList (raw : List Byte) (off n : Nat) : List W32 := (pieces (raw.drop off) 4 n).map (fun p => w32 p 0)

/-- A task record read from its 64 bytes and its image (R72). -/
def parseTask (g : Image) (b : List Byte) : TaskRec :=
  { task := u16 b 0, event := u8 b 2 == 1, cls := u8 b 3, prio := u8 b 4, pair := u8 b 5, startOnRun := bitOf (u8 b 6) 0,
    haltOnSkip := bitOf (u8 b 6) 1, period := u32 b 8, phase := u32 b 12, deadline := u32 b 16, wcSteps := u32 b 20,
    entry := u32 b 24, unit := w32 b 28, reads := handleList g.raw (u32 b 32) (u16 b 36),
    writes := handleList g.raw (u32 b 40) (u16 b 38), evSource := w32 b 44, evKind := u8 b 48, qDepth := u8 b 49,
    evCode := u16 b 50, imageId := w32 b 52, raw := b }

/-- The fields of a task record are in range (R72, R73). -/
def taskFieldsOk (g : Image) (b : List Byte) (r : TaskRec) : Bool :=
  let lists := u32 g.raw 32
  let listEnd := lists + u32 g.raw 36
  let cyc := !r.event
  r.task ≤ 95 && u8 b 2 ≤ 1 && r.event == decide (32 ≤ r.task) && r.cls ≤ 3 && r.prio ≤ 31 && (r.pair ≤ 5 || r.pair == 0xFF) &&
    u8 b 6 < 4 && zeros b 7 1 && zeros b 56 8 && r.imageId == g.imageId &&
    (if cyc then 250 ≤ r.period && r.phase < r.period && r.evKind == 0 && r.qDepth == 0 && r.evCode == 0 && r.evSource == 0
     else r.phase == 0 && 1 ≤ r.evKind && r.evKind ≤ 7 && 1 ≤ r.qDepth && r.qDepth ≤ 8 && (2 ≤ r.cls || 1 ≤ r.period) &&
       (if r.evKind ≤ 3 then r.evCode == 0 else r.evSource == 0) && (r.evKind != 5 || r.evCode < 16) &&
       (r.evKind != 6 || r.evCode < 256) && (r.evKind != 7 || r.evCode ≤ 5)) &&
    r.period ≤ 10000000 && (if r.cls < 2 then r.deadline ≤ r.period else r.deadline == 0) &&
    (!r.haltOnSkip || 2 ≤ r.cls) && u16 b 36 ≤ 8192 && u16 b 38 ≤ 4096 &&
    u32 b 32 % 4 == 0 && u32 b 40 % 4 == 0 &&
    (u16 b 36 == 0 || (lists ≤ u32 b 32 && u32 b 32 + 4 * u16 b 36 ≤ listEnd)) &&
    (u16 b 38 == 0 || (lists ≤ u32 b 40 && u32 b 40 + 4 * u16 b 38 ≤ listEnd))

/-- The declared types of a space's entries as a task sees them (R94). -/
def spaceTypes (m : Mod) (g : Image) (r : TaskRec) (sp : Nat) : List Nat :=
  let tyOf : W32 → Nat := fun h => match sigAt m (hIdx h) with | some s => s.ty | none => 0
  match sp with
  | 0 => r.reads.map tyOf
  | 1 => r.writes.map tyOf
  | 2 => g.retain.map Prod.snd
  | 3 => g.consts.map Prod.snd
  | 4 => g.scratch
  | 7 => List.replicate 64 2
  | _ => []

/-- One instruction's operands are legal for a task (R94, R112): the refusal, if any. -/
def insRefusal (m : Mod) (g : Image) (r : TaskRec) (i : Ins) : Option Status :=
  let mem := i.op = 0x10 || i.op = 0x11 || i.op = 0x12 || i.op = 0x13
  let store := i.op = 0x11 || i.op = 0x13
  let n := if i.op = 0x12 || i.op = 0x13 then i.len else 1
  if mem then
    if i.sp = 6 || (store && (i.sp = 0 || i.sp = 3 || i.sp = 5 || i.sp = 7)) || (!store && i.sp = 1) then some .badImage
    else if i.sp = 5 then (if i.ix + n ≤ 4 then none else some .badImage)
    else
      let ts := spaceTypes m g r i.sp
      if ts.length < i.ix + n then some .badImage
      else if ((ts.drop i.ix).take n).all (fun t => t == i.ty) then none
      else some .typeMismatch
  else if i.op = 0x18 then (if i.ix < r.reads.length then none else some .badImage)
  else if i.op = 0x70 then (if (g.fbi[i.ix]?) == some i.num then none else some .badImage)
  else if i.op = 0x78 then (if r.cls = 0 && i.num < 0x30 then some .classCall else none)
  else none

/-- The signals a task record names are fit (R73): the refusal, if any. `given` names signals whose present owner
gives them up in the same change. -/
def taskSignals (m : Mod) (r : TaskRec) (given : List Nat) : Option Status :=
  let stale : W32 → Option Status := fun h => match judgeSig m h with | .error e => some e | .ok _ => none
  let sigOf : W32 → SigRec := fun h => (sigAt m (hIdx h)).getD {}
  match (r.reads ++ r.writes).findSome? stale with
  | some e => some e
  | none =>
    let ev := if 1 ≤ r.evKind && r.evKind ≤ 3 then stale r.evSource else none
    let un := if r.unit = 0 then none else match judgeUnit m r.unit with | .error e => some e | .ok _ => none
    match ev.or un with
    | some e => some e
    | none =>
      if r.writes.any (fun h => (sigOf h).isConst) then some .constant
      else if r.writes.any (fun h => !ownable (sigOf h) 4 r.task && !given.contains (hIdx h)) then some .ownerConflict
      else if 1 ≤ r.evKind && r.evKind ≤ 3 && (sigOf r.evSource).ty != 0 then some .typeMismatch
      else if r.cls = 0 && r.reads.any (fun h => (sigOf h).ownClass != 0) then some .classRead
      else none

/-- Why a task record is refused with its image (R73, R112), before admission. -/
def taskRefusal (m : Mod) (g : Image) (is : List (Nat × Ins)) (b : List Byte) (given : List Nat := []) : Option Status :=
  let r := parseTask g b
  if !taskFieldsOk g b r then some .badField
  else
    let e := (r.entry - g.codeOff) / 4
    let tab := callTab is g.code.length 16
    let entryOk := g.codeOff ≤ r.entry && (r.entry - g.codeOff) % 4 = 0 && is.any (fun x => x.1 == e) &&
      (inside (bodies is) e).isEmpty
    match (if entryOk then (tab.find? (fun x => x.1 == e)).map Prod.snd else none) with
    | none => some .badImage
    | some w =>
      if w.ret || w.reqs > 64 then some .badImage
      else
        match taskSignals m r given with
        | some st => some st
        | none =>
          match (reached is e).findSome? (insRefusal m g r) with
          | some st => some st
          | none => if w.steps + 16 > r.wcSteps then some .badSteps else none

end Sys2Proof.Machine
end

