-- ==== Sys2Proof/Machine/Admission.lean ====
section
/-! DEFINITION. Admission at worst case (R152, R232 to R244, R271) and the winding permits' commands
(R245 to R249). Times are in half nanoseconds where they add up stages. -/

namespace Sys2Proof.Machine

/-! ### Task response (R240, R241) -/

/-- What R240 needs of a task. -/
structure Resp where
  num : Nat
  cls : Nat
  prio : Nat
  e : Nat
  s : Nat
  k : Nat
  t : Nat
  d : Nat
  reads : List W32
  writes : List W32
deriving DecidableEq, Repr

/-- Half nanoseconds of a number of microseconds. -/
def hns (u : Nat) : Nat := 2000 * u

/-- The figures of a task record at worst case (R81, R240); `floor` its old WC_STEPS in a change (R85). -/
def respOf (n : Nat) (r : TaskRec) (floor : Nat := 0) : Resp :=
  { num := n, cls := r.cls, prio := r.prio, e := 5 * max r.wcSteps floor, s := 2000 + 16 * r.reads.length,
    k := 2000 + 24 * r.writes.length, t := hns r.period, d := hns (if r.deadline = 0 then r.period else r.deadline),
    reads := r.reads, writes := r.writes }

/-- Task `j` interferes with `i`: ranked above by R71, or of equal class and priority (R240). -/
def interferes (i j : Resp) : Bool :=
  j.num != i.num && (j.cls < i.cls || (j.cls == i.cls && j.prio ≤ i.prio))

/-- The iteration of R240; `none` where it passes the limit. -/
def respIter (fuel base : Nat) (js : List Resp) (d prev : Nat) : Option Nat :=
  match fuel with
  | 0 => none
  | n + 1 =>
    let w := js.foldl (fun w j => w + (prev + j.t - 1) / j.t * j.e) base
    if d < w then none else if w = prev then some w else respIter n base js d w

/-- W of a task among the tasks of its pair (R240), in half nanoseconds. -/
def responseOf (i : Resp) (ts : List Resp) (all : List Resp) : Option Nat :=
  let x := (all.filter (fun j => j.num != i.num && overlaps i.reads j.writes)).foldl (fun a j => max a j.k) 0
  let base := i.s + x + 1400 + i.e + i.k
  if i.d < base then none
  else respIter (24 * i.d / 2000 + 2) base (ts.filter (interferes i)) i.d base

/-- The pair a task falls back to (R254, R264): three bits for each pair. -/
def fallbackOf (m : Mod) (p : Nat) : Nat := m.lks.fallback.toNat / 2 ^ (3 * p) % 8

/-- The C0 and C1 tasks of the module, with the pair they are counted on. -/
def c01Tasks (m : Mod) : List (Nat × Resp) :=
  (m.pge.tasks.filter (fun e => e.2.rcd.cls < 2)).map (fun e =>
    let r := match e.2.switchTo with | some r => r | none => e.2.rcd
    (e.2.pair, respOf e.1 r e.2.rcd.wcSteps))

/-- The tasks counted on a pair, with the C0 tasks that would migrate to it from `from_` (R241). -/
def onPair (m : Mod) (p : Nat) (from_ : Option Nat) : List Resp :=
  ((c01Tasks m).filter (fun e => e.1 == p || (some e.1 == from_ && e.2.cls == 0))).map Prod.snd

/-- The first task of a list that fails R240. -/
def firstLate (m : Mod) (ts : List Resp) : Option Nat :=
  let all := (c01Tasks m).map Prod.snd
  (ts.find? (fun i => (responseOf i ts all).isNone)).map Resp.num

/-- The first task that fails R240 on its pair, and the first pair that fails as a fall-back (R241). -/
def taskTest (m : Mod) : Option (Nat × Nat) :=
  match (List.range 6).findSome? (fun p => firstLate m (onPair m p none)) with
  | some k => some (1, k)
  | none =>
    ((List.range 6).find? (fun p =>
      (onPair m p none).any (fun r => r.cls == 0) && (firstLate m (onPair m (fallbackOf m p) (some p))).isSome)).map (fun p => (9, p))

/-- The placement of a task with PAIR 0xFF (R241): the lowest joined pair where all tasks still pass; pair 0 where
none does. -/
def placeTask (m : Mod) (r : TaskRec) : Nat :=
  let all := respOf r.task r :: (c01Tasks m).map Prod.snd
  ((List.range 6).find? (fun p =>
    (pairOf m p).st == .joined && (2 ≤ r.cls ||
      (respOf r.task r :: onPair m p none).all (fun i => (responseOf i (respOf r.task r :: onPair m p none) all).isSome)))).getD 0

/-! ### Loops, plans, accesses (R118, R152, R242, R243) -/

/-- The cost of entering a step in tenths of a microsecond (R152). -/
def stepCost (s : PStep) : Nat := 20 + 4 * s.actCount + (if s.pauseOnRefusal then 20 else 0)

/-- The costliest run of transitions in `n` ticks, after being in each step, and when IDLE (R152): `none` is IDLE,
with the ticks an edge is still barred. -/
def planRun (p : Plan) (n : Nat) (at_ : Option Nat) (barred : Nat) : Nat :=
  match n with
  | 0 => 0
  | k + 1 =>
    let enter : Nat → Nat := fun s =>
      match p.steps[s]? with
      | some r => stepCost r + planRun p k (some s) (if r.wait = 1 || r.wait = 4 then r.ticks - 1 else 0)
      | none => 0
    let go : Nat → Nat := fun s => if s = 0xFFFF then 20 + planRun p k none 0 else enter s
    match at_ with
    | none => ((List.range p.steps.length).map enter).foldl max 0
    | some s =>
      let r := (p.steps[s]?).getD p.now
      let edges := if barred = 0 then max (go r.next) (if r.wait = 3 || r.wait = 5 || r.wait = 6 then go r.alt else 0) else 0
      max (max edges (go p.abortStep)) (20 + planRun p k (some s) (barred - 1))

/-- The greatest of a plan's runs from any step or from IDLE, in tenths of a microsecond. -/
def planFigure (p : Plan) : Nat :=
  max (planRun p 10 none 0) (((List.range p.steps.length).map (fun s => planRun p 10 (some s) 0)).foldl max 0)

/-- Insertion into a list from greatest to least. -/
def insertDesc (x : Nat) (l : List Nat) : List Nat :=
  match l with
  | [] => [x]
  | y :: r => if y ≤ x then x :: y :: r else y :: insertDesc x r

/-- The tick load L of R152 in tenths of a microsecond. -/
def tickLoad (m : Mod) : Nat :=
  let figs := (m.pln.plans.map (fun e => planFigure e.2)).foldl (fun l x => insertDesc x l) []
  let ramps := (m.pln.plans.map (fun e =>
    ((e.2.acts.filter (fun a => a.kind == 2)).map (fun a => 3 * ((10 + max a.arg16 1 - 1) / max a.arg16 1))).sum)).sum
  (figs.take 64).sum + ramps

/-- The samples per second of an AI rate code (R190). -/
def aiRate (c : Nat) : Nat :=
  match c with
  | 0 => 10 | 1 => 100 | 2 => 1000 | _ => 10000

/-- Record accesses per second admitted for C0 and C1 (R243); an AO is counted at its readback rate of 100 Hz. -/
def accesses (m : Mod) : Nat :=
  let per : Nat → Nat → Nat := fun n us => if us = 0 then 0 else (n * 1000000 + us - 1) / us
  let chans := (m.fio.chans.map (fun e =>
    let r := e.2.rcd
    if e.2.isDi then 100000 / max 1 (2 * r.filtThr - r.filtCeil)
    else if r.function = 6 then aiRate r.conv
    else if e.2.isAo then 100 else 0)).sum
  let loops := ((countedLoops m).map (fun l =>
    let r := l.rcd
    let ins := 2 + b2n (r.ffSig != 0) + b2n (r.manSig != 0) + b2n (r.fbSig != 0) + 1 + (r.aux.filter (· != 0)).length
    per (ins + 1 + b2n (r.out2Sig != 0) + 1) r.period)).sum
  let tasks := ((m.pge.tasks.filter (fun e => e.2.rcd.cls < 2)).map (fun e =>
    per (e.2.rcd.reads.length + e.2.rcd.writes.length) e.2.rcd.period)).sum
  let plans := (m.pln.plans.map (fun e =>
    let step := (e.2.steps.map (fun s => (((e.2.acts.drop s.actFirst).take s.actCount).filter (fun a => a.kind ≤ 2)).length)).foldl max 0
    10000 * (step + ((e.2.acts.filter (fun a => a.kind == 2)).map (fun a => a.target)).dedup.length))).sum
  let funcs := (m.saf.funcs.map (fun e => 10000 *
    (([e.2.resetSig, e.2.unlockReq, e.2.unlockPermit, e.2.stateSig, e.2.prestopSig] ++ e.2.ins).filter (· != 0)).length)).sum
  let conns := (m.saf.conns.map (fun e => 10000 * e.2.map.length)).sum
  let stns := (m.net.stations.map (fun e => per (e.2.ins.length + e.2.outs.length) e.2.cycleUs)).sum
  chans + loops + tasks + plans + funcs + conns + stns

/-! ### Base reservation (R243, R244) -/

/-- The base reservation of a configuration: the manual gives no formula, and 340 as its value at full
configuration (log 7). -/
def baseOf (m : Mod) : Nat :=
  min 340 (Config.baseUnits (m.fio.chans.filter (fun e => e.2.enabled)).length m.pge.tasks.length (countedLoops m).length
    (m.net.ports.filter (fun e => e.2.up)).length)

/-! ### Paths (R235 to R238) -/

/-- The signals a path starts from: those of its input channel, or of its connection. -/
def pathSource (m : Mod) (p : PathRec) : List W32 :=
  if p.kind = 3 then ((tget m.saf.conns p.conn).map (fun c => c.map.map Prod.fst)).getD []
  else [(chanOf m p.inCh).rcd.signal]

/-- A path's elements exist and are connected as declared (R238). -/
def pathLinked (m : Mod) (p : PathRec) : Bool :=
  let ch := chanOf m p.inCh
  let inOk := if p.kind = 3 then p.inCh == 0xFFFF else ch.isDi && ch.rcd.safetyMember
  let task := if p.task = 0xFF then none else taskAt m p.task
  let taskOk := p.task == 0xFF || (match task with | some t => t.rcd.cls == 0 && overlaps (pathSource m p) t.rcd.reads | none => false)
  let mid := match task with | some t => t.rcd.writes | none => pathSource m p
  let conn := tget m.saf.conns p.conn
  let connOk := match p.kind with
    | 2 => (match conn with | some c => c.send && overlaps mid (c.map.map Prod.fst) | none => false)
    | 3 => (match conn with | some c => !c.send | none => false)
    | _ => p.conn == 0xFFFF
  let funcOk := if p.kind = 2 then p.func == 0xFFFF && p.outCh == 0xFFFF
    else match tget m.saf.funcs p.func with
      | some f => overlaps mid f.ins && f.outCh.contains p.outCh
      | none => false
  inOk && taskOk && connOk && funcOk

/-- A path's bound in half nanoseconds with a task's W (R235, R236). -/
def pathBound (m : Mod) (p : PathRec) (w : Nat) : Nat :=
  let r := (chanOf m p.inCh).rcd
  let input := if p.kind = 3 then 0 else hns (27 + 10 * r.filtThr + (if r.testSrc = 0xFFFF then 0 else 400))
  let task := match (if p.task = 0xFF then none else taskAt m p.task) with
    | none => 0
    | some t => if t.rcd.event then 4000 + w else hns t.rcd.period + w
  let conn := (tget m.saf.conns p.conn).getD {}
  match p.kind with
  | 0 => input + task + hns (3 + 112 + 6)
  | 1 => input + task + hns (3 + 112 + 6 + 600)
  | 2 => input + task + 230680 + hns 6
  | _ => hns (p.peerUs + conn.periodUs + p.netUs + 4) + task + hns (3 + 112 + 6)

/-- The limit of a path in µs (R236, R238); none for a SEND path without LIMIT_US. -/
def pathLimit (m : Mod) (p : PathRec) : Option Nat :=
  if p.limitUs != 0 then some p.limitUs
  else
    let extra := 10 * ((chanOf m p.inCh).rcd.filtThr - 10)
    match p.kind with
    | 0 => some (1000 + extra)
    | 1 => some (1600 + extra)
    | 2 => none
    | _ => some (3000 + p.netUs)

/-- W of a path's task on its own pair and on its fall-back pair (R241). -/
def pathW (m : Mod) (p : PathRec) : Nat × Nat :=
  match (if p.task = 0xFF then none else taskAt m p.task) with
  | none => (0, 0)
  | some t =>
    let all := (c01Tasks m).map Prod.snd
    let i := respOf p.task t.rcd
    ((responseOf i (onPair m t.pair none) all).getD 0,
     (responseOf i (onPair m (fallbackOf m t.pair) (some t.pair)) all).getD 0)

/-- BOUND_US: a bound rounded up to whole µs. -/
def boundUs (m : Mod) (p : PathRec) : Nat := (pathBound m p (pathW m p).1 + 1999) / 2000

/-- A path keeps its limit, with its task at home and on the fall-back pair. -/
def pathWithin (m : Mod) (p : PathRec) : Bool :=
  match pathLimit m p with
  | none => true
  | some l => pathBound m p (pathW m p).1 ≤ hns l && pathBound m p (pathW m p).2 ≤ hns l

/-! ### The triad exchange (R271) -/

/-- The bytes a round's records may take: voted inputs and compared outputs, 24 bytes each, and 1 KiB. -/
def exchangeBytes (m : Mod) : Nat :=
  let voted := (m.sig.sigs.filter (fun e => e.2.ownKind == 1 || e.2.ownKind == 5 || e.2.ownKind == 6)).length
  let outs := (m.fio.chans.filter (fun e => e.2.isDo || e.2.isAo)).length + m.saf.conns.length
  24 * (voted + outs) + 1024

/-! ### Station frames (R354, R355) -/

/-- The entries a station frame holds, the segments of a number of entries, and the length of a frame of `n` entries,
tag and FCS included (R355, R337). -/
def segCap (gmac : Bool) : Nat := if gmac then 146 else 147
def segsOf (n : Nat) (gmac : Bool) : Nat := max 1 ((n + segCap gmac - 1) / segCap gmac)
def segLen (n : Nat) (gmac : Bool) : Nat := max 64 (46 + 10 * n + 8 * b2n gmac)

/-- The bytes of a cycle's frames for a number of entries. -/
def cycleBytes (n : Nat) (gmac : Bool) : Nat :=
  ((List.range (segsOf n gmac)).map (fun s => segLen (min (segCap gmac) (n - s * segCap gmac)) gmac)).sum

/-- Every station's frames together stay within 400 Mbit/s in a direction (R354). -/
def stationRateOk (m : Mod) : Bool :=
  let within : (Station → Nat) → Bool := fun f =>
    let r := sumFrac (m.net.stations.map (fun e => (8 * cycleBytes (f e.2) e.2.gmac, max 1 e.2.cycleUs)))
    r.1 ≤ 400 * r.2
  within (fun s => s.ins.length) && within (fun s => s.outs.length)

/-! ### The verdict (R239, R504) -/

/-- The first test a configuration fails, with its object (ADM_LAST, R504). -/
def admitTest (m : Mod) : Option (Nat × Nat) :=
  match taskTest m with
  | some x => some x
  | none =>
    if !densityOk (countedLoops m) then some (2, 0)
    else if tickLoad m > 10000 then some (3, 0)
    else if accesses m > 40000000 then some (4, 0)
    else
      match m.adm.paths.find? (fun e => !pathWithin m e.2) with
      | some (n, _) => some (6, n)
      | none =>
        if m.tri.seat != 0 && exchangeBytes m > 65536 then some (7, 0)
        else if !stationRateOk m then some (8, 0)
        else none

/-- W_US of every C0 and C1 task, and the base reservation, of a configuration in force (R244, R324). -/
def settleAdmission (m : Mod) : Mod :=
  let all := (c01Tasks m).map Prod.snd
  { m with
    adm := { m.adm with base := baseOf m, paths := tmap m.adm.paths (fun _ p => { p with boundUs := boundUs m p }) }
    pge := { m.pge with tasks := tmap m.pge.tasks (fun k t =>
      { t with wUs := if t.rcd.cls < 2 then ((responseOf (respOf k t.rcd) (onPair m t.pair none) all).getD 0 + 1999) / 2000 else 0 }) } }

/-! ### What every configuration load meets (R258, R262, R295, R439) -/

/-- A region is in TRIAL: loads that would write the configuration store are refused (R439). -/
def anyTrial (m : Mod) : Bool := m.nv.regions.any (fun r => r.st == .trial)

/-- Neither service pair is joined: nothing can be admitted (R262). -/
def noJoinedSvc (m : Mod) : Bool := (pairOf m 6).st != .joined && (pairOf m 7).st != .joined

/-- What a load that needs admission is refused with before its content is looked at. -/
def loadHeld (m : Mod) : Option Status :=
  if anyTrial m then some .trialActive else if noJoinedSvc m then some .pairState else none

/-- A C0 or C1 task may not be placed on the pair: it is DRAINING, SPLIT or JOINING (R258). -/
def pairClosed (m : Mod) (r : TaskRec) : Bool :=
  r.cls < 2 && r.pair < 6 &&
    ((pairOf m r.pair).st == .draining || (pairOf m r.pair).st == .split || (pairOf m r.pair).st == .joining)

/-- A reference more to one of the signals would take its count above 65,535 (R46). -/
def refsFull (m : Mod) (hs : List W32) : Bool :=
  hs.any (fun h => h != 0 && (match sigAt m (hIdx h) with | some r => 65535 < r.refs + (hs.filter (· == h)).length | none => false))

/-- An accepted load is written to the configuration store, behind those before it (R295 step 5). -/
def storeAdd (m : Mod) (kind num count : Nat) (buf : List Byte) : Mod :=
  { m with nv := { m.nv with store := m.nv.store ++ [{ kind := kind, num := num, count := count, buf := buf }] } }

/-- An accepted deletion in the configuration store: kind 100 more than the load's. -/
def storeDel (m : Mod) (kind num : Nat) : Mod := storeAdd m (100 + kind) num 0 []

/-! ### Permits (R245 to R248) -/

/-- PERMIT_REQUEST (R246): a duration outside 1 ms to the longest grant is taken to its limit. -/
def execPermitRequest (t who : Nat) (op : HeavyOp) (c1 : Bool) (durMs : Nat) (s : State) : Host.Outcome State Fault Refusal :=
  s.runOn t (fun m => if m.pwr.st == .fail then m else pumpLoops (request m who op c1 durMs))

/-- PERMIT_RELEASE (R246). -/
def execPermitRelease (t who : Nat) (s : State) : Host.Outcome State Fault Refusal :=
  s.runOn t (fun m => pumpLoops (releasePermit m who))

/-- A holder renews its grant (R247, R248): at once for no more units unless a RESYNC request waits, else as a new
request. -/
def renew (m : Mod) (who units durMs : Nat) : Mod :=
  match m.adm.grants.find? (fun g => g.who == who) with
  | none => m
  | some g =>
    let d := max 1 (min durMs (opMaxMs g.op))
    let g' := { g with units := units, durMs := d }
    let blocked := m.adm.holdBack && m.adm.waiting.any Permit.resync && !g.resync
    if units ≤ g.units && !blocked then
      decide_ { m with adm := { m.adm with grants := m.adm.grants.map (fun x => if x.who == who then { g' with stop := m.clk + ms d } else x) } }
    else if m.adm.waiting.any (fun w => w.who == who) then m
    else decide_ { m with adm := { m.adm with waiting := m.adm.waiting ++ [g'] } }

/-- PERMIT_RENEW (R247). -/
def execPermitRenew (t who units durMs : Nat) (s : State) : Host.Outcome State Fault Refusal :=
  s.runOn t (fun m => pumpLoops (renew m who units durMs))

/-- GRANT_EXPIRY (R247): the operation is suspended, queued again ahead of every waiting request of its class, and an
F0 is raised; full brightness, asked for a time, ends with its grant (R475, log 102). -/
def execGrantExpiry (t who : Nat) (s : State) : Host.Outcome State Fault Refusal :=
  s.runOn t (fun m =>
    match m.adm.grants.find? (fun g => g.who == who) with
    | none => m
    | some g =>
      if g.stop ≤ m.clk && who == whoPanel then pumpLoops (releasePermit m who)
      else if g.stop ≤ m.clk then
        let w := m.adm.waiting.filter (fun x => x.who != who)
        let m := { m with adm := { m.adm with
          grants := m.adm.grants.filter (fun x => x.who != who)
          waiting := { g with again := true } :: w } }
        pumpLoops (decide_ (reportFault { m with adm := { m.adm with events := setBit32 m.adm.events 2 } } (faultOf 0x16 0 0 0 0 (if g.c1 then 1 else if g.isC2 then 2 else 3))))
      else m)

end Sys2Proof.Machine
end

