-- ==== Sys2Proof/Machine/Change.lean ====
section
/-! DEFINITION. On-line change (R84 to R91): acceptance, the change instant, abort and the change records. -/

namespace Sys2Proof.Machine

/-! ### Loading an image (R73, R85, R112) -/

/-- The key an image is kept under: that of the same image already held, else its IMAGE_ID, or a number beyond every
IMAGE_ID where another image of that IMAGE_ID is held (log 106). -/
def imageKey (m : Mod) (g : Image) : Nat :=
  match m.pge.images.find? (fun e => e.2.raw == g.raw) with
  | some e => e.1
  | none =>
    if (tget m.pge.images g.imageId.toNat).isNone then g.imageId.toNat
    else (m.pge.images.map Prod.fst).foldl max (2 ^ 32) + 1

/-- A task as a load makes it (R72, R93): its placement, its retained variables and its block entries. -/
def newTask (m : Mod) (g : Image) (r : TaskRec) (st : TState) : Task :=
  let p := if r.pair < 6 then r.pair else placeTask m r
  { rcd := r, home := p, pair := p, st := st, retain := g.retain.map Prod.fst, fbi := List.replicate g.fbi.length {} }

/-- A task inserted: it owns its write set, and its read set and event source count as references. -/
def insertTask (m : Mod) (g : Image) (r : TaskRec) (st : TState) : Mod :=
  let m := setTask m r.task (newTask m g { r with key := imageKey m g } st)
  let m := r.writes.foldl (fun m h => ownSig m h 4 r.task r.cls) m
  addRefs m (objRefs (r.reads ++ [r.evSource]) r.writes)

/-- An image kept under its key. -/
def insertImage (m : Mod) (g : Image) : Mod :=
  { m with pge := { m.pge with images := tset m.pge.images (imageKey m g) g } }

/-- The first refusal of task records with an image (R73, R112). -/
def recordsRefusal (m : Mod) (g : Image) (bs : List (List Byte)) (given : List Nat) : Option Status :=
  match imageCode g with
  | none => some .badImage
  | some is => bs.findSome? (fun b => taskRefusal m g is b given)

/-! ### Acceptance (R84, R85, R87) -/

/-- The records of a package's tasks. -/
def pkgRecs (g : Image) (p : ChangePkg) : List TaskRec := p.tasks.map (parseTask g)

/-- The tasks a change touches. -/
def touched (kind : Nat) (p : ChangePkg) (g : Option Image) : List Nat :=
  match kind with
  | 1 => (p.values.map (fun v => v.1)).dedup
  | 3 | 4 => match g with | some g => (pkgRecs g p).map TaskRec.task | none => []
  | 5 => p.removed
  | _ => []

/-- A class C0 task, before or after, is touched, or a SAFETY constant (R87). -/
def touchesC0 (m : Mod) (kind : Nat) (p : ChangePkg) (g : Option Image) : Bool :=
  (touched kind p g).any (fun k => match taskAt m k with | some t => t.rcd.cls == 0 | none => false) ||
  (match g with | some g => (kind == 3 || kind == 4) && (pkgRecs g p).any (fun r => r.cls == 0) | none => false) ||
  (kind == 2 && p.consts.any (fun c => match sigAt m (hIdx c.1) with | some r => r.safety | none => false))

/-- The signals whose present owner gives them up in a change: those of the tasks it replaces or removes (R48). -/
def givenUp (m : Mod) (ks : List Nat) : List Nat :=
  ks.flatMap (fun k => match taskAt m k with | some t => t.rcd.writes.map hIdx | none => [])

/-- Why a change is refused by its own content (R84, R85); admission comes after. -/
def changeRefusal (m : Mod) (kind : Nat) (p : ChangePkg) (g : Option Image) : Option Status :=
  match kind with
  | 1 =>
    if p.values.isEmpty || p.values.length > 256 || p.values.any (fun v =>
        match taskAt m v.1 with | some t => t.retain.length ≤ v.2.1 | none => true) then some .badField else none
  | 2 =>
    if p.consts.isEmpty || p.consts.length > 256 then some .badField
    else
      match p.consts.findSome? (fun c => match judgeSig m c.1 with | .error e => some e | .ok _ => none) with
      | some e => some e
      | none => if p.consts.all (fun c => match sigAt m (hIdx c.1) with | some r => r.isConst | none => false) then none
                else some .badField
  | 3 | 4 =>
    match g with
    | none => some .badImage
    | some g =>
      let rs := pkgRecs g p
      let loaded : TaskRec → Bool := fun r => (taskAt m r.task).isSome
      if rs.isEmpty || rs.length > 96 || !(rs.map TaskRec.task).Nodup then some .badField
      else if kind = 3 && !rs.all loaded then some .badField
      else if kind = 4 && rs.any loaded then some .locked
      else recordsRefusal m g p.tasks (if kind = 3 then givenUp m (rs.map TaskRec.task) else [])
  | 5 => if p.removed.isEmpty || p.removed.any (fun k => (taskAt m k).isNone) then some .badField else none
  | _ => some .badField

/-- The configuration a change of kind 3 to 5 would leave, each task at the greater cost (R85). -/
def changed (m : Mod) (kind : Nat) (p : ChangePkg) (g : Option Image) : Mod :=
  match kind, g with
  | 3, some g => (pkgRecs g p).foldl (fun m r =>
      match taskAt m r.task with | some t => setTask m r.task { t with switchTo := some { r with key := imageKey m g } } | none => m) (insertImage m g)
  | 4, some g => (pkgRecs g p).foldl (fun m r => insertTask m g r .idle) (insertImage m g)
  | _, _ => m

/-- A change record added (R90), with the event CHANGE (R330). -/
def recordChange (m : Mod) (c : ChangeRec) : Mod :=
  leadEvent { m with nv := { m.nv with changes := m.nv.changes ++ [c] } } 7 c.outcome c.no 0 c.imageId

/-- The forced signals of a list, as the change record names them (R90). -/
def forcedOf (m : Mod) (hs : List W32) : List W32 :=
  hs.dedup.filter (fun h => match sigAt m (hIdx h) with | some r => r.forced | none => false)

/-- The record of a change that is refused, aborted or applied. -/
def changeRec (m : Mod) (no : W32) (kind outcome : Nat) (ks : List Nat) (forced : List W32) (g : Option Image) (st : Status) :
    ChangeRec :=
  { no := no, kind := kind, outcome := outcome, tasks := ks, instant := if outcome = 1 then 0 else time32 m,
    wrap := if outcome = 1 then 0 else wrap16 m, forced := forced,
    imageId := match g with | some g => g.imageId | none => 0, prevId := match g with | some g => g.prevId | none => 0, status := st }

/-- VALUE takes effect (R84): at once for a task with no instance running, else at its commit. -/
def applyValues (m : Mod) (p : ChangePkg) : Mod :=
  p.values.foldl (fun m v =>
    match taskAt m v.1 with
    | none => m
    | some t =>
      let t := { t with edits := t.edits ++ [v.2] }
      setTask m v.1 (if t.busy then t else applyEdits t)) m

/-- A change descriptor judged and, where accepted, applied or left pending (R84 to R87); `prot` within a
protection change. Its number is counted in any case (R91). -/
def postChange (m : Mod) (q : Option Req) (kind when_ : Nat) (p : ChangePkg) (prot : Bool) : Mod × Status :=
  let no := m.pge.changeSeq + 1
  let m := { m with pge := { m.pge with changeSeq := no } }
  let g := if kind = 3 || kind = 4 then parseImage p.image else none
  let ks := touched kind p g
  let closed : Bool := match g with | some g => (pkgRecs g p).any (pairClosed m) | none => false
  let refused : Status → Mod × Status := fun st =>
    (postOpt (recordChange m (changeRec m no kind 1 ks [] g st)) q st { r0 := no }, st)
  if !m.pge.changeEn then refused .changeDisabled
  else if m.pge.change.isSome then refused .changeBusy
  else if anyTrial m then refused .trialActive
  else if (kind = 3 || kind = 4) && noJoinedSvc m then refused .pairState
  else if touchesC0 m kind p g && !prot then refused .isProtected
  else if closed then refused .pairState
  else
    match changeRefusal m kind p g with
    | some st => refused st
    | none =>
      match (if kind = 3 || kind = 4 then admitTest (changed m kind p g) else none) with
      | some (test, obj) =>
        let m := noteRefused m test obj 0
        (postOpt (recordChange m (changeRec m no kind 1 ks [] g .notAdmitted)) q .notAdmitted { r0 := no }, .notAdmitted)
      | none =>
        if kind = 1 then
          let m := applyValues m p
          let fs := forcedOf m (ks.flatMap (fun k => match taskAt m k with | some t => t.rcd.writes | none => []))
          (postOpt (recordChange m (changeRec m no kind 0 ks fs none .ok)) q .ok { r0 := no }, .ok)
        else
          let c : PendingChange := { no := no, kind := kind, instant := if when_ = 0 then nowNs m + 1 else when_, pkg := p,
                                     image := g, recs := match g with | some g => pkgRecs g p | none => [], req := none }
          (postOpt { m with pge := { m.pge with change := some c } } q .ok { r0 := no }, .ok)

/-- CHANGE (R85). -/
def execChangePost (t : Nat) (q : Req) (kind when_ : Nat) (pkg : ChangePkg) (s : State) : Host.Outcome State Fault Refusal :=
  s.runCmd t 0x0003 q (fun m => (postChange m (some q) kind when_ pkg false).1)

/-- CHANGE_ABORT (R85): with no change pending the change instant has passed. -/
def execChangeAbort (t : Nat) (q : Req) (s : State) : Host.Outcome State Fault Refusal :=
  s.runCmd t 0x0004 q (fun m =>
    match m.pge.change with
    | some c =>
      if nowNs m < c.instant then
        let m := { m with pge := { m.pge with change := none } }
        post (recordChange m (changeRec m c.no c.kind 2 (touched c.kind c.pkg c.image) [] c.image .ok)) q .ok { r0 := c.no }
      else refuse m q .tooLate
    | none => refuse m q .tooLate)

/-! ### The change instant (R84, R86, R88) -/

/-- CONST values change; a snapshot begun before keeps the old ones (R84). -/
def applyConsts (m : Mod) (p : ChangePkg) : Mod :=
  let m := { m with pge := { m.pge with tasks := tmap m.pge.tasks (fun _ t =>
    match t.st, t.inst with
    | .snapshot, some i => { t with inst := some { i with snap := takeSnap m t i } }
    | _, _ => t) } }
  p.consts.foldl (fun m c =>
    let m := modSig m (hIdx c.1) (fun r => { r with val := encodeVal r.ty c.2, time := time32 m, wrap := wrap16 m })
    { m with nv := { m.nv with store := m.nv.store.map (fun e =>
        if e.kind = 1 && e.num = hIdx c.1 then { e with buf := patch e.buf 8 (bytes64 c.2) } else e) } }) m

/-- The configuration store follows a change of tasks (R295, R439): its image and task records as a load, or each removal. -/
def storeChange (m : Mod) (c : PendingChange) : Mod :=
  match c.kind, c.image with
  | 5, _ => c.pkg.removed.foldl (fun m k => storeDel m 4 k) m
  | _, some g => storeAdd m 4 g.imageId.toNat c.recs.length (g.raw ++ c.recs.flatMap TaskRec.raw)
  | _, none => m

/-- The pending change takes effect (R84). -/
def changeNow (m : Mod) (c : PendingChange) : Mod :=
  let ks := touched c.kind c.pkg c.image
  let writesOf : Nat → List W32 := fun k => match taskAt m k with | some t => t.rcd.writes | none => []
  let fs := forcedOf m (ks.flatMap writesOf ++ c.recs.flatMap TaskRec.writes)
  let m := { m with pge := { m.pge with change := none } }
  let m := match c.kind with
    | 2 => applyConsts m c.pkg
    | 3 =>
      let m := changed m 3 c.pkg c.image
      { m with pge := { m.pge with switching := some (c.no, ks) } }
    | 4 => changed m 4 c.pkg c.image
    | _ => ks.foldl (fun m k => removeTask m k []) m
  let m := if c.kind = 2 then m else settleAdmission (storeChange m c)
  recordChange m (changeRec m c.no c.kind 0 ks fs c.image .ok)

/-- CHANGE_INSTANT (R84). -/
def execChangeInstant (t : Nat) (s : State) : Host.Outcome State Fault Refusal :=
  s.runOn t (fun m =>
    match m.pge.change with
    | some c => if c.instant ≤ nowNs m then changeNow m c else m
    | none => m)

/-! ### Records and registers (R90, R91) -/

/-- The bytes of a change record (R90). -/
def changeBytes (c : ChangeRec) : List Byte :=
  bytes32 c.no ++ leBytes 1 c.kind ++ leBytes 1 c.outcome ++ bytes16 c.tasks.length ++ bytes32 c.instant ++
    bytes16 c.wrap.toNat ++ bytes16 c.forced.length ++ bytes32 c.imageId ++ bytes32 c.prevId ++ bytes16 c.status.code ++
    leBytes 6 0 ++ c.tasks.flatMap (leBytes 1) ++ leBytes ((4 - c.tasks.length % 4) % 4) 0 ++ c.forced.flatMap bytes32

/-- CHANGE_RECORD (R90, R322). -/
def execChangeRecord (t : Nat) (q : Req) (changeNo : W32) (s : State) : Host.Outcome State Fault Refusal :=
  s.runOp t 0x0044 q (fun m =>
    match (m.nv.changes.filter (fun c => c.no == changeNo)).getLast? with
    | none => refuse m q .badField
    | some c => post m q .ok { r0 := 1, r1 := BitVec.ofNat 32 (changeBytes c).length, data := changeBytes c })

/-- RELEASE_EN_WRITE (R91): judged at each task's next release instant. -/
def execReleaseEnWrite (t : Nat) (v : Bool) (s : State) : Host.Outcome State Fault Refusal :=
  s.runReg t 0x4004 (if v then 1 else 0) (fun m => m.pge.releaseEn != v) (fun m =>
    { m with pge := { m.pge with releaseEn := v, releaseAt := m.clk } })

end Sys2Proof.Machine
end

