-- ==== Sys2Proof/Machine/Digital.lean ====
section
/-! DEFINITION. Digital field channels (R162 to R187, R489): samples, demands, test pulses, suspects,
diagnostics, group safety switches and watchdogs. -/

namespace Sys2Proof.Machine

/-! ### Quality and records (R168, R182, R200) -/

/-- The quality code of a bit of the channel status word (R182, R200). -/
def diagQual (bit : Nat) : Qual :=
  match bit with
  | 0 => 0x0002
  | 1 => 0x0003 | 2 => 0x0003 | 3 => 0x0003 | 7 => 0x0003
  | 8 => 0x0004
  | 9 => 0xC000
  | 11 => 0x4001
  | 12 => 0x4000 | 13 => 0x4000
  | _ => 0x0000

/-- The quality of a channel: the worst of its standing diagnostics by R42, GOOD with none. -/
def Chan.quality (c : Chan) : Qual :=
  (List.range 16).foldl (fun q b => if bitOf c.status.toNat b then worse (diagQual b) q else q) 0xC000

/-- What a digital channel publishes (R164, R181, R182): an input its filtered value, FALSE while suspect or
latched; an output its readback. -/
def Chan.shownBool (c : Chan) : Bool := if c.isDi then c.q && !c.latched && !bitOf c.status.toNat 7 else c.rbHigh

/-- A digital channel writes its record when its value or quality has changed (R168). -/
def publish (m : Mod) (n : Nat) : Mod :=
  let c := chanOf m n
  let v := boolVal c.shownBool
  let q := c.quality
  if c.smp = v && c.smpQ = q then m
  else ownerWrite (setChan m n { c with smp := v, smpQ := q }) c.rcd.signal v q

/-- The channel has a record of a function in use. -/
def Chan.used (c : Chan) : Bool := c.enabled && c.rcd.function != 0

/-- A digital output, or a test source. -/
def Chan.drives (c : Chan) : Bool := c.isDo || c.isSource

/-- Readback checks and test pulses of the channel's block are suspended (R489). -/
def blockSuspended (m : Mod) (n : Nat) : Bool := bitOf m.fio.suspended.toNat (n / 32)

/-- The status word with a bit set or cleared. -/
def Chan.mark (c : Chan) (bit : Nat) (on : Bool) : Chan :=
  { c with status := if on then setBit32 c.status bit else clr32 c.status (BitVec.ofNat 32 (2 ^ bit)) }

/-- A diagnostic that does not latch is set, once, with its fault if it has one, or cleared (R182, R200). -/
def setDiag (m : Mod) (n bit : Nat) (on : Bool) (cls : Option Nat) : Mod :=
  let c := chanOf m n
  if bitOf c.status.toNat bit = on then m
  else
    let m := setChan m n (c.mark bit on)
    match (if on then cls else none) with
    | some k => chanFault m n k bit
    | none => m

/-- A diagnostic latches (R174, R180, R182): its instant, the driver, the group safety switch of a safety output
for CROSS_SUPPLY, CROSS_CHANNEL and WATCHDOG, and an F1, which for WATCHDOG waits for the sequencer (R185). -/
def latchDiag (m : Mod) (n bit : Nat) (partners : List Nat := []) : Mod :=
  let c := chanOf m n
  let c1 := { c with partners := c.partners ++ partners.filter (fun p => !c.partners.contains p) }
  if bitOf c.status.toNat bit then setChan m n c1
  else
    let c1 := c1.mark bit true
    let c1 := if bit = 2 || bit = 3 then c1.mark 7 false else c1
    let m := setChan m n { c1 with latchTime := time32 m, latchWrap := wrap16 m }
    let m := drive m n
    let m := if c.safeOut && (bit = 2 || bit = 3 || bit = 5) then openSwitch m (n / 32) else m
    if bit = 5 then m else chanFault m n 1 bit

/-- CROSS_CHANNEL latches on channels as each other's partners (R180, R181, R183). -/
def latchCross (m : Mod) (ns : List Nat) : Mod :=
  ns.foldl (fun m n => publish (latchDiag m n 3 (ns.filter (· != n))) n) m

/-! ### Inputs (R167, R168, R178, R181, R219) -/

/-- The channel that owns the signal of a handle. -/
def chanBySig (m : Mod) (h : W32) : Option Nat :=
  match sigAt m (hIdx h) with
  | some r => if h != 0 && r.ownKind = 1 then some r.ownId else none
  | none => none

/-- The filter fields of an accepted record take effect at the next sample (R166). -/
def takeFilter (c : Chan) : Chan :=
  match c.shadow with
  | some h => { c with rcd := { c.rcd with filtThr := h.filtThr, filtCeil := h.filtCeil }, count := min c.count h.filtCeil }
  | none => c

/-- The yo-yo filter (R167). -/
def yoyo (c : Chan) (high : Bool) (clk : Nat) : Chan :=
  let n := if high then min (c.count + 1) c.rcd.filtCeil else c.count - 1
  let up := !c.q && n ≥ c.rcd.filtThr
  let q := if up then true else if c.q && n + c.rcd.filtThr ≤ c.rcd.filtCeil then false else c.q
  { c with count := n, q := q, seenAt := if up then clk else c.seenAt }

/-- The CURTAIN function and the other OSSD of a channel's signal (R219). -/
def curtainOf (m : Mod) (h : W32) : Option (Func × W32) :=
  m.saf.funcs.foldl (fun a e =>
    if e.2.kind = 5 && h != 0 then
      if (e.2.ins[0]?).getD 0 = h then some (e.2, (e.2.ins[1]?).getD 0)
      else if (e.2.ins[1]?).getD 0 = h then some (e.2, (e.2.ins[0]?).getD 0) else a
    else a) none

/-- A low run of an OSSD ends (R219): with 2 to OSSD_PULSE_US ÷ 10 samples and q TRUE it is a test pulse, which
restarts the interval; runs of both OSSDs that overlap by two samples latch CROSS_CHANNEL on both. -/
def ossdRun (m : Mod) (n start : Nat) : Mod :=
  let c := chanOf m n
  match curtainOf m c.rcd.signal with
  | none => m
  | some (f, other) =>
    let len := (m.clk - start) / us 10
    if c.q && 2 ≤ len && len ≤ f.ossdPulseUs / 10 then
      let m := setChan m n { c with seenAt := m.clk, run := some (start, m.clk) }
      match (chanBySig m other).bind (fun k => (chanOf m k).run.map (fun r => (k, r))) with
      | some (k, a, b) => if max a start + us 20 ≤ min b m.clk then latchCross m [n, k] else m
      | none => m
    else m

/-- The test source whose dark pulse is in progress. -/
def darkSource (m : Mod) : Option Nat :=
  (m.fio.chans.find? (fun e => e.2.isSource && (match e.2.pulse with | some p => p.dark && m.clk < p.stop | none => false))).map
    Prod.fst

/-- What an input shows of the dark pulse of a test source other than its own (R181): consecutive low samples
counted from a high one, and CROSS_CHANNEL when two of them are followed by a high one after the pulse. -/
def foreignPulse (m : Mod) (n : Nat) (high was : Bool) : Mod :=
  let c := chanOf m n
  match darkSource m with
  | some s =>
    if s = c.rcd.testSrc then setChan m n { c with shown := none }
    else
      let k := match c.shown with | some (a, k) => if a = s then k else 0 | none => 0
      if high then (if k ≥ 2 then m else setChan m n { c with shown := none })
      else if k > 0 || was then setChan m n { c with shown := some (s, k + 1) }
      else m
  | none =>
    match c.shown with
    | some (s, k) =>
      let m := setChan m n { c with shown := none }
      if high && k ≥ 2 && !bitOf c.status.toNat 3 then latchCross m [n, s] else m
    | none => m

/-- A raw sample of an input (R167, R178): inside a test window it is not fed to the filter. -/
def sampleInput (m : Mod) (n : Nat) (high : Bool) : Mod :=
  let c := takeFilter (chanOf m n)
  let inWin : Bool := match c.window with | some w => m.clk < w.start + us 400 | none => false
  let c1 := if inWin then { c with window := c.window.map (fun w => { w with samples := (m.clk, high) :: w.samples }) }
            else yoyo c high m.clk
  let ended := if high then c.lowAt else none
  let c1 := { c1 with lastRaw := high, lowAt := if high then none else c.lowAt.or (some m.clk) }
  let m := foreignPulse (setChan m n c1) n high c.lastRaw
  let m := match ended with | some a => ossdRun m n a | none => m
  publish m n

/-- DI_SAMPLE (R163, R167, R168): a raw sample every 10 µs; of an output it is the readback. -/
def execDiSample (t ch : Nat) (high : Bool) (s : State) : Host.Outcome State Fault Refusal :=
  s.runOn t (fun m =>
    let c := chanOf m ch
    if (m.clk - m.tim.zero) % us 10 != 0 || !c.used then m
    else if c.isDi then sampleInput m ch high
    else if c.drives then (if c.pulse.isSome then m else publish (setChan m ch { c with rbHigh := high }) ch)
    else m)

/-! ### Demands and PWM (R171, R172) -/

/-- DO_DEMAND_READ (R171, R179). -/
def execDoDemandRead (t ch : Nat) (s : State) : Host.Outcome State Fault Refusal :=
  s.runOn t (fun m =>
    let c := chanOf m ch
    if c.used && c.rcd.function = 3 && !c.rcd.safetyMember then readDemand m ch else m)

/-- The on-time of a duty in %, in steps of 10 µs, to the nearest step (R172). -/
def onSteps (d : F32) (periodUs : Nat) : Nat :=
  let p := fSig r32 d.toNat * periodUs
  let x := fExp r32 d.toNat
  if 0 ≤ x then divRne (p * 2 ^ x.toNat) 1000 else divRne p (1000 * 2 ^ (-x).toNat)

/-- The duty a PWM channel takes at a period start: its loop's output, else the visible value of DEMAND. -/
def dutyOf (m : Mod) (c : Chan) : F32 :=
  match c.direct with
  | some w => valReal w.val
  | none => if c.rcd.demand = 0 then c.duty else valReal (viewOf m c.rcd.demand).val

/-- A PWM period starts (R172) with the duty clamped to 0 % to 100 %; a duty that is no number gives a free
on-time (log 61). -/
def pwmStart (m : Mod) (n : Nat) : Mod :=
  let m := readDemand m n
  let c := chanOf m n
  let c := match c.shadow with | some h => { c with rcd := { c.rcd with pwmPeriodUs := h.pwmPeriodUs } } | none => c
  let d := dutyOf m c
  let steps := if isNan32 d then (Config.fresh32 m.free).toNat % (c.rcd.pwmPeriodUs / 10 + 1)
               else onSteps (clamp32 d 0 0x42C80000) c.rcd.pwmPeriodUs
  let m := if isNan32 d then m.tick else m
  let onUs := 10 * steps
  let full := c.rcd.pwmPeriodUs < onUs + 20
  let on := 20 ≤ onUs
  let free := !c.blocked && !c.safeDriving && !c.inOff && c.offSeen.isNone
  let c := if free then c.switchTo on m.clk else c
  setChan m n { c with duty := d, perAt := some m.clk, onEnd := if on && !full then some (m.clk + us onUs) else none }

/-- PWM_PERIOD_START (R172). -/
def execPwmPeriodStart (t ch : Nat) (s : State) : Host.Outcome State Fault Refusal :=
  s.runOn t (fun m =>
    let c := chanOf m ch
    let due : Bool := match c.perAt with | some x => x + us c.rcd.pwmPeriodUs ≤ m.clk | none => true
    if c.used && c.rcd.function = 4 && due then pwmStart m ch else m)

/-- PWM_ON_TIME_END (R172). -/
def execPwmOnTimeEnd (t ch : Nat) (s : State) : Host.Outcome State Fault Refusal :=
  s.runOn t (fun m =>
    let c := chanOf m ch
    match c.onEnd with
    | some x =>
      if m.clk < x then m
      else if c.safeDriving then setChan m ch { c with onEnd := none }
      else setChan m ch { c.switchTo false m.clk with onEnd := none }
    | none => m)

/-! ### Test frames (R175, R176) -/

/-- Test pulses of a channel are permitted (R175). -/
def testsOn (m : Mod) (c : Chan) : Bool := c.rcd.testEn && (m.fio.testEn || c.rcd.safetyMember)

/-- A test frame starts (R166, R175): the test fields of accepted records take effect and the tests of the
frame are set: every 2^TEST_DIV-th, and those rescheduled. -/
def frameStart (m : Mod) : Mod :=
  let f := m.fio.frame + 1
  { m with fio := { m.fio with
      frame := f
      frameAt := m.clk
      testEn := m.fio.testEnNew
      chans := tmap m.fio.chans (fun _ c =>
        let c := match c.shadow with
          | some h => { c with rcd := { c.rcd with testEn := h.testEn, testDiv := h.testDiv, darkUs := h.darkUs, brightUs := h.brightUs } }
          | none => c
        { c with due := c.retest || f.toNat % 2 ^ c.rcd.testDiv = 0, retest := false }) } }

/-- The frame sequence of the release epoch starts (R176): tests not yet reached are rescheduled, and the slot
in progress is let finish. -/
def frameRealign (m : Mod) : Mod :=
  let busy := m.fio.chans.any (fun e => e.2.pulse.isSome || e.2.window.isSome)
  let left := (m.clk - m.fio.frameAt) / us 500
  let m := { m with fio := { m.fio with
      chans := tmap m.fio.chans (fun n c => if c.due && n > left then { c with retest := true } else c)
      slotEnd := if busy then m.fio.frameAt + us (500 * (left + 1)) else 0 } }
  frameStart m

/-- TEST_FRAME_START (R175). -/
def execTestFrameStart (t : Nat) (s : State) : Host.Outcome State Fault Refusal :=
  s.runOn t (fun m => if m.pwr.startStep ≥ 4 && m.fio.frameAt + ms 128 ≤ m.clk then frameStart m else m)

/-! ### Test pulses (R177 to R179) -/

/-- The inputs fed from a source open their windows (R178). -/
def openWindows (m : Mod) (src : Nat) : Mod :=
  { m with fio := { m.fio with chans := tmap m.fio.chans (fun _ c =>
      if c.isDi && c.rcd.testSrc = src && c.used then
        { c with window := some { start := m.clk, before := c.lastRaw, samples := [] } } else c) } }

/-- A channel's slot starts (R177): a dark pulse of an output that is ON, a bright one of an output that is OFF;
a test source's dark pulse opens its inputs' windows. -/
def slotStart (m : Mod) (n : Nat) : Mod :=
  let c := chanOf m n
  let m := setChan m n { c with due := false }
  if m.clk < m.fio.slotEnd then setChan m n { c with due := false, retest := true }
  else if !c.due || !testsOn m c || blockSuspended m n || c.blocked || c.rcd.function = 4 then m
  else if c.driver then
    let m := setChan m n { c with due := false, pulse := some { dark := true, stop := m.clk + us c.rcd.darkUs } }
    if c.isSource then openWindows m n else m
  else if c.safeDriving then m
  else setChan m n { c with due := false, pulse := some { dark := false, stop := m.clk + us c.rcd.brightUs } }

/-- TEST_SLOT_START (R177, R178): channel n's slot starts n × 0.5 ms into the frame. -/
def execTestSlotStart (t ch : Nat) (s : State) : Host.Outcome State Fault Refusal :=
  s.runOn t (fun m =>
    let c := chanOf m ch
    if c.used && c.drives && m.fio.frame != 0 && m.clk = m.fio.frameAt + us (500 * ch) then slotStart m ch else m)

/-- An output becomes suspect (R180): BAD, SHORT, driver held off; a safety output opens its group switch; the
safety outputs of the block that are ON are noted for the classification. -/
def makeSuspect (m : Mod) (n : Nat) : Mod :=
  let c := chanOf m n
  let others := if c.safeOut then
      (m.fio.chans.filter (fun e => e.1 / 32 == n / 32 && e.1 != n && e.2.safeOut && e.2.driver)).map Prod.fst else []
  let m := drive (setChan m n ({ c with partners := others }.mark 7 true)) n
  let m := if c.safeOut then openSwitch m (n / 32) else m
  publish m n

/-- TEST_PULSE_END (R177): `seen`, the readback showed the pulse on 2 consecutive samples. -/
def execTestPulseEnd (t ch : Nat) (seen : Bool) (s : State) : Host.Outcome State Fault Refusal :=
  s.runOn t (fun m =>
    let c := chanOf m ch
    match c.pulse with
    | some p =>
      if m.clk < p.stop then m
      else
        let m := setChan m ch { c with pulse := none }
        if seen || blockSuspended m ch then m
        else if p.dark then makeSuspect m ch
        else publish (latchDiag m ch 4) ch
    | none => m)

/-- Two consecutive low samples among samples given newest first. -/
def twoLow (l : List (Nat × Bool)) : Bool :=
  match l with
  | a :: b :: r => (!a.2 && !b.2) || twoLow (b :: r)
  | _ => false

/-- An input test is evaluated (R178): a real change discards it, a high input must have shown the pulse, a low
one cannot be tested. -/
def judgeWindow (m : Mod) (n : Nat) (w : TestWin) : Mod :=
  let c := chanOf m n
  let m := setChan m n { c with window := none }
  let cut := w.start + us ((chanOf m c.rcd.testSrc).rcd.darkUs + 100)
  let after := w.samples.filter (fun x => cut ≤ x.1)
  let early := w.samples.filter (fun x => x.1 ≤ cut)
  if after.any (fun x => x.2 != w.before) then
    let m := { m with fio := { m.fio with discards := satInc m.fio.discards } }
    setChan m c.rcd.testSrc { chanOf m c.rcd.testSrc with retest := true }
  else if w.before && !twoLow early then publish (setChan m n ((chanOf m n).mark 7 true)) n
  else m

/-- INPUT_TEST_WINDOW_END (R178). -/
def execInputTestWindowEnd (t ch : Nat) (s : State) : Host.Outcome State Fault Refusal :=
  s.runOn t (fun m =>
    match (chanOf m ch).window with
    | some w => if m.clk < w.start + us 400 then m else judgeWindow m ch w
    | none => m)

/-! ### Suspects (R180, R181) -/

/-- OUTPUT_SUSPECT (R180): the readback is high with the driver off, from 30 µs after a switch-off or late in a
dark pulse. -/
def execOutputSuspect (t ch : Nat) (s : State) : Host.Outcome State Fault Refusal :=
  s.runOn t (fun m =>
    let c := chanOf m ch
    let off : Bool := match c.pulse with | some p => p.dark | none => !c.driver && c.switchedAt + us 30 ≤ m.clk
    if c.used && c.drives && off && c.armed && c.status &&& 0x0000008C == 0 && !blockSuspended m ch then
      makeSuspect (setChan m ch { c with rbHigh := true, pulse := none }) ch
    else m)

/-- A suspect is classified (R180, R181). -/
def classify (m : Mod) (n : Nat) (obs : SuspectObs) : Mod :=
  let c := chanOf m n
  let cross := fun (ns : List Nat) => latchCross (setChan m n { c with partners := [], rbHigh := if c.isDi then c.rbHigh else false }) (n :: ns)
  if c.isDi then
    match obs with
    | .partnerPulse k => cross [k]
    | .afterOpening | .wentLow | .stayedHigh => publish (latchDiag m n 2) n
  else
    match obs with
    | .partnerPulse k => cross [k]
    | .afterOpening => cross (if c.safeOut then c.partners else [])
    | .wentLow => cross []
    | .stayedHigh => publish (latchDiag (setChan m n { c with partners := [] }) n 2) n

/-- SUSPECT_CLASSIFY (R180, R181). -/
def execSuspectClassify (t ch : Nat) (obs : SuspectObs) (s : State) : Host.Outcome State Fault Refusal :=
  s.runOn t (fun m => if bitOf (chanOf m ch).status.toNat 7 then classify m ch obs else m)

/-! ### Readback and wire-break diagnostics (R169, R170, R173, R194) -/

/-- NOT_ACHIEVED_DO (R173): the readback is low with the driver on, outside the first 30 µs. -/
def execNotAchievedDo (t ch : Nat) (s : State) : Host.Outcome State Fault Refusal :=
  s.runOn t (fun m =>
    let c := chanOf m ch
    if c.used && c.drives && c.driver && c.pulse.isNone && c.switchedAt + us 30 ≤ m.clk && !blockSuspended m ch &&
        !bitOf c.status.toNat 8 then
      publish (setChan m ch ({ c with rbHigh := false, naSince := some m.clk }.mark 8 true)) ch
    else m)

/-- NOT_ACHIEVED_CLEAR (R173): the readback goes high again before OVERLOAD latches. -/
def execNotAchievedClear (t ch : Nat) (s : State) : Host.Outcome State Fault Refusal :=
  s.runOn t (fun m =>
    let c := chanOf m ch
    if c.drives && bitOf c.status.toNat 8 then
      publish (setChan m ch ({ c with rbHigh := true, naSince := none }.mark 8 false)) ch
    else m)

/-- OVERLOAD_LATCH (R173): NOT_ACHIEVED has stood for 2 ms, or the driver shut down thermally. -/
def execOverloadLatch (t ch : Nat) (thermal : Bool) (s : State) : Host.Outcome State Fault Refusal :=
  s.runOn t (fun m =>
    let c := chanOf m ch
    let long : Bool := match c.naSince with | some x => x + ms 2 ≤ m.clk | none => false
    if c.used && c.drives && (thermal || (long && !blockSuspended m ch)) then publish (latchDiag m ch 1) ch else m)

/-- WIRE_BREAK_SET (R169, R170, R194): for an output only while it drives ON. -/
def execWireBreakSet (t ch : Nat) (s : State) : Host.Outcome State Fault Refusal :=
  s.runOn t (fun m =>
    let c := chanOf m ch
    if c.used && c.rcd.wbEn && (c.isDi || c.rcd.function = 6 || (c.drives && c.rcd.function != 4 && c.driver)) then
      let m := setDiag m ch 0 true (some 0)
      if c.rcd.function = 6 then m else publish m ch
    else m)

/-- WIRE_BREAK_CLEAR (R169, R170, R194). -/
def execWireBreakClear (t ch : Nat) (s : State) : Host.Outcome State Fault Refusal :=
  s.runOn t (fun m =>
    let c := chanOf m ch
    if c.used && (c.isDi || c.drives || c.rcd.function = 6) then
      let m := setDiag m ch 0 false none
      if c.rcd.function = 6 then m else publish m ch
    else m)

/-! ### The field supply (R163, R489) -/

/-- The channels of a block that are in use. -/
def blockChans (m : Mod) (b : Nat) : List Nat :=
  (m.fio.chans.filter (fun e => e.1 / 32 == b && e.2.used)).map Prod.fst

/-- A block's readback checks and test pulses are suspended (R489): pulses end, NOT_ACHIEVED is no longer judged. -/
def suspendBlock (m : Mod) (b : Nat) : Mod :=
  if bitOf m.fio.suspended.toNat b then m
  else
    { m with fio := { m.fio with
        suspended := setBit8 m.fio.suspended b true
        chans := tmap m.fio.chans (fun n c =>
          if n / 32 = b && c.drives then { c with pulse := none, naSince := none }.mark 8 false else c) } }

/-- FIELD_SUPPLY_FALL (R489). -/
def execFieldSupplyFall (t blk : Nat) (s : State) : Host.Outcome State Fault Refusal :=
  s.runOn t (fun m => if blk < 8 then suspendBlock m blk else m)

/-- A digital channel's record follows; an analogue channel's does at its next conversion or readback. -/
def publishDigital (m : Mod) (n : Nat) : Mod :=
  if (chanOf m n).isDi || (chanOf m n).drives then publish m n else m

/-- SUPPLY_LOW_SET (R163): an F1 for every channel of the block in use (R182, R200). -/
def execSupplyLowSet (t blk : Nat) (s : State) : Host.Outcome State Fault Refusal :=
  s.runOn t (fun m =>
    if blk < 8 then
      let m := suspendBlock m blk
      let m := { m with fio := { m.fio with low := setBit8 m.fio.low blk true, okb := setBit8 m.fio.okb blk false } }
      (blockChans m blk).foldl (fun m n => publishDigital (setDiag m n 6 true (some 1)) n) m
    else m)

/-- SUPPLY_LOW_CLEAR (R163): the supply has been above 19.0 V for 10 ms. -/
def execSupplyLowClear (t blk : Nat) (s : State) : Host.Outcome State Fault Refusal :=
  s.runOn t (fun m =>
    if blk < 8 then
      let m := { m with fio := { m.fio with
        low := setBit8 m.fio.low blk false, okb := setBit8 m.fio.okb blk true, suspended := setBit8 m.fio.suspended blk false } }
      (blockChans m blk).foldl (fun m n => publishDigital (setDiag m n 6 false none) n) m
    else m)

/-! ### Group safety switches (R174) -/

/-- A safety member of a block is suspect or holds a latched diagnostic (R174). -/
def memberBad (m : Mod) (b : Nat) : Bool :=
  m.fio.chans.any (fun e => e.1 / 32 == b && e.2.rcd.safetyMember && (e.2.latched || (e.2.safeOut && bitOf e.2.status.toNat 7)))

/-- A close request is refused (R174): an opening cause stands, or a safety member holds a latched diagnostic. -/
def closeBarred (m : Mod) (b : Nat) : Bool :=
  m.flt.f3 || m.pwr.st == .fail || m.sec.debug == .full || memberBad m b

/-- The switch of a block is requested to close (R174). -/
def closeSwitch (m : Mod) (b : Nat) : Mod :=
  if closeBarred m b then { m with fio := { m.fio with closeRefused := setBit8 m.fio.closeRefused b true } }
  else if bitOf m.fio.closed.toNat b then m
  else
    driveAll { m with fio := { m.fio with
      closed := setBit8 m.fio.closed b true, railCheck := tset m.fio.railCheck b (true, m.clk) } }

/-- The switches named by a write to FIO_GSW_CLOSE are asked to close (R174). -/
def closeSwitches (m : Mod) (mask : Nat) : Mod :=
  (List.range 8).foldl (fun m b => if bitOf mask b then closeSwitch m b else m) m

/-- GSW_CLOSE_REQUEST (R174, R187). -/
def execGswCloseRequest (t : Nat) (mask : W32) (s : State) : Host.Outcome State Fault Refusal :=
  s.runReg t 0x900C mask (fun _ => mask.toNat % 256 != 0) (fun m => closeSwitches m mask.toNat)

/-- GSW_RAIL_CHECK (R174): 1 ms after opening the rail must read below 5.0 V, else an F3; 1 ms after closing it
must read above 18.0 V, else the switch opens again. -/
def execGswRailCheck (t blk railMv : Nat) (s : State) : Host.Outcome State Fault Refusal :=
  s.runOn t (fun m =>
    match tget m.fio.railCheck blk with
    | some (closing, since) =>
      if m.clk < since + ms 1 then m
      else
        let m := { m with fio := { m.fio with railCheck := tdel m.fio.railCheck blk } }
        if closing then (if railMv > 18000 then m else openSwitch m blk)
        else
          let m := { m with fio := { m.fio with stuck := setBit8 m.fio.stuck blk (railMv ≥ 5000) } }
          if railMv ≥ 5000 then reportFault m (faultOf 0x0E 3 blk (BitVec.ofNat 16 (0x0300 + blk)) 6 0) else m
    | none => m)

/-! ### Watchdogs (R185) -/

/-- WATCHDOG_REFRESH (R185): a trip of the silence is reported now, and a test source resumes. -/
def execWatchdogRefresh (t ch : Nat) (s : State) : Host.Outcome State Fault Refusal :=
  s.runOn t (fun m =>
    let c := chanOf m ch
    if !c.used then m
    else
      let m := setChan m ch { c with wdLast := some m.clk, wdTripped := false }
      let m := if c.wdTripped then publishDigital (chanFault m ch 1 5) ch else m
      if c.isSource then drive m ch else m)

/-- WATCHDOG_TRIP (R185): no refresh for at least WD_100US × 100 µs. -/
def execWatchdogTrip (t ch : Nat) (s : State) : Host.Outcome State Fault Refusal :=
  s.runOn t (fun m =>
    let c := chanOf m ch
    match c.wdLast with
    | some x =>
      if c.used && x + us (100 * c.rcd.wd100) ≤ m.clk && !bitOf c.status.toNat 5 then
        latchDiag (setChan m ch { c with wdTripped := true }) ch 5
      else m
    | none => m)

/-! ### Clearing (R183, R201) -/

/-- The channel's own cause of a latched diagnostic persists (R183, R201): readback high with the driver off, an
input current below 0.2 mA, an AO's terminal voltage outside −1.0 V to 30 V, an AI's current below −0.5 mA. -/
def ownCause (c : Chan) : Bool :=
  if c.isDi then bitOf c.status.toNat 0
  else if c.drives then c.rbHigh && !c.driver
  else if c.isAo then bitOf c.status.toNat 10 && (lt32 c.vt 0xBF800000 || lt32 0x41F00000 c.vt)
  else bitOf c.status.toNat 10 && lt32 c.currentMa 0xBF000000

/-- The channels of a write that can be cleared: no own cause, and every partner still latched is cleared by the
same write (R183, log 62). -/
def clearable (m : Mod) (ns : List Nat) (fuel : Nat) : List Nat :=
  match fuel with
  | 0 => ns
  | k + 1 =>
    clearable m (ns.filter (fun n =>
      !ownCause (chanOf m n) && (chanOf m n).partners.all (fun p => !bitOf (chanOf m p).status.toNat 3 || ns.contains p))) k

/-- A channel's latched diagnostics are cleared together (R183); a powered AI's loop supply comes back (R201). -/
def unlatch (m : Mod) (n : Nat) : Mod :=
  let c := chanOf m n
  setChan m n { c with status := clr32 c.status (latchMask ||| 0x80), partners := [], wdTripped := false, armed := c.driver,
                       loopSupply := true }

/-- The ones of a write to FIO_LATCHED (R183). -/
def clearLatched (m : Mod) (mm mask : Nat) : Mod :=
  (clearable m ((span (32 * mm) 32).filter (fun n => bitOf mask (n % 32) && (chanOf m n).latched)) 32).foldl unlatch m

/-- LATCHED_CLEAR (R183, R187). -/
def execLatchedClear (t mm : Nat) (mask : W32) (s : State) : Host.Outcome State Fault Refusal :=
  s.runW1c t (0x9020 + 4 * mm) (fun m => if mm < 8 then clearLatched m mm mask.toNat else m)

end Sys2Proof.Machine
end

