-- ==== Sys2Proof/Machine/Analogue.lean ====
section
/-! DEFINITION. Analogue channels and their calibration (R188 to R206). -/

namespace Sys2Proof.Machine

/-! ### The calibration set (R202, R203) -/

/-- Bytes 0 to 59 of a calibration record (R202). -/
def CalRec.body (r : CalRec) : List Byte :=
  bytes16 r.channel ++ leBytes 1 r.source ++ leBytes 1 r.format ++ bytes32 r.calTime ++
  bytes32 r.aiGain ++ bytes32 r.aiOffset ++ bytes32 r.aoGain ++ bytes32 r.aoOffset ++
  bytes32 r.rbGain ++ bytes32 r.rbOffset ++ bytes32 r.vtGain ++ bytes32 r.vtOffset ++
  bytes32 r.tcPpm ++ bytes32 r.refTemp ++ bytes32 r.calTag ++ List.replicate 8 0

/-- A calibration record of 64 bytes as held in MRAM (R202). -/
def calBytes (r : CalRec) : List Byte := r.body ++ bytes32 r.crc

/-- A record with its CRC over bytes 0 to 59 (R202). -/
def CalRec.seal (r : CalRec) : CalRec := { r with crc := crc32c r.body }

/-- The record of a channel in MRAM; one not written since delivery is the factory's (log 10). -/
def calOf (m : Mod) (n : Nat) : CalRec :=
  match tget m.nv.cal n with
  | some r => r
  | none => ({ channel := n } : CalRec).seal

/-- A gain lies within 0.98 to 1.02, an offset within ±0.2 (R202). -/
def gainOk (g : F32) : Bool := le32 0x3F7AE148 g && le32 g 0x3F828F5C
def offsetOk (o : F32) : Bool := le32 (abs32 o) 0x3E4CCCCD

/-- The gains and offsets of a record are within the limits (R202). -/
def CalRec.inRange (r : CalRec) : Bool :=
  gainOk r.aiGain && gainOk r.aoGain && gainOk r.rbGain && gainOk r.vtGain &&
  offsetOk r.aiOffset && offsetOk r.aoOffset && offsetOk r.rbOffset && offsetOk r.vtOffset

/-- A record is valid at a position (R202). -/
def CalRec.valid (r : CalRec) (n : Nat) : Bool :=
  r.crc == crc32c r.body && r.channel == n && r.format == 1 && r.inRange

/-- A channel falls back on nominal coefficients (R203): its bit, CAL_CRC, UNCAL for an analogue function and one
F1. -/
def goNominal (m : Mod) (n : Nat) : Mod :=
  let c := chanOf m n
  if c.nominal then m
  else
    let c1 := { c with nominal := true }
    let c1 := if c.rcd.function = 6 || c.rcd.function = 7 then c1.mark 11 true else c1
    let m := putChan m n c1
    let m := { m with fio := { m.fio with anEvents := setBit32 m.fio.anEvents 0 } }
    reportFault m (faultOf 0x0A 1 n (BitVec.ofNat 16 (0x0300 + n / 32)) 0 1)

/-- A channel's record is checked (R203). -/
def checkCal (m : Mod) (n : Nat) : Mod := if (calOf m n).valid n then m else goNominal m n

/-- A channel is enabled: its record is checked and in force (R203, R204). -/
def enableCal (m : Mod) (n : Nat) : Mod :=
  if (calOf m n).valid n then
    setChan m n { ((chanOf m n).mark 11 false) with cal := some (calOf m n), nominal := false }
  else goNominal (setChan m n { chanOf m n with cal := none, nominal := false }) n

/-- CAL_CHECK_PASS (R203): the background pass over all 256 records. -/
def execCalCheckPass (t : Nat) (s : State) : Host.Outcome State Fault Refusal :=
  s.runOn t (fun m => (List.range 256).foldl checkCal m)

/-- The coefficients a channel uses (R203). -/
def Chan.coeffs (c : Chan) : CalRec := if c.nominal then {} else c.cal.getD {}

/-- A current from a raw result by gain and offset (R202), with the temperature correction where TC_PPM is not 0
(log 5). -/
def formCurrent (m : Mod) (r : CalRec) (gain offset raw : F32) : F32 :=
  let i := add32 (mul32 gain raw) offset
  if eq32 r.tcPpm 0 then i else Config.tempCorrect m.free r.tcPpm r.refTemp i

/-- A current on the channel's scale (R192). -/
def scaled (r : ChanRec) (i : F32) : F32 :=
  add32 r.scaleLo (mul32 (div32 (sub32 i 0x40800000) 0x41800000) (sub32 r.scaleHi r.scaleLo))

/-- An analogue channel writes its record (R192, R197). -/
def publishReal (m : Mod) (n : Nat) (v : F32) : Mod :=
  let c := chanOf m n
  let q := c.quality
  ownerWrite (setChan m n { c with smp := realVal v, smpQ := q }) c.rcd.signal (realVal v) q

/-! ### Inputs (R192 to R194) -/

/-- The conversion period in µs of a rate code (R190). -/
def convUs (code : Nat) : Nat :=
  match code with
  | 0 => 100000 | 1 => 10000 | 2 => 1000 | _ => 100

/-- The NAMUR band of a current (R193): 0 FAIL_LOW, 1 BELOW_RANGE, 2 MEASURING, 3 ABOVE_RANGE, 4 FAIL_HIGH. -/
def bandOf (i : F32) : Nat :=
  if le32 i 0x40666666 then 0 else if lt32 i 0x40733333 then 1 else if le32 i 0x41A40000 then 2
  else if lt32 i 0x41A80000 then 3 else 4

/-- The bit of a band in the status word (R193). -/
def bandBit (b : Nat) : Option Nat :=
  match b with
  | 0 => some 14 | 1 => some 12 | 3 => some 13 | 4 => some 15 | _ => none

/-- A band takes effect (R193, R200): FAIL_LOW and FAIL_HIGH raise an F0. -/
def takeBand (m : Mod) (n b : Nat) : Mod :=
  let c := chanOf m n
  let c0 := { c with status := c.status &&& 0xFFFF0FFF, band := b }
  match bandBit b with
  | none => setChan m n c0
  | some k =>
    let m := setChan m n (c0.mark k true)
    if (b = 0 || b = 4) && !bitOf c.status.toNat k then chanFault m n 0 k else m

/-- The current is banded (R193): a change takes effect once every conversion over BAND_MS has fallen in the new
band; the first conversion after enable sets the band. -/
def banding (m : Mod) (n : Nat) (i : F32) (first : Bool) : Mod :=
  let c := chanOf m n
  let b := bandOf i
  if first then takeBand (setChan m n { c with bandNew := b, bandSince := m.clk }) n b
  else if b = c.band then setChan m n { c with bandNew := b, bandSince := m.clk }
  else
    let since := if c.bandNew = b then c.bandSince else m.clk
    let m := setChan m n { c with bandNew := b, bandSince := since }
    if since + ms c.rcd.bandMs ≤ m.clk then takeBand m n b else m

/-- The first-order filter (R192). -/
def filtered (c : Chan) (i : F32) : F32 :=
  match c.filtI with
  | some f => if c.rcd.filtTauUs = 0 then i
              else add32 f (mul32 (sub32 i f) (Config.filterFactor (convUs c.rcd.conv) c.rcd.filtTauUs))
  | none => i

/-- AI_CONVERSION (R192, R193): scaling, BAND_MS, FILT_TAU_US and CONV of a new record take effect (R191). -/
def execAiConversion (t ch : Nat) (rawMa : F32) (s : State) : Host.Outcome State Fault Refusal :=
  s.runOn t (fun m =>
    let c := chanOf m ch
    if !c.used || c.rcd.function != 6 then m
    else
      let c := match c.shadow with
        | some h => { c with rcd := { c.rcd with scaleLo := h.scaleLo, scaleHi := h.scaleHi, bandMs := h.bandMs,
                                                 filtTauUs := h.filtTauUs, conv := h.conv } }
        | none => c
      let r := c.coeffs
      let i := formCurrent m r r.aiGain r.aiOffset rawMa
      let f := filtered c i
      let m := setChan m.tick ch { c with currentMa := i, filtI := some f }
      publishReal (banding m ch f c.filtI.isNone) ch (scaled c.rcd f))

/-- AI_OVERLOAD (R194): 25 mA or more for 10 ms in powered mode; the loop supply goes off. -/
def execAiOverload (t ch : Nat) (s : State) : Host.Outcome State Fault Refusal :=
  s.runOn t (fun m =>
    let c := chanOf m ch
    if c.used && c.rcd.function = 6 && c.rcd.powered && c.loopSupply then
      latchDiag (setChan m ch { c with loopSupply := false }) ch 1
    else m)

/-! ### Outputs (R195 to R199) -/

/-- AO_DEMAND_READ (R195): AO_MIN_MA, AO_MAX_MA, SAFE_MA, UPDATE_US and WD_100US of a new record take effect. -/
def execAoDemandRead (t ch : Nat) (s : State) : Host.Outcome State Fault Refusal :=
  s.runOn t (fun m =>
    let c := chanOf m ch
    if c.used && c.isAo then readDemand m ch else m)

/-- A run of readbacks that meet a condition: one more, or none. -/
def runNext (holds : Bool) (n : Nat) : Nat := if holds then n + 1 else 0

/-- The headroom V_T − (7.0 V + 50 Ω × I_M) in V (R197). -/
def headroom (v i : F32) : F32 := sub32 v (add32 0x40E00000 (div32 (mul32 0x42480000 i) 0x447A0000))

/-- The conditions of a readback (R197) as runs of consecutive readbacks. -/
def judgeRuns (c : Chan) (clk : Nat) : Chan :=
  let v := c.vt
  let i := c.currentMa
  let dev := abs32 (sub32 i c.setMa)
  let far := lt32 0x3DA3D70A dev
  { c with
    owRun := runNext (c.rcd.wbEn && lt32 v 0x40000000 && lt32 i 0x3F000000) c.owRun
    owOkRun := runNext (le32 0x40000000 v) c.owOkRun
    lcRun := runNext (lt32 (headroom v i) 0x3F000000) c.lcRun
    lcOkRun := runNext (le32 0x3F333333 (headroom v i)) c.lcOkRun
    naRun := runNext (far && c.setAt + ms 5 ≤ clk) c.naRun
    naOkRun := runNext (!far) c.naOkRun }

/-- The diagnostics of a readback (R197, R200). -/
def judgeReadback (m : Mod) (n : Nat) : Mod :=
  let c := judgeRuns (chanOf m n) m.clk
  let m := setChan m n c
  let m := if c.owRun ≥ 20 then setDiag m n 0 true (some 0) else if c.owOkRun ≥ 20 then setDiag m n 0 false none else m
  let m := if c.lcRun ≥ 10 then setDiag m n 9 true (some 0) else if c.lcOkRun ≥ 10 then setDiag m n 9 false none else m
  let c := chanOf m n
  if c.naRun ≥ 3 && !bitOf c.status.toNat 8 then
    setChan m n ({ c with naSince := some m.clk, complianceRaised := false }.mark 8 true)
  else if c.naOkRun ≥ 3 then setChan m n ({ c with naSince := none }.mark 8 false)
  else m

/-- AO_READBACK (R197): PERSIST_MS and the scale of a new record take effect (R191). -/
def execAoReadback (t ch : Nat) (rawMa rawV : F32) (s : State) : Host.Outcome State Fault Refusal :=
  s.runOn t (fun m =>
    let c := chanOf m ch
    if !c.used || !c.isAo then m
    else
      let c := match c.shadow with
        | some h => { c with rcd := { c.rcd with persistMs := h.persistMs, scaleLo := h.scaleLo, scaleHi := h.scaleHi } }
        | none => c
      let r := c.coeffs
      let i := formCurrent m r r.rbGain r.rbOffset rawMa
      let m := judgeReadback (setChan m.tick ch { c with currentMa := i, vt := add32 (mul32 r.vtGain rawV) r.vtOffset }) ch
      publishReal m ch (scaled c.rcd i))

/-- COMPLIANCE_PERSIST (R198): once for each uninterrupted episode. -/
def execCompliancePersist (t ch : Nat) (s : State) : Host.Outcome State Fault Refusal :=
  s.runOn t (fun m =>
    let c := chanOf m ch
    match c.naSince with
    | some x =>
      if c.used && c.isAo && bitOf c.status.toNat 8 && !c.complianceRaised && x + ms c.rcd.persistMs ≤ m.clk then
        let m := setChan m ch { c with complianceRaised := true }
        chanFault { m with fio := { m.fio with anEvents := setBit32 m.fio.anEvents 1 } } ch 1 8
      else m
    | none => m)

/-- MISWIRE_LATCH (R199): an AO then sets 3.5 mA. -/
def execMiswireLatch (t ch : Nat) (s : State) : Host.Outcome State Fault Refusal :=
  s.runOn t (fun m =>
    let c := chanOf m ch
    if c.used && (c.isAo || c.rcd.function = 6) && !bitOf c.status.toNat 10 then
      latchDiag { m with fio := { m.fio with anEvents := setBit32 m.fio.anEvents 2 } } ch 10
    else m)

/-! ### Calibration (R204, R320) -/

/-- A calibration descriptor for a channel: BAD_FIELD for one that does not exist, LOCKED while it is enabled. -/
def onCal (m : Mod) (q : Req) (n : Nat) (f : Chan → Mod) : Mod :=
  if n ≥ 256 then post m q .badField
  else if (chanOf m n).used then post m q .locked
  else f (chanOf m n)

/-- CAL_START (R204). -/
def execCalStart (t : Nat) (q : Req) (ch fn : Nat) (s : State) : Host.Outcome State Fault Refusal :=
  s.runCmd t 0x0010 q (fun m => onCal m q ch (fun c =>
    if fn != 6 && fn != 7 then post m q .badField
    else post (putChan m ch { c with calFn := fn, calPts := [], calWait := none }) q .ok))

/-- The nominal current of a calibration point: 4 mA or 20 mA (R204). -/
def pointMa (point : Nat) : F32 := if point = 0 then 0x40800000 else 0x41A00000

/-- CAL_POINT (R204, R320): an AO drives the point's current; the completion follows the averaging. -/
def execCalPoint (t : Nat) (q : Req) (ch point : Nat) (refMa refV : F32) (s : State) : Host.Outcome State Fault Refusal :=
  s.runCmd t 0x0011 q (fun m => onCal m q ch (fun c =>
    if point > 1 then post m q .badField
    else if c.calFn = 0 || c.calWait.isSome then post m q .notReady
    else
      let m := putChan m ch { c with calWait := some (point, q, refMa, refV),
                                     setMa := if c.calFn = 7 then pointMa point else c.setMa }
      startOp m q))

/-- CAL_POINT_AVERAGED (R204): the average of the raw results is held with the point. -/
def execCalPointAveraged (t ch : Nat) (rawMa rawV : F32) (s : State) : Host.Outcome State Fault Refusal :=
  s.runOn t (fun m =>
    let c := chanOf m ch
    match c.calWait with
    | none => m
    | some (p, q, refMa, refV) =>
      post (setChan m ch { c with calWait := none, calPts := tset c.calPts p (refMa, refV, rawMa, rawV) }) q .ok)

/-- A gain and an offset through two points (R202, R204). -/
def fitGain (x0 x1 y0 y1 : F32) : F32 := div32 (sub32 y1 y0) (sub32 x1 x0)
def fitOffset (g x0 y0 : F32) : F32 := sub32 y0 (mul32 g x0)

/-- The setting an AO uses for a current (R202). -/
def settingFor (r : CalRec) (i : F32) : F32 := div32 (sub32 i r.aoOffset) r.aoGain

/-- The record a commit makes of two points (R204): coefficients of the other function are carried over, or
nominal where the previous record was invalid; REF_TEMP is the board's temperature, which is free (log 5). -/
def fitRecord (m : Mod) (n fn : Nat) (p0 p1 : F32 × F32 × F32 × F32) (tag time : W32) : CalRec :=
  let old : CalRec := if (calOf m n).valid n then calOf m n else { channel := n }
  let old := { old with channel := n, source := 2, format := 1, calTime := time, calTag := tag, refTemp := Config.fresh32 m.free }
  let (a0, v0, r0, w0) := p0
  let (a1, v1, r1, w1) := p1
  if fn = 6 then
    let g := fitGain r0 r1 a0 a1
    { old with aiGain := g, aiOffset := fitOffset g r0 a0 }.seal
  else
    let s0 := settingFor old 0x40800000
    let s1 := settingFor old 0x41A00000
    let g := fitGain s0 s1 a0 a1
    let h := fitGain r0 r1 a0 a1
    let k := fitGain w0 w1 v0 v1
    { old with aoGain := g, aoOffset := fitOffset g s0 a0, rbGain := h, rbOffset := fitOffset h r0 a0,
               vtGain := k, vtOffset := fitOffset k w0 v0 }.seal

/-- CAL_COMMIT (R204). -/
def execCalCommit (t : Nat) (q : Req) (ch : Nat) (tag calTime : W32) (s : State) : Host.Outcome State Fault Refusal :=
  s.runCmd t 0x0012 q (fun m => onCal m q ch (fun c =>
    if !m.fio.calEn then post m q .calDisabled
    else
      match tget c.calPts 0, tget c.calPts 1 with
      | some p0, some p1 =>
        let r := fitRecord m ch c.calFn p0 p1 tag calTime
        if r.inRange then
          let m := putChan m.tick ch { c with calFn := 0, calPts := [] }
          post { m with
            nv := { m.nv with cal := tset m.nv.cal ch r }
            fio := { m.fio with anEvents := setBit32 m.fio.anEvents 3 } } q .ok
        else post m q .calRange
      | _, _ => post m q .notReady))

/-- CAL_ABORT (R204): the points are discarded; a point being averaged completes with NOT_READY. -/
def execCalAbort (t : Nat) (q : Req) (ch : Nat) (s : State) : Host.Outcome State Fault Refusal :=
  s.runCmd t 0x0013 q (fun m => onCal m q ch (fun c =>
    let m := setChan m ch { c with calFn := 0, calPts := [], calWait := none }
    let m := match c.calWait with | some w => post m w.2.1 .notReady | none => m
    post m q .ok))

/-- CAL_READ (R320): the 64-byte record. -/
def execCalRead (t : Nat) (q : Req) (ch : Nat) (s : State) : Host.Outcome State Fault Refusal :=
  s.runCmd t 0x0014 q (fun m => onCal m q ch (fun _ => post m q .ok { data := calBytes (calOf m ch) }))

/-! ### CHANNEL_STATUS (R324) -/

/-- The channel status record (R324). -/
def channelStatusBytes (m : Mod) (n : Nat) : List Byte :=
  let c := chanOf m n
  let an := c.rcd.function = 6 || c.rcd.function = 7
  bytes32 c.status ++ bytes16 (if c.rcd.signal = 0 then 0 else (viewOf m c.rcd.signal).qual.toNat) ++
  leBytes 1 c.rcd.function ++ leBytes 1 0 ++
  bytes32 (if an then c.currentMa else 0) ++ bytes32 (if c.isAo then c.vt else 0) ++
  bytes16 (if c.isDi then c.count else 0) ++ bytes16 0 ++ bytes32 c.latchTime ++ bytes16 c.latchWrap.toNat ++ List.replicate 6 0

/-- CHANNEL_STATUS (R324): a C2 read, served on any seat (R287). -/
def execChannelStatus (t : Nat) (q : Req) (ch : Nat) (s : State) : Host.Outcome State Fault Refusal :=
  s.runOp t 0x002C q (fun m =>
    if ch ≥ 256 then post m q .badField else post m q .ok { data := channelStatusBytes m ch })

end Sys2Proof.Machine
end

