-- ==== Sys2Proof/Machine/Crypto.lean ====
section
/-! DEFINITION. The cryptographic functions the manual names: SHA-384, AES-256 with GCM tags and RFC 3394
unwrapping, ECDSA and ECDH over P-384 (R425, R445 to R462), as FIPS 180-4, FIPS 197, SP 800-38D, RFC 3394 and
FIPS 186 define them. Byte strings are lists; numbers in them are most significant byte first. -/

namespace Sys2Proof.Machine

/-- The number spelled by bytes, most significant first. -/
def beNat (bs : List Byte) : Nat := bs.foldl (fun a b => 256 * a + b.toNat) 0

/-- `n` bytes of a number, most significant first. -/
def beBytes (n v : Nat) : List Byte := (leBytes n v).reverse

/-- Two byte strings added without carry. -/
def xorBytes (a b : List Byte) : List Byte := List.zipWith (· ^^^ ·) a b

/-! ### SHA-384 -/

/-- The round constants. -/
def shaK : List (BitVec 64) :=
  [0x428A2F98D728AE22, 0x7137449123EF65CD, 0xB5C0FBCFEC4D3B2F, 0xE9B5DBA58189DBBC] ++
  [0x3956C25BF348B538, 0x59F111F1B605D019, 0x923F82A4AF194F9B, 0xAB1C5ED5DA6D8118] ++
  [0xD807AA98A3030242, 0x12835B0145706FBE, 0x243185BE4EE4B28C, 0x550C7DC3D5FFB4E2] ++
  [0x72BE5D74F27B896F, 0x80DEB1FE3B1696B1, 0x9BDC06A725C71235, 0xC19BF174CF692694] ++
  [0xE49B69C19EF14AD2, 0xEFBE4786384F25E3, 0x0FC19DC68B8CD5B5, 0x240CA1CC77AC9C65] ++
  [0x2DE92C6F592B0275, 0x4A7484AA6EA6E483, 0x5CB0A9DCBD41FBD4, 0x76F988DA831153B5] ++
  [0x983E5152EE66DFAB, 0xA831C66D2DB43210, 0xB00327C898FB213F, 0xBF597FC7BEEF0EE4] ++
  [0xC6E00BF33DA88FC2, 0xD5A79147930AA725, 0x06CA6351E003826F, 0x142929670A0E6E70] ++
  [0x27B70A8546D22FFC, 0x2E1B21385C26C926, 0x4D2C6DFC5AC42AED, 0x53380D139D95B3DF] ++
  [0x650A73548BAF63DE, 0x766A0ABB3C77B2A8, 0x81C2C92E47EDAEE6, 0x92722C851482353B] ++
  [0xA2BFE8A14CF10364, 0xA81A664BBC423001, 0xC24B8B70D0F89791, 0xC76C51A30654BE30] ++
  [0xD192E819D6EF5218, 0xD69906245565A910, 0xF40E35855771202A, 0x106AA07032BBD1B8] ++
  [0x19A4C116B8D2D0C8, 0x1E376C085141AB53, 0x2748774CDF8EEB99, 0x34B0BCB5E19B48A8] ++
  [0x391C0CB3C5C95A63, 0x4ED8AA4AE3418ACB, 0x5B9CCA4F7763E373, 0x682E6FF3D6B2B8A3] ++
  [0x748F82EE5DEFB2FC, 0x78A5636F43172F60, 0x84C87814A1F0AB72, 0x8CC702081A6439EC] ++
  [0x90BEFFFA23631E28, 0xA4506CEBDE82BDE9, 0xBEF9A3F7B2C67915, 0xC67178F2E372532B] ++
  [0xCA273ECEEA26619C, 0xD186B8C721C0C207, 0xEADA7DD6CDE0EB1E, 0xF57D4F7FEE6ED178] ++
  [0x06F067AA72176FBA, 0x0A637DC5A2C898A6, 0x113F9804BEF90DAE, 0x1B710B35131C471B] ++
  [0x28DB77F523047D84, 0x32CAAB7B40C72493, 0x3C9EBE0A15C9BEBC, 0x431D67C49C100D4C] ++
  [0x4CC5D4BECB3E42B6, 0x597F299CFC657E2A, 0x5FCB6FAB3AD6FAEC, 0x6C44198C4A475817]

/-- The initial hash value of SHA-384. -/
def sha384Init : List (BitVec 64) :=
  [0xCBBB9D5DC1059ED8, 0x629A292A367CD507, 0x9159015A3070DD17, 0x152FECD8F70E5939] ++
  [0x67332667FFC00B31, 0x8EB44A8768581511, 0xDB0C2E0D64F98FA7, 0x47B5481DBEFA4FA4]

/-- The message padded to whole blocks. -/
def shaPad (bs : List Byte) : List Byte :=
  let n := bs.length
  bs ++ (0x80 : Byte) :: List.replicate ((239 - n % 128) % 128) 0 ++ beBytes 16 (8 * n)

/-- The message schedule of a block, newest word first. -/
def shaSched (k : Nat) (w : List (BitVec 64)) : List (BitVec 64) :=
  match k with
  | 0 => w
  | j + 1 =>
    let g : Nat → BitVec 64 := fun i => (w[i]?).getD 0
    let s1 := (g 1).rotateRight 19 ^^^ (g 1).rotateRight 61 ^^^ (g 1) >>> 6
    let s0 := (g 14).rotateRight 1 ^^^ (g 14).rotateRight 8 ^^^ (g 14) >>> 7
    shaSched j ((s1 + g 6 + s0 + g 15) :: w)

/-- One round: the eight working words with a round constant and a schedule word. -/
def shaRound (h : List (BitVec 64)) (kw : BitVec 64 × BitVec 64) : List (BitVec 64) :=
  match h with
  | [a, b, c, d, e, f, g, x] =>
    let s1 := e.rotateRight 14 ^^^ e.rotateRight 18 ^^^ e.rotateRight 41
    let t1 := x + s1 + ((e &&& f) ^^^ (~~~e &&& g)) + kw.1 + kw.2
    let s0 := a.rotateRight 28 ^^^ a.rotateRight 34 ^^^ a.rotateRight 39
    let t2 := s0 + ((a &&& b) ^^^ (a &&& c) ^^^ (b &&& c))
    [t1 + t2, a, b, c, d + t1, e, f, g]
  | _ => h

/-- One block taken into the hash value. -/
def shaBlock (h : List (BitVec 64)) (blk : List Byte) : List (BitVec 64) :=
  let w0 := ((pieces blk 8 16).map (fun p => BitVec.ofNat 64 (beNat p))).reverse
  let w := (shaSched 64 w0).reverse
  List.zipWith (· + ·) h ((List.zip shaK w).foldl shaRound h)

/-- SHA-384. -/
def sha384 (bs : List Byte) : List Byte :=
  let p := shaPad bs
  (((pieces p 128 (p.length / 128)).foldl shaBlock sha384Init).take 6).flatMap (fun v => beBytes 8 v.toNat)

/-! ### AES-256 -/

/-- Multiplication by x in the field of AES. -/
def xtime (a : Byte) : Byte := if a.toNat ≥ 128 then a <<< 1 ^^^ 0x1B else a <<< 1

/-- The product in the field of AES. -/
def gmul (n : Nat) (a b : Byte) : Byte :=
  match n with
  | 0 => 0
  | k + 1 => (if b.toNat % 2 = 1 then a else 0) ^^^ gmul k (xtime a) (b >>> 1)

/-- The inverse in the field of AES, a to the 254th; 0 for 0. -/
def ginv (a : Byte) : Byte :=
  let m := gmul 8
  let a2 := m a a
  let a3 := m a2 a
  let a6 := m a3 a3
  let a12 := m a6 a6
  let a15 := m a12 a3
  let a30 := m a15 a15
  let a60 := m a30 a30
  let a120 := m a60 a60
  let a126 := m a120 a6
  let a127 := m a126 a
  m a127 a127

/-- The S-box, and its inverse. -/
def sbox (a : Byte) : Byte :=
  let b := ginv a
  b ^^^ b.rotateLeft 1 ^^^ b.rotateLeft 2 ^^^ b.rotateLeft 3 ^^^ b.rotateLeft 4 ^^^ 0x63
def sboxInv (a : Byte) : Byte :=
  ginv (a.rotateLeft 1 ^^^ a.rotateLeft 3 ^^^ a.rotateLeft 6 ^^^ 0x05)

/-- The key schedule: words as 4-byte lists, newest first. -/
def aesExpand (k i : Nat) (rcon : Byte) (w : List (List Byte)) : List (List Byte) :=
  match k with
  | 0 => w
  | j + 1 =>
    let prev := (w[0]?).getD []
    let old := (w[7]?).getD []
    let t := if i % 8 = 0 then
        (match (prev.drop 1 ++ prev.take 1).map sbox with | x :: r => (x ^^^ rcon) :: r | [] => [])
      else if i % 8 = 4 then prev.map sbox else prev
    aesExpand j (i + 1) (if i % 8 = 0 then xtime rcon else rcon) (xorBytes old t :: w)

/-- The fifteen round keys of a 256-bit key. -/
def aesKeys (key : List Byte) : List (List Byte) :=
  pieces (aesExpand 52 8 1 (pieces key 4 8).reverse).reverse.flatten 16 15

/-- A state's bytes in the order of a list of positions. -/
def permute (s : List Byte) (ps : List Nat) : List Byte := ps.map (fun i => (s[i]?).getD 0)

/-- ShiftRows and its inverse. -/
def shiftRows (s : List Byte) : List Byte := permute s [0, 5, 10, 15, 4, 9, 14, 3, 8, 13, 2, 7, 12, 1, 6, 11]
def shiftRowsInv (s : List Byte) : List Byte := permute s [0, 13, 10, 7, 4, 1, 14, 11, 8, 5, 2, 15, 12, 9, 6, 3]

/-- MixColumns by the circulant of four factors. -/
def mixCols (f : List Byte) (s : List Byte) : List Byte :=
  (pieces s 4 4).flatMap (fun c => (List.range 4).map (fun r =>
    (List.range 4).foldl (fun a j => a ^^^ gmul 8 (c.getD j 0) (f.getD ((j + 4 - r) % 4) 0)) 0))

/-- AES-256 encryption of a block. -/
def aesEncrypt (key blk : List Byte) : List Byte :=
  let ks := aesKeys key
  let s := (List.range 13).foldl (fun s i =>
    xorBytes (mixCols [2, 3, 1, 1] (shiftRows (s.map sbox))) ((ks[i + 1]?).getD [])) (xorBytes blk ((ks[0]?).getD []))
  xorBytes (shiftRows (s.map sbox)) ((ks[14]?).getD [])

/-- AES-256 decryption of a block. -/
def aesDecrypt (key blk : List Byte) : List Byte :=
  let ks := aesKeys key
  let s := (List.range 13).foldl (fun s i =>
    mixCols [14, 11, 13, 9] (xorBytes ((shiftRowsInv s).map sboxInv) ((ks[13 - i]?).getD []))) (xorBytes blk ((ks[14]?).getD []))
  xorBytes ((shiftRowsInv s).map sboxInv) ((ks[0]?).getD [])

/-! ### GCM tags with empty plaintext (R462) -/

/-- The product in the field of GCM, `n` bits of `x` from the most significant left. -/
def ghMul (n : Nat) (x v z : BitVec 128) : BitVec 128 :=
  match n with
  | 0 => z
  | k + 1 => ghMul k (x <<< 1) (if v.getLsbD 0 then v >>> 1 ^^^ 0xE1000000000000000000000000000000 else v >>> 1)
      (if x.getLsbD 127 then z ^^^ v else z)

/-- The GCM tag of additional authenticated data under a 96-bit IV. -/
def gcmTag (key iv aad : List Byte) : List Byte :=
  let h := BitVec.ofNat 128 (beNat (aesEncrypt key (List.replicate 16 0)))
  let blocks := pieces aad 16 ((aad.length + 15) / 16) ++ [beBytes 8 (8 * aad.length) ++ beBytes 8 0]
  let g := blocks.foldl (fun (y : BitVec 128) b => ghMul 128 (y ^^^ BitVec.ofNat 128 (beNat b)) h 0) 0
  xorBytes (beBytes 16 g.toNat) (aesEncrypt key (iv ++ [0, 0, 0, 1]))

/-- The tag truncated to its first 64 bits; no key gives a zero tag. -/
def gmac (key iv aad : List Byte) : List Byte :=
  if key.isEmpty then List.replicate 8 0 else (gcmTag key iv aad).take 8

/-- A tag verifies under the CURRENT or the NEXT key of a set (R462). -/
def tagOk (k : KeySet) (iv aad tag : List Byte) : Bool :=
  (!k.current.isEmpty && gmac k.current iv aad == tag) || (!k.next.isEmpty && gmac k.next iv aad == tag)

/-! ### RFC 3394 -/

/-- The steps of an unwrapping, from the last: register A and the registers R1 to R4. -/
def unwrapSteps (key : List Byte) (n : Nat) (a : List Byte) (rs : List (List Byte)) : List Byte × List (List Byte) :=
  match n with
  | 0 => (a, rs)
  | k + 1 =>
    let i := k % 4
    let b := aesDecrypt key (xorBytes a (beBytes 8 (k + 1)) ++ (rs[i]?).getD [])
    unwrapSteps key k (b.take 8) (lset rs i (b.drop 8))

/-- An AES-256 key unwrapped from its 40 bytes; none where the check value fails. -/
def unwrapKey (key wrapped : List Byte) : Option (List Byte) :=
  let (a, rs) := unwrapSteps key 24 (wrapped.take 8) (pieces (wrapped.drop 8) 8 4)
  if a == List.replicate 8 (0xA6 : Byte) then some rs.flatten else none

/-! ### P-384 -/

/-- The field, the order, the coefficient b and the base point of P-384. -/
def p384 : Nat := 2 ^ 384 - 2 ^ 128 - 2 ^ 96 + 2 ^ 32 - 1
def n384 : Nat := 0xFFFFFFFFFFFFFFFFFFFFFFFFFFFFFFFFFFFFFFFFFFFFFFFFC7634D81F4372DDF581A0DB248B0A77AECEC196ACCC52973
def b384 : Nat := 0xB3312FA7E23EE7E4988E056BE3F82D19181D9C6EFE8141120314088F5013875AC656398D8A2ED19D2A85C8EDD3EC2AEF
def gx384 : Nat := 0xAA87CA22BE8B05378EB1C71EF320AD746E1D3B628BA79B9859F741E082542A385502F25DBF55296C3A545E3872760AB7
def gy384 : Nat := 0x3617DE4A96262C6F5D9E98BF9292DC29F8F41DBD289A147CE9DA3113B5F0B8C00A60B1CE1D7E819D7A431D7C90EA0E5F

/-- A power modulo `m`, over `k` bits of the exponent. -/
def powMod (k b e m : Nat) : Nat :=
  match k with
  | 0 => 1 % m
  | j + 1 =>
    let h := powMod j (b * b % m) (e / 2) m
    if e % 2 = 1 then h * b % m else h

/-- The inverse modulo a prime. -/
def invMod (a m : Nat) : Nat := powMod 384 (a % m) (m - 2) m

/-- The sum of two points of the curve; none is the point at infinity. -/
def ecAdd (a b : Option (Nat × Nat)) : Option (Nat × Nat) :=
  match a, b with
  | none, _ => b
  | _, none => a
  | some (x1, y1), some (x2, y2) =>
    if x1 = x2 && (y1 + y2) % p384 = 0 then none
    else
      let l := if x1 = x2 then (3 * x1 * x1 + p384 - 3) % p384 * invMod (2 * y1) p384 % p384
               else (y2 + p384 - y1) % p384 * invMod (x2 + p384 - x1) p384 % p384
      let x := (l * l + 2 * p384 - x1 - x2) % p384
      some (x, (l * ((x1 + p384 - x) % p384) + p384 - y1) % p384)

/-- A multiple of a point, over `k` bits of the scalar. -/
def ecMul (k s : Nat) (a : Option (Nat × Nat)) : Option (Nat × Nat) :=
  match k with
  | 0 => none
  | j + 1 =>
    let h := ecMul j (s / 2) (ecAdd a a)
    if s % 2 = 1 then ecAdd h a else h

/-- A public key from its 97 uncompressed bytes: a point of the curve. -/
def pointOf (key : List Byte) : Option (Nat × Nat) :=
  let x := beNat (slice key 1 48)
  let y := beNat (slice key 49 48)
  if key.length ≥ 97 && u8 key 0 = 4 && x < p384 && y < p384 && (y * y) % p384 = (x * x * x + (p384 - 3) * x + b384) % p384 then
    some (x, y) else none

/-- An ECDSA P-384 signature, r then s, verifies over a SHA-384 digest (R425, R451). -/
def ecdsaOk (key digest sig : List Byte) : Bool :=
  match pointOf key with
  | none => false
  | some q =>
    let r := beNat (slice sig 0 48)
    let s := beNat (slice sig 48 48)
    if r = 0 || n384 ≤ r || s = 0 || n384 ≤ s then false
    else
      let w := invMod s n384
      let u := ecAdd (ecMul 384 (beNat digest * w % n384) (some (gx384, gy384))) (ecMul 384 (r * w % n384) (some q))
      match u with
      | some (x, _) => x % n384 = r
      | none => false

/-- The wrapping key of a GMAC_KEY entry (R452): the first 32 bytes of the SHA-384 of the shared secret's x. -/
def ecdhKey (priv : Nat) (pub : List Byte) : Option (List Byte) :=
  match (pointOf pub).bind (fun q => ecMul 384 priv (some q)) with
  | some (x, _) => some ((sha384 (beBytes 48 x)).take 32)
  | none => none

end Sys2Proof.Machine
end

