-- ==== Sys2Proof/Machine/Safety.lean ====
section
/-! DEFINITION. Safety functions (R207 to R221) and degraded mode (R227 to R229, R233). -/

namespace Sys2Proof.Machine

/-! ### What a function reads (R209, R211) -/

/-- Input `k` of a function. -/
def Func.inSig (f : Func) (k : Nat) : W32 := (f.ins[k]?).getD 0

/-- A signal of a function counts as TRUE (R211); a null handle counts as FALSE. -/
def counts (m : Mod) (h : W32) : Bool := h != 0 && safeTrue (viewOf m h)

/-- Input `k` counts as TRUE. -/
def inTrue (m : Mod) (f : Func) (k : Nat) : Bool := counts m (f.inSig k)

/-- A function replaced. -/
def setFunc (m : Mod) (n : Nat) (f : Func) : Mod := { m with saf := { m.saf with funcs := tset m.saf.funcs n f } }

/-- The signals a function reads (R213, R228). -/
def Func.reads (f : Func) : List W32 :=
  (f.ins ++ [f.resetSig, f.unlockReq, f.unlockPermit]).filter (· != 0)

/-- A hand of a TWO_HAND (R218): pressed, released; otherwise in transit. -/
def handPressed (m : Mod) (f : Func) (k : Nat) : Bool := inTrue m f k && !inTrue m f (k + 1)
def handReleased (m : Mod) (f : Func) (k : Nat) : Bool := !inTrue m f k && inTrue m f (k + 1)
def inTransit (m : Mod) (f : Func) (k : Nat) : Bool := !handPressed m f k && !handReleased m f k

/-- Both hands pressed, both released. -/
def bothPressed (m : Mod) (f : Func) : Bool := handPressed m f 0 && handPressed m f 2
def bothReleased (m : Mod) (f : Func) : Bool := handReleased m f 0 && handReleased m f 2

/-- The inputs are in demand (R216 to R219); a TWO_HAND is until both hands are released. -/
def demands (m : Mod) (f : Func) : Bool :=
  match f.kind with
  | 3 => !inTrue m f 0 || !inTrue m f 1 || !inTrue m f 2
  | 4 => !bothReleased m f
  | _ => !inTrue m f 0 || !inTrue m f 1

/-! ### What a degraded cause affects (R228) -/

/-- The owner of a signal is a connection that receives on one network only (R228). -/
def fromSingle (m : Mod) (h : W32) : Bool :=
  match sigAt m (hIdx h) with
  | some r => r.ownKind == 6 && m.saf.netLost.any (fun e => e.1 == r.ownId)
  | none => false

/-- The owner of a signal is a migrated C0 task (R228). -/
def fromMigrated (m : Mod) (h : W32) : Bool :=
  match sigAt m (hIdx h) with
  | some r => r.ownKind == 4 && (match taskAt m r.ownId with | some t => t.migratedC0 | none => false)
  | none => false

/-- A cause affects a function (R228). -/
def affects (m : Mod) (f : Func) (c : DegCause) : Bool :=
  match c with
  | .net => f.reads.any (fromSingle m)
  | .pair => f.reads.any (fromMigrated m)
  | .seat => true

/-- The causes that affect a function, or did since they began: until its cause ends a function stays DEGRADED (R228). -/
def degradedBy (m : Mod) (f : Func) : List DegCause :=
  [DegCause.net, DegCause.pair, DegCause.seat].filter (fun c => (degOf m c).active && (affects m f c || f.degSeen.contains c))

/-- A standing cause affects a function (R228). -/
def isDegraded (m : Mod) (f : Func) : Bool := !(degradedBy m f).isEmpty

/-! ### States, outputs and reports (R215, R217, R220) -/

/-- The number of a state, and of a fault cause (R215). -/
def FState.no : FState → Nat
  | .init => 0 | .tripped => 1 | .ready => 2 | .enabled => 3 | .stopping => 4 | .fault => 5
def FCause.no : FCause → Nat
  | .none => 0 | .discrepancy => 1 | .contact => 2 | .inputDiag => 3 | .outputDiag => 4 | .lockFault => 5 | .ossdTest => 6

/-- A function lets its outputs run (R220). -/
def Func.runs (f : Func) : Bool := f.st == .enabled || f.st == .stopping

/-- The STATE_SIG word (R215). -/
def safetyWord (m : Mod) (f : Func) : W32 :=
  BitVec.ofNat 32 (f.st.no + 256 * f.cause.no + 4096 * b2n (f.kind == 3 && inTrue m f 2)
    + 8192 * b2n (f.st == .ready && f.kind != 4 && !f.autoRestart)
    + 16384 * b2n (isDegraded m f) + 32768 * b2n (!f.degBy.isEmpty))

/-- STATE_SIG and the SAFETY event follow a change of the word (R215, R330). -/
def showState (m : Mod) (n : Nat) : Mod :=
  match tget m.saf.funcs n with
  | none => m
  | some f =>
    let w := safetyWord m f
    let m := if f.degSeen = degradedBy m f then m else setFunc m n { f with degSeen := degradedBy m f }
    if f.shown && f.word = w then m
    else
      let m := setFunc m n { f with word := w, shown := true, degSeen := degradedBy m f }
      let m := ownerWrite m f.stateSig (w.zeroExtend 64) 0xC000
      event m 8 0 (BitVec.ofNat 32 n) (w.zeroExtend 64) 0

/-- The evaluators command the output and lock channels a function names (R217, R220): an output while every
function that names it is ENABLED or STOPPING, a lock by whether it is released. -/
def driveOuts (m : Mod) (f : Func) : Mod :=
  let m := f.outCh.foldl (fun m c =>
    if c < 256 then
      let on := m.saf.funcs.all (fun e => !e.2.outCh.contains c || e.2.runs)
      command m c (boolVal on) 0xC000
    else m) m
  if f.lockCh < 256 then
    command m f.lockCh (boolVal (f.powerToUnlock == f.lockReleased)) 0xC000
  else m

/-- A function enters ENABLED: its outputs whose switch is closed may turn on (R220), and PRESTOP_SIG returns to
FALSE (R216). -/
def onEnabled (m : Mod) (f : Func) : Mod :=
  let m := f.outCh.foldl (fun m c =>
    if c < 256 && bitOf m.fio.closed.toNat (c / 32) then setChan m c { chanOf m c with needEnable := false } else m) m
  if f.stopCat1 then ownerWrite m f.prestopSig 0 0xC000 else m

/-- A function moves to a state (R212, R215): DEMAND on leaving ENABLED, an F1 and FAULT on entering FAULT, the
unit commanded to SAFE as a SAFE cause arises, outputs driven. -/
def enterState (m : Mod) (n : Nat) (f : Func) (st : FState) (cause : FCause := .none) : Mod :=
  let g := { f with st := st, cause := cause, stopSince := if st == .stopping then some m.clk else none }
  let m := setFunc m n g
  let m := { m with saf := { m.saf with
    events := orBit (orBit m.saf.events (f.st == .enabled && st != .enabled) 0) (st == .fault && f.st != .fault) 1 } }
  let m := if st == .enabled then onEnabled m g else m
  let m := if st == .stopping then ownerWrite m f.prestopSig 1 0xC000 else m
  let m := driveOuts m g
  let m := if g.safeCause && !f.safeCause then commandSafe m f.unit else m
  let m := showState m n
  if st == .fault && f.st != .fault then reportFault m (faultOf 0x0F 1 n 0x0600 6 0) else m

/-! ### Fault conditions (R212, R216 to R219) -/

/-- An instant plus a time has been reached. -/
def passed (since : Option Nat) (d clk : Nat) : Bool :=
  match since with
  | some x => x + d ≤ clk
  | none => false

/-- No more than a time has passed since an instant. -/
def within (since : Option Nat) (d clk : Nat) : Bool :=
  match since with
  | some x => clk ≤ x + d
  | none => false

/-- The input channel of a signal holds a latched diagnostic. -/
def inLatched (m : Mod) (h : W32) : Bool :=
  match chanBySig m h with
  | some c => (chanOf m c).latched
  | none => false

/-- The input channels, and the output and lock channels, hold a latched diagnostic (R212). -/
def insLatched (m : Mod) (f : Func) : Bool := f.ins.any (inLatched m)
def outsLatched (m : Mod) (f : Func) : Bool :=
  (f.lockCh :: f.outCh).any (fun c => c < 256 && (chanOf m c).latched)

/-- An OSSD shows no test pulse in OSSD_TEST_MS while its filtered value is TRUE (R219). -/
def ossdLate (m : Mod) (f : Func) (h : W32) : Bool :=
  match chanBySig m h with
  | some c => (chanOf m c).q && (chanOf m c).seenAt + ms f.ossdTestMs ≤ m.clk
  | none => false

/-- The two channels of a pair differ (R216). -/
def differ (m : Mod) (f : Func) : Bool := f.kind != 4 && inTrue m f 0 != inTrue m f 1

/-- The fault condition that stands, in the order of the causes' codes (R212, R215 to R219). -/
def faultCond (m : Mod) (f : Func) : FCause :=
  if differ m f && passed f.discSince (ms f.discMs) m.clk then .discrepancy
  else if f.kind = 4 && ((inTransit m f 0 && passed f.leftSince (ms f.discMs) m.clk) ||
      (inTransit m f 2 && passed f.rightSince (ms f.discMs) m.clk)) then .contact
  else if f.kind = 5 && (ossdLate m f (f.inSig 0) || ossdLate m f (f.inSig 1)) then .ossdTest
  else if insLatched m f then .inputDiag
  else if outsLatched m f then .outputDiag
  else if f.kind = 3 && (!inTrue m f 0 || !inTrue m f 1) && inTrue m f 2 && !f.lockReleased then .lockFault
  else .none

/-- The timers of a function follow its inputs (R214, R216 to R218). -/
def trackTimers (m : Mod) (f : Func) : Func :=
  let run : Bool → Option Nat → Option Nat := fun on x => if on then x.or (some m.clk) else none
  let low := f.outCh.all (fun c => c ≥ 256 || !(chanOf m c).rbHigh)
  { f with
    discSince := run (differ m f) f.discSince
    leftSince := run (f.kind = 4 && inTransit m f 0) f.leftSince
    rightSince := run (f.kind = 4 && inTransit m f 2) f.rightSince
    syncSince := run (f.kind = 4 && !bothReleased m f) f.syncSince
    outsLowSince := run (f.kind = 3 && low) f.outsLowSince
    resetSince := run (counts m f.resetSig) f.resetSince }

/-- A valid reset ends at this evaluation (R214): RESET_SIG falls after 100 ms to 5 s. -/
def validReset (m : Mod) (f : Func) : Bool :=
  match f.resetSince with
  | some x => !counts m f.resetSig && x + ms 100 ≤ m.clk && m.clk ≤ x + ms 5000
  | none => false

/-- The lock of a GUARD_LOCK is released or applied again (R217). -/
def lockStep (m : Mod) (f : Func) : Func :=
  if f.kind != 3 then f
  else if f.lockReleased then
    (if !counts m f.unlockReq && inTrue m f 0 && inTrue m f 1 then { f with lockReleased := false } else f)
  else if counts m f.unlockReq && counts m f.unlockPermit && !f.runs && passed f.outsLowSince (ms 10) m.clk then
    { f with lockReleased := true }
  else f

/-- The transition of an evaluation after faults, in the order demand, then reset (R212, R213, R218). -/
def nextState (m : Mod) (f : Func) (reset : Bool) : FState :=
  match f.st with
  | .init => .tripped
  | .tripped => if !demands m f && f.degBy.isEmpty then .ready else .tripped
  | .ready =>
    if f.kind = 4 then
      (if bothPressed m f && within f.syncSince (ms f.syncMs) m.clk then .enabled
       else if passed f.syncSince (ms f.syncMs) m.clk then .tripped else .ready)
    else if demands m f then .tripped
    else if f.autoRestart || reset then .enabled else .ready
  | .enabled =>
    if f.kind = 4 then (if bothPressed m f then .enabled else .tripped)
    else if demands m f then (if f.stopCat1 then .stopping else .tripped) else .enabled
  | .stopping => if passed f.stopSince (ms f.stopDelayMs) m.clk then .tripped else .stopping
  | .fault => .fault

/-- An OSSD that shows no test pulse latches TEST_FAIL on its channel (R219). -/
def latchOssd (m : Mod) (f : Func) (k : Nat) : Mod :=
  if ossdLate m f (f.inSig k) then
    (match chanBySig m (f.inSig k) with | some c => publish (latchDiag m c 4) c | none => m) else m

/-- One evaluation of a function (R213). -/
def evaluate (m : Mod) (n : Nat) : Mod :=
  match tget m.saf.funcs n with
  | none => m
  | some f0 =>
    let reset := validReset m f0
    let f := lockStep m (trackTimers m f0)
    let cond := if f.st == .fault || f.st == .init then .none else faultCond m f
    let m := setFunc m n f
    if cond != .none then
      let m := if cond == .ossdTest then latchOssd (latchOssd m f 0) f 1 else m
      enterState m n f .fault cond
    else
      let st := nextState m f reset
      if st != f.st then enterState m n f st
      else
        let m := if f.lockReleased != f0.lockReleased then driveOuts m f else m
        showState m n

/-- The safety evaluators run: the module is past step 4 of its start and not in FAIL (R14, R295). -/
def evaluatorsRun (m : Mod) : Bool := m.pwr.st != .fail && !m.flt.f3

/-- SAFETY_EVALUATION (R213): after a write to a record the function reads. -/
def execSafetyEvaluation (t f : Nat) (s : State) : Host.Outcome State Fault Refusal :=
  s.runOn t (fun m => if evaluatorsRun m then evaluate m f else m)

/-- SAFETY_TICK (R213): every function at every 100 µs tick of the timebase. -/
def execSafetyTick (t : Nat) (s : State) : Host.Outcome State Fault Refusal :=
  s.runOn t (fun m =>
    if evaluatorsRun m && (m.clk - m.tim.zero) % us 100 = 0 then (m.saf.funcs.map Prod.fst).foldl evaluate m else m)

/-- A timer of a function has expired: the evaluation of that instant (R213). -/
def evaluateIf (m : Mod) (n : Nat) (due : Func → Bool) : Mod :=
  match tget m.saf.funcs n with
  | some f => if evaluatorsRun m && due f then evaluate m n else m
  | none => m

/-- DISCREPANCY (R216). -/
def execDiscrepancyExpiry (t f : Nat) (s : State) : Host.Outcome State Fault Refusal :=
  s.runOn t (fun m => evaluateIf m f (fun g => differ m g && passed g.discSince (ms g.discMs) m.clk))

/-- STOP_DELAY_EXPIRY (R212, R216). -/
def execStopDelayExpiry (t f : Nat) (s : State) : Host.Outcome State Fault Refusal :=
  s.runOn t (fun m => evaluateIf m f (fun g => g.st == .stopping && passed g.stopSince (ms g.stopDelayMs) m.clk))

/-- SYNC_EXPIRY (R218). -/
def execSyncExpiry (t f : Nat) (s : State) : Host.Outcome State Fault Refusal :=
  s.runOn t (fun m => evaluateIf m f (fun g => g.kind == 4 && g.st == .ready && passed g.syncSince (ms g.syncMs) m.clk))

/-- CONTACT (R218). -/
def execHandContact (t f : Nat) (s : State) : Host.Outcome State Fault Refusal :=
  s.runOn t (fun m => evaluateIf m f (fun g => faultCond m g == .contact))

/-- OSSD_TEST_EXPIRY (R219). -/
def execOssdTestExpiry (t f : Nat) (second : Bool) (s : State) : Host.Outcome State Fault Refusal :=
  s.runOn t (fun m => evaluateIf m f (fun g => g.kind == 5 && ossdLate m g (g.inSig (b2n second))))

/-- LOCK_RELEASE_READY (R217). -/
def execLockReleaseReady (t f : Nat) (s : State) : Host.Outcome State Fault Refusal :=
  s.runOn t (fun m => evaluateIf m f (fun g => (lockStep m g).lockReleased && !g.lockReleased))

/-- A function leaves FAULT for TRIPPED where no fault condition stands (R212). -/
def clearFault (m : Mod) (n : Nat) : Mod :=
  match tget m.saf.funcs n with
  | some f =>
    let f := trackTimers m f
    if f.st == .fault && faultCond m f == .none then enterState m n f .tripped else m
  | none => m

/-- The ones of a write to SAF_FAULT (R212). -/
def clearFaults (m : Mod) (mm mask : Nat) : Mod :=
  ((span (32 * mm) 32).filter (fun n => bitOf mask (n % 32))).foldl clearFault m

/-- SAF_FAULT_CLEAR (R212, R231). -/
def execSafFaultClear (t mm : Nat) (mask : W32) (s : State) : Host.Outcome State Fault Refusal :=
  s.runW1c t (0xA040 + 4 * mm) (fun m => if mm < 8 then clearFaults m mm mask.toNat else m)

end Sys2Proof.Machine
end

