-- ==== Sys2Proof/Machine/Switch.lean ====
section
/-! DEFINITION. The Ethernet switch (R337 to R342, R346, R347): ingress, egress and the addresses of Feluno
traffic. -/

namespace Sys2Proof.Machine

/-! ### Addresses (R342) -/

/-- The identity that speaks for the seat: TRIAD_ID in a formed triad, else the module identity (R222, R355). -/
def speakId (m : Mod) : W32 := if m.tri.mode = 0 then m.nv.moduleId else m.tri.id

/-- A group address: its first four bytes, then ID16 of an identity, most significant byte first (R342). -/
def groupMac (head : Nat) (id : W32) : BitVec 48 := BitVec.ofNat 48 (head * 65536 + id.toNat % 65536)

/-- The group addresses of telegrams, of heartbeats, of beacons and of station inputs (R342). -/
def telegramMac (id : W32) : BitVec 48 := groupMac 0x03464C01 id
def heartbeatMac (id : W32) : BitVec 48 := groupMac 0x03464C02 id
def beaconMac : BitVec 48 := 0x03464C030000
def stationMac (id : W32) : BitVec 48 := groupMac 0x03464C04 id

/-- A group address. -/
def isGroup (a : BitVec 48) : Bool := bitOf a.toNat 40

/-- The internal port accepts a group address: of its own identity, of a RECEIVE connection's PEER_ID, of its
triad, or of the beacons (R342). -/
def groupAccepted (m : Mod) (a : BitVec 48) : Bool :=
  a == beaconMac || a == stationMac (speakId m) || a == stationMac m.nv.moduleId ||
  (m.tri.seat != 0 && a == heartbeatMac m.tri.id) ||
  m.saf.conns.any (fun e => !e.2.send && a == telegramMac e.2.peerId)

/-! ### Queues -/

/-- Port `p`, and the same replaced. -/
def portOf (m : Mod) (p : Nat) : EPort := (tget m.net.ports p).getD {}
def setPort (m : Mod) (p : Nat) (e : EPort) : Mod := { m with net := { m.net with ports := tset m.net.ports p e } }

/-- A frame waits at a port: its ingress port, 0 for the module itself, and its ingress instant. -/
def enqueueAt (m : Mod) (src p : Nat) (f : EthFrame) : Mod :=
  let e := portOf m p
  if e.up then setPort m p { e with queue := e.queue ++ [(src, m.clk, f)] } else m

/-- The priority of a frame in the switch, and the class of a priority (R338): 7 C0, 6 C1, 3 to 5 C2, 0 to 2 C3. -/
def pcpOf (f : EthFrame) : Nat := match f.tag with | some (p, _) => p | none => 0
def pcpClass (p : Nat) : Nat := if p = 7 then 0 else if p = 6 then 1 else if p ≥ 3 then 2 else 3

/-- The port an address was learned at within the last 300 s (R337). -/
def fdbFind (m : Mod) (a : BitVec 48) : Option Nat :=
  (m.net.fdb.find? (fun e => e.1 == a && m.clk < e.2.2 + sec 300)).map (fun e => e.2.1)

/-- The source address of a frame is learned; the table holds 4,096 entries (R337). -/
def learn (m : Mod) (p : Nat) (a : BitVec 48) : Mod :=
  if isGroup a then m
  else
    let rest := m.net.fdb.filter (fun e => e.1 != a && m.clk < e.2.2 + sec 300)
    if rest.length < 4096 then { m with net := { m.net with fdb := rest ++ [(a, p, m.clk)] } } else m

/-- A frame is delivered to the module itself. -/
def deliver (m : Mod) (f : EthFrame) : Mod := { m with net := { m.net with local_ := f :: m.net.local_ } }

/-- A frame is forwarded from a port, 0 for the module: to its address's port, to the module, or to every other
port (R337, R342). -/
def forward (m : Mod) (src : Nat) (f : EthFrame) : Mod :=
  let flood : Mod → Mod := fun m => (span 1 8).foldl (fun m p => if p = src then m else enqueueAt m src p f) m
  if isGroup f.dst then
    let m := if src != 0 && groupAccepted m f.dst then deliver m f else m
    flood m
  else if f.dst = m.nv.mac then (if src = 0 then m else deliver m f)
  else
    match fdbFind m f.dst with
    | some p => if p = src then m else enqueueAt m src p f
    | none => flood m

/-- The EtherTypes of Feluno traffic at PCP 6 and 7 (R339, R341). -/
def isFeluno (ty : Nat) : Bool := ty == 0x88B4 || ty == 0x88B5 || ty == 0x88B6

/-- The tag a frame has inside the switch (R339): an untagged one takes the port VID and PCP 0, a foreign PCP 7 or 6
becomes PCP 5. -/
def retag (m : Mod) (f : EthFrame) : EthFrame × Bool :=
  let (p, v) := f.tag.getD (0, m.net.defVid)
  let remap := (p == 7 && f.etherType != 0x88B5) || (p == 6 && f.etherType != 0x88B4 && f.etherType != 0x88B6)
  ({ f with tag := some (if remap then 5 else p, v) }, remap)

/-- FRAME_INGRESS (R337, R339, R341). -/
def execFrameIngress (t port : Nat) (f : EthFrame) (s : State) : Host.Outcome State Fault Refusal :=
  s.runOn t (fun m =>
    if port < 1 || port > 8 || !(portOf m port).up || f.len < 64 || f.len > 1522 then m
    else
      let (g, remap) := retag m f
      let m := { m with net := { m.net with events := orBit m.net.events remap 3 } }
      if isFeluno g.etherType && (g.tag.getD (0, 0)).2 != m.net.ctrlVid then m
      else forward (learn m port g.src) port g)

/-! ### Egress (R22, R23, R338, R347) -/

/-- The best of waiting frames by a rank, the oldest among equals. -/
def bestBy (rank : EthFrame → Nat) (q : List (Nat × Time × EthFrame)) : Option (Nat × Time × EthFrame) :=
  q.foldl (fun a x => match a with
    | none => some x
    | some b => if rank b.2.2 < rank x.2.2 then some x else some b) none

/-- The C3 frame of a port that is next: its PCP queues 0 to 2 are served round-robin (R22). -/
def nextC3 (e : EPort) : Option (Nat × Time × EthFrame) :=
  [1, 2, 3].findSome? (fun k => e.queue.find? (fun x => pcpOf x.2.2 == (e.rr3 + k) % 3))

/-- The frame a port grants next (R22, R23, R338): C0, C1, then C2 with the higher PCP first, with C3 at least every
eighth grant while both wait. -/
def nextFrame (e : EPort) : Option (Nat × Time × EthFrame) :=
  let cls : Nat → List (Nat × Time × EthFrame) := fun k => e.queue.filter (fun x => pcpClass (pcpOf x.2.2) == k)
  if !(cls 0).isEmpty then (cls 0).head?
  else if !(cls 1).isEmpty then (cls 1).head?
  else if !(cls 3).isEmpty && (e.since3 ≥ 7 || (cls 2).isEmpty) then nextC3 e
  else bestBy pcpOf (cls 2)

/-- The residence time of a frame, measured to within ±16 ns (R347, log 63). -/
def residence (m : Mod) (since : Nat) : Int :=
  ((m.clk - since : Nat) : Int) + ((Config.fresh32 m.free).toNat % 33 : Nat) - 16

/-- What peer-to-peer mode adds of the ingress port's link (R347). -/
def peerDelay (m : Mod) (src : Nat) : Int := if m.tim.p2p then Config.linkDelay m.free src else 0

/-- The correction of a PTP message as it leaves a port (R347). -/
def correct_ (m : Mod) (e : EPort) (src since : Nat) (f : EthFrame) : EPort × EthFrame :=
  match f.ptp with
  | none => (e, f)
  | some (msg, seq, corr) =>
    let res := residence m since + peerDelay m src
    if !m.tim.tcEn || src = 0 then (e, f)
    else
      match msg with
      | .sync false | .delayReq | .pdelayReq | .pdelayResp => (e, { f with ptp := some (msg, seq, corr + res) })
      | .sync true => ({ e with syncs := (seq, since, res) :: e.syncs.filter (fun x => x.1 != seq) }, f)
      | .followUp =>
        match e.syncs.find? (fun x => x.1 == seq) with
        | some (_, at_, r) =>
          ({ e with syncs := e.syncs.filter (fun x => x.1 != seq) },
           if since ≤ at_ + ms 10 then { f with ptp := some (msg, seq, corr + r) } else f)
        | none => (e, f)
      | .delayResp | .announce => (e, f)

/-- FRAME_EGRESS (R338, R340, R347): the granted frame is transmitted. -/
def execFrameEgress (t port : Nat) (s : State) : Host.Outcome State Fault Refusal :=
  s.runOn t (fun m =>
    let e := portOf m port
    match (if port < 1 || port > 8 then none else nextFrame e) with
    | none => m
    | some (src, since, f) =>
      let k := pcpClass (pcpOf f)
      let waits3 := e.queue.any (fun x => pcpClass (pcpOf x.2.2) == 3)
      let e1 := { e with queue := e.queue.erase (src, since, f)
                         rr3 := if k = 3 then pcpOf f else e.rr3
                         since3 := if k = 3 then 0 else if k = 2 && waits3 then e.since3 + 1 else e.since3 }
      let (e2, g) := correct_ m e1 src since f
      setPort m.tick port { e2 with lastTx := some g })

/-- PORT_LINK_CHANGE (R227, R341). -/
def execPortLinkChange (t port : Nat) (up giga : Bool) (s : State) : Host.Outcome State Fault Refusal :=
  s.runOn t (fun m =>
    if port < 1 || port > 8 then m
    else degUpdate (setPort m port { portOf m port with up := up, giga := up && giga }) .net)

end Sys2Proof.Machine
end

