-- ==== Sys2Proof/Machine/Telegram.lean ====
section
/-! DEFINITION. Feluno safe telegrams (R222 to R226, R462) and the ends of degraded mode (R227 to R229, R233). -/

namespace Sys2Proof.Machine

/-- A connection replaced. -/
def setConn (m : Mod) (n : Nat) (c : Conn) : Mod := { m with saf := { m.saf with conns := tset m.saf.conns n c } }

/-! ### Sending (R223, R224) -/

/-- A number whose bit `i` is `f i`, for `i` below `n`. -/
def packBits (n : Nat) (f : Nat → Bool) : Nat := ((List.range n).map (fun i => if f i then 2 ^ i else 0)).sum

/-- The handle a connection maps at a slot. -/
def slotSig (c : Conn) (slot : Nat) : Option W32 := (c.map.find? (fun e => e.2 == slot)).map Prod.fst

/-- The BITS of a telegram (R223, R224): a slot whose quality is not GOOD is sent as FALSE. -/
def sendBits (m : Mod) (c : Conn) : Nat :=
  packBits 64 (fun i => match slotSig c i with | some h => safeTrue (viewOf m h) | none => false)

/-- The VALUES and the VQUAL of a telegram (R223). -/
def sendValues (m : Mod) (c : Conn) : List Byte :=
  (List.range 6).flatMap (fun i => match slotSig c (64 + i) with | some h => bytes32 (valReal (viewOf m h).val) | none => bytes32 0)
def sendQual (m : Mod) (c : Conn) : Nat :=
  packBits 6 (fun i => match slotSig c (64 + i) with | some h => isGood (viewOf m h).qual | none => false)

/-- A degraded cause stands (R228 SENDER_DEGRADED). -/
def anyDegraded (m : Mod) : Bool := m.saf.degNet.active || m.saf.degPair.active || m.saf.degSeat.active

/-- Bytes 16 to 48 of a telegram: what it carries of the mapped signals. -/
def payloadOf (m : Mod) (c : Conn) : List Byte := leBytes 8 (sendBits m c) ++ sendValues m c ++ leBytes 1 (sendQual m c)

/-- Bytes 16 to 51 of a telegram as this seat computes them. -/
def localPayload (m : Mod) (c : Conn) : List Byte := payloadOf m c ++ [0, 0, 0]

/-- The output numbers by which a triad compares the five words of a telegram's payload (R274). -/
def telegramOut (n i : Nat) : Nat := 0x10000 + 8 * n + i

/-- Bytes 16 to 51 of a telegram: in a formed triad what the seats have released (R274), if they have. -/
def sendPayload (m : Mod) (n : Nat) (c : Conn) : Option (List Byte) :=
  if m.tri.mode = 0 then some (localPayload m c)
  else
    let ws := (List.range 5).map (fun i => tget m.tri.rel (telegramOut n i))
    if ws.all Option.isSome then some ((ws.flatMap (fun w => bytes64 (w.getD (0, 0)).1)).take 36) else none

/-- The protocol data unit of a telegram for a network (R223, R462). -/
def buildPdu (m : Mod) (n : Nat) (c : Conn) (payload : List Byte) (seq net : Nat) : List Byte :=
  let head := bytes16 1 ++ bytes16 n ++ bytes32 (speakId m) ++ bytes16 seq ++ leBytes 1 net ++
    leBytes 1 (b2n (anyDegraded m) + 2 * b2n c.gmac) ++ bytes32 (time32 m)
  let body := head ++ payload
  let iv := slice body 4 4 ++ slice body 2 2 ++ slice body 8 2 ++ slice body 12 4
  let tag := if c.gmac then gmac m.nv.gmacTel.current iv body else List.replicate 8 0
  let all := body ++ tag
  all ++ bytes32 (crc32c (bytes32 c.seed ++ all))

/-- The frame of a telegram (R223, R342): 86 bytes at priority 7 on the VID of Feluno traffic. -/
def telegramFrame (m : Mod) : EthFrame :=
  { dst := telegramMac (speakId m), src := m.nv.mac, etherType := 0x88B5, tag := some (7, m.net.ctrlVid), len := 86, ptp := none }

/-- Both copies of a telegram are queued (R224); a seat that is not the LEAD computes the SEQ and sends nothing
(R288). -/
def sendTelegram (m : Mod) (n : Nat) (c : Conn) (payload : List Byte) : Mod :=
  let pdu := buildPdu m n c payload c.seq 0
  let m1 := setConn m n { c with seq := (c.seq + 1) % 65536, lastSend := some m.clk, sentBytes := pdu }
  if speaks m then
    let m1 := if aPort m = 0 then m1 else enqueueAt m1 0 (aPort m) (telegramFrame m)
    if bPort m = 0 then m1 else enqueueAt m1 0 (bPort m) (telegramFrame m)
  else m1

/-- A SEND connection has a telegram to send now (R224): a period from the release epoch, or a change at least
100 µs after the previous telegram. -/
def sendDue (m : Mod) (c : Conn) (payload : List Byte) : Bool :=
  onInstant m c.periodUs 0 ||
  (match c.lastSend with
   | none => true
   | some x => x + us 100 ≤ m.clk && slice c.sentBytes 16 36 != payload)

/-- TELEGRAM_SEND (R224): nothing while SAF_NET names no port, nor after the NET cause expired (R228). -/
def execTelegramSend (t conn : Nat) (s : State) : Host.Outcome State Fault Refusal :=
  s.runOn t (fun m =>
    match tget m.saf.conns conn with
    | some c =>
      match sendPayload m conn c with
      | some p =>
        if c.send && (aPort m != 0 || bPort m != 0) && !m.saf.degNet.expired && sendDue m c p then sendTelegram m conn c p else m
      | none => m
    | none => m)

/-! ### Receiving (R225, R226) -/

/-- The mapped signals of a connection that enters FAILED (R226): a BOOL takes its SAFE_BITS value, every one BAD,
STALE. -/
def failSignals (m : Mod) (c : Conn) : Mod :=
  c.map.foldl (fun m e =>
    let m := if e.2 < 64 then ownerWrite m e.1 (boolVal (bitOf c.safeBits.toNat e.2)) 0x0001 else m
    if e.2 < 64 && m.tri.mode != 0 then m else staleSig m e.1) m

/-- A connection becomes FAILED (R226). -/
def failConn (m : Mod) (n : Nat) : Mod :=
  match tget m.saf.conns n with
  | none => m
  | some c =>
    let m := setConn m n { c with st := .failed, good := 0 }
    let m := { m with saf := { m.saf with events := setBit32 m.saf.events 5 } }
    failSignals m c

/-- The mapped signals take an accepted telegram (R225). -/
def takeTelegram (m : Mod) (c : Conn) (pdu : List Byte) : Mod :=
  c.map.foldl (fun m e =>
    if e.2 < 64 then ownerWrite m e.1 (boolVal (bitOf (leNat (slice pdu 16 8)) e.2)) 0xC000
    else ownerWrite m e.1 (realVal (w32 pdu (24 + 4 * (e.2 - 64)))) (if bitOf (u8 pdu 48) (e.2 - 64) then 0xC000 else 0)) m

/-- A copy is valid (R225). -/
def copyValid (m : Mod) (c : Conn) (pdu : List Byte) : Bool :=
  pdu.length == 64 && w32 pdu 60 == crc32c (bytes32 c.seed ++ pdu.take 60) && u16 pdu 0 == 1 && u16 pdu 2 == c.peerConn &&
  w32 pdu 4 == c.peerId &&
  (!(c.gmac || m.saf.gmacReq) ||
    tagOk m.nv.gmacTel (slice pdu 4 4 ++ slice pdu 2 2 ++ slice pdu 8 2 ++ slice pdu 12 4) (slice pdu 0 52) (slice pdu 52 8))

/-- A copy of a network is seen (R227): the connection no longer lacks that network. -/
def seeNet (m : Mod) (n : Nat) (c : Conn) (net : Bool) : Mod :=
  let c := if net then { c with seenB := some m.clk } else { c with seenA := some m.clk }
  let m := setConn m n { c with single := m.saf.netLost.any (fun e => e.1 == n && e.2 != net) }
  degUpdate { m with saf := { m.saf with netLost := m.saf.netLost.filter (fun e => e != (n, net)) } } .net

/-- A copy is discarded and counted (R225). -/
def discardCopy (m : Mod) : Mod := { m with saf := { m.saf with discards := satInc m.saf.discards } }

/-- A valid copy on a STARTING connection (R226): three telegrams with consecutive SEQ make it ACTIVE. -/
def startCopy (m : Mod) (n : Nat) (c : Conn) (net : Bool) (pdu : List Byte) : Mod :=
  let seq := u16 pdu 8
  if c.good != 0 && seq = c.lastSeq then seeNet m n c net
  else
    let g := if c.good != 0 && seq = (c.lastSeq + 1) % 65536 then c.good + 1 else 1
    let c := { c with good := g, lastSeq := seq, lastNet := net, lastCopy := pdu, lastAccept := m.clk }
    seeNet m n (if g ≥ 3 then { c with st := .active } else c) net

/-- A valid copy on an ACTIVE connection (R225). -/
def activeCopy (m : Mod) (n : Nat) (c : Conn) (net : Bool) (pdu : List Byte) : Mod :=
  let d := (u16 pdu 8 + 65536 - c.lastSeq) % 65536
  if 1 ≤ d && d ≤ 32 then
    let c := { c with lastSeq := u16 pdu 8, lastNet := net, lastCopy := pdu, lastAccept := m.clk }
    takeTelegram (seeNet m n c net) c pdu
  else if d = 0 && net != c.lastNet then
    if slice pdu 11 41 == slice c.lastCopy 11 41 then seeNet m n c net
    else
      let m := failConn { m with saf := { m.saf with events := setBit32 m.saf.events 4 } } n
      reportFault m (faultOf 0x10 2 n 0x0600 4 0)
  else discardCopy m

/-- TELEGRAM_RECEIVE (R225, R226): `net` true for network B. -/
def execTelegramReceive (t conn : Nat) (net : Bool) (pdu : List Byte) (s : State) : Host.Outcome State Fault Refusal :=
  s.runOn t (fun m =>
    match tget m.saf.conns conn with
    | none => m
    | some c =>
      if c.send || !evaluatorsRun m then m
      else if !copyValid m c pdu then discardCopy m
      else
        match c.st with
        | .starting => startCopy m conn c net pdu
        | .active => activeCopy m conn c net pdu
        | .failed => setConn m conn { c with st := .starting, good := 0, lastAccept := m.clk })

/-- CONNECTION_WATCHDOG_EXPIRY (R226). -/
def execConnectionWatchdogExpiry (t conn : Nat) (s : State) : Host.Outcome State Fault Refusal :=
  s.runOn t (fun m =>
    match tget m.saf.conns conn with
    | some c => if !c.send && c.st != .failed && c.lastAccept + us c.watchdogUs ≤ m.clk then failConn m conn else m
    | none => m)

/-! ### Degraded mode's timers (R227 to R229) -/

/-- NETLOSS_EXPIRY (R227): copies have come from the other network alone for NETLOSS_MS. -/
def execNetlossExpiry (t conn : Nat) (net : Bool) (s : State) : Host.Outcome State Fault Refusal :=
  s.runOn t (fun m =>
    match tget m.saf.conns conn with
    | some c =>
      let lacking := if net then c.seenB else c.seenA
      let other := if net then c.seenA else c.seenB
      let gone := match lacking with | some x => x + ms c.netlossMs ≤ m.clk | none => true
      let lives := match other with | some x => m.clk < x + ms c.netlossMs | none => false
      if !c.send && c.st == .active && gone && lives && !m.saf.netLost.contains (conn, net) then
        let m := setConn m conn { c with single := true }
        degUpdate { m with saf := { m.saf with netLost := m.saf.netLost ++ [(conn, net)] } } .net
      else m
    | none => m)

/-- The functions a cause affects enter TRIPPED with DEGRADED_EXPIRED (R228, R233); one in FAULT stays there. -/
def expireFuncs (m : Mod) (c : DegCause) : Mod :=
  m.saf.funcs.foldl (fun m e =>
    match tget m.saf.funcs e.1 with
    | some f =>
      if affects m f c then
        let g := { f with degBy := if f.degBy.contains c then f.degBy else f.degBy ++ [c] }
        let m := setFunc m e.1 g
        if f.st == .fault || f.st == .tripped then showState m e.1 else enterState m e.1 g .tripped
      else m
    | none => m) m

/-- What else an expiry does (R228): single-network connections become FAILED, migrated C0 tasks are halted. -/
def expireOthers (m : Mod) (c : DegCause) : Mod :=
  match c with
  | .net => m.saf.netLost.foldl (fun m e => failConn m e.1) m
  | .pair => (m.pge.tasks.filter (fun e => e.2.migratedC0)).foldl (fun m e => haltTask m e.1) m
  | .seat => m

/-- DEGRADED_EXPIRY (R228). -/
def execDegradedExpiry (t : Nat) (cause : DegCause) (s : State) : Host.Outcome State Fault Refusal :=
  s.runOn t (fun m =>
    let d := degOf m cause
    if d.active && !d.expired && d.remain m.clk = 0 then
      let m := setDeg m cause { d with expired := true }
      let m := { m with saf := { m.saf with events := setBit32 m.saf.events 3 } }
      expireOthers (expireFuncs m cause) cause
    else m)

/-- DEGRADED_CAUSE_END (R227): nothing has stood for the cause for 10 s; its timer is reset. -/
def execDegradedCauseEnd (t : Nat) (cause : DegCause) (s : State) : Host.Outcome State Fault Refusal :=
  s.runOn t (fun m =>
    let m := degUpdate m cause
    let d := degOf m cause
    if d.active && passed d.clearSince (sec 10) m.clk then
      let m := setDeg m cause {}
      let m := { m with
        nv := { m.nv with degSaved := lset m.nv.degSaved (degIx cause) false }
        saf := { m.saf with funcs := tmap m.saf.funcs (fun _ f => { f with degBy := f.degBy.filter (· != cause) }) } }
      (m.saf.funcs.map Prod.fst).foldl showState m
    else m)

/-- DEGRADED_SAVE (R229): every 60 s. -/
def execDegradedSave (t : Nat) (s : State) : Host.Outcome State Fault Refusal :=
  s.runOn t saveDegraded

end Sys2Proof.Machine
end

