-- ==== Sys2Proof/Machine/Lockstep.lean ====
section
/-! DEFINITION. The lockstep pairs: self-test, mismatch and migration, split and join (R250 to R264). -/

namespace Sys2Proof.Machine

/-! ### Self-test and restart (R257, R263) -/

/-- A service pair is configured split in this start (R262, R263). -/
def svcSplit (m : Mod) (p : Nat) : Bool := 6 ≤ p && bitOf m.lks.serviceMode.toNat (p + 10)

/-- What follows when all application pairs are JOINED: the return to RUN that waits for it (R292, R299), and a
PROGRAM region's trial (R428, R435). -/
def afterJoined (m : Mod) : Mod :=
  if m.pwr.st == .hold && !m.pwr.starting && allJoined m then
    let back := m.pwr.program || (match m.pwr.cmd with | some (.run, _) => true | _ => false)
    let m := if m.pwr.program then beginTrial m 3 else m
    if back then backToRun m else m
  else m

/-- SELFTEST_COMPLETE (R263): JOINED or LOST; a pair restart completes (R257). -/
def execSelftestComplete (t pair : Nat) (pass : Bool) (s : State) : Host.Outcome State Fault Refusal :=
  s.runOn t (fun m =>
    let x := pairOf m pair
    if x.st != .selftest then m
    else
      let m := setPair m pair { x with req := none, st := if pass then (if svcSplit m pair then .split else .joined) else .lost }
      let m := postOpt m x.req (if pass then .ok else .pairState)
      if pass then afterJoined m else fallBackAll m)

/-- PAIR_RESTART (R257, R263): from LOST or DOWN. -/
def execPairRestart (t : Nat) (q : Req) (pair : Nat) (s : State) : Host.Outcome State Fault Refusal :=
  s.runCmd t 0x0009 q (fun m =>
    if pair ≥ 8 then refuse m q .badField
    else
      let x := pairOf m pair
      if x.st == .lost || x.st == .down then startOp (setPair m pair { x with st := .selftest, req := some q }) q
      else refuse m q .pairState)

/-! ### Mismatch (R253 to R256, R261, R262) -/

/-- LKS_MISMATCH, and LKS_CAPTURE for the first mismatch since it was all clear (R264). -/
def noteMismatch (m : Mod) (p cause : Nat) : Mod :=
  { m with lks := { m.lks with
      capture := if m.lks.mismatch = 0 then BitVec.ofNat 32 (16 * (cause % 16) + p) else m.lks.capture
      mismatch := setBit32 m.lks.mismatch p } }

/-- The tasks on a pair. -/
def tasksOn (m : Mod) (p : Nat) : List (Nat × Task) := m.pge.tasks.filter (fun e => e.2.pair == p)

/-- A C0 task moves to the fall-back pair with its pending releases; an instance that was aborted is released again
there (R255 step 2). -/
def moveC0 (m : Mod) (k fb : Nat) (was : Task) : Mod :=
  match taskAt m k with
  | none => m
  | some t =>
    let m := setTask m k { t with pair := fb }
    if was.busy && releasesNow m { t with pair := fb } then
      beginRelease m k { t with pair := fb } { t := nowNs m, msg := (was.inst.map Inst.msg).getD [] }
    else m

/-- Steps 2 and 3 of R255: C0 tasks move, the others are HALTED; a stopped task stays so. C1 tasks already drained
stay where they are (R261). -/
def migratePair (m : Mod) (p : Nat) (on : List (Nat × Task)) : Mod :=
  let fb := fallbackOf m p
  let m := on.foldl (fun m e =>
    if e.2.rcd.cls = 0 then moveC0 m e.1 fb e.2
    else if e.2.st == .stopped || e.2.st == .halted then m
    else haltTask m e.1) m
  let m := { m with pge := { m.pge with tasks := tmap m.pge.tasks (fun _ t =>
    if t.home = p && t.rcd.cls = 1 then { t with home := t.pair } else t) } }
  settleMigrated m

/-- A mismatch of an application pair (R255): LOST, its instances aborted, the fault, and the migration. The fault is F3
where the pair's C0 tasks have no working fall-back pair, or the pair carries migrated tasks. -/
def mismatchApp (m : Mod) (p cause : Nat) : Mod :=
  let x := pairOf m p
  let on := tasksOn m p
  let again := match x.lastMismatch with | some y => m.clk < y + sec 86400 | none => false
  let c0 := on.any (fun e => e.2.rcd.cls == 0)
  let f3 := (c0 && (pairOf m (fallbackOf m p)).st != .joined) || on.any (fun e => e.2.migratedC0)
  let m := setPair (noteMismatch m p cause) p
    { x with st := .lost, restarted := again, lastMismatch := some m.clk, drain := [], maskB := [], req := none }
  let m := postOpt m x.req .pairState
  let m := on.foldl (fun m e =>
    match taskAt m e.1 with
    | some k => if k.busy then unrun (setTask m e.1 (dropInst k .idle)) e.1 else m
    | none => m) m
  let m := reportFault m (faultOf 0x02 (if f3 then 3 else 2) p (BitVec.ofNat 16 (0x0100 + p)) 4 0xFF (BitVec.ofNat 32 cause))
  if m.flt.f3 || m.pwr.st == .fail then m else fallBackAll (migratePair m p on)

/-- A mismatch of a joined service pair: its firmware restarts, and an F2 is raised (R262). -/
def mismatchSvc (m : Mod) (p cause : Nat) : Mod :=
  let m := beginServiceRestart (noteMismatch m p cause)
  reportFault m (faultOf 0x02 2 p (BitVec.ofNat 16 (0x0200 + p)) 4 0xFF (BitVec.ofNat 32 cause))

/-- MISMATCH (R253, R255, R262, R263): nothing is compared on a pair that is SPLIT or stopped; in SELFTEST the pair is
LOST. -/
def execPairMismatch (t pair cause : Nat) (s : State) : Host.Outcome State Fault Refusal :=
  s.runOn t (fun m =>
    let x := pairOf m pair
    match x.st with
    | .joined | .draining | .joining =>
      if pair < 6 then mismatchApp m pair cause else if pair < 8 then mismatchSvc m pair cause else m
    | .selftest => postOpt (setPair (noteMismatch m pair cause) pair { x with st := .lost, req := none }) x.req .pairState |> fallBackAll
    | _ => m)

/-! ### Split (R258, R259) -/

/-- The assignment byte of a task (R258). -/
def splitByte (buf : List Byte) (k : Nat) : Nat := u8 buf k

/-- The bytes of a split request are good for the pair's tasks: a drain pair for each C1 task, 0xFE or 0xFF for the
others. -/
def splitFields (p : Nat) (on : List (Nat × Task)) (buf : List Byte) : Bool :=
  on.all (fun e =>
    let b := splitByte buf e.1
    if e.2.rcd.cls = 1 then b < 6 && b != p else 2 ≤ e.2.rcd.cls && 0xFE ≤ b)

/-- The pair is the fall-back of a pair that carries C0 tasks (R254, R258). -/
def isFallback (m : Mod) (p : Nat) : Bool :=
  (List.range 6).any (fun o => o != p && fallbackOf m o == p &&
    m.pge.tasks.any (fun e => e.2.rcd.cls == 0 && e.2.home == o))

/-- The module as it would be with the C1 tasks of a pair on their drain pairs. -/
def drained (m : Mod) (on : List (Nat × Task)) (buf : List Byte) : Mod :=
  on.foldl (fun m e => if e.2.rcd.cls = 1 then
    (match taskAt m e.1 with | some t => setTask m e.1 { t with pair := splitByte buf e.1 } | none => m) else m) m

/-- Why a split is refused (R258). -/
def splitRefusal (m : Mod) (p : Nat) (buf : List Byte) : Option Status :=
  let on := tasksOn m p
  if p ≥ 6 || buf.length < 96 then some .badField
  else if (pairOf m p).st != .joined then some .pairState
  else if on.any (fun e => e.2.rcd.cls == 0) || m.pge.tasks.any (fun e => e.2.rcd.cls == 0 && e.2.home == p) || isFallback m p then
    some .pairC0
  else if m.pge.change.isSome || m.pge.switching.isSome then some .changeBusy
  else if !splitFields p on buf then some .badField
  else if on.any (fun e => e.2.rcd.cls = 1 && (pairOf m (splitByte buf e.1)).st != .joined) then some .pairState
  else if (taskTest (drained m on buf)).isSome then some .notAdmitted
  else none

/-- PAIR_SPLIT (R258, R259): DRAINING; idle C1 tasks move at once. -/
def execPairSplit (t : Nat) (q : Req) (pair : Nat) (buf : List Byte) (s : State) : Host.Outcome State Fault Refusal :=
  s.runCmd t 0x0007 q (fun m =>
    match splitRefusal m pair buf with
    | some .notAdmitted => refuse (noteRefused m 1 pair 0) q .notAdmitted
    | some st => refuse m q st
    | none =>
      let on := tasksOn m pair
      let x := pairOf m pair
      let m := setPair m pair { x with
        st := .draining, req := some q
        drain := (on.filter (fun e => e.2.rcd.cls == 1)).map (fun e => (e.1, splitByte buf e.1))
        maskB := (on.filter (fun e => splitByte buf e.1 == 0xFE)).map Prod.fst }
      startOp (on.foldl (fun m e => drainMove m e.1) m) q)

/-- DRAIN_COMPLETE (R259 steps 3 and 4): once the last C1 task has moved, comparison is off and the pair SPLIT; core B
takes the masked tasks from their next release. -/
def execDrainComplete (t pair : Nat) (s : State) : Host.Outcome State Fault Refusal :=
  s.runOn t (fun m =>
    let x := pairOf m pair
    if x.st != .draining then m
    else
      let m := x.drain.foldl (fun m e => drainMove m e.1) m
      if (tasksOn m pair).any (fun e => e.2.rcd.cls == 1) then m
      else
        let m := setPair m pair { x with st := .split, req := none }
        let m := { m with pge := { m.pge with tasks := tmap m.pge.tasks (fun k t =>
          if t.pair = pair && !t.busy then t.onCore m k else t) } }
        postOpt (settleAdmission m) x.req .ok)

/-! ### Join (R260) -/

/-- PAIR_JOIN (R260): no further release on core B. -/
def execPairJoin (t : Nat) (q : Req) (pair : Nat) (s : State) : Host.Outcome State Fault Refusal :=
  s.runCmd t 0x0008 q (fun m =>
    if pair ≥ 6 then refuse m q .badField
    else
      let x := pairOf m pair
      if x.st != .split then refuse m q .pairState
      else
        let m := setPair m pair { x with st := .joining, joinAt := m.clk, req := some q }
        startOp { m with pge := { m.pge with tasks := tmap m.pge.tasks (fun k t =>
          if t.pair = pair && !t.busy then t.onCore m k else t) } } q)

/-- The drained C1 tasks of a pair return where R240 admits them there, in the order of their numbers; one that is not
admitted stays on its drain pair, which becomes its own. The tasks not admitted back are listed (R260 step 5). -/
def takeBack (m : Mod) (p : Nat) : Mod × List Nat :=
  (m.pge.tasks.filter (fun e => e.2.home == p && e.2.pair != p && e.2.rcd.cls == 1)).foldl (fun a e =>
    match taskAt a.1 e.1 with
    | none => a
    | some t =>
      let m' := setTask a.1 e.1 { t with pair := p }
      if (taskTest m').isSome then (setTask a.1 e.1 { t with home := t.pair }, a.2 ++ [e.1])
      else (if t.busy then a.1 else m', a.2)) (m, [])

/-- A word with the bits of a list of tasks, from task `o` on. -/
def taskMask (ks : List Nat) (o : Nat) : W32 :=
  ks.foldl (fun v k => if o ≤ k && k < o + 32 then setBit32 v (k - o) else v) 0

/-- JOIN_COPY (R260 steps 2 to 5): core B is idle, or what still runs on it after 100 ms is abandoned as a skipped
release; the pair is JOINED. -/
def execJoinCopy (t pair : Nat) (s : State) : Host.Outcome State Fault Refusal :=
  s.runOn t (fun m =>
    let x := pairOf m pair
    let onB := (tasksOn m pair).filter (fun e => e.2.coreB && e.2.busy)
    if x.st == .joining && (onB.isEmpty || x.joinAt + ms 100 ≤ m.clk) then
      let m := onB.foldl (fun m e =>
        match taskAt m e.1 with
        | some k => skipRelease (unrun (setTask m e.1 { dropInst k .idle with coreB := false }) e.1) e.1 0
        | none => m) m
      let m := setPair m pair { x with st := .joined, drain := [], maskB := [], req := none }
      let (m, out) := takeBack m pair
      postOpt (settleAdmission m) x.req .ok { r0 := taskMask out 0, r1 := taskMask out 32, r2 := taskMask out 64 }
    else m)

end Sys2Proof.Machine
end

