-- ==== Sys2Proof/Machine/Triad.lean ====
section
/-! DEFINITION. Triad operation: rounds, voting, comparison, roles, forming and resynchronisation (R265 to R289). -/

namespace Sys2Proof.Machine

/-! ### Reports and membership (R276, R277, R289) -/

/-- The numbers of the seat states and the roles (R289). -/
def SeatSt.no : SeatSt → Nat
  | .alone => 0 | .claiming => 1 | .bulk => 2 | .delta => 3 | .shadow => 4 | .inStep => 5 | .follower => 6 | .out => 7
def Role.no : Role → Nat
  | .none => 0 | .lead => 1 | .second => 2 | .standby => 3

/-- TRI_STATUS (R289). -/
def triStatus (m : Mod) : W32 :=
  let x := m.tri
  BitVec.ofNat 32 (x.mode + 4 * x.role.no + 16 * x.st.no + 1024 * b2n x.t1 + 2048 * b2n x.t2 + 4096 * x.inStep.toNat + 65536 * x.epoch)

/-- A TRI_EVENTS bit is set and a TRIAD event posted about a seat (R289, R330). -/
def triEvent (m : Mod) (bit seat : Nat) : Mod :=
  let m := { m with tri := { m.tri with events := setBit32 m.tri.events bit } }
  event m 9 seat (BitVec.ofNat 32 bit) ((triStatus m).zeroExtend 64) m.tri.id

/-- A TRIAD fault (R389). -/
def triFault (m : Mod) (cls seat : Nat) : Mod := reportFault m (faultOf 0x12 cls seat 0x0700 4 1)

/-- The voting seats, by rising number. -/
def voters (m : Mod) : List Nat := [1, 2, 3].filter (fun n => bitOf m.tri.inStep.toNat (n - 1))

/-- The role of a seat. -/
def roleOf (m : Mod) (n : Nat) : Role := (tget m.tri.roles n).getD .none

/-- The seats of a list ranked by their present roles. -/
def ranked (m : Mod) (ns : List Nat) : List Nat :=
  [Role.lead, Role.second, Role.standby].flatMap (fun r => ns.filter (fun n => roleOf m n == r))

/-- Roles given in order of rank (R277). -/
def giveRoles (ns : List Nat) : Tbl Role :=
  (ns.zip [Role.lead, Role.second, Role.standby]).foldl (fun t e => tset t e.1 e.2) []

/-- The lowest role that no seat of a table holds (R277). -/
def lowestFree (t : Tbl Role) : Role :=
  if !t.any (fun e => e.2 == .standby) then .standby
  else if !t.any (fun e => e.2 == .second) then .second else .lead

/-- A unit replay as at host attach, on the rings of a ready host (R288, R335). -/
def replayUnits (m : Mod) : Mod :=
  if m.hif.ready then hostReadyOn { m with hif := { m.hif with ready := false } } else m

/-- The voting seats become those given, with their roles: IN_STEP, MODE and ROLE, the SEAT cause, ROLE_CHANGED, and the
replay of a new LEAD (R276, R277, R288). -/
def setRoster (m : Mod) (ns : List Nat) (roles : Tbl Role) : Mod :=
  let old := m.tri.role
  let new := (tget roles m.tri.seat).getD .none
  let m := { m with tri := { m.tri with
    inStep := BitVec.ofNat 3 ((ns.map (fun n => 2 ^ (n - 1))).sum)
    mode := ns.length
    roles := roles
    role := new
    leaving := [], entering := [] } }
  let m := degUpdate m .seat
  let m := if old = new then m else triEvent m 1 m.tri.seat
  if new = .lead && old != .lead then replayUnits m else m

/-- A seat stops voting at the next round instant. -/
def leave (m : Mod) (n : Nat) : Mod :=
  { m with tri := { m.tri with leaving := if m.tri.leaving.contains n then m.tri.leaving else m.tri.leaving ++ [n] } }

/-- The changes that waited for the round instant: lost and excluded seats go, each seat below moves up, and a new seat
takes the lowest free role (R277, R283). -/
def settleRoster (m : Mod) : Mod :=
  if m.tri.leaving.isEmpty && m.tri.entering.isEmpty then m
  else
    let stay := (voters m).filter (fun n => !m.tri.leaving.contains n)
    let kept := if m.tri.leaving.isEmpty then m.tri.roles else giveRoles (ranked m stay)
    let come := m.tri.entering.filter (fun n => !stay.contains n)
    let roles := come.foldl (fun t n => tset t n (lowestFree t)) kept
    setRoster m ([1, 2, 3].filter (fun n => stay.contains n || come.contains n)) roles

/-! ### Exclusion (R275, R284) -/

/-- The abandonments and exclusions of the last 24 h (R284). -/
def recentOuts (m : Mod) : List Nat := m.nv.triOut.filter (fun x => m.clk < x + sec 86400)

/-- One abandonment or exclusion more. -/
def noteOut (m : Mod) : Mod := { m with nv := { m.nv with triOut := recentOuts m ++ [m.clk] } }

/-- This seat is excluded (R275): an F2, which its entry to FAIL contains and acknowledges (R396), and a MODULE restart. -/
def excludeSelf (m : Mod) : Mod :=
  let m := triFault (noteOut (triEvent m 2 m.tri.seat)) 2 m.tri.seat
  let m := if m.pwr.st == .fail then m else restartModule_ m .exclusion
  let rest := m.flt.awaiting.filter (fun a => a.src != 0x12)
  { m with flt := { m.flt with awaiting := rest, jib := if rest.isEmpty then none else m.flt.jib } }

/-- A seat is excluded (R275): a peer stops voting. -/
def exclude (m : Mod) (n : Nat) : Mod :=
  if n = m.tri.seat then excludeSelf m else triEvent (leave m n) 2 n

/-! ### Rounds (R268 to R270) -/

/-- The round number of now, from the triad's epoch. -/
def roundNo (m : Mod) : Nat := (nowNs m - m.pwr.epoch) / us 100

/-- The output number of a station's output record (R274). -/
def stationOut (st i : Nat) : Nat := 0x100000 + 16384 * st + i

/-- The station output records and the telegram words as this seat computes them now (R274). -/
def otherOuts (m : Mod) : List (Nat × Val × Qual) :=
  m.net.stations.flatMap (fun e => e.2.outs.mapIdx (fun i h => (stationOut e.1 i, (viewOf m h).val, (viewOf m h).qual))) ++
  (m.saf.conns.filter (fun e => e.2.send)).flatMap (fun e =>
    (pieces (localPayload m e.2) 8 5).mapIdx (fun i w => (telegramOut e.1 i, w64 w 0, (0xC000 : Qual))))

/-- This seat's round frame (R268): the inputs that changed, the last command of each output, from the LEAD its
navigation and CAN writes, and a signature, over memory whose layout the manual does not give. -/
def buildFrame (m : Mod) (k : W32) (outs : List (Nat × Val × Qual)) : RoundFrame :=
  { round := k
    inputs := m.tri.changed.filterMap (fun i => (tget m.tri.locals i).map (fun v =>
      { sig := i, val := v.val, qual := v.qual, time := v.time, wrap := v.wrap }))
    outputs := m.tri.cmds ++ outs.map (fun o => { out := o.1, val := o.2.1, qual := o.2.2 })
    navWrites := if m.tri.role == .lead then m.tri.navOut else []
    signature := Config.fresh32 m.free }

/-- The epoch switch at its round (R286): the followers vote, with the lowest seat number as LEAD, and the former voting
seats go OUT. -/
def switchEpoch (m : Mod) (k : W32) : Mod :=
  match m.tri.switch with
  | some (r, q) =>
    if r != k then m
    else
      let ns := m.tri.followers.map Prod.fst
      let m := { m with tri := { m.tri with switch := none, followers := [], st := .out } }
      driveAll (post (setRoster m ns (giveRoles ns)) q .ok { r0 := k })
  | none => m

/-- A round begins (R268). -/
def beginRound (m : Mod) : Mod :=
  let k : W32 := BitVec.ofNat 32 (roundNo m)
  let m := switchEpoch (settleRoster m) k
  let outs := (otherOuts m).filter (fun o => tget m.tri.offered o.1 != some o.2)
  let f := buildFrame m k outs
  let m := m.tick
  { m with
    flt := { m.flt with awaiting := m.flt.awaiting.map (fun a => if a.src == 0x12 then { a with contained := true } else a) }
    tri := { m.tri with
      round := k
      offered := outs.foldl (fun t o => tset t o.1 o.2) m.tri.offered
      changed := [], cmds := [], navOut := []
      rounds := m.tri.rounds ++ [{ no := k, began := m.clk, own := f }] } }

/-- ROUND_INSTANT (R268): a seat of a formed triad sends its frame at each round instant; one in FAIL or in FULL debug
sends none (R305, R460). -/
def execRoundInstant (t : Nat) (s : State) : Host.Outcome State Fault Refusal :=
  s.runOn t (fun m =>
    let k : W32 := BitVec.ofNat 32 (roundNo m)
    if m.tri.mode != 0 && m.pwr.st != .fail && m.sec.debug != .full && m.pwr.epoch ≤ nowNs m && (nowNs m - m.pwr.epoch) % us 100 = 0 && !m.tri.rounds.any (fun r => r.no == k) then
      beginRound m
    else m)

/-- ROUND_FRAME_RECEIVE (R268): a frame counts for its round until the window closes. -/
def execRoundFrameReceive (t seat : Nat) (f : RoundFrame) (s : State) : Host.Outcome State Fault Refusal :=
  s.runOn t (fun m =>
    if m.tri.seat = 0 || seat = m.tri.seat || seat < 1 || seat > 3 then m
    else
      { m with tri := { m.tri with
          heard := some f.round
          rounds := m.tri.rounds.map (fun r =>
            if r.no == f.round && !r.closed && m.clk ≤ r.began + us 170 then { r with frames := tset r.frames seat f } else r) } })

/-- The window of a round closes: a voting peer whose frame has not arrived is missing one more round (R268, R278). -/
def closeWindow (m : Mod) (r : Round) : Mod :=
  let peers := (voters m).filter (fun n => n != m.tri.seat)
  { m with tri := { m.tri with
      missing := peers.foldl (fun t n =>
        tset t n (if (tget r.frames n).isSome then 0 else (tget t n).getD 0 + 1)) m.tri.missing
      rounds := m.tri.rounds.map (fun x => if x.no == r.no then { x with closed := true } else x) } }

/-- ROUND_WINDOW_CLOSE (R268). -/
def execRoundWindowClose (t : Nat) (s : State) : Host.Outcome State Fault Refusal :=
  s.runOn t (fun m =>
    match m.tri.rounds.find? (fun r => !r.closed && r.began + us 170 ≤ m.clk) with
    | some r => closeWindow m r
    | none => m)

/-! ### Input voting (R272, R273) -/

/-- The extended time of a copy. -/
def View.ext (v : View) : Nat := v.wrap.toNat * 2 ^ 32 + v.time.toNat

/-- The copy of the latest time. -/
def latestOf (cs : List View) : Option View :=
  cs.foldl (fun a v => match a with
    | none => some v
    | some b => if b.ext < v.ext then some v else some b) none

/-- A result that takes no copy is stamped v_k (R269, R272). -/
def noCopy (m : Mod) (v : Val) : View := { val := v, qual := 0, time := time32 m, wrap := wrap16 m }

/-- The vote over BOOL, integers, ENUM16 and BITS64 (R272): three copies that all disagree count as disagreement. -/
def voteBits (m : Mod) (cs : List View) : View :=
  let good := cs.filter (fun v => isGood v.qual)
  match good.find? (fun v => 2 ≤ good.length && good.length < 2 * (good.filter (fun w => w.val == v.val)).length) with
  | some v =>
    let l := (latestOf (good.filter (fun w => w.val == v.val))).getD v
    { l with qual := 0xC000 }
  | none =>
    match good with
    | [v] => { v with qual := 0x4000 }
    | _ => noCopy m 0

/-- The signal belongs to an AI channel: that channel's record (R272). -/
def aiOwner (m : Mod) (r : SigRec) : Option ChanRec :=
  if r.ownKind = 1 && (chanOf m r.ownId).rcd.function = 6 then some (chanOf m r.ownId).rcd else none

/-- Two REAL32 values of a signal agree (R272): within AI_TOL × 0.1 % of the span for an AI, else exactly. -/
def agree32 (m : Mod) (ai : Option ChanRec) (a b : F32) : Bool :=
  match ai with
  | none => eq32 a b
  | some r =>
    let span := abs32 (sub32 r.scaleHi r.scaleLo)
    le32 (abs32 (sub32 a b)) (div32 (mul32 span (ofInt32 m.tri.aiTol)) (ofInt32 1000))

/-- Two values of a REAL signal agree. -/
def agreeReal (m : Mod) (r : SigRec) (a b : Val) : Bool :=
  if r.ty = 4 then agree32 m (aiOwner m r) (valReal a) (valReal b) else fEq r64 a.toNat b.toNat

/-- A value of a REAL signal is at most another; a value is no number. -/
def realLe (r : SigRec) (a b : Val) : Bool := if r.ty = 4 then le32 (valReal a) (valReal b) else fLe r64 a.toNat b.toNat
def realNan (r : SigRec) (a : Val) : Bool := if r.ty = 4 then isNan32 (valReal a) else fIsNan r64 a.toNat

/-- The median of three copies; with a copy that is no number the manual states none, and the value is free. -/
def median (m : Mod) (r : SigRec) (a b c : View) : View :=
  if realNan r a.val || realNan r b.val || realNan r c.val then
    { a with val := encodeVal r.ty (Config.fresh32 m.free ++ Config.fresh32 (m.free + 1)) }
  else
    let le : View → View → Bool := fun x y => realLe r x.val y.val
    if le a b then (if le b c then b else if le a c then c else a)
    else (if le a c then a else if le b c then c else b)

/-- The mean of two copies that agree: of REAL32 values half their sum. -/
def meanOf (r : SigRec) (a b : Val) : Val :=
  if a = b then a
  else if r.ty = 4 then realVal (add32 (mul32 (valReal a) 0x3F000000) (mul32 (valReal b) 0x3F000000)) else a

/-- The vote over REAL32 and REAL64 (R272); the copies come by rising seat number. -/
def voteReal (m : Mod) (r : SigRec) (cs : List View) : View :=
  match cs.filter (fun v => !isBad v.qual) with
  | [a, b, c] => median m r a b c
  | [a, b] =>
    if agreeReal m r a.val b.val then
      { (latestOf [a, b]).getD a with val := meanOf r a.val b.val, qual := worse a.qual b.qual }
    else { a with qual := 0x4000 }
  | [a] => { a with qual := 0x4000 }
  | _ => noCopy m r.val

/-- The voted result of a signal over the copies of the seats whose frames arrived (R272); in SOLO the seat's own copy. -/
def voteOf (m : Mod) (r : SigRec) (cs : List View) : View :=
  match m.tri.mode, cs with
  | 1, [v] => v
  | _, _ => if r.ty = 4 || r.ty = 5 then voteReal m r cs else voteBits m cs

/-- The copy of a signal that a seat has sent. -/
def copyOf (m : Mod) (sig seat : Nat) : Option View :=
  (m.tri.copies.find? (fun e => e.1 == sig && e.2.1 == seat)).map (fun e => e.2.2)

/-- The copies that a seat's frame carries enter the exchange area. -/
def takeCopies (m : Mod) (seat : Nat) (f : RoundFrame) : Mod :=
  f.inputs.foldl (fun m c =>
    let rest := m.tri.copies.filter (fun e => !(e.1 == c.sig && e.2.1 == seat))
    { m with tri := { m.tri with
        copies := rest ++ [(c.sig, seat, { val := c.val, qual := c.qual, time := c.time, wrap := c.wrap })] } }) m

/-- This seat's copy stands outside the voted result (R273). -/
def standsOutside (m : Mod) (r : SigRec) (own : Option View) (v : View) : Bool :=
  !isBad v.qual &&
  (match own with
   | none => true
   | some c => isBad c.qual || !(if r.ty = 4 || r.ty = 5 then agreeReal m r c.val v.val else c.val == v.val))

/-- The run of a signal outside the vote; the 100th round raises INPUT_DISCREPANT and an F1 (R273). -/
def noteOutside (m : Mod) (sig : Nat) (out : Bool) : Mod :=
  let n := if out then (tget m.tri.outside sig).getD 0 + 1 else 0
  let m := { m with tri := { m.tri with outside := if out then tset m.tri.outside sig n else tdel m.tri.outside sig } }
  if n = 100 then
    triFault (triEvent { m with tri := { m.tri with discrepant := satInc m.tri.discrepant } } 7 m.tri.seat) 1 m.tri.seat
  else m

/-- One signal voted: its record takes a result that is new, or that a copy of this round made (R272). -/
def voteSignal (m : Mod) (fs : List (Nat × RoundFrame)) (sig : Nat) : Mod :=
  match sigAt m sig with
  | none => m
  | some r =>
    let cs := (fs.map Prod.fst).filterMap (fun n => copyOf m sig n)
    let v := voteOf m r cs
    let fresh := fs.any (fun e => e.2.inputs.any (fun c => c.sig == sig))
    let m := if !r.isConst && isVoted m r && (fresh || r.val != v.val || r.qual != v.qual) then
        setSig m sig (r.write v.val v.qual v.time v.wrap) else m
    if m.tri.mode < 2 then m else noteOutside m.tick.tick sig (standsOutside m r (copyOf m sig m.tri.seat) v)

/-- Every voted input (R272, R273). -/
def voteInputs (m : Mod) (fs : List (Nat × RoundFrame)) : Mod :=
  let m := fs.foldl (fun m e => takeCopies m e.1 e.2) m
  (m.tri.copies.map (fun e => e.1)).dedup.foldl (fun m sig => voteSignal m fs sig) m

/-- The LEAD's navigation and CAN writes (R353, R384), at v_k on every seat. -/
def takeNav (m : Mod) (fs : List (Nat × RoundFrame)) : Mod :=
  match fs.find? (fun e => roleOf m e.1 == .lead) with
  | none => m
  | some (_, f) =>
    let m := f.navWrites.foldl (fun m c =>
      modSig m c.sig (fun r =>
        if r.isConst then r else if c.qual = 0x0001 then r.toStale else r.write c.val c.qual c.time c.wrap)) m
    { m with net := { m.net with navs := tmap m.net.navs (fun _ e =>
        if f.navWrites.any (fun c => c.sig == hIdx e.signal) then { e with last := m.clk } else e) } }

/-! ### Output comparison (R270, R274, R275) -/

/-- What a frame commands of an output. -/
def cmdOf (f : RoundFrame) (o : Nat) : Option (Val × Qual) :=
  (f.outputs.find? (fun c => c.out == o)).map (fun c => (c.val, c.qual))

/-- The verdict on one output: the value on which the seats agree, or `none` where they differ, with the seat in the
minority. -/
def compareOut (fs : List (Nat × RoundFrame)) (o : Nat) : Option (Option (Val × Qual)) × Option Nat :=
  let vs := fs.map (fun e => (e.1, cmdOf e.2 o))
  match vs with
  | [a] => (some a.2, none)
  | [a, b] => if a.2 == b.2 then (some a.2, none) else (none, none)
  | [a, b, c] =>
    if a.2 == b.2 then (some a.2, if c.2 == a.2 then none else some c.1)
    else if a.2 == c.2 then (some a.2, some b.1)
    else if b.2 == c.2 then (some b.2, some a.1)
    else (none, none)
  | _ => (some none, none)

/-- An agreed command is released: to its channel, or for a station or a telegram (R274). -/
def release (m : Mod) (o : Nat) (x : Val × Qual) : Mod :=
  if o < 256 then takeCommand m o x.1 x.2 else { m with tri := { m.tri with rel := tset m.tri.rel o x } }

/-- The outputs of a round compared and released (R274): what differs drives SAFE_VAL for the round. The module, the seats
in the minority, whether two seats of DUO differed and whether all three did. -/
def compareOuts (m : Mod) (fs : List (Nat × RoundFrame)) : Mod × List Nat × Bool :=
  let os := (fs.flatMap (fun e => e.2.outputs.map OutCmd.out)).dedup
  let verdicts := os.map (fun o => (o, compareOut fs o))
  let bad := (verdicts.filter (fun v => v.2.1.isNone)).map Prod.fst
  let was := m.tri.diverged
  let m := { m with tri := { m.tri with diverged := bad } }
  let m := verdicts.foldl (fun m v => match v.2.1 with
    | some (some x) => release m v.1 x
    | _ => m) m
  let m := (was ++ bad).foldl (fun m o => if o < 256 then drive m o else m) m
  (m, (verdicts.filterMap (fun v => v.2.2)).dedup, !bad.isEmpty)

/-- An F2 or F3 captured, or a LOST pair, in the last 1 s (R275). -/
def recentFault (m : Mod) : Bool :=
  (match m.nv.capture with | some c => m.pwr.startStep ≥ 3 && (time32 m - c.time).toNat ≤ sec 1 | none => false) ||
  (List.range 6).any (fun p => (pairOf m p).st == .lost && (match (pairOf m p).lastMismatch with | some x => m.clk ≤ x + sec 1 | none => false))

/-- The seat that a difference in DUO excludes (R275): this one on a recent fault of its own; the peer on one of the
peer's, which this seat cannot see (a free truth value); else the one with the lower role. -/
def duoLoser (m : Mod) : Nat :=
  let peer := ((voters m).filter (fun n => n != m.tri.seat)).headD 0
  if recentFault m then m.tri.seat
  else if Config.freshBool m.free then peer
  else (ranked m (voters m)).getLastD m.tri.seat

/-- Divergence resolved (R274, R275). -/
def resolve (m : Mod) (minority : List Nat) (differ all3 : Bool) : Mod :=
  let runs := (voters m).foldl (fun t n =>
    if minority.contains n then tset t n ((tget t n).getD 0 + 1) else tdel t n) m.tri.minor
  let d := if m.tri.mode = 2 && differ then m.tri.differing + 1 else 0
  let m := { m with tri := { m.tri with minor := runs, differing := d } }
  let m := if m.tri.mode = 3 && all3 then triFault m 2 m.tri.seat else m
  let out := (voters m).filter (fun n => 2 ≤ (tget runs n).getD 0)
  let m := out.foldl (fun m n => if m.pwr.st == .fail then m else exclude m n) m
  if 2 ≤ d && m.pwr.st != .fail then exclude m.tick (duoLoser m) else m

/-- The matching rounds of a seat in SHADOW (R283): its own commands agree with what was released. -/
def noteShadow (m : Mod) (own : RoundFrame) (fs : List (Nat × RoundFrame)) : Mod :=
  if m.tri.st == .shadow && m.tri.compared then
    let os := (((fs.map Prod.snd) ++ [own]).flatMap (fun f => f.outputs.map OutCmd.out)).dedup
    let same := os.all (fun o => (compareOut fs o).1 == some (cmdOf own o))
    { m with tri := { m.tri with matching := if same then m.tri.matching + 1 else 0 } }
  else m

/-- VOTE_INSTANT (R268, R272, R274): 200 µs after its round instant the oldest round is voted with the frames of the
voting seats that arrived, its outputs released, and the round is over. -/
def voteRound (m : Mod) (r : Round) : Mod :=
  let m := { m with tri := { m.tri with rounds := m.tri.rounds.filter (fun x => x.no != r.no) } }
  let fs := (voters m).filterMap (fun n =>
    if n = m.tri.seat then some (n, r.own) else (tget r.frames n).map (fun f => (n, f)))
  let m := takeNav (voteInputs m fs) fs
  let (m, minority, differ) := compareOuts m fs
  resolve (noteShadow m r.own fs) minority differ (differ && fs.length = 3)

/-- VOTE_INSTANT (R268). -/
def execVoteInstant (t : Nat) (s : State) : Host.Outcome State Fault Refusal :=
  s.runOn t (fun m =>
    match m.tri.rounds with
    | [] => m
    | r :: _ => if r.began + us 200 ≤ m.clk then voteRound m r else m)

/-- SIGNATURE_COMPARE (R275): every 1,000 rounds a seat whose signature differs from that of the two others is excluded. -/
def execSignatureCompare (t : Nat) (s : State) : Host.Outcome State Fault Refusal :=
  s.runOn t (fun m =>
    match m.tri.rounds with
    | [] => m
    | r :: _ =>
      let sg := (voters m).filterMap (fun n =>
        if n = m.tri.seat then some (n, r.own.signature) else (tget r.frames n).map (fun f => (n, f.signature)))
      if r.no.toNat % 1000 != 0 then m
      else
        match sg with
        | [a, b, c] =>
          let bad : Option Nat := if a.2 == b.2 && c.2 != a.2 then some c.1
            else if a.2 == c.2 && b.2 != a.2 then some b.1
            else if b.2 == c.2 && a.2 != b.2 then some a.1 else none
          match bad with
          | some n => exclude (triEvent m 8 n) n
          | none => m
        | _ => m)

/-! ### Heartbeats and loss (R278) -/

/-- The frame of a heartbeat (R278, R342). -/
def heartbeatFrame (m : Mod) : EthFrame :=
  { dst := heartbeatMac m.tri.id, src := m.nv.mac, etherType := 0x88B6, tag := some (6, m.net.ctrlVid), len := 64, ptp := none }

/-- HEARTBEAT_SEND (R278): every 1 ms on the ports of SAF_NET. -/
def execHeartbeatSend (t : Nat) (s : State) : Host.Outcome State Fault Refusal :=
  s.runOn t (fun m =>
    let due : Bool := match m.tri.beatAt with | some x => x + ms 1 ≤ m.clk | none => true
    if m.tri.seat != 0 && m.tri.mode != 0 && due then
      let m := { m with tri := { m.tri with beatAt := some m.clk } }
      let m := if aPort m = 0 then m else enqueueAt m 0 (aPort m) (heartbeatFrame m)
      if bPort m = 0 then m else enqueueAt m 0 (bPort m) (heartbeatFrame m)
    else m)

/-- HEARTBEAT_RECEIVE (R278). -/
def execHeartbeatReceive (t seat : Nat) (s : State) : Host.Outcome State Fault Refusal :=
  s.runOn t (fun m =>
    if m.tri.seat != 0 && seat != m.tri.seat && 1 ≤ seat && seat ≤ 3 then
      { m with tri := { m.tri with beats := tset m.tri.beats seat m.clk } }
    else m)

/-- PEER_LOSS_DECLARATION (R278): no round frame for 3 rounds; with no heartbeat for 2 ms the peer is lost, else the two
seats are partitioned and the one with the lower role excludes itself. -/
def execPeerLossDeclaration (t seat : Nat) (s : State) : Host.Outcome State Fault Refusal :=
  s.runOn t (fun m =>
    if seat = m.tri.seat || !(voters m).contains seat || m.tri.leaving.contains seat || (tget m.tri.missing seat).getD 0 < 3 then m
    else
      let silent : Bool := match tget m.tri.beats seat with | some x => x + ms 2 ≤ m.clk | none => true
      if silent then
        discovery (triFault (triEvent (leave m seat) 0 seat) 1 seat) 2 (BitVec.ofNat 32 seat) false
      else
        let m := triFault (triEvent m 3 seat) 1 seat
        exclude m ((ranked m [seat, m.tri.seat]).getLastD seat))

/-! ### Links (R265, R266) -/

/-- The seat at the far end of T1, or of T2 (R265). -/
def farSeat (m : Mod) (t2 : Bool) : Nat := if t2 then (m.tri.seat + 1) % 3 + 1 else m.tri.seat % 3 + 1

/-- TRIAD_LINK_DOWN (R266): LINK_DOWN and an F1. -/
def execTriadLinkDown (t : Nat) (t2 : Bool) (s : State) : Host.Outcome State Fault Refusal :=
  s.runOn t (fun m =>
    let was := if t2 then m.tri.t2 else m.tri.t1
    let m := { m with tri := { m.tri with t1 := m.tri.t1 && t2, t2 := m.tri.t2 && !t2 } }
    if was && m.tri.seat != 0 then triFault (triEvent m 6 (farSeat m t2)) 1 (farSeat m t2) else m)

/-- TRIAD_LINK_UP (R266, R289). -/
def execTriadLinkUp (t : Nat) (t2 : Bool) (s : State) : Host.Outcome State Fault Refusal :=
  s.runOn t (fun m => if m.pwr.st == .fail then m else { m with tri := { m.tri with t1 := m.tri.t1 || !t2, t2 := m.tri.t2 || t2 } })

/-! ### Forming (R280) -/

/-- A member begins to claim (R280), unless it is OUT or still waits after an abandonment (R284). -/
def beginClaim (m : Mod) : Mod :=
  let waits : Bool := match m.nv.triRetry with | some x => m.clk < x + sec 60 | none => false
  if m.tri.seat = 0 then m
  else if (recentOuts m).length ≥ 3 then { m with tri := { m.tri with st := .out } }
  else if waits then m
  else { m with nv := { m.nv with triRetry := none }, tri := { m.tri with st := .claiming, claimAt := some m.clk, claims := [] } }

/-- A hold-back begins, or ends (R248). -/
def holdBackOn (m : Mod) : Mod :=
  { m with adm := { m.adm with holdBack := true, events := setBit32 m.adm.events 1 } }
def holdBackOff (m : Mod) : Mod := decide_ { m with adm := { m.adm with holdBack := false } }

/-- The source of a resynchronisation (R281): the SECOND, else the LEAD. -/
def sourceSeat (m : Mod) : Nat :=
  match (voters m).find? (fun n => roleOf m n == .second) with
  | some n => n
  | none => ((voters m).find? (fun n => roleOf m n == .lead)).getD 0

/-- A running seat hears a claim (R281, R283): one seat at a time; the source holds back and asks for its permit. -/
def acceptClaim (m : Mod) (seat : Nat) : Mod :=
  if m.tri.resyncSeat != 0 || (voters m).contains seat then m
  else
    let m := { m with tri := { m.tri with resyncSeat := seat, resyncAt := some m.clk } }
    if sourceSeat m = m.tri.seat then request (holdBackOn m) whoResync .resyncBulk false 10000 else m

/-- A claiming seat finds a running triad (R280, R283): C, with the hold-back; the contents' size is the source's (free). -/
def beginResync (m : Mod) : Mod :=
  let m := holdBackOn { m with tri := { m.tri with
    st := .bulk, claimAt := none, resyncAt := some m.clk, resyncSeat := m.tri.seat, passes := 0, passesDone := false,
    compared := false, matching := 0, remain := (Config.fresh32 m.free).truncate 16 } }
  m.tick

/-- CLAIM_FRAME (R280, R281). -/
def execClaimFrame (t seat : Nat) (triadId : W32) (epoch version : Nat) (running : Bool) (s : State) :
    Host.Outcome State Fault Refusal :=
  s.runOn t (fun m =>
    if m.tri.seat = 0 || seat = m.tri.seat || seat < 1 || seat > 3 || triadId != m.tri.id then m
    else
      let c : Claim := { seat := seat, epoch := epoch, version := version, running := running }
      let m := { m with tri := { m.tri with claims := m.tri.claims.filter (fun (x : Claim) => x.seat != seat) ++ [c] } }
      match m.tri.st with
      | .claiming => if running then beginResync m else m
      | .inStep => if running then m else acceptClaim m seat
      | _ => m)

/-- The triad forms of the seats given (R276, R277, R280): the epoch is the next round instant. -/
def formTriad (m : Mod) (ns : List Nat) : Mod :=
  let m := { m with
    pwr := { m.pwr with epoch := (nowNs m / us 100 + 1) * us 100 }
    tri := { m.tri with st := .inStep, claimAt := none, round := 0, rounds := [] } }
  let m := setRoster m ns (giveRoles ns)
  (ns.filter (fun n => n != m.tri.seat)).foldl (fun m n => discovery m 2 (BitVec.ofNat 32 n) true) m

/-- TRIAD_FORM (R280): within 10 s, members of one epoch. -/
def execTriadForm (t : Nat) (s : State) : Host.Outcome State Fault Refusal :=
  s.runOn t (fun m =>
    let ok := (m.tri.claims.filter (fun c => c.epoch == m.tri.epoch && !c.running)).map Claim.seat
    match m.tri.st, m.tri.claimAt with
    | .claiming, some x =>
      if m.clk ≤ x + sec 10 && !ok.isEmpty then formTriad m ([1, 2, 3].filter (fun n => n == m.tri.seat || ok.contains n)) else m
    | _, _ => m)

/-- SOLO_FORM_TIMEOUT (R280). -/
def execSoloFormTimeout (t : Nat) (s : State) : Host.Outcome State Fault Refusal :=
  s.runOn t (fun m =>
    match m.tri.st, m.tri.claimAt with
    | .claiming, some x =>
      if x + sec 10 ≤ m.clk && m.tri.claims.isEmpty then
        (if m.tri.soloStart then formTriad m [m.tri.seat] else { m with tri := { m.tri with st := .alone, claimAt := none } })
      else m
    | _, _ => m)

/-! ### Resynchronisation (R281 to R285) -/

/-- RESYNC_BULK_END (R283): the source's copy ends and its permit with it; the returning seat goes to DELTA. -/
def execResyncBulkEnd (t dirtyMib : Nat) (s : State) : Host.Outcome State Fault Refusal :=
  s.runOn t (fun m =>
    if m.tri.st == .bulk then { m with tri := { m.tri with st := .delta, remain := BitVec.ofNat 16 dirtyMib } }
    else if m.tri.resyncSeat != 0 then releasePermit m whoResync
    else m)

/-- DELTA_PASS_END (R283): passes end with one of 4 MiB or less, or after 8; what the next carries is free. -/
def execDeltaPassEnd (t passMib : Nat) (s : State) : Host.Outcome State Fault Refusal :=
  s.runOn t (fun m =>
    if m.tri.st == .delta && !m.tri.passesDone then
      let n := m.tri.passes + 1
      let done := passMib ≤ 4 || n = 8
      { m.tick with tri := { m.tri with passes := n, passesDone := done,
                                        remain := if done then 0 else (Config.fresh32 m.free).truncate 16 } }
    else m)

/-- The voting seats that a returning seat has heard of. -/
def runningSeats (m : Mod) : List Nat :=
  [1, 2, 3].filter (fun n => n != m.tri.seat && m.tri.claims.any (fun c => c.seat == n && c.running))

/-- SHADOW_START (R283): at a round instant after DELTA the seat executes in step, from the round after the one last heard;
which of two voting peers is the LEAD it has from the source (a free truth value). -/
def execShadowStart (t : Nat) (s : State) : Host.Outcome State Fault Refusal :=
  s.runOn t (fun m =>
    if m.tri.st == .delta && m.tri.passesDone then
      let k := match m.tri.heard with | some r => r.toNat + 1 | none => 0
      let ns := runningSeats m
      let order := if Config.freshBool m.free then ns else ns.reverse
      let m := { m.tick with
        pwr := { m.pwr with epoch := nowNs m - us (100 * k) }
        tri := { m.tri with st := .shadow, round := BitVec.ofNat 32 k, rounds := [], compared := false, matching := 0 } }
      setRoster m ns (giveRoles order)
    else m)

/-- REGION_COMPARE (R283): the regions that differ are sent again. -/
def execRegionCompare (t differing : Nat) (s : State) : Host.Outcome State Fault Refusal :=
  s.runOn t (fun m =>
    if m.tri.st == .shadow then
      { m with tri := { m.tri with
          compared := differing == 0
          matching := if m.tri.compared && differing == 0 then m.tri.matching else 0
          remain := BitVec.ofNat 16 differing } }
    else m)

/-- The epoch of the triad's voting seats, as claims told it (R285). -/
def triadEpochOf (m : Mod) (n : Nat) : Nat :=
  ((m.tri.claims.find? (fun c => c.seat == n)).map Claim.epoch).getD m.tri.epoch

/-- RESYNC_IN_STEP (R283, R285): a seat of the triad's epoch votes from the next round; another becomes a FOLLOWER. -/
def execResyncInStep (t : Nat) (s : State) : Host.Outcome State Fault Refusal :=
  s.runOn t (fun m =>
    if m.tri.resyncAt.isNone || m.tri.resyncSeat = 0 then m
    else if m.tri.resyncSeat = m.tri.seat then
      if m.tri.st == .shadow && m.tri.compared && 1000 ≤ m.tri.matching then
        let same := (voters m).all (fun n => triadEpochOf m n == m.tri.epoch)
        let m := holdBackOff { m with tri := { m.tri with
          st := if same then .inStep else .follower, resyncAt := none, resyncSeat := 0
          entering := if same then m.tri.entering ++ [m.tri.seat] else m.tri.entering } }
        driveAll (triEvent m (if same then 4 else 9) m.tri.seat)
      else m
    else
      let n := m.tri.resyncSeat
      let e := triadEpochOf m n
      let same := e == m.tri.epoch
      let m := holdBackOff (releasePermit { m with tri := { m.tri with
        resyncAt := none, resyncSeat := 0
        entering := if same then m.tri.entering ++ [n] else m.tri.entering
        followers := if same then m.tri.followers else tset m.tri.followers n e } } whoResync)
      let m := triEvent m (if same then 4 else 9) n
      if same then discovery m 2 (BitVec.ofNat 32 n) true else m)

/-- RESYNC_ABANDON (R284): on timeout, loss of the source or a code error; the returning seat restarts. -/
def execResyncAbandon (t : Nat) (codeError : Bool) (s : State) : Host.Outcome State Fault Refusal :=
  s.runOn t (fun m =>
    if m.tri.resyncAt.isNone || (codeError && m.tri.resyncSeat != m.tri.seat) then m
    else
      let n := m.tri.resyncSeat
      let m := triEvent (holdBackOff (releasePermit { m with tri := { m.tri with resyncAt := none, resyncSeat := 0 } } whoResync)) 5 n
      if n = m.tri.seat then
        let m := noteOut m
        restartModule_ { m with nv := { m.nv with triRetry := some m.clk } } .abandonment
      else m)

/-- CLAIM_RETRY (R284). -/
def execClaimRetry (t : Nat) (s : State) : Host.Outcome State Fault Refusal :=
  s.runOn t (fun m =>
    match m.nv.triRetry with
    | some x => if m.tri.st == .alone && x + sec 60 ≤ m.clk && m.pwr.startStep ≥ 5 then beginClaim m else m
    | none => m)

/-- TRIAD_RETRY (R284): an OUT seat claims again; it is served by the seat itself. -/
def execTriadRetry (t : Nat) (q : Req) (s : State) : Host.Outcome State Fault Refusal :=
  s.runOp t 0x000A q (fun m =>
    if m.tri.st == .out then beginClaim (post { m with nv := { m.nv with triOut := [], triRetry := none } } q .ok)
    else if notLead m then post m q .notLead
    else refuse m q .pairState)

/-- TRIAD_EPOCH (R286): refused unless every follower is in step on one epoch newer than the triad's, and they are at
least as many as the voting seats. The LEAD names the round after the next (log 71). -/
def execTriadEpoch (t : Nat) (q : Req) (s : State) : Host.Outcome State Fault Refusal :=
  s.runCmd t 0x000B q (fun m =>
    let es := m.tri.followers.map Prod.snd
    let one := es.all (fun e => e == es.headD 0) && m.tri.epoch < es.headD 0
    if m.tri.seat != 0 && m.tri.mode != 0 && m.tri.switch.isNone && !es.isEmpty && one && (voters m).length ≤ es.length then
      startOp { m with tri := { m.tri with switch := some (m.tri.round + 2, q) } } q
    else refuse m q .pairState)

end Sys2Proof.Machine
end

