-- ==== Sys2Proof/Machine/Clock.lean ====
section
/-! DEFINITION. Module time and PTP (R343 to R350). -/

namespace Sys2Proof.Machine

/-! ### The ordinary clock (R345, R348, R349) -/

/-- The servo runs: PTP_EN, the service pairs run (R15), and in a formed triad the seat is the LEAD (R349). -/
def servoRuns (m : Mod) : Bool := m.tim.ptpEn && !m.pwr.svcStopped && !notLead m

/-- TRACEABLE follows LOCKED, the master's timeTraceable and the refusals; TRACE_LOST as it clears (R348, R349). -/
def settleTrace (m : Mod) : Mod :=
  let on := m.tim.locked && (match m.tim.master with | some a => a.timeTraceable | none => false) &&
    (m.tim.refusedRun = 0 || (m.tim.traceable && m.tim.refusedRun < 16))
  { m with tim := { m.tim with traceable := on, events := orBit m.tim.events (m.tim.traceable && !on) 2 } }

/-- One offset for LOCKED (R349): 8 in a row on the other side of ±1 µs change it. -/
def countOffset (m : Mod) (off : Int) : Mod :=
  let inside := -1000 ≤ off && off ≤ 1000
  let n := if inside != m.tim.locked then m.tim.good + 1 else 0
  if n = 8 then { m with tim := { m.tim with locked := inside, good := 0 } } else { m with tim := { m.tim with good := n } }

/-- A signed word that saturates (R363). -/
def satI32 (v : Int) : Int := max (-2147483648) (min 2147483647 v)

/-- The rate stays within ±100 ppm of 40 ns, in units of 2⁻³² ns per tick (R343). -/
def clampRate (r : Int) : Int := max (-17179869) (min 17179869 r)

/-- An offset of a Sync (R348): the first while STARTING steps module time to the master's; one within the threshold is
slewed; any other is refused. -/
def takeOffset (m : Mod) (off : Int) : Mod :=
  let m := { m with tim := { m.tim with offset := satI32 off } }
  let start := !m.tim.first && m.pwr.starting && (m.tri.seat = 0 || m.tri.mode = 0)
  let m := { m with tim := { m.tim with first := true } }
  if start then countOffset { m with tim := { m.tim with off := m.tim.off - off, stepped := true, refusedRun := 0 } } off
  else if off.natAbs ≤ m.tim.jump then
    settleTrace (countOffset { m with tim := { m.tim with rate := clampRate (Config.servoRate m.tim.rate off), refusedRun := 0 } } off)
  else
    let m := countOffset { m with tim := { m.tim with refusedRun := m.tim.refusedRun + 1, events := setBit32 m.tim.events 1 } } off
    reportFault (settleTrace m) (faultOf 0x14 1 0 0x0200)

/-- PTP_OFFSET (R348): the offset of module time from the present master's. -/
def execPtpOffset (t port : Nat) (off : Int) (s : State) : Host.Outcome State Fault Refusal :=
  s.runOn t (fun m =>
    if servoRuns m && m.tim.master.isSome && port = m.tim.masterPort then takeOffset m off else m)

/-! ### The best master clock (R345, R349) -/

/-- What of an Announce is compared, best first. -/
def announceKey (a : Announce) : List Nat :=
  [a.priority1, a.clockClass, a.accuracy, a.variance, a.priority2, a.clockId.toNat]

/-- A list of numbers comes before another. -/
def listLt : List Nat → List Nat → Bool
  | a :: r, b :: s => a < b || (a == b && listLt r s)
  | _, _ => false

/-- A master-capable module is better than the sender (R345): priority1 and clockClass 248; on a tie of both what follows
is not given (a free truth value). -/
def ownBetter (m : Mod) (a : Announce) : Bool :=
  m.tim.masterEn && (listLt [248, 248] [a.priority1, a.clockClass] ||
    (a.priority1 = 248 && a.clockClass = 248 && Config.freshBool m.free))

/-- An Announce is chosen: of the present master, or a better one's. -/
def chooses (m : Mod) (port : Nat) (a : Announce) : Bool :=
  match m.tim.master with
  | none => !ownBetter m a
  | some b => (a.clockId == b.clockId && port == m.tim.masterPort) || (listLt (announceKey a) (announceKey b) && !ownBetter m a)

/-- PTP_ANNOUNCE (R345, R349). -/
def execPtpAnnounce (t port : Nat) (a : Announce) (s : State) : Host.Outcome State Fault Refusal :=
  s.runOn t (fun m =>
    if servoRuns m && 1 ≤ port && port ≤ 8 && (portOf m port).ptp && chooses m port a then
      let new : Bool := match m.tim.master with | some b => b.clockId != a.clockId | none => true
      let m := { m.tick with tim := { m.tim with master := some a, masterPort := port, announceAt := m.clk,
                                                 events := orBit m.tim.events new 3 } }
      settleTrace (if new then discovery m 4 (BitVec.ofNat 32 port) true else m)
    else m)

/-- MASTER_LOST (R349): no Announce has arrived within the timeout; module time runs on at its last rate. -/
def execMasterLost (t : Nat) (s : State) : Host.Outcome State Fault Refusal :=
  s.runOn t (fun m =>
    if m.tim.master.isSome && m.tim.announceAt < m.clk then
      let p := m.tim.masterPort
      let m := settleTrace { m with tim := { m.tim with master := none, masterPort := 0, locked := false, good := 0 } }
      discovery m 4 (BitVec.ofNat 32 p) false
    else m)

/-- The module sends a message in its present role (R345): the delay mechanism of P2P, and a master's messages with
MASTER_EN and no better master; Sync is two-step. -/
def sends (m : Mod) (msg : PtpMsg) : Bool :=
  let master := m.tim.masterEn && m.tim.master.isNone
  match msg with
  | .sync two => master && two
  | .followUp | .announce => master
  | .delayResp => master && !m.tim.p2p
  | .delayReq => !m.tim.p2p && m.tim.master.isSome
  | .pdelayReq | .pdelayResp => m.tim.p2p

/-- The frame of a PTP message over IEEE 802.3 (R338, R345); its sequenceId counts the messages of its kind. -/
def ptpFrame (m : Mod) (msg : PtpMsg) : EthFrame :=
  let peer := msg == .pdelayReq || msg == .pdelayResp
  { dst := if peer then 0x0180C200000E else 0x011B19000000, src := m.nv.mac, etherType := 0x88F7, tag := some (5, m.net.defVid),
    len := 68, ptp := some (msg, (m.tim.sent.filter (fun e => e.2 == msg)).length % 65536, 0) }

/-- PTP_MESSAGE_SEND (R345). -/
def execPtpMessageSend (t port : Nat) (msg : PtpMsg) (s : State) : Host.Outcome State Fault Refusal :=
  s.runOn t (fun m =>
    if servoRuns m && 1 ≤ port && port ≤ 8 && (portOf m port).ptp && sends m msg then
      enqueueAt { m with tim := { m.tim with sent := (port, msg) :: m.tim.sent } } 0 port (ptpFrame m msg)
    else m)

/-- PTP_PORT (R360). -/
def execPtpPort (t : Nat) (q : Req) (port : Nat) (en : Bool) (asym : Int) (s : State) : Host.Outcome State Fault Refusal :=
  s.runCmd t 0x0283 q (fun m =>
    if port < 1 || port > 8 then refuse m q .badField
    else post (setPort m port { portOf m port with ptp := en, asym := satI32 asym }) q .ok)

/-! ### Wraps and pulses (R344, R350) -/

/-- TIM_WRAP (R344): the wrap count has incremented. -/
def execTimWrap (t : Nat) (s : State) : Host.Outcome State Fault Refusal :=
  s.runOn t (fun m =>
    if m.tim.wraps < wrapNo m then { m with tim := { m.tim with wraps := wrapNo m, events := setBit32 m.tim.events 0 } } else m)

/-- PPS_OUT_EDGE (R350): at each whole second of module time. -/
def execPpsOutEdge (t : Nat) (s : State) : Host.Outcome State Fault Refusal :=
  s.runOn t (fun m => if nowNs m % sec 1 = 0 then { m with tim := { m.tim with ppsOut := m.tim.ppsOut + 1 } } else m)

/-- PPS_IN_EDGE (R350). -/
def execPpsInEdge (t : Nat) (s : State) : Host.Outcome State Fault Refusal :=
  s.runOn t (fun m => { m with tim := { m.tim with ppsIn := time32 m } })

end Sys2Proof.Machine
end

