-- ==== Sys2Proof/Machine/Nav.lean ====
section
/-! DEFINITION. Navigation data: IEC 61162 sentences and their map (R351 to R353). -/

namespace Sys2Proof.Machine

/-! ### Sentences (R351) -/

/-- The value of a hexadecimal digit. -/
def hexDigit (b : Byte) : Option Nat :=
  let n := b.toNat
  if 48 ≤ n && n ≤ 57 then some (n - 48) else if 65 ≤ n && n ≤ 70 then some (n - 55)
  else if 97 ≤ n && n ≤ 102 then some (n - 87) else none

/-- What follows a TAG block of a datagram, which is enclosed in backslashes (R351). -/
def dropTag (bs : List Byte) : List Byte :=
  match bs with
  | 92 :: r => (r.dropWhile (· != 92)).drop 1
  | _ => bs

/-- The characters of a sentence between its start and its checksum, where the checksum is valid (R351). -/
def sentenceBody (text : List Byte) : Option (List Byte) :=
  match dropTag text with
  | [] => none
  | c :: r =>
    let body := r.takeWhile (· != 42)
    match r.drop body.length with
    | 42 :: h :: l :: _ =>
      match hexDigit h, hexDigit l with
      | some a, some b =>
        if (c == 36 || c == 33) && (body.foldl (fun x y => x ^^^ y) (0 : Byte)).toNat = 16 * a + b then some body else none
      | _, _ => none
    | _ => none

/-- A list cut at commas. -/
def commaFields (bs : List Byte) : List (List Byte) :=
  match bs with
  | [] => [[]]
  | b :: r =>
    match commaFields r with
    | [] => [[b]]
    | f :: fs => if b = 44 then [] :: f :: fs else (b :: f) :: fs

/-- A text without the zeros that pad it. -/
def unpad (bs : List Byte) : List Byte := bs.takeWhile (· != 0)

/-- An address matches: "*" in a talker position matches any character (R352). -/
def addressFits (pat addr : List Byte) : Bool :=
  pat.length == addr.length &&
    ((List.range pat.length).all (fun i => (i < 2 && pat[i]? == some 42) || pat[i]? == addr[i]?))

/-- Digits as a number. -/
def digits (bs : List Byte) : Option Nat :=
  bs.foldl (fun a b => match a with
    | none => none
    | some n => if 48 ≤ b.toNat && b.toNat ≤ 57 then some (10 * n + (b.toNat - 48)) else none) (some 0)

/-- A numeric field as REAL32, to the nearest (R352): a sign, digits, and digits after a point. -/
def numberOf (bs : List Byte) : Option F32 :=
  let (neg, r) := match bs with
    | 45 :: r => (true, r)
    | 43 :: r => (false, r)
    | r => (false, r)
  let ip := r.takeWhile (· != 46)
  let fp := (r.drop ip.length).drop 1
  match digits (ip ++ fp) with
  | some n => if ip.isEmpty && fp.isEmpty then none
              else
                let v := ratio32 n (10 ^ fp.length)
                some (if neg then neg32 v else v)
  | none => none

/-! ### The map (R352) -/

/-- A map entry read from its 32 bytes. -/
def parseNav (b : List Byte) (clk : Nat) : NavEnt :=
  { signal := w32 b 0, source := u8 b 4, field := u8 b 5, matchField := u8 b 6, address := unpad (slice b 8 6), timeoutMs := u16 b 14,
    matchText := unpad (slice b 16 8), scale := w32 b 24, offset := w32 b 28, last := clk }

/-- A sentence meets an entry. -/
def navFits (e : NavEnt) (src : Nat) (fs : List (List Byte)) : Bool :=
  e.source == src && addressFits e.address (fs.headD []) &&
    (e.matchField == 0 || fs[e.matchField]? == some e.matchText)

/-- One entry takes a sentence: an empty or non-numeric field leaves the record unchanged. -/
def navTake (m : Mod) (n : Nat) (e : NavEnt) (fs : List (List Byte)) : Mod :=
  let m := { m with net := { m.net with navs := tset m.net.navs n { e with last := m.clk } } }
  match (fs[e.field]?).bind numberOf with
  | some v => ownerWrite m e.signal (realVal (add32 (mul32 v e.scale) e.offset)) 0xC000
  | none => m

/-- NMEA_SENTENCE (R351 to R353). -/
def execNmeaSentence (t src : Nat) (text : List Byte) (s : State) : Host.Outcome State Fault Refusal :=
  s.runOn t (fun m =>
    match sentenceBody text with
    | none => { m with net := { m.net with events := setBit32 m.net.events 4, rejected := satInc m.net.rejected } }
    | some body =>
      if notLead m then m
      else
        let fs := commaFields body
        (m.net.navs.filter (fun e => navFits e.2 src fs)).foldl (fun m e => navTake m e.1 e.2 fs) m)

/-- NAV_TIMEOUT (R352): BAD, STALE; in a triad only the LEAD's receptions count (R353). -/
def execNavTimeout (t entry : Nat) (s : State) : Host.Outcome State Fault Refusal :=
  s.runOn t (fun m =>
    match tget m.net.navs entry with
    | some e => if !notLead m && e.last + ms e.timeoutMs ≤ m.clk then staleSig m e.signal else m
    | none => m)

/-- Why an entry is refused (R48, R352). -/
def navRefusal (m : Mod) (b : List Byte) : Option Status :=
  let e := parseNav b 0
  if e.source < 1 || e.source > 8 || e.field < 1 || e.field > 40 || e.matchField > 40 || !zeros b 7 1 ||
      e.timeoutMs < 100 || e.timeoutMs > 60000 then some .badField
  else
    match judgeSig m e.signal with
    | .error st => some st
    | .ok i =>
      match sigAt m i with
      | none => some .staleHandle
      | some r =>
        if r.ty != 4 then some .typeMismatch
        else if r.isConst then some .constant
        else if r.ownKind != 0 && r.ownKind != 10 then some .ownerConflict
        else none

/-- The navigation map replaced by a load, entry 0 first. -/
def setNavs (m : Mod) (es : List (List Byte)) : Mod :=
  let new := es.map (fun b => parseNav b m.clk)
  let keep := new.map (fun e => hIdx e.signal)
  let m := m.net.navs.foldl (fun m e => orphan m 10 e.1 keep) m
  let m := { m with sig := { m.sig with sigs := tmap m.sig.sigs (fun i r =>
    if r.ownKind = 10 then
      (if keep.contains i then { r with ownKind := 0, ownId := 0, ownClass := 0, refs := r.refs - 1 } else r) else r) } }
  let m := (new.mapIdx (fun n e => (n, e))).foldl (fun m e => ownSig m e.2.signal 10 e.1 2) m
  { m with net := { m.net with navs := new.mapIdx (fun n e => (n, e)) } }

/-- A load of the navigation map judged, and taken where it is fit (R352). -/
def loadNav (m : Mod) (count : Nat) (buf : List Byte) : Except Status Mod :=
  let es := pieces buf 32 count
  if count > 256 || buf.length < 32 * count then .error .badField
  else
    match es.findSome? (navRefusal m) with
    | some st => .error st
    | none =>
      if !((es.map (fun b => hIdx (w32 b 0))).Nodup) then .error .ownerConflict
      else .ok (setNavs m es)

/-- NAV_LOAD (R352, R360, R439). -/
def execNavLoad (t : Nat) (q : Req) (count : Nat) (buf : List Byte) (s : State) : Host.Outcome State Fault Refusal :=
  s.runCmd t 0x0282 q (fun m =>
    if anyTrial m then refuse m q .trialActive
    else
      match loadNav m count buf with
      | .error st => refuse m q st
      | .ok m => post (storeAdd m 13 0 count buf) q .ok { r0 := 0 })

end Sys2Proof.Machine
end

