-- ==== Sys2Proof/Machine/Stations.lean ====
section
/-! DEFINITION. Remote stations: discovery, cyclic exchange, acyclic requests and their records (R354 to R361). -/

namespace Sys2Proof.Machine

/-- A station replaced. -/
def setStation (m : Mod) (n : Nat) (s : Station) : Mod :=
  { m with net := { m.net with stations := tset m.net.stations n s } }

/-- A bit of NET_EVENTS set (R362). -/
def netEvent (m : Mod) (i : Nat) : Mod := { m with net := { m.net with events := setBit32 m.net.events i } }

/-! ### Frames (R355) -/

/-- A station-link header (R355). -/
def stationHeader (m : Mod) (ty num : Nat) (id cycle : W32) (first count seg segs flags : Nat) : List Byte :=
  bytes16 1 ++ leBytes 1 ty ++ leBytes 1 num ++ bytes32 id ++ bytes32 (speakId m) ++ bytes32 cycle ++
    bytes16 first ++ bytes16 count ++ leBytes 1 seg ++ leBytes 1 segs ++ bytes16 flags

/-- The initialisation vector of a station-link tag (R462). -/
def stationIv (id cycle : W32) (ty seg : Nat) : List Byte :=
  bytes32 id ++ bytes32 cycle ++ leBytes 1 ty ++ leBytes 1 seg ++ [0, 0]

/-- A station-link frame on the wire: 18 bytes around it, a tag, and padding to 64 bytes (R337, R355). -/
def stationFrame (m : Mod) (st : Station) (pcp n : Nat) : EthFrame :=
  { dst := st.mac, src := m.nv.mac, etherType := 0x88B4, tag := some (pcp, m.net.ctrlVid), len := max 64 (22 + n), ptp := none }

/-- The value and quality a station output is sent with: the visible one (R357), in a formed triad the one released
(R274). -/
def outEntry (m : Mod) (n i : Nat) (h : W32) : List Byte :=
  let v := viewOf m h
  let (a, q) := if m.tri.mode = 0 then (v.val, v.qual) else (tget m.tri.rel (stationOut n i)).getD (0, 0x0001)
  bytes64 a ++ bytes16 q.toNat

/-- The OUT_SEG frames of a cycle (R355, R357). -/
def outSegs (m : Mod) (n : Nat) (st : Station) : List (List Byte) :=
  let segs := segsOf st.outs.length st.gmac
  let cap := segCap st.gmac
  (List.range segs).map (fun k =>
    let hs := (st.outs.drop (cap * k)).take cap
    let body := stationHeader m 3 n st.stationId st.cycle (cap * k) hs.length k segs (b2n st.gmac) ++
      (hs.mapIdx (fun i h => outEntry m n (cap * k + i) h)).flatten
    if st.gmac then body ++ gmac m.nv.gmacStn.current (stationIv st.stationId st.cycle 3 k) body else body)

/-! ### Discovery (R356) -/

/-- STATION_BEACON (R356): a record of a station not joined is answered with ASSIGN, by the LEAD alone in a triad. -/
def execStationBeacon (t : Nat) (stationId : W32) (mac : BitVec 48) (s : State) : Host.Outcome State Fault Refusal :=
  s.runOn t (fun m =>
    if m.pwr.svcStopped || m.pwr.st == .fail then m
    else
      match m.net.stations.find? (fun e => e.2.stationId == stationId) with
      | none => netEvent { m with net := { m.net with unmatched := satInc m.net.unmatched } } 2
      | some (n, st) =>
        if st.joined then m
        else
          let st := { st with assigned := true, mac := mac }
          let m := setStation m n st
          if notLead m then m else forward m 0 (stationFrame m st 4 24))

/-! ### Cyclic exchange (R357, R358) -/

/-- STATION_CYCLE (R357): at a cycle instant of an assigned or joined station; after the F3 reaction no frame is sent (R398). -/
def execStationCycle (t st : Nat) (s : State) : Host.Outcome State Fault Refusal :=
  s.runOn t (fun m =>
    match tget m.net.stations st with
    | none => m
    | some r =>
      if (r.assigned || r.joined) && m.pwr.st != .fail && onInstant m r.cycleUs 0 then
        let r := { r with cycle := r.cycle + 1, cycleAt := some m.clk, got := [], segs := 0 }
        let fs := if m.flt.f3 then [] else outSegs m st r
        let m := setStation m st { r with sent := fs }
        if notLead m then m else fs.foldl (fun m f => forward m 0 (stationFrame m r 6 f.length)) m
      else m)

/-- An IN_SEG frame fits its station, the present cycle and its segment (R355, R357). -/
def segOk (m : Mod) (n : Nat) (st : Station) (f : List Byte) : Bool :=
  let cap := segCap st.gmac
  let segs := segsOf st.ins.length st.gmac
  let seg := u8 f 20
  let count := u16 f 18
  let body := 24 + 10 * count
  u16 f 0 == 1 && u8 f 2 == 4 && u8 f 3 == n && w32 f 4 == st.stationId && w32 f 8 == speakId m && w32 f 12 == st.cycle &&
    u8 f 21 == segs && seg < segs && u16 f 16 == cap * seg && count == min cap (st.ins.length - cap * seg) &&
    (!st.gmac || (bitOf (u16 f 22) 0 && body + 8 ≤ f.length &&
      tagOk m.nv.gmacStn (stationIv st.stationId st.cycle 4 seg) (f.take body) (slice f body 8))) && body ≤ f.length

/-- IN_SEG (R357): segments of another cycle are discarded. -/
def execInSeg (t st : Nat) (frame : List Byte) (s : State) : Host.Outcome State Fault Refusal :=
  s.runOn t (fun m =>
    match tget m.net.stations st with
    | none => m
    | some r =>
      if (r.assigned || r.joined) && r.cycleAt.isSome && segOk m st r frame && !(r.got.any (fun g => g.1 == u8 frame 20)) then
        setStation m st { r with segs := u8 frame 21, got := r.got ++ [(u8 frame 20, slice frame 24 (10 * u16 frame 18))] }
      else m)

/-- The unit of a station, created when it joins (R56): in AUTO below unit 0. -/
def stationUnit (m : Mod) (n : Nat) : Mod :=
  match tget m.sig.units (n + 1) with
  | some _ => m
  | none => setUnit m (n + 1) {}

/-- A station joins (R356). -/
def joinStation (m : Mod) (n : Nat) (st : Station) : Mod :=
  if st.joined then m
  else
    let m := setStation (stationUnit m n) n { st with joined := true, assigned := false }
    netEvent (discovery m 1 (BitVec.ofNat 32 n) true) 1

/-- The input records of a complete cycle are written (R357). -/
def writeInputs (m : Mod) (st : Station) : Mod :=
  let cap := segCap st.gmac
  (st.ins.mapIdx (fun i h => (i, h))).foldl (fun m e =>
    let bs := ((st.got.find? (fun g => g.1 == e.1 / cap)).map Prod.snd).getD []
    let v := slice bs (10 * (e.1 % cap)) 10
    let ty := match sigAt m (hIdx e.2) with | some r => r.ty | none => 7
    ownerWrite m e.2 (encodeVal ty (w64 v 0)) (BitVec.ofNat 16 (u16 v 8) &&& 0xC03F)) m

/-- A station is dropped (R358). -/
def dropStation (m : Mod) (n : Nat) (st : Station) : Mod :=
  let m := st.ins.foldl staleSig m
  let m := setStation m n { st with joined := false, assigned := false, cycleAt := none, got := [], missed := 0 }
  let m := netEvent (discovery m 1 (BitVec.ofNat 32 n) false) 0
  reportFault m (faultOf 0x13 1 n 0 5 1)

/-- STATION_INPUT_INSTANT (R357, R358): RESP_US after the cycle instant. -/
def execStationInputInstant (t st : Nat) (s : State) : Host.Outcome State Fault Refusal :=
  s.runOn t (fun m =>
    match tget m.net.stations st with
    | none => m
    | some r =>
      match r.cycleAt with
      | none => m
      | some x =>
        if m.clk < x + us r.respUs then m
        else
          let done := r.got.length == segsOf r.ins.length r.gmac
          if done then
            let r' := { r with cycleAt := none, got := [], missed := 0 }
            joinStation (writeInputs (setStation m st r') r) st r'
          else if r.joined then
            (if r.missed + 1 ≥ r.wdCycles then dropStation m st { r with cycleAt := none }
             else setStation m st { r with cycleAt := none, got := [], missed := r.missed + 1 })
          else setStation m st { r with cycleAt := none, got := [] })

/-! ### Acyclic requests (R359) -/

/-- An acyclic request is sent: the request frame carries an object index and its data (R359). -/
def sendAcyclic (m : Mod) (n : Nat) (st : Station) (q : Req) (read : Bool) (data : List Byte) : Mod :=
  let m := setStation m n { st with acyc := some (q, read, m.clk) }
  if notLead m then m else forward m 0 (stationFrame m st 4 (min 1496 (28 + data.length)))

/-- The next waiting request of a station goes out; one to a station no longer joined is absent. -/
def nextAcyclic (m : Mod) (n fuel : Nat) : Mod :=
  match fuel with
  | 0 => m
  | k + 1 =>
    match tget m.net.stations n with
    | none => m
    | some st =>
      match st.acyc, st.waiting with
      | none, (q, read, _, data) :: rest =>
        if st.joined then sendAcyclic m n { st with waiting := rest } q read data
        else nextAcyclic (post (setStation m n { st with waiting := rest }) q .stationAbsent) n k
      | _, _ => m

/-- The outstanding request of a station ends with a completion, and the next goes out (R359). -/
def endAcyclic (m : Mod) (n : Nat) (st : Station) (q : Req) (code : Status) (r : Res) : Mod :=
  nextAcyclic (post (setStation m n { st with acyc := none }) q code r) n (st.waiting.length + 1)

/-- ACYC_RESP (R359). -/
def execAcycResp (t st : Nat) (refused : Bool) (data : List Byte) (s : State) : Host.Outcome State Fault Refusal :=
  s.runOn t (fun m =>
    match tget m.net.stations st with
    | none => m
    | some r =>
      match r.acyc with
      | none => m
      | some (q, read, _) =>
        if m.pwr.svcStopped then m
        else if refused then endAcyclic m st r q .stationRefused {}
        else if read then
          endAcyclic m st r q .ok { r0 := BitVec.ofNat 32 (min 1024 data.length), data := data.take 1024 }
        else endAcyclic m st r q .ok {})

/-- STATION_TIMEOUT (R359): 100 ms without a response. -/
def execStationTimeout (t st : Nat) (s : State) : Host.Outcome State Fault Refusal :=
  s.runOn t (fun m =>
    match tget m.net.stations st with
    | none => m
    | some r =>
      match r.acyc with
      | some (q, _, x) => if x + ms 100 ≤ m.clk then endAcyclic m st r q .stationTimeout {} else m
      | none => m)

/-- An acyclic request accepted or refused (R359, R360). -/
def acyclic (m : Mod) (q : Req) (n : Nat) (read : Bool) (obj : W32) (data : List Byte) : Mod :=
  if n ≥ 64 || data.length > 1024 then refuse m q .badField
  else
    match tget m.net.stations n with
    | none => refuse m q .stationAbsent
    | some st =>
      if !st.joined then refuse m q .stationAbsent
      else
        let m := startOp m q
        if st.acyc.isSome then setStation m n { st with waiting := st.waiting ++ [(q, read, obj, data)] }
        else sendAcyclic m n st q read data

/-- STATION_READ (R359, R360). -/
def execStationRead (t : Nat) (q : Req) (st : Nat) (obj : W32) (s : State) : Host.Outcome State Fault Refusal :=
  s.runCmd t 0x0284 q (fun m => acyclic m q st true obj [])

/-- STATION_WRITE (R359, R360). -/
def execStationWrite (t : Nat) (q : Req) (st : Nat) (obj : W32) (data : List Byte) (s : State) : Host.Outcome State Fault Refusal :=
  s.runCmd t 0x0285 q (fun m => acyclic m q st false obj data)

/-! ### Records (R354) -/

/-- A station record and its map (R354). -/
def parseStation (b : List Byte) : Station :=
  let hs := (pieces (b.drop 32) 4 (u16 b 16 + u16 b 18)).map (fun e => w32 e 0)
  { gmac := bitOf (u8 b 1) 0, wdCycles := u8 b 2, stationId := w32 b 4, cycleUs := u32 b 8, respUs := u32 b 12,
    ins := hs.take (u16 b 16), outs := hs.drop (u16 b 16), wdMs := u16 b 20, raw := b }

/-- The fields of a station record lie in their ranges (R354). -/
def stationFieldsOk (b : List Byte) (n : Nat) (s : Station) : Bool :=
  32 ≤ b.length && b.length ≥ 32 + 4 * (s.ins.length + s.outs.length) && u8 b 0 == n && n < 64 && u8 b 1 < 2 && 1 ≤ s.wdCycles && zeros b 3 1 &&
    250 ≤ s.cycleUs && s.cycleUs ≤ 100000 && s.cycleUs % 50 == 0 && 50 ≤ s.respUs && s.respUs ≤ s.cycleUs &&
    s.ins.length + s.outs.length ≤ 16384 && 1 ≤ s.wdMs && s.wdMs ≤ 10000 && zeros b 22 10

/-- Why a signal of the map is refused (R45, R48, R50). -/
def stationSigRefusal (m : Mod) (n : Nat) (isIn : Bool) (h : W32) : Option Status :=
  match judgeSig m h with
  | .error e => some e
  | .ok i =>
    match sigAt m i with
    | none => some .staleHandle
    | some r =>
      if !isIn then none
      else if r.isConst then some .constant
      else if !ownable r 5 n then some .ownerConflict
      else none

/-- The station a number has is taken out with its references and ownership (R512), and a request to it completes; `keep` signals the new record owns. -/
def clearStation (m : Mod) (n : Nat) (keep : List Nat) : Mod :=
  match tget m.net.stations n with
  | none => m
  | some st =>
    let m := (st.acyc.toList.map Prod.fst ++ st.waiting.map Prod.fst).foldl (fun m q => post m q .stationAbsent) m
    let m := orphan (dropRefs m (objRefs st.outs st.ins)) 5 n keep
    { m with net := { m.net with stations := tdel m.net.stations n } }

/-- A station load judged, and taken where it is fit (R354): the module with the station, before admission. -/
def loadStation (m : Mod) (n : Nat) (buf : List Byte) : Except Status Mod :=
  let s := parseStation buf
  if !stationFieldsOk buf n s then .error .badField
  else if (match tget m.net.stations n with | some o => o.joined | none => false) then .error .locked
  else
    match s.ins.findSome? (stationSigRefusal m n true) with
    | some e => .error e
    | none =>
      match s.outs.findSome? (stationSigRefusal m n false) with
      | some e => .error e
      | none =>
        if !((s.ins.map hIdx).Nodup) then .error .ownerConflict
        else if refsFull m (s.ins ++ s.outs) then .error .inUse
        else
          let m := clearStation m n (s.ins.map hIdx)
          let m := s.ins.foldl (fun m h => ownSig m h 5 n 1) (addRefs m (objRefs s.outs s.ins))
          .ok (setStation m n s)

/-- STATION_LOAD (R354, R360). -/
def execStationLoad (t : Nat) (q : Req) (st : Nat) (buf : List Byte) (s : State) : Host.Outcome State Fault Refusal :=
  s.runCmd t 0x0280 q (fun m =>
    match loadHeld m with
    | some e => refuse m q e
    | none =>
      match loadStation m st buf with
      | .error e => refuse m q e
      | .ok m' =>
        match admitTest m' with
        | some (test, obj) => refuse (noteRefused m test obj 0) q .notAdmitted
        | none => post (storeAdd (settleAdmission m') 12 st 0 buf) q .ok)

/-- STATION_DELETE (R360). -/
def execStationDelete (t : Nat) (q : Req) (st : Nat) (s : State) : Host.Outcome State Fault Refusal :=
  s.runCmd t 0x0281 q (fun m =>
    if anyTrial m then refuse m q .trialActive
    else
      match tget m.net.stations st with
      | none => refuse m q .badField
      | some r =>
        if r.joined then refuse m q .locked
        else post (settleAdmission (storeDel (clearStation m st []) 12 st)) q .ok)

end Sys2Proof.Machine
end

