-- ==== Sys2Proof/Machine/Can.lean ====
section
/-! DEFINITION. The CAN FD ports C1 to C8 (R364 to R387). -/

namespace Sys2Proof.Machine

/-! ### Ports and pairs (R377) -/

/-- Port `p`, and the same replaced. -/
def canOf (m : Mod) (p : Nat) : CanPort := (tget m.can.ports p).getD {}
def setCan (m : Mod) (p : Nat) (c : CanPort) : Mod := { m with can := { m.can with ports := tset m.can.ports p c } }
def modCan (m : Mod) (p : Nat) (f : CanPort → CanPort) : Mod := { m with can := { m.can with ports := tmod m.can.ports p f } }

/-- Bit `i` of CAN_EVENTS of a port set. -/
def canEvent (m : Mod) (p i : Nat) : Mod := modCan m p (fun c => { c with events := setBit32 c.events i })

/-- The port whose buffers, filters and map a port uses: the lower-numbered of a pair (R377). -/
def canHome (m : Mod) (p : Nat) : Nat := if (canOf m p).partner = 0 then p else min p (canOf m p).partner

/-- The port that a home port's requests are sent on: itself unless it is bus-off and its partner is not (R376, R377). -/
def canTxPort (m : Mod) (home : Nat) : Nat :=
  let c := canOf m home
  let q := canOf m c.partner
  if c.st == .busOff && c.partner != 0 && (q.st == .errorActive || q.st == .errorPassive) then c.partner else home

/-- TX_ON_PARTNER of both ports of a pair follows the choice (R376). -/
def settleTx (m : Mod) (p : Nat) : Mod :=
  let h := canHome m p
  let on := canTxPort m h != h
  modCan (modCan m h (fun c => { c with txOnPartner := on })) (canOf m h).partner (fun c => { c with txOnPartner := on })

/-- The port may drive the bus (R374, R384): NORMAL or LOOPBACK, in a triad on the LEAD alone, and not after the F3
reaction (R398). -/
def canDrives (m : Mod) (c : CanPort) : Bool := (c.mode == 1 || c.mode == 3) && c.st != .off && !notLead m && !m.flt.f3

/-- The bytes a data length code stands for. -/
def dlcLen (fdf : Bool) (dlc : Nat) : Nat :=
  if dlc ≤ 8 then dlc
  else if !fdf then 8
  else match dlc with
    | 9 => 12 | 10 => 16 | 11 => 20 | 12 => 24 | 13 => 32 | 14 => 48 | _ => 64

/-! ### Signal mapping (R381 to R383) -/

/-- A field of data: `n` bits from bit `o`, least significant first. -/
def bitsAt (data : List Byte) (o n : Nat) : Nat := leNat data / 2 ^ o % 2 ^ n

/-- Data with `n` bits from bit `o` replaced. -/
def putBits (data : List Byte) (o n v : Nat) : List Byte :=
  let x := leNat data
  leBytes data.length (x - (x / 2 ^ o % 2 ^ n) * 2 ^ o + (v % 2 ^ n) * 2 ^ o)

/-- An exact value: an integer times a power of two. -/
structure Dyad where
  n : Int
  x : Int
deriving DecidableEq, Repr

/-- A finite REAL32 or REAL64, exactly. -/
def dyadOf (f : Fmt) (a : Nat) : Dyad := { n := fInt f a (fExp f a), x := fExp f a }
def Dyad.mul (a b : Dyad) : Dyad := { n := a.n * b.n, x := a.x + b.x }
/-- The integer of an exact value at an exponent no greater than its own. -/
def Dyad.at_ (a : Dyad) (x : Int) : Int := a.n * 2 ^ (a.x - x).toNat
def Dyad.add (a b : Dyad) : Dyad :=
  let x := min a.x b.x
  { n := a.at_ x + b.at_ x, x := x }
def Dyad.sub (a b : Dyad) : Dyad := a.add { b with n := -b.n }

/-- An integer quotient to the nearest, ties to even. -/
def divRneI (n : Int) (d : Nat) : Int := if n < 0 then -(divRne n.natAbs d : Int) else divRne n.natAbs d

/-- An exact value as the nearest integer, ties to even. -/
def Dyad.toInt (a : Dyad) : Int := if 0 ≤ a.x then a.n * 2 ^ a.x.toNat else divRneI a.n (2 ^ (-a.x).toNat)

/-- An exact value converted to a signal's type by R99; to BITS64 the low bits of the nearest integer (log 90). -/
def dyadTo (ty : Nat) (a : Dyad) (q : Qual) : VQ :=
  if ty = 0 then boolVQ (a.n != 0) q
  else if ty = 7 then { v := BitVec.ofInt 64 a.toInt, q := q }
  else if tyReal ty then realVQ ty (roundI (tyFmt ty) a.n a.x false) q
  else satVal ty a.toInt q

/-- What a receive entry writes from a field (R382): field × SCALE + OFFSET, exactly where all are finite (log 90). -/
def canDecode (e : CanMap) (ty raw : Nat) (q : Qual) : VQ :=
  let fieldF : F64 := if e.format = 2 then widen (BitVec.ofNat 32 raw) else 0
  let num : Int := if e.format = 1 && 2 ^ (e.length - 1) ≤ raw then (raw : Int) - 2 ^ e.length else raw
  if finite32 e.scale && finite32 e.offset && (e.format != 2 || finite32 (BitVec.ofNat 32 raw)) then
    let f : Dyad := if e.format = 2 then dyadOf r32 raw else { n := num, x := 0 }
    dyadTo ty ((f.mul (dyadOf r32 e.scale.toNat)).add (dyadOf r32 e.offset.toNat)) q
  else
    let x := if e.format = 2 then fieldF else ofInt64 num
    let r := realVQ 5 (add64 (mul64 x (widen e.scale)) (widen e.offset)).toNat q
    if ty = 7 then { v := 0, q := r.q } else convert 5 ty r

/-- A signal's value as an exact value, or as REAL64 where it is not finite. -/
def exactOf (ty : Nat) (v : Val) : Except F64 Dyad :=
  if ty = 4 then (if finite32 (valReal v) then .ok (dyadOf r32 (valReal v).toNat) else .error (widen (valReal v)))
  else if ty = 5 then (if fFinite r64 v.toNat then .ok (dyadOf r64 v.toNat) else .error v)
  else if ty = 7 then .ok { n := v.toNat, x := 0 }
  else .ok { n := asInt ty v, x := 0 }

/-- The least and the greatest integer of a field. -/
def fieldMin (e : CanMap) : Int := if e.format = 1 then -(2 ^ (e.length - 1)) else 0
def fieldMax (e : CanMap) : Int := if e.format = 1 then 2 ^ (e.length - 1) - 1 else 2 ^ e.length - 1

/-- The field a transmit entry carries (R383): (value − OFFSET) ÷ SCALE, to the nearest integer with ties to even and
saturated, or as REAL32; where a NaN comes out as an integer, a free value. -/
def canEncode (e : CanMap) (ty : Nat) (v : Val) (free : Nat) : Nat :=
  let sat : Int → Nat := fun n => (BitVec.ofInt 64 (max (fieldMin e) (min (fieldMax e) n))).toNat % 2 ^ e.length
  match exactOf ty v with
  | .ok d =>
    if finite32 e.scale && finite32 e.offset then
      let a := d.sub (dyadOf r32 e.offset.toNat)
      let s := dyadOf r32 e.scale.toNat
      let neg := decide (a.n < 0) != decide (s.n < 0)
      if e.format = 2 then roundQ r32 neg a.n.natAbs s.n.natAbs (a.x - s.x)
      else
        let p := scaleQ a.n.natAbs s.n.natAbs (a.x - s.x)
        sat (if neg then -(divRne p.1 p.2 : Int) else divRne p.1 p.2)
    else (Config.fresh32 free).toNat % 2 ^ e.length
  | .error x =>
    let r := div64 (sub64 x (widen e.offset)) (widen e.scale)
    if e.format = 2 then (narrow r).toNat
    else if isNan64 r then (Config.fresh32 free).toNat % 2 ^ e.length
    else if fIsInf r64 r.toNat then sat (if fNeg r64 r.toNat then fieldMin e else fieldMax e)
    else sat (fToInt r64 r.toNat)

/-- A transmit buffer's content with its mapped signals encoded (R383). -/
def encodeBuf (m : Mod) (c : CanPort) (b : Nat) (data : List Byte) : List Byte :=
  (c.maps.filter (fun e => e.buffer == b)).foldl (fun d e =>
    let v := viewOf m e.signal
    let ty := match sigAt m (hIdx e.signal) with | some r => r.ty | none => 7
    let d := putBits d e.startBit e.length (canEncode e ty v.val m.free)
    if e.validBit = 0xFFFF then d else putBits d e.validBit 1 (b2n (isGood v.qual))) data

/-- The receive entries of a buffer write their signals (R382). -/
def mapStore (m : Mod) (home b : Nat) (data : List Byte) (time : W32) (wrap : BitVec 16) : Mod :=
  let c := canOf m home
  let m := setCan m home { c with maps := c.maps.map (fun e => if e.buffer == b then { e with last := m.clk } else e) }
  (c.maps.filter (fun e => e.buffer == b)).foldl (fun m e =>
    if e.startBit + e.length > 8 * data.length then m
    else
      let ty := match sigAt m (hIdx e.signal) with | some r => r.ty | none => 7
      let good := e.validBit == 0xFFFF || (e.validBit < 8 * data.length && bitsAt data e.validBit 1 == 1)
      let x := canDecode e ty (bitsAt data e.startBit e.length) (if good then 0xC000 else 0)
      ownerWriteAt m e.signal x.v (if good then x.q else 0) time wrap) m

/-! ### Reception (R370 to R372, R380) -/

/-- A buffer takes a frame by its identifier and format (R370). -/
def bufTakes (b : CanBuf) (f : CanFrame) : Bool :=
  b.dir == 1 && b.ext == f.ext && (BitVec.ofNat 29 b.id &&& BitVec.ofNat 29 b.arg) == (BitVec.ofNat 29 f.id &&& BitVec.ofNat 29 b.arg)

/-- A FIFO filter entry takes a frame (R369, R370). -/
def filterTakes (e : W32 × W32) (f : CanFrame) : Bool :=
  !(e.1 == 0 && e.2 == 0) && bitOf e.1.toNat 29 == f.ext &&
    (BitVec.ofNat 29 e.1.toNat &&& BitVec.ofNat 29 e.2.toNat) == (BitVec.ofNat 29 f.id &&& BitVec.ofNat 29 e.2.toNat)

/-- A store into a receive buffer (R371); the signal mapping, where the buffer has entries, reads the frame (R382). -/
def storeBuf (m : Mod) (home n : Nat) (b : CanBuf) (f : CanFrame) : Mod :=
  let c := canOf m home
  let mapped := c.maps.any (fun e => e.buffer == n)
  let overrun := b.newData
  let b := { b with frame := some f, stampTime := time32 m, stampWrap := wrap16 m, stores := b.stores + 1,
                    newData := !mapped, overrun := b.overrun || overrun }
  let m := setCan m home { c with bufs := tset c.bufs n b, events := orBit c.events overrun 3 }
  mapStore m home n (f.data.take (dlcLen f.fdf f.dlc)) (time32 m) (wrap16 m)

/-- A frame into a FIFO of 32 frames (R372). -/
def storeFifo (m : Mod) (home k : Nat) (f : CanFrame) : Mod :=
  let c := canOf m home
  let q := if k = 0 then c.fifo0 else c.fifo1
  let new : CanStored := { frame := f, time := time32 m, wrap := wrap16 m }
  let full := 32 ≤ q.length
  let q' := if !full then q ++ [new] else if bitOf c.fifoMode k then q.drop 1 ++ [new] else q
  let c := { c with events := orBit c.events full 4 }
  let inc : Nat → Nat := fun n => if full then min 0xFFFF (n + 1) else n
  setCan m home (if k = 0 then { c with fifo0 := q', lost0 := inc c.lost0 } else { c with fifo1 := q', lost1 := inc c.lost1 })

/-- A frame is stored in the first of what matches (R370). -/
def storeFrame (m : Mod) (home : Nat) (f : CanFrame) : Mod :=
  let c := canOf m home
  match c.bufs.find? (fun e => bufTakes e.2 f) with
  | some (n, b) => storeBuf m home n b f
  | none =>
    match c.filters.find? (fun e => filterTakes e f) with
    | some e => storeFifo m home (b2n (bitOf e.2.toNat 31)) f
    | none => m

/-- A heartbeat (R380); the service pairs observe it (R15). -/
def heartbeat (m : Mod) (p : Nat) (f : CanFrame) : Mod :=
  let c := canOf m p
  if c.hbTimeoutMs = 0 || m.pwr.svcStopped || f.ext != c.hbExt || f.id ≤ c.hbBase || f.id > c.hbBase + 127 then m
  else
    let n := f.id - c.hbBase
    let known := (tget c.nodes n).isSome
    let m := setCan m p { c with nodes := tset c.nodes n m.clk }
    if known then m else canEvent (discovery m 3 (BitVec.ofNat 32 (256 * p + n)) true) p 7

/-- The state of a port by its counters (R375). -/
def canState (c : CanPort) : CanPort :=
  if c.st == .off || c.st == .busOff then c
  else { c with st := if c.tec ≥ 128 || c.rxc ≥ 128 then .errorPassive else .errorActive }

/-- A frame has come from another node: NO_PARTNER clears (R378), and the receive counter falls (R375). -/
def heardNode (m : Mod) (p : Nat) : Mod :=
  modCan m p (fun c => canState { c with noPartner := false, singleShot := false, ackErrors := 0, rxc := c.rxc - 1 })

/-- CAN_FRAME_RECEIVE (R370, R377, R380): `t` is the frame's start-of-frame sample point (R365, log 91). -/
def execCanFrameReceive (t port : Nat) (f : CanFrame) (s : State) : Host.Outcome State Fault Refusal :=
  s.runOn t (fun m =>
    let c := canOf m port
    if c.mode = 0 || c.st == .off || c.st == .busOff then m
    else
      let home := canHome m port
      heartbeat (storeFrame (heardNode m port) home { f with partner := f.partner || port != home }) home f)

/-- HEARTBEAT_TIMEOUT (R380). -/
def execHeartbeatTimeout (t port node : Nat) (s : State) : Host.Outcome State Fault Refusal :=
  s.runOn t (fun m =>
    let c := canOf m port
    match tget c.nodes node with
    | some x =>
      if c.hbTimeoutMs != 0 && !m.pwr.svcStopped && x + ms c.hbTimeoutMs ≤ m.clk then
        canEvent (discovery (setCan m port { c with nodes := tdel c.nodes node }) 3 (BitVec.ofNat 32 (256 * port + node)) false) port 7
      else m
    | none => m)

/-- CAN_MAP_TIMEOUT (R382): a receive entry without a store for TIMEOUT_MS. -/
def execCanMapTimeout (t port entry : Nat) (s : State) : Host.Outcome State Fault Refusal :=
  s.runOn t (fun m =>
    match (canOf m port).maps[entry]? with
    | some e => if e.timeoutMs != 0 && e.last + ms e.timeoutMs ≤ m.clk then staleSig m e.signal else m
    | none => m)

/-! ### Requests (R373, R374, R379) -/

/-- A transmit buffer requests transmission with a content; the buffer and whether it replaced a pending request. -/
def requestTx (m : Mod) (p b : Nat) (data : List Byte) : Mod × Bool :=
  let c := canOf m p
  match tget c.bufs b with
  | none => (m, false)
  | some x => (setCan m.tick p { c with bufs := tset c.bufs b { x with content := encodeBuf m c b data, pending := true } }, x.pending)

/-- Why a CAN_SEND is refused (R373, R374, R385, R386). -/
def canSendRefusal (m : Mod) (p b : Nat) (data : List Byte) : Option Status :=
  let c := canOf m p
  if p < 1 || p > 8 || b > 63 then some .badField
  else if c.mode = 0 then some .canPortOff
  else if c.mode = 2 then some .canListenOnly
  else
    match tget c.bufs b with
    | none => some .canBufferDir
    | some x =>
      if x.dir != 2 then some .canBufferDir
      else if data.length != (if x.remote then 0 else dlcLen x.fdf x.dlc) then some .badField
      else none

/-- CAN_SEND (R373, R376): to a blocked buffer of a port without a working partner it completes with CAN_BLOCKED. -/
def execCanSend (t : Nat) (q : Req) (port b : Nat) (data : List Byte) (s : State) : Host.Outcome State Fault Refusal :=
  s.runCmd t 0x0301 q (fun m =>
    match canSendRefusal m port b data with
    | some e => refuse m q e
    | none =>
      let held : Bool := match tget (canOf m port).bufs b with
        | some x => x.blocked && canTxPort m port == port
        | none => false
      let r := requestTx m port b data
      post r.1 q (if held then .canBlocked else .ok) { r0 := BitVec.ofNat 32 (b2n r.2) })

/-- CAN_PERIOD_REQUEST (R373, R374): at a period instant of a transmit buffer. -/
def execCanPeriodRequest (t port b : Nat) (s : State) : Host.Outcome State Fault Refusal :=
  s.runOn t (fun m =>
    let c := canOf m port
    match tget c.bufs b with
    | some x =>
      if canDrives m c && x.dir == 2 && x.arg != 0 && onInstant m x.arg 0 && !(c.timeMaster && b == 0) then (requestTx m port b x.content).1
      else m
    | none => m)

/-- REFERENCE_CYCLE_START (R379): a message still pending is withdrawn; its cycle's count is consumed. -/
def execReferenceCycleStart (t port : Nat) (s : State) : Host.Outcome State Fault Refusal :=
  s.runOn t (fun m =>
    let c := canOf m port
    match tget c.bufs 0 with
    | some x =>
      if canDrives m c && c.timeMaster && onInstant m c.refCycleUs 0 then
        let n := c.refCount + 1
        let data := bytes32 c.refTime ++ bytes16 c.refWrap.toNat ++ [n, if m.tim.traceable then 1 else 0]
        setCan m port { c with refCount := n, events := orBit c.events x.pending 5
                               bufs := tset c.bufs 0 { x with content := data, pending := true } }
      else m
    | none => m)

/-! ### Transmission (R368, R375 to R378) -/

/-- Entry to bus-off (R375, R376): pending buffers are blocked, and transmission moves to a partner that is not
bus-off. -/
def enterBusOff (m : Mod) (p : Nat) : Mod :=
  let home := canHome m p
  let m := modCan m p (fun c => { c with st := .busOff, busOffAt := m.clk, recovering := false, events := setBit32 c.events 0 })
  let m := modCan m home (fun c => { c with bufs := tmap c.bufs (fun _ x => if x.dir == 2 && x.pending then { x with blocked := true } else x) })
  reportFault (settleTx m p) (faultOf 0x15 1 p 0x0A00 0 2)

/-- The transmit error counter rises by 8 (R375). -/
def txError (m : Mod) (p : Nat) (rise : Bool) : Mod :=
  let m := modCan m p (fun c => canState { c with tec := if rise then c.tec + 8 else c.tec })
  if (canOf m p).tec > 255 && (canOf m p).st != .busOff then enterBusOff m p else m

/-- The identifier and format a buffer is sent with (R379). -/
def bufFrame (c : CanPort) (b : Nat) (x : CanBuf) : CanFrame :=
  if c.timeMaster && b == 0 then { id := c.refId, ext := c.refExt, fdf := false, brs := false, remote := false, esi := false, dlc := 8, data := x.content, partner := false }
  else { id := x.id, ext := x.ext, fdf := x.fdf, brs := x.brs, remote := x.remote, esi := c.st == .errorPassive && x.fdf, dlc := x.dlc,
         data := x.content, partner := false }

/-- A frame sent without error (R373, R375, R378, R379): its request is satisfied. -/
def txSent (m : Mod) (p home b : Nat) (x : CanBuf) : Mod :=
  let c := canOf m home
  let ref := c.timeMaster && b == 0
  let m := setCan m home { c with
    bufs := tset c.bufs b { x with pending := false, blocked := false, noAck := false }
    refTime := if ref then time32 m else c.refTime
    refWrap := if ref then wrap16 m else c.refWrap }
  let m := modCan m p (fun c => canState { c with tec := c.tec - 1, noPartner := false, singleShot := false, ackErrors := 0 })
  if c.mode = 3 then storeFrame m home (bufFrame c b x) else m

/-- The measured delay fails its check (R368). -/
def tdcFails (c : CanPort) (d : Option Nat) : Bool :=
  match d with
  | some d => c.tdcEn && (d < c.tdcf || d + c.tdco > 127)
  | none => false

/-- An attempt that ended in an error other than an acknowledge error. -/
def txFailed (m : Mod) (p : Nat) (tdc : Bool) : Mod :=
  let m := if tdc then canEvent m p 6 else m
  txError (modCan m p (fun c => { c with ackErrors := 0 })) p true

/-- An attempt that ended in an acknowledge error (R375, R378). -/
def txNoAck (m : Mod) (p home b : Nat) (x : CanBuf) (dominant : Bool) : Mod :=
  let c := canOf m p
  let m := if c.singleShot then
      modCan m home (fun h => { h with bufs := tset h.bufs b { x with pending := false, blocked := false, noAck := true } })
    else m
  txError (modCan m p (fun c => { c with ackErrors := c.ackErrors + 1 })) p (c.st != .errorPassive || dominant)

/-- CAN_TX_END (R368, R375, R378): the attempt of a pending buffer on the port that transmits; `t` is its
start-of-frame sample point. -/
def execCanTxEnd (t port b : Nat) (r : CanTxResult) (s : State) : Host.Outcome State Fault Refusal :=
  s.runOn t (fun m =>
    let home := canHome m port
    let c := canOf m port
    match tget (canOf m home).bufs b with
    | some x =>
      if canDrives m c && c.st != .busOff && x.dir == 2 && x.pending && canTxPort m home == port then
        match r with
        | .sent d =>
          let m := modCan m port (fun c => { c with tdcv := d.getD c.tdcv })
          if tdcFails c d then txFailed m port true else txSent m port home b x
        | .error d => txFailed (modCan m port (fun c => { c with tdcv := d.getD c.tdcv })) port (tdcFails c d)
        | .ackError dominant => txNoAck m port home b x dominant
      else m
    | none => m)

/-- NO_PARTNER (R378): 16 attempts in a row ended in acknowledge errors. -/
def execCanNoPartner (t port : Nat) (s : State) : Host.Outcome State Fault Refusal :=
  s.runOn t (fun m =>
    let c := canOf m port
    if 16 ≤ c.ackErrors && !c.noPartner && c.st != .off then
      let m := setCan m port { c with noPartner := true, singleShot := c.loneSingleShot, events := setBit32 c.events 2 }
      reportFault m (faultOf 0x15 0 port 0x0A00 0 2)
    else m)

/-- RECOVER_DELAY_EXPIRY (R376): recovery begins without a command where AUTO_RECOVER is set. -/
def execRecoverDelayExpiry (t port : Nat) (s : State) : Host.Outcome State Fault Refusal :=
  s.runOn t (fun m =>
    let c := canOf m port
    if c.st == .busOff && c.autoRecover && c.busOffAt + ms c.recoverDelayMs ≤ m.clk then setCan m port { c with recovering := true } else m)

/-- CAN_RECOVER (R376): nothing changes on a port that is not bus-off. -/
def execCanRecover (t : Nat) (q : Req) (port : Nat) (s : State) : Host.Outcome State Fault Refusal :=
  s.runCmd t 0x0303 q (fun m =>
    if port < 1 || port > 8 then refuse m q .badField
    else post (modCan m port (fun c => if c.st == .busOff then { c with recovering := true } else c)) q .ok)

/-- RECOVERED (R375, R376): the counters are zero again, the blocked marks clear and transmission returns. -/
def execCanRecovered (t port : Nat) (s : State) : Host.Outcome State Fault Refusal :=
  s.runOn t (fun m =>
    let c := canOf m port
    if c.st == .busOff && c.recovering then
      let m := setCan m port { c with st := .errorActive, tec := 0, rxc := 0, recovering := false, events := setBit32 c.events 1 }
      let m := modCan m (canHome m port) (fun h => { h with bufs := tmap h.bufs (fun _ x => { x with blocked := false }) })
      settleTx m port
    else m)

/-! ### Reads (R371, R372, R385) -/

/-- The frame record of R385. -/
def canRecord (f : CanFrame) (newData overrun : Bool) (stores : Nat) (time : W32) (wrap : BitVec 16) : List Byte :=
  leBytes 4 f.id ++ leBytes 1 (b2n f.ext + 2 * b2n f.fdf + 4 * b2n f.brs + 8 * b2n f.remote + 16 * b2n f.esi + 32 * b2n newData +
    64 * b2n overrun + 128 * b2n f.partner) ++ leBytes 1 f.dlc ++ bytes16 stores ++ bytes32 time ++ bytes16 wrap.toNat ++ [0, 0] ++
    slice (f.data.take (if f.remote then 0 else dlcLen f.fdf f.dlc)) 0 64

/-- A read of a FIFO removes its oldest frame (R372). -/
def readFifo (m : Mod) (q : Req) (p k : Nat) : Mod :=
  let c := canOf m p
  match (if k = 0 then c.fifo0 else c.fifo1) with
  | [] => refuse m q .canEmpty
  | x :: rest =>
    post (setCan m p (if k = 0 then { c with fifo0 := rest } else { c with fifo1 := rest })) q .ok
      { data := canRecord x.frame false false 0 x.time x.wrap }

/-- A read of a buffer under the rule of R371: `racing` stores meet its copies; a transmit buffer whose last request was
dropped unacknowledged reports NO_ACK (R378, log 92). -/
def readBuf (m : Mod) (q : Req) (p b racing : Nat) : Mod :=
  let c := canOf m p
  match tget c.bufs b with
  | none => refuse m q .canBufferDir
  | some x =>
    if x.dir = 2 && x.noAck then refuse m q .noAck
    else if x.dir != 1 then refuse m q .canBufferDir
    else
      match x.frame with
      | none => refuse m q .canEmpty
      | some f =>
        if 4 ≤ racing then refuse m q .busy
        else
          post (setCan m p { c with bufs := tset c.bufs b { x with newData := false, overrun := false } }) q .ok
            { data := canRecord f x.newData x.overrun x.stores.toNat x.stampTime x.stampWrap }

/-- CAN_READ (R371, R372, R385). -/
def execCanRead (t : Nat) (q : Req) (port b racing : Nat) (s : State) : Host.Outcome State Fault Refusal :=
  s.runOp t 0x0302 q (fun m =>
    if port < 1 || port > 8 || b > 65 then refuse m q .badField
    else if (canOf m port).mode = 0 then refuse m q .canPortOff
    else if b ≥ 64 then readFifo m q port (b - 64)
    else readBuf m q port b racing)

/-! ### Port records (R366 to R369, R381) -/

/-- A buffer entry (R369). -/
def parseCanBuf (b : List Byte) : CanBuf :=
  { dir := u8 b 0, ext := bitOf (u8 b 1) 0, fdf := bitOf (u8 b 1) 1, brs := bitOf (u8 b 1) 2, remote := bitOf (u8 b 1) 3,
    dlc := u8 b 2, id := u32 b 4, arg := u32 b 8,
    content := List.replicate (if bitOf (u8 b 1) 3 then 0 else dlcLen (bitOf (u8 b 1) 1) (u8 b 2)) 0 }

/-- A map entry (R381). -/
def parseCanMap (b : List Byte) (clk : Nat) : CanMap :=
  { signal := w32 b 0, buffer := u8 b 4, format := u8 b 5, startBit := u16 b 6, length := u8 b 8, validBit := u16 b 10,
    timeoutMs := u16 b 12, scale := w32 b 16, offset := w32 b 20, last := clk }

/-- The pieces of a port's load: 64 buffers, 32 filters and the map (R366). -/
def canBufBytes (b : List Byte) : List (List Byte) := pieces (b.drop 64) 16 64
def canFilterBytes (b : List Byte) : List (List Byte) := pieces (b.drop 1088) 8 32
def canMapBytes (b : List Byte) : List (List Byte) := pieces (b.drop 1344) 24 (u16 b 32)

/-- A port record with its entries (R366). -/
def parseCan (b : List Byte) (clk : Nat) : CanPort :=
  let fl := u8 b 2
  { mode := u8 b 1, fdEn := bitOf fl 0, brsEn := bitOf fl 1, tdcEn := bitOf fl 2, autoRecover := bitOf fl 3, loneSingleShot := bitOf fl 4,
    term := bitOf fl 5, timeMaster := bitOf fl 6, partner := u8 b 3,
    timing := [u16 b 4, u16 b 6, u8 b 8, u8 b 9, u8 b 10, u8 b 11, u8 b 12, u8 b 13], tdco := u8 b 14, tdcf := u8 b 15,
    refId := u32 b 16 % 2 ^ 29, refExt := bitOf (u32 b 16) 29, refCycleUs := u32 b 20, hbBase := u32 b 24 % 2 ^ 29,
    hbExt := bitOf (u32 b 24) 29, hbTimeoutMs := u16 b 28, recoverDelayMs := u8 b 30, fifoMode := u8 b 31,
    bufs := ((canBufBytes b).map parseCanBuf).mapIdx (fun i x => (i, x))
    filters := (canFilterBytes b).map (fun e => (w32 e 0, w32 e 4))
    maps := (canMapBytes b).map (fun e => parseCanMap e clk), raw := b,
    st := if u8 b 1 = 0 then .off else .errorActive }

/-- The fields of a port record lie in their ranges and go together (R366, R367). -/
def canFieldsOk (b : List Byte) (p : Nat) : Bool :=
  let nb := u16 b 4
  let n := 1 + u16 b 6 + u8 b 8
  let db := u8 b 10
  let d := 1 + u8 b 11 + u8 b 12
  let fl := u8 b 2
  1344 ≤ b.length && b.length ≥ 1344 + 24 * u16 b 32 && 1 ≤ p && p ≤ 8 && u8 b 0 == p && u8 b 1 ≤ 3 && fl < 128 && u8 b 3 ≤ 8 && u8 b 3 != p &&
    1 ≤ nb && nb ≤ 32 && 2 ≤ u16 b 6 && u16 b 6 ≤ 256 && 1 ≤ u8 b 8 && u8 b 8 ≤ 128 && 1 ≤ u8 b 9 && u8 b 9 ≤ u8 b 8 &&
    1 ≤ db && db ≤ 32 && 1 ≤ u8 b 11 && u8 b 11 ≤ 32 && 1 ≤ u8 b 12 && u8 b 12 ≤ 16 && 1 ≤ u8 b 13 && u8 b 13 ≤ u8 b 12 &&
    u8 b 14 ≤ 127 && u8 b 15 ≤ 127 && u32 b 16 < 2 ^ 30 && 1000 ≤ u32 b 20 && u32 b 20 ≤ 1000000 && u32 b 20 % 100 == 0 &&
    u32 b 24 < 2 ^ 30 && (u16 b 28 == 0 || (100 ≤ u16 b 28 && u16 b 28 ≤ 60000)) && u8 b 31 < 4 && u16 b 32 ≤ 256 && zeros b 34 30 &&
    80 ≤ nb * n && 10 ≤ db * d && db * d ≤ nb * n && (!bitOf fl 1 || bitOf fl 0) && (40 ≤ db * d || bitOf fl 2) &&
    !(bitOf fl 6 && u8 b 1 == 2)

/-- A buffer entry, a filter entry and a map entry lie in their ranges (R369, R381). -/
def canBufOk (b : List Byte) : Bool :=
  u8 b 0 ≤ 2 && u8 b 1 < 16 && u8 b 2 ≤ 15 && zeros b 3 1 && u32 b 4 < 2 ^ 29 && zeros b 12 4 &&
    (u8 b 0 != 1 || u32 b 8 < 2 ^ 29) &&
    (u8 b 0 != 2 || u32 b 8 == 0 || (100 ≤ u32 b 8 && u32 b 8 ≤ 10000000 && u32 b 8 % 100 == 0))
def canFilterOk (b : List Byte) : Bool := u32 b 0 < 2 ^ 30 && u32 b 4 % 2 ^ 31 < 2 ^ 29
def canMapOk (c : CanPort) (b : List Byte) : Bool :=
  let e := parseCanMap b 0
  let dir := ((tget c.bufs e.buffer).map CanBuf.dir).getD 0
  e.buffer < 64 && dir != 0 && e.format ≤ 3 && 1 ≤ e.length && e.length ≤ 64 && e.startBit ≤ 511 && e.startBit + e.length ≤ 512 &&
    (e.format != 2 || e.length == 32) && (e.format != 3 || e.length == 1) && zeros b 9 1 && (e.validBit ≤ 511 || e.validBit == 0xFFFF) &&
    (if dir = 1 then 10 ≤ e.timeoutMs && e.timeoutMs ≤ 60000 else e.timeoutMs == 0) && zeros b 14 2 && e.scale.toNat % 2 ^ 31 != 0

/-- The pair rules of R367 and R377: a partner that has a record names this port and agrees with it; the higher-numbered
port of a pair has no entries. -/
def canPairOk (m : Mod) (p : Nat) (c : CanPort) : Bool :=
  c.partner == 0 ||
    ((match tget m.can.ports c.partner with
      | none => true
      | some o => o.partner == p && o.timing == c.timing && o.tdco == c.tdco && o.tdcf == c.tdcf && o.fdEn == c.fdEn && o.brsEn == c.brsEn && o.mode == c.mode) &&
     (p < c.partner || (c.bufs.all (fun e => e.2.dir == 0) && c.filters.all (fun e => e.1 == 0 && e.2 == 0) && c.maps.isEmpty)))

/-- A map entry receives. -/
def canReceives (c : CanPort) (e : CanMap) : Bool := ((tget c.bufs e.buffer).map CanBuf.dir).getD 0 == 1

/-- Why a map entry's signal is refused (R48, R367, R382). -/
def canSigRefusal (m : Mod) (p : Nat) (c : CanPort) (e : CanMap) : Option Status :=
  match judgeSig m e.signal with
  | .error st => some st
  | .ok i =>
    match sigAt m i with
    | none => some .staleHandle
    | some r =>
      if !canReceives c e then none
      else if r.isConst then some .constant
      else if !(r.ownKind == 0 || (r.ownKind == 11 && r.ownId / 256 == p)) then some .ownerConflict
      else none

/-- The present map of a port is taken out: references end and receive signals go ownerless, those of `keep` aside. -/
def clearCan (m : Mod) (p : Nat) (keep : List Nat) : Mod :=
  let c := canOf m p
  let m := dropRefs m ((c.maps.filter (fun e => !canReceives c e)).map CanMap.signal)
  let m := (List.range c.maps.length).foldl (fun m i => orphan m 11 (256 * p + i) keep) m
  { m with sig := { m.sig with sigs := tmap m.sig.sigs (fun _ r =>
      if r.ownKind = 11 && r.ownId / 256 = p then { r with ownKind := 0, ownId := 0, ownClass := 0, refs := r.refs - 1 } else r) } }

/-- A CAN port load judged, and taken where it is fit (R367). -/
def loadCan (m : Mod) (p : Nat) (b : List Byte) : Except Status Mod :=
  let c := parseCan b m.clk
  if !canFieldsOk b p then .error .badField
  else if !((canBufBytes b).all canBufOk && (canFilterBytes b).all canFilterOk && (canMapBytes b).all (canMapOk c)) then .error .badField
  else if c.timeMaster && ((tget c.bufs 0).map CanBuf.dir).getD 0 != 2 then .error .badField
  else if !canPairOk m p c then .error .badField
  else if (canOf m p).mode != 0 && c.mode != 0 then .error .locked
  else
    match c.maps.findSome? (canSigRefusal m p c) with
    | some e => .error e
    | none =>
      let rx := (c.maps.mapIdx (fun i e => (i, e))).filter (fun x => canReceives c x.2)
      if !((rx.map (fun x => hIdx x.2.signal)).Nodup) then .error .ownerConflict
      else if refsFull m (c.maps.map CanMap.signal) then .error .inUse
      else
        let m := clearCan m p (rx.map (fun x => hIdx x.2.signal))
        let m := addRefs m ((c.maps.filter (fun e => !canReceives c e)).map CanMap.signal)
        let m := rx.foldl (fun m x => ownSig m x.2.signal 11 (256 * p + x.1) 2) m
        .ok (settleTx (setCan m p { c with events := (canOf m p).events }) p)

/-- CAN_PORT_LOAD (R366, R367, R439). -/
def execCanPortLoad (t : Nat) (q : Req) (port : Nat) (buf : List Byte) (s : State) : Host.Outcome State Fault Refusal :=
  s.runCmd t 0x0300 q (fun m =>
    if anyTrial m then refuse m q .trialActive
    else
      match loadCan m port buf with
      | .error e => refuse m q e
      | .ok m => post (storeAdd m 14 port 0 buf) q .ok)

end Sys2Proof.Machine
end

