-- ==== Sys2Proof/Machine/Recorder.lean ====
section
/-! DEFINITION. The histogram recorder's commands (R404 to R422). -/

namespace Sys2Proof.Machine

/-! ### Samples (R404, R405, R407, R408) -/

/-- The edges of a class for a tier's interval; class 0 is fixed (R405), one never loaded has none. -/
def classAt (m : Mod) (n iv c : Nat) : Option (List F32) :=
  if c = 0 then some ((List.range 15).map (fun i => ratio32 (2 * i + 1) 2))
  else (m.rcr.classes.find? (fun e => e.1 == n && e.2.1 ≤ iv && e.2.2.1 == c)).map (fun e => e.2.2.2.edges)

/-- The bin of a value: the number of edges at or below it (R405); of a class never loaded a free bin (log 93). -/
def binOf (m : Mod) (edges : Option (List F32)) (v : F64) : Nat :=
  match edges with
  | some es => (es.filter (fun e => le64 (widen e) v)).length
  | none => (Config.fresh32 m.free).toNat % 16

/-- A new accumulator for an interval (R407). -/
def newAccum (iv : Nat) (h : W32) : Accum := { interval := iv, bins := List.replicate 16 0, handle := h }

/-- A sample in an accumulator (R404, R407): a BAD one enters neither the bins nor the extremes. -/
def addSample (m : Mod) (a : Accum) (edges : Option (List F32)) (v : F64) (q : Qual) (forced stale : Bool) : Accum :=
  let qs := a.qsum ||| (if isBad q then 1 else if isGood q then 0 else 2) ||| (if forced then 4 else 0) ||| (if stale then 8 else 0)
  if isBad q then { a with any := true, qsum := qs }
  else
    let now := nowNs m
    let a := { a with any := true, qsum := qs, bins := lmod a.bins (binOf m edges v) (fun c => min 0xFFFFFFFF (c + 1)) }
    if !a.seen then { a with seen := true, min := v, max := v, minAt := now, maxAt := now }
    else
      let a := if lt64 v a.min then { a with min := v, minAt := now } else a
      if lt64 a.max v then { a with max := v, maxAt := now } else a

/-- The accumulator of a key for the interval of now: one of an earlier interval is closed into a record first (R407). -/
def freshAccum (m : Mod) (n key iv : Nat) (h : W32) : Tier × Accum :=
  let t := tierOf m n
  match tget t.accums key with
  | none => (t, newAccum iv h)
  | some a =>
    if a.interval = iv then (t, a)
    else ({ t with made := t.made ++ [(a.interval, key, closeAccum m n a (a.interval == t.cur && t.part))] }, newAccum iv h)

/-- A sample enters one accumulator of a tier, or is lost to a full queue, which its record notes (R408). -/
def tierSample (m : Mod) (n key cls : Nat) (r : SigRec) (h : W32) (lost : Bool) : Mod :=
  let iv := max (tierOf m n).cur (tierInterval m n)
  let (t, a) := freshAccum m n key iv h
  let x := convert r.ty 5 { v := r.val, q := r.qual }
  let a := if lost then { a with qsum := a.qsum ||| 0x80 } else addSample m a (classAt m n iv cls) x.v x.q r.forced r.stale
  setTier m.tick n { t with accums := tset t.accums key a }

/-- A tier takes a signal's sample: every entry of its list that names the signal, in tier 3 its index (R406). -/
def tierTakes (m : Mod) (n sig : Nat) (r : SigRec) (lost : Bool) : Mod :=
  let t := tierOf m n
  if !t.running then m
  else
    let iv := max t.cur (tierInterval m n)
    let h := sigHandle sig r.gen
    if n = 3 then
      tierSample m 3 sig (((listAt t iv).find? (fun e => e.1 == h)).map Prod.snd |>.getD 0) r h lost
    else
      (((listAt t iv).mapIdx (fun i e => (i, e))).filter (fun x => x.2.1 == h)).foldl (fun m x => tierSample m n x.1 x.2.2 r h lost) m

/-- RECORDER_SAMPLE (R404, R407, R408): the tap's queue holds 65,536 samples and is empty again once the clock has gone
on (log 95). -/
def execRecorderSample (t sig : Nat) (s : State) : Host.Outcome State Fault Refusal :=
  s.runOn t (fun m =>
    match sigAt m sig with
    | none => m
    | some r =>
      if r.ty = 7 || !(m.rcr.tier1.running || m.rcr.tier2.running || m.rcr.tier3.running) then m
      else
        let q := if m.rcr.queuedAt = m.clk then m.rcr.queued else 0
        let lost := q ≥ 65536
        let m := { m with rcr := { m.rcr with queued := if lost then q else q + 1, queuedAt := m.clk } }
        let m := tierTakes (tierTakes (tierTakes m 1 sig r lost) 2 sig r lost) 3 sig r lost
        if lost then
          reportFault { m with rcr := { m.rcr with lost := satInc m.rcr.lost, events := setBit32 m.rcr.events 1 } } (faultOf 0x21 0 0 0x0B00 0 3)
        else m)

/-! ### Closing (R407, R408, R410) -/

/-- ACCUMULATOR_SWEEP (R407): the accumulators of ended intervals are closed into records. -/
def execAccumulatorSweep (t tier : Nat) (s : State) : Host.Outcome State Fault Refusal :=
  s.runOn t (fun m =>
    if tier < 1 || tier > 3 then m
    else
      let x := tierOf m tier
      let old := x.accums.filter (fun e => e.2.interval < tierInterval m tier)
      setTier m tier { x with
        accums := x.accums.filter (fun e => !(e.2.interval < tierInterval m tier))
        made := x.made ++ old.map (fun e => (e.2.interval, e.1, closeAccum m tier e.2 (e.2.interval == x.cur && x.part))) })

/-- The newest closed SEQ of a tier (R410, R422). -/
def seqOf (m : Mod) (n : Nat) : W32 := m.nv.recSeq.getD (n - 1) 0

/-- An interval is closed with the next SEQ; the tier-1 ring overwrites its oldest (R410, R418). -/
def closeInterval (m : Mod) (n : Nat) (i : Interval) : Mod :=
  let t := tierOf m n
  let seq := seqOf m n + 1
  let kept := t.kept ++ [{ i with seq := seq }]
  let kept := if n = 1 && m.rcr.frozen.isNone then keepWithin (tierCap 1) kept else kept
  setTier { m with nv := { m.nv with recSeq := lset m.nv.recSeq (n - 1) seq } } n { t with kept := kept }

/-- INTERVAL_CLOSE (R408): the oldest ended interval of a tier is closed; after the one in progress the next begins,
under the list that then holds. -/
def execIntervalClose (t tier : Nat) (s : State) : Host.Outcome State Fault Refusal :=
  s.runOn t (fun m =>
    if tier < 1 || tier > 3 || m.pwr.st == .fail then m
    else
      let x := tierOf m tier
      match x.ended with
      | i :: rest => closeInterval (setTier m tier { x with ended := rest }) tier i
      | [] =>
        if x.running && (x.cur + 1) * tierNs tier ≤ nowNs m then
          let i := endedInterval m x tier x.cur x.part
          let x := { x with cur := x.cur + 1, part := false, trace := m.tim.traceable
                            accums := x.accums.filter (fun e => x.cur < e.2.interval)
                            made := x.made.filter (fun e => x.cur < e.1)
                            lists := x.lists.filter (fun l => x.cur + 1 < l.1) ++ (x.lists.find? (fun l => l.1 ≤ x.cur + 1)).toList }
          closeInterval (setTier m tier x) tier i
        else m)

/-! ### Flushes (R416, R417) -/

/-- The bytes a tier holds in DRAM for its next flush. -/
def pendingBytes (m : Mod) (n : Nat) : Nat := ((tierOf m n).kept.map (fun i => 64 + intervalBytes i)).sum

/-- A flush of a tier is due (R416): CHECKED at every COMMIT_S or with 4 MiB pending, BUFFERED when the share is full or
at the F3 reaction; in a freeze none starts (R415). -/
def flushDue (m : Mod) (n : Nat) : Bool :=
  m.rcr.frozen.isNone && !(tierOf m n).kept.isEmpty &&
    (if buffered m n then m.flt.f3 || (if n = 2 then m.rcr.t2Mib else m.rcr.t3Mib) * 2 ^ 20 ≤ pendingBytes m n
     else 4 * 2 ^ 20 ≤ pendingBytes m n || (if n = 2 then m.rcr.flush2 else m.rcr.flush3) + sec m.rcr.commitS ≤ m.clk)

/-- A flush is made: its records are archived, or lost where the retry failed too (R417); a mode change takes effect
(R416). -/
def makeFlush (m : Mod) (n : Nat) (writes : FlashResult) : Mod :=
  let m := if writes = .failed then
      reportFault (setTier { m with rcr := { m.rcr with events := setBit32 m.rcr.events 2 } } n { tierOf m n with kept := [] }) (faultOf 0x20 1 n 0x0B00 2 3)
    else flushTier m n
  releasePermit { m with rcr :=
    if n = 2 then { m.rcr with flush2 := m.clk, t2Buf := m.rcr.t2New } else { m.rcr with flush3 := m.clk, t3Buf := m.rcr.t3New } } (whoFlush n)

/-- ARCHIVE_FLUSH (R416, R417): under a winding permit, for which a due flush asks. -/
def execArchiveFlush (t tier : Nat) (writes : FlashResult) (s : State) : Host.Outcome State Fault Refusal :=
  s.runOn t (fun m =>
    if tier < 2 || tier > 3 || !flushDue m tier || m.pwr.st == .fail then m
    else
      let m := request m (whoFlush tier) .archiveFlush false 2000
      if holds m (whoFlush tier) then makeFlush m tier writes else m)

/-! ### Freeze (R414, R415) -/

/-- A freeze may stand (R414). -/
def freezeAllowed (m : Mod) : Bool := m.pwr.starting || m.pwr.recovery || m.sec.debug != .closed

/-- REC_FREEZE (R414, R415): every interval in progress ends as PARTIAL; accepted on any seat. -/
def execRecFreeze (t : Nat) (q : Req) (s : State) : Host.Outcome State Fault Refusal :=
  s.runOp t 0x0102 q (fun m =>
    if !freezeAllowed m then refuse m q .freezeNotAllowed
    else if m.rcr.frozen.isSome then post m q .ok
    else
      let m := endTiers m
      post { m with rcr := { m.rcr with frozen := some m.clk } } q .ok)

/-- REC_FREEZE_RELEASE (R414, R415). -/
def execRecFreezeRelease (t : Nat) (q : Req) (s : State) : Host.Outcome State Fault Refusal :=
  s.runOp t 0x0102 q (fun m => post (endFreeze m) q .ok)

/-- FREEZE_MAX_EXPIRY (R415). -/
def execFreezeMaxExpiry (t : Nat) (s : State) : Host.Outcome State Fault Refusal :=
  s.runOn t (fun m =>
    match m.rcr.frozen with
    | some x => if x + sec (60 * m.rcr.freezeMax) ≤ m.clk then endFreeze m else m
    | none => m)

/-- FREEZE_STABLE (R415): a freeze stands and every interval is closed. -/
def freezeStable (m : Mod) : Bool :=
  m.rcr.frozen.isSome && [1, 2, 3].all (fun n => (tierOf m n).ended.isEmpty)

/-- A write of REC_CTRL.EN (R422): 0 ends every interval as PARTIAL; 1 records again. -/
def setEn (m : Mod) (v : Bool) : Mod :=
  if v then startTiers { m with rcr := { m.rcr with en := true } }
  else
    let m := endTiers m
    { m with rcr := { m.rcr with en := false } }

/-- REC_EN_WRITE (R422). -/
def execRecEnWrite (t : Nat) (v : Bool) (s : State) : Host.Outcome State Fault Refusal :=
  s.runReg t 0x11004 (if v then 1 else 0) (fun m => m.rcr.en != v) (fun m => setEn m v)

/-! ### Classes and lists (R405, R406) -/

/-- A class record is fit: finite edges that rise strictly, and its last bytes zero (R405). -/
def classOk (b : List Byte) : Bool :=
  let es := (pieces b 4 15).map (fun e => w32 e 0)
  es.all finite32 && ((es.zip (es.drop 1)).all (fun e => lt32 e.1 e.2)) && zeros b 60 4

/-- Classes loaded; they hold from each tier's next boundary (R406). -/
def loadClasses (m : Mod) (first count : Nat) (b : List Byte) : Except Status Mod :=
  let rs := pieces b 64 count
  if first < 1 || count < 1 || first + count > 256 || b.length < 64 * count || !rs.all classOk then .error .badField
  else
    let new := [1, 2, 3].flatMap (fun n => rs.mapIdx (fun i r =>
      (n, (if (tierOf m n).running then max (tierOf m n).cur (tierInterval m n) + 1 else 0), first + i,
        ({ edges := (pieces r 4 15).map (fun e => w32 e 0) } : BinClass))))
    .ok { m with rcr := { m.rcr with classes := new ++ m.rcr.classes } }

/-- REC_CLASS_LOAD (R405, R419, R439). -/
def execRecClassLoad (t : Nat) (q : Req) (first count : Nat) (buf : List Byte) (s : State) : Host.Outcome State Fault Refusal :=
  s.runCmd t 0x0100 q (fun m =>
    if anyTrial m then refuse m q .trialActive
    else
      match loadClasses m first count buf with
      | .error e => refuse m q e
      | .ok m => post (storeAdd m 15 first count buf) q .ok)

/-- Why a list entry is refused (R406). -/
def listRefusal (m : Mod) (b : List Byte) : Option Status :=
  if !zeros b 5 3 then some .badField
  else
    match judgeSig m (w32 b 0) with
    | .error e => some e
    | .ok i => if (match sigAt m i with | some r => r.ty == 7 | none => false) then some .typeMismatch else none

/-- A list loaded: it replaces the tier's list from its next boundary; the entries of tiers 1 and 2 are references
(R406). -/
def loadList (m : Mod) (n count : Nat) (b : List Byte) : Except Status Mod :=
  let es := pieces b 8 count
  let cover := if n = 1 then 65536 else if n = 2 then 262144 else 2097152
  if n < 1 || n > 3 || count > cover || b.length < 8 * count then .error .badField
  else
    match es.findSome? (listRefusal m) with
    | some e => .error e
    | none =>
      let t := tierOf m n
      let old := (t.lists.head?.map Prod.snd).getD []
      let new := es.map (fun e => (w32 e 0, u8 e 4))
      let m := if n = 3 then m else dropRefs m (old.map Prod.fst)
      if n != 3 && refsFull m (new.map Prod.fst) then .error .inUse
      else
        let m := if n = 3 then m else addRefs m (new.map Prod.fst)
        let at_ := if t.running then max t.cur (tierInterval m n) + 1 else 0
        .ok (setTier m n { t with lists := (at_, new) :: (if t.running then t.lists.filter (fun l => l.1 < at_) else []) })

/-- REC_LIST_LOAD (R406, R419, R439). -/
def execRecListLoad (t : Nat) (q : Req) (tier count : Nat) (buf : List Byte) (s : State) : Host.Outcome State Fault Refusal :=
  s.runCmd t 0x0101 q (fun m =>
    if anyTrial m then refuse m q .trialActive
    else
      match loadList m tier count buf with
      | .error e => refuse m q e
      | .ok m => post (storeAdd m 16 tier count buf) q .ok)

/-- A signal is deleted: its interval in tier 3 ends at once, with PARTIAL (R408). -/
def recDelete (m : Mod) (sig : Nat) : Mod :=
  let t := tierOf m 3
  if !t.running then m
  else
    let iv := max t.cur (tierInterval m 3)
    let (t, a) := freshAccum m 3 sig iv (handleAt m sig)
    setTier m 3 { t with accums := tdel t.accums sig, made := t.made ++ [(iv, sig, closeAccum m 3 a true)] }

/-! ### Reading (R410, R412) -/

/-- The closed intervals present of a tier, oldest first, each with whether it is in flash. -/
def presentIntervals (m : Mod) (n : Nat) : List (Bool × Interval) :=
  (if n = 2 then m.nv.archive2.map (fun i => (true, i)) else if n = 3 then m.nv.archive3.map (fun i => (true, i)) else []) ++
    (tierOf m n).kept.map (fun i => (false, i))

/-- Bytes with the CRC-32C over them (R409, R410). -/
def withCrc (b : List Byte) : List Byte := b ++ bytes32 (crc32c b)

/-- The 64 bytes of an interval header (R410). -/
def headerBytes (n : Nat) (i : Interval) : List Byte :=
  withCrc (bytes32 i.seq ++ leBytes 4 (startS n i.no) ++ leBytes 4 i.count ++ leBytes 1 (b2n i.traceable + 2 * b2n i.part) ++ List.replicate 47 0)

/-- The 64 bytes of a record (R409); in tier 3 an index without an entry has a null record without samples. -/
def recBytes (n : Nat) (i : Interval) (k : Nat) : List Byte :=
  let e := (tget i.entries k).getD { signal := 0, min := 0, max := 0, minUs := 0, maxUs := 0, bins := List.replicate 16 0, exp := 0,
                                      qsum := if i.part then 0x60 else 0x40 }
  withCrc (bytes32 e.signal ++ leBytes 4 (startS n i.no) ++ bytes32 e.min ++ bytes32 e.max ++ leBytes 4 e.minUs ++ leBytes 4 e.maxUs ++
    e.bins.flatMap bytes16 ++ leBytes 1 e.exp ++ [e.qsum] ++ bytes16 i.seq.toNat)

/-- A record of an archived interval as flash gives it: whether it fails its CRC is free, and so is then what is read
(R412, log 96). -/
def flashRec (m : Mod) (n : Nat) (i : Interval) (k : Nat) : List Byte :=
  if Config.freshBool (m.free + k) then (List.range 16).flatMap (fun j => bytes32 (Config.fresh32 (m.free + 16 * k + j))) else recBytes n i k

/-- The reply of a read that finds its interval: its header and the records asked for (R412). -/
def readInterval (m : Mod) (q : Req) (n first count : Nat) (flash : Bool) (i : Interval) (r1 r2 : W32) : Mod :=
  let ks := span first (min count (i.count - first))
  let bad := flash && ks.any (fun k => Config.freshBool (m.free + k))
  let data := headerBytes n i ++ ks.flatMap (fun k => if flash then flashRec m n i k else recBytes n i k)
  let m := if bad then
      reportFault { m.tick with rcr := { m.rcr with events := setBit32 m.rcr.events 3 } } (faultOf 0x22 1 n 0x0B00 1 3)
    else m
  post m q .ok { r0 := BitVec.ofNat 32 ks.length, r1 := r1, r2 := r2, data := data }

/-- REC_READ (R412, R419): accepted on any seat. -/
def execRecRead (t : Nat) (q : Req) (tier : Nat) (seq : W32) (first count : Nat) (s : State) : Host.Outcome State Fault Refusal :=
  s.runOp t 0x0103 q (fun m =>
    if tier < 1 || tier > 3 || count < 1 || count > 65536 then refuse m q .badField
    else
      let l := presentIntervals m tier
      let newest := seqOf m tier
      let oldest := match l.head? with
        | some x => x.2.seq
        | none => Config.fresh32 m.free
      match l.find? (fun x => x.2.seq == seq) with
      | some (flash, i) => readInterval m q tier first count flash i oldest newest
      | none =>
        let m := if l.isEmpty then m.tick else m
        refuse m q (if serialLater newest seq then .recOpen else .recGone) { r1 := oldest, r2 := newest })

end Sys2Proof.Machine
end

