-- ==== Sys2Proof/Machine/Update.lean ====
section
/-! DEFINITION. Updates by domino relay (R423 to R444). -/

namespace Sys2Proof.Machine

/-! ### Packages (R425 to R427) -/

/-- Fields of a package header (R425). -/
def pkRegion (h : List Byte) : Nat := u8 h 6
def pkDelta (h : List Byte) : Bool := u8 h 7 == 1
def pkVersion (h : List Byte) : W32 := w32 h 8
def pkPayload (h : List Byte) : Nat := u32 h 20
def pkImage (h : List Byte) : Nat := u32 h 24
def pkId (h : List Byte) : W32 := w32 h 44

/-- MAGIC, FORMAT, REGION, KIND and the sizes are valid, and reserved bytes zero (R425 to R427). -/
def pkFieldsOk (h : List Byte) : Bool :=
  256 ≤ h.length && u32 h 0 == 0x4B504446 && u16 h 4 == 1 && 1 ≤ pkRegion h && pkRegion h ≤ 3 && (u8 h 7 == 1 || u8 h 7 == 2) &&
    pkPayload h ≤ 2 ^ 28 && pkImage h ≤ 2 ^ 28 && (pkDelta h || pkPayload h == pkImage h) && zeros h 30 2 && zeros h 144 16

/-- KEY_ID is provisioned and not revoked, and SIGNATURE verifies (R425, R427). -/
def pkSigned (m : Mod) (h : List Byte) : Bool :=
  match tget m.nv.imageKeys (u8 h 19) with
  | some key => !bitOf m.nv.revoked.toNat (u8 h 19) && ecdsaOk key (sha384 (h.take 160)) (slice h 160 96)
  | none => false

/-- A region is in the states in which the update workspace holds its package (R429). -/
def inWorkspace (r : Region) : Bool := r.st == .receiving || r.st == .verifying || r.st == .applying

/-- A package for a region meets BUSY (R429, R430): the region is not IDLE, unless it is superseded before its commit
point; another region's package is in the workspace; or slot S holds another region's section (log 99). -/
def pkBusy (m : Mod) (h : List Byte) (supersede : Bool) : Bool :=
  let n := pkRegion h
  let r := regionOf m n
  (r.st != .idle && !(supersede && (inWorkspace r || r.st == .ready))) ||
    [1, 2, 3].any (fun k => k != n && inWorkspace (regionOf m k)) ||
    (!pkDelta h && (match m.nv.slotS with | some (k, _) => k != n | none => false))

/-- REQUIRES is met, and a SERVICE or PROGRAM package carries the module's epoch (R425, R427). -/
def pkDepends (m : Mod) (h : List Byte) : Bool :=
  [1, 2, 3].all (fun k => u32 h (28 + 4 * k) ≤ (regionOf m k).version.toNat) &&
    (pkRegion h == 1 || u16 h 16 == (regionOf m 1).compat)

/-- The header checks of R427, in order: the first that fails. -/
def headerCheck (m : Mod) (h : List Byte) (supersede : Bool) : Option Status :=
  let r := regionOf m (pkRegion h)
  if !m.upd.receiveEn then some .updState
  else if !pkFieldsOk h then some .badField
  else if !pkSigned m h then some .updSignature
  else if r.inactive.rejected && r.rejectedPkg == pkId h then some .updRejected
  else if u8 h 18 < m.nv.epoch || (pkVersion h).toNat ≤ r.version.toNat || (pkVersion h).toNat < r.floor.toNat then some .updVersion
  else if pkBusy m h supersede then some .busy
  else if !pkDepends m h then some .updDependency
  else if u16 h 28 < m.nv.configFormat || (pkRegion h == 3 && u16 h 28 != m.nv.configFormat) then some .updConfigFormat
  else none

/-- A delta's commands applied from the first byte on (R426); `none` where it does not apply. -/
def deltaRun (fuel : Nat) (run pay : List Byte) (size : Nat) (out : List Byte) : Option (List Byte) :=
  match fuel with
  | 0 => none
  | k + 1 =>
    if out.length = size then some out
    else if pay.length < 12 then none
    else
      let op := u32 pay 0
      let len := u32 pay 4
      let src := u32 pay 8
      let rest := pay.drop 12
      if size < out.length + len then none
      else
        match op with
        | 1 => if src + len ≤ run.length then deltaRun k run rest size (out ++ (run.drop src).take len) else none
        | 2 => if src + len ≤ run.length && len ≤ rest.length then
                 deltaRun k run (rest.drop len) size (out ++ List.zipWith (· + ·) (rest.take len) ((run.drop src).take len))
               else none
        | 3 => if len ≤ rest.length then deltaRun k run (rest.drop len) size (out ++ rest.take len) else none
        | _ => none

/-- The section a region runs from its ACTIVE slot (R424). -/
def Region.active (r : Region) : Section := if r.activeB then r.slotB else r.slotA

/-! ### Relay frames (R432) -/

/-- The address of a module identity, where the relay table has it (R431). -/
def relayEntry (m : Mod) (nid : W32) : Option (List Byte) := m.nv.relay.find? (fun e => u8 e 10 != 0 && w32 e 0 == nid)

/-- The MAC of a relay-table entry, most significant byte first. -/
def relayMac (e : List Byte) : BitVec 48 := BitVec.ofNat 48 (beNat (slice e 4 6))

/-- A relay frame goes out (R432): its type, and its OFFSET or status; over E1 to E8 at PCP 1. -/
def sendRelay (m : Mod) (nid : W32) (ty off len : Nat) : Mod :=
  let m := { m with upd := { m.upd with sent := (nid, ty, off) :: m.upd.sent } }
  match relayEntry m nid with
  | some e =>
    if 1 ≤ u8 e 10 && u8 e 10 ≤ 8 then
      enqueueAt m 0 (u8 e 10) { dst := relayMac e, src := m.nv.mac, etherType := 0x88B7, tag := some (1, m.net.ctrlVid),
                                len := max 64 (46 + len), ptp := none }
    else m
  | none => m

/-- A neighbour replaced. -/
def setNbr (m : Mod) (k : Nat) (n : Neighbour) : Mod := { m with upd := { m.upd with nbrs := tmod m.upd.nbrs k (fun _ => n) } }

/-- A neighbour's transfer is decided. -/
def Neighbour.done (n : Neighbour) : Bool := n.delivered || n.failed

/-- At most two transfers run at once, in the table's order; FORWARDING ends with the last neighbour (R433). -/
def pumpRelay (m : Mod) (fuel : Nat) : Mod :=
  match fuel with
  | 0 => m
  | k + 1 =>
    match m.upd.fwd with
    | none => m
    | some (h, _, _) =>
      if m.upd.nbrs.all (fun e => e.2.done) then
        let r := regionOf m (pkRegion h)
        { setRegion m (pkRegion h) { r with forwarding := false } with upd := { m.upd with fwd := none } }
      else if 2 ≤ (m.upd.nbrs.filter (fun e => e.2.offered && !e.2.done)).length then m
      else
        match m.upd.nbrs.find? (fun e => !e.2.offered && !e.2.done) with
        | none => m
        | some (i, n) => pumpRelay (sendRelay (setNbr m i { n with offered := true, ackAt := m.clk, movedAt := m.clk }) n.nid 1 0 256) k

/-- The relay goes on after a neighbour's change. -/
def goRelay (m : Mod) : Mod := pumpRelay m (m.upd.nbrs.length + 2)

/-- A neighbour is marked failed (R433). -/
def failNbr (m : Mod) (k : Nat) (n : Neighbour) : Mod :=
  let m := setNbr m k { n with failed := true, sending := false }
  goRelay (reportFault { m with upd := { m.upd with events := setBit32 m.upd.events 4 } } (faultOf 0x25 0 k 0x0C00 0 3))

/-- A neighbour counts as delivered (R433). -/
def deliverNbr (m : Mod) (k : Nat) (n : Neighbour) : Mod := goRelay (setNbr m k { n with delivered := true, sending := false })

/-- The neighbours a package of a region goes to (R431, R433, R440): from the LEAD of a triad its peers first. -/
def relayTargets (m : Mod) (n : Nat) : List (Nat × Neighbour) :=
  (if m.tri.mode = 0 then [] else [(8, ({ port := 9 } : Neighbour)), (9, { port := 10 })]) ++
    ((m.nv.relay.mapIdx (fun i e => (i, e))).filter (fun x => u8 x.2 10 != 0 && bitOf (u8 x.2 11) (n - 1))).map (fun x =>
      (x.1, ({ nid := w32 x.2 0, mac := relayMac x.2, port := u8 x.2 10, regions := BitVec.ofNat 8 (u8 x.2 11) } : Neighbour)))

/-- A package that has passed every check is forwarded (R433): not with RELAY_EN at 0 or NO_RELAY, and in a triad by the
LEAD alone. -/
def beginForward (m : Mod) (w : Workspace) : Mod :=
  let ns := relayTargets m w.region
  if !m.upd.relayEn || w.noRelay || notLead m || ns.isEmpty then m
  else
    let m := setRegion m w.region { regionOf m w.region with forwarding := true }
    goRelay { m with upd := { m.upd with fwd := some (w.header, w.payload, w.supersede), nbrs := ns } }

/-! ### Region states (R428 to R430) -/

/-- The package of the workspace is dropped: its UPD_RECEIVE completes and a relay's sender is told, with a status. -/
def dropWorkspace (m : Mod) (st : Status) : Mod :=
  match m.upd.ws with
  | none => m
  | some w =>
    let m := { m with upd := { m.upd with ws := none, incoming := none } }
    let m := if w.fromId = 0 then m else sendRelay m w.fromId (if st = .updState then 8 else 7) st.code 0
    postOpt m w.req st

/-- An update before its commit point returns to IDLE (R428): what it has written is discarded and its forwarding stops;
the status completes a reception in progress (log 100). -/
def cancelUpdate (m : Mod) (n : Nat) (st : Status) : Mod :=
  let r := regionOf m n
  let staged : Bool := match m.nv.slotS with | some (k, _) => k == n | none => false
  let r' := if (r.st == .applying || r.st == .ready) && !staged then r.setInactive {} else r
  let m := if inWorkspace r then dropWorkspace m st else m
  let m := releasePermit (releasePermit m whoVerify) whoApply
  let m := setRegion m n { r' with st := .idle, staged := false, forwarding := false }
  let fwd : Bool := match m.upd.fwd with | some (h, _, _) => pkRegion h == n | none => false
  { m with nv := { m.nv with slotS := if staged then none else m.nv.slotS }
           upd := { m.upd with fwd := if fwd then none else m.upd.fwd } }

/-- A package is refused (R427): UPD_EVENTS.REFUSED. -/
def noteUpdRefused (m : Mod) : Mod := { m with upd := { m.upd with events := setBit32 m.upd.events 3 } }

/-- A payload check fails: the region is IDLE again (R427, R428). -/
def failUpdate (m : Mod) (n : Nat) (st : Status) : Mod := cancelUpdate (noteUpdRefused m) n st

/-- The header checks have passed: a superseded update is cancelled, and the region is RECEIVING (R428, R430). -/
def beginReceive (m : Mod) (h : List Byte) (w : Workspace) : Mod :=
  let n := pkRegion h
  let m := if (regionOf m n).st = .idle then m else cancelUpdate m n .updState
  let m := setRegion m n { regionOf m n with st := .receiving, pkgId := pkId h }
  { m with upd := { m.upd with ws := some w, package := pkId h, nbrs := if m.upd.fwd.isSome then m.upd.nbrs else [] } }

/-- In boot recovery only a FULL package of the failed region is taken (R446). -/
def bootTakes (m : Mod) (h : List Byte) : Bool :=
  match m.sec.bootFail with
  | none => true
  | some n => pkRegion h == n && u8 h 7 == 2

/-- UPD_RECEIVE (R427, R428, R441, R446). -/
def execUpdReceive (t : Nat) (q : Req) (supersede noRelay : Bool) (hdr : List Byte) (s : State) : Host.Outcome State Fault Refusal :=
  s.runOp t 0x0180 q (fun m =>
    if notLead m then post m q .notLead
    else if !bootTakes m hdr then post m q .notReady
    else
      match headerCheck m hdr supersede with
      | some e => refuse (noteUpdRefused m) q e
      | none =>
        startOp (beginReceive m hdr { region := pkRegion hdr, header := hdr.take 256, noRelay := noRelay, req := some q, supersede := supersede }) q) true

/-- PAYLOAD_RECEIVED (R428): the whole payload of the package from the host is held. -/
def execPayloadReceived (t : Nat) (payload : List Byte) (s : State) : Host.Outcome State Fault Refusal :=
  s.runOn t (fun m =>
    match m.upd.ws with
    | some w =>
      let r := regionOf m w.region
      if r.st == .receiving && w.fromId == 0 && pkPayload w.header ≤ payload.length then
        let m := setRegion m w.region { r with st := .verifying }
        { m with upd := { m.upd with ws := some { w with payload := payload.take (pkPayload w.header) } } }
      else m
    | none => m)

/-- What the package makes: the payload itself, or the delta applied to the running section (R426). -/
def makeSection (m : Mod) (w : Workspace) : Option (List Byte) :=
  if pkDelta w.header then deltaRun (w.payload.length + 1) (regionOf m w.region).active.bytes w.payload (pkImage w.header) []
  else some w.payload

/-- VERIFY_DONE (R427, R428): under a permit for the check. -/
def execVerifyDone (t region : Nat) (s : State) : Host.Outcome State Fault Refusal :=
  s.runOn t (fun m =>
    match m.upd.ws with
    | some w =>
      let r := regionOf m region
      if w.region != region || r.st != .verifying then m
      else
        let m := request m whoVerify .sigVerify false 2000
        if !holds m whoVerify then m
        else
          let m := releasePermit m whoVerify
          if sha384 w.payload != slice w.header 96 48 then failUpdate m region .updSignature
          else if pkDelta w.header && w32 w.header 12 != r.version then failUpdate m region .updBase
          else
            match makeSection m w with
            | none => failUpdate m region .updBase
            | some out =>
              let m := setRegion m region { r with st := .applying }
              { m with upd := { m.upd with ws := some { w with output := out } } }
    | none => m)

/-- A section written and matched: READY (R428); in boot recovery the MODULE restart follows (R446). -/
def finishApply (m : Mod) (n : Nat) (w : Workspace) : Mod :=
  let sec_ : Section := { header := w.header, bytes := w.output }
  let r := regionOf m n
  let m := if pkDelta w.header then setRegion m n (r.setInactive sec_)
           else setRegion { m with nv := { m.nv with slotS := some (n, sec_) } } n { r with staged := true }
  let m := setRegion m n { regionOf m n with st := .ready }
  let m := { m with upd := { m.upd with ws := none, incoming := none, events := setBit32 m.upd.events 0 } }
  let m := if w.fromId = 0 then m else sendRelay m w.fromId 7 0 0
  let m := postOpt m w.req .ok { r0 := BitVec.ofNat 32 n, r1 := pkVersion w.header }
  if m.sec.bootFail.isSome then
    restartModule_ (setRegion m n { regionOf m n with st := .activating, trial := true, activatedAt := m.clk }) .activation
  else beginForward m w

/-- APPLY_DONE (R427, R428): under a permit for the writes. -/
def execApplyDone (t region : Nat) (s : State) : Host.Outcome State Fault Refusal :=
  s.runOn t (fun m =>
    match m.upd.ws with
    | some w =>
      if w.region != region || (regionOf m region).st != .applying then m
      else
        let m := request m whoApply .deltaApply false 10000
        if !holds m whoApply then m
        else
          let m := releasePermit m whoApply
          if sha384 w.output != slice w.header 48 48 then failUpdate m region .updSignature
          else finishApply m region w
    | none => m)

/-- UPD_CANCEL (R428, R430). -/
def execUpdCancel (t : Nat) (q : Req) (region : Nat) (s : State) : Host.Outcome State Fault Refusal :=
  s.runCmd t 0x0182 q (fun m =>
    if region < 1 || region > 3 then refuse m q .badField
    else
      match (regionOf m region).st with
      | .idle => refuse m q .updState
      | .activating | .trial => refuse m q .tooLate
      | _ => post (cancelUpdate m region .updState) q .ok)

/-! ### Activation (R434, R435, R440) -/

/-- The activation of a READY region implies a PROGRAM restart outside a triad (R423, R434). -/
def impliesProgram (m : Mod) (n : Nat) : Bool := n == 3 && m.tri.seat == 0 && !(regionOf m n).staged

/-- Every peer of the triad holds the package READY, as its DONE or HAVE said (R440). -/
def peersReady (m : Mod) : Bool :=
  [8, 9].all (fun k => match tget m.upd.nbrs k with | some n => n.delivered | none => false)

/-- Why an activation is refused (R434, R440), in the table's order. -/
def activateRefusal (m : Mod) (n : Nat) (triadSeq prot : Bool) : Option Status :=
  if n < 1 || n > 3 then some .badField
  else
    let r := regionOf m n
    if r.st != .ready then some .updState
    else if r.forwarding then some .busy
    else if m.flt.f3 || m.pwr.st == .fail || m.nv.lifecycle == .blank || m.nv.lifecycle == .void then some .notReady
    else if impliesProgram m n && hasC0 m && !prot then some .isProtected
    else if triadSeq && m.tri.mode != 0 && !peersReady m then some .updState
    else none

/-- The commit point (R434): the new section is named TRIAL, and the region's restart follows; a FULL package is always
activated by a MODULE restart. -/
def commitUpdate (m : Mod) (n : Nat) : Mod :=
  let r := regionOf m n
  let m := setRegion m n { r with st := .activating, trial := true, activatedAt := m.clk }
  if r.staged then restartModule_ m .activation else regionRestart m n .activation

/-- The seats of a triad sequence in the order they are activated (R440): STANDBY, SECOND, then the LEAD. -/
def sequenceSeats (m : Mod) : List Nat :=
  [Role.standby, Role.second, Role.lead].filterMap (fun role => (m.tri.roles.find? (fun e => e.2 == role)).map Prod.fst)

/-- An accepted UPD_ACTIVATE (R434, R440): in a triad sequence this seat, the LEAD, waits for its turn. -/
def activate (m : Mod) (q : Option Req) (n : Nat) (triadSeq : Bool) : Mod :=
  let m := postOpt m q .ok
  if triadSeq && m.tri.mode != 0 then
    let seats := sequenceSeats m
    let m := { m with upd := { m.upd with triad := some (n, seats) } }
    if seats.head? = some m.tri.seat then commitUpdate m n else m
  else commitUpdate m n

/-- UPD_ACTIVATE (R434, R440). -/
def execUpdActivate (t : Nat) (q : Req) (region : Nat) (triadSeq : Bool) (s : State) : Host.Outcome State Fault Refusal :=
  s.runCmd t 0x0181 q (fun m =>
    match activateRefusal m region triadSeq false with
    | some e => refuse m q e
    | none => activate m (some q) region triadSeq)

/-! ### Trial (R436, R437) -/

/-- The RUN time of a trial in ns (R436). -/
def trialRun (m : Mod) (r : Region) : Nat := r.ran + (m.pwr.ranNs - r.ranBase)

/-- A trial confirms (R436, R439): the TRIAL slot is ACTIVE, the floor and the epoch rise, the old configuration copy goes. -/
def confirm (m : Mod) (n : Nat) : Mod :=
  let r := regionOf m n
  let epoch := max m.nv.epoch (u8 r.inactive.header 18)
  let m := setRegion m n { r with st := .idle, trial := false, activeB := !r.activeB, activeVersion := r.version, activeCompat := r.compat,
                                  floor := r.version }
  { m with nv := { m.nv with epoch := epoch, oldStore := if anyTrial m then m.nv.oldStore else none }
           upd := { m.upd with events := setBit32 m.upd.events 1 } }

/-- The seat being activated in a triad sequence has confirmed: the next is activated (R440). -/
def nextSeat (m : Mod) (n : Nat) : Mod :=
  match m.upd.triad with
  | some (k, seats) =>
    if k != n then m
    else
      match seats.drop 1 with
      | [] => { m with upd := { m.upd with triad := none } }
      | x :: rest =>
        let m := { m with upd := { m.upd with triad := some (k, x :: rest) } }
        if x = m.tri.seat && (regionOf m n).st = .ready then commitUpdate m n else m
  | none => m

/-- TRIAL_CONFIRM (R436): after CONFIRM_MIN minutes in RUN; while a triad sequence stands, also the confirmation of the seat
that is being activated (R440, log 101). -/
def execTrialConfirm (t region : Nat) (s : State) : Host.Outcome State Fault Refusal :=
  s.runOn t (fun m =>
    if region < 1 || region > 3 || m.pwr.st == .fail then m
    else
      let r := regionOf m region
      if r.st = .trial then
        (if sec (60 * r.confirmMin) ≤ trialRun m r then nextSeat (confirm m region) region else m)
      else nextSeat m region)

/-- TRIAL_TIMEOUT (R437): 24 h after activation. -/
def execTrialTimeout (t region : Nat) (s : State) : Host.Outcome State Fault Refusal :=
  s.runOn t (fun m =>
    let r := regionOf m region
    if 1 ≤ region && region ≤ 3 && r.st = .trial && m.pwr.st != .fail && r.activatedAt + sec 86400 ≤ m.clk then fallBack m region else m)

/-- UPD_REJECT (R437, R441). -/
def execUpdReject (t : Nat) (q : Req) (region : Nat) (s : State) : Host.Outcome State Fault Refusal :=
  s.runCmd t 0x0183 q (fun m =>
    if region < 1 || region > 3 then refuse m q .badField
    else if (regionOf m region).st != .trial then refuse m q .updState
    else fallBack (post m q .ok) region)

/-! ### The relay's receiver (R432, R433) -/

/-- The module holds a package with an identifier, or runs its version (R432). -/
def hasPackage (m : Mod) (h : List Byte) : Bool :=
  let r := regionOf m (pkRegion h)
  r.version == pkVersion h || (r.st != .idle && r.pkgId == pkId h)

/-- OFFER (R432): HAVE ends a cycle; else the header checks decide between ACCEPT and REFUSE. -/
def execRelayOffer (t : Nat) (srcId : W32) (supersede : Bool) (hdr : List Byte) (s : State) : Host.Outcome State Fault Refusal :=
  s.runOn t (fun m =>
    if m.pwr.st == .fail || m.pwr.svcStopped || bootHeld m then m
    else if m.upd.receiveEn && pkFieldsOk hdr && hasPackage m hdr then sendRelay m srcId 3 0 0
    else
      match headerCheck m hdr supersede with
      | some e => sendRelay (noteUpdRefused m) srcId 4 e.code 0
      | none =>
        let m := beginReceive m hdr { region := pkRegion hdr, header := hdr.take 256, supersede := supersede, fromId := srcId }
        sendRelay { m with upd := { m.upd with incoming := some (srcId, pkId hdr, 0) } } srcId 2 0 0)

/-- DATA (R432): bytes in order are held; ACK after every 32 frames and at a gap. -/
def execRelayData (t : Nat) (srcId : W32) (pkg : W32) (off : Nat) (bytes : List Byte) (s : State) : Host.Outcome State Fault Refusal :=
  s.runOn t (fun m =>
    match m.upd.ws, m.upd.incoming with
    | some w, some (src, p, k) =>
      let r := regionOf m w.region
      if src != srcId || p != pkg || r.st != .receiving || m.pwr.svcStopped then m
      else
        let held := w.payload.length
        if held < off then sendRelay { m with upd := { m.upd with incoming := some (src, p, 0) } } srcId 6 held 0
        else
          let pay := (w.payload ++ (bytes.take 1024).drop (held - off)).take (pkPayload w.header)
          let m := { m with upd := { m.upd with ws := some { w with payload := pay }, incoming := some (src, p, (k + 1) % 32) } }
          let full := pay.length = pkPayload w.header
          let m := if k + 1 = 32 || full then sendRelay m srcId 6 pay.length 0 else m
          if full then setRegion m w.region { r with st := .verifying } else m
    | _, _ => m)

/-- ABORT (R432): from the sender of a transfer coming in, or from a neighbour. -/
def execRelayAbort (t : Nat) (srcId : W32) (pkg : W32) (s : State) : Host.Outcome State Fault Refusal :=
  s.runOn t (fun m =>
    match m.upd.ws, m.upd.incoming with
    | some w, some (src, p, _) =>
      if src = srcId && p = pkg && (regionOf m w.region).st = .receiving then
        cancelUpdate { m with upd := { m.upd with ws := some { w with fromId := 0 } } } w.region .updState
      else m
    | _, _ =>
      match m.upd.fwd, m.upd.nbrs.find? (fun e => e.2.nid == srcId && e.2.offered && !e.2.done) with
      | some (h, _, _), some (k, n) => if pkId h = pkg then failNbr m k n else m
      | _, _ => m)

/-! ### The relay's sender (R432, R433) -/

/-- An answer of a neighbour whose transfer of the package runs. -/
def onNbr (m : Mod) (nbr : Nat) (pkg : W32) (f : Neighbour → List Byte → Mod) : Mod :=
  match m.upd.fwd, tget m.upd.nbrs nbr with
  | some (h, pay, _), some n => if pkId h = pkg && n.offered && !n.done && !m.pwr.svcStopped then f n pay else m
  | _, _ => m

/-- DATA frames go out up to 256 unacknowledged ones (R432). -/
def sendData (m : Mod) (k : Nat) (n : Neighbour) (pay : List Byte) : Mod :=
  let lim := min pay.length (n.acked + 256 * 1024)
  let offs := (List.range 256).filterMap (fun i => if n.sentTo + 1024 * i < lim then some (n.sentTo + 1024 * i) else none)
  let m := offs.foldl (fun m o => sendRelay m n.nid 5 o (min 1024 (pay.length - o))) m
  setNbr m k { n with sentTo := max n.sentTo lim }

/-- ACCEPT (R432): DATA starts. -/
def execRelayAccept (t nbr : Nat) (pkg : W32) (s : State) : Host.Outcome State Fault Refusal :=
  s.runOn t (fun m => onNbr m nbr pkg (fun n pay =>
    sendData m nbr { n with sending := true, acked := 0, sentTo := 0, ackAt := m.clk, movedAt := m.clk } pay))

/-- HAVE (R433). -/
def execRelayHave (t nbr : Nat) (pkg : W32) (s : State) : Host.Outcome State Fault Refusal :=
  s.runOn t (fun m => onNbr m nbr pkg (fun n _ => deliverNbr m nbr n))

/-- REFUSE (R433). -/
def execRelayRefuse (t nbr : Nat) (pkg : W32) (_status : Nat) (s : State) : Host.Outcome State Fault Refusal :=
  s.runOn t (fun m => onNbr m nbr pkg (fun n _ => failNbr m nbr n))

/-- ACK (R432). -/
def execRelayAck (t nbr : Nat) (pkg : W32) (off : Nat) (s : State) : Host.Outcome State Fault Refusal :=
  s.runOn t (fun m => onNbr m nbr pkg (fun n pay =>
    if !n.sending then m
    else
      let moved := n.acked < off
      sendData m nbr { n with acked := max n.acked (min off pay.length), ackAt := m.clk, movedAt := if moved then m.clk else n.movedAt } pay))

/-- DONE (R433): a status OK counts as delivered. -/
def execRelayDone (t nbr : Nat) (pkg : W32) (status : Nat) (s : State) : Host.Outcome State Fault Refusal :=
  s.runOn t (fun m => onNbr m nbr pkg (fun n _ => if status = 0 then deliverNbr m nbr n else failNbr m nbr n))

/-- RELAY_RESEND_TIMEOUT (R432): 20 ms without an ACK. -/
def execRelayResendTimeout (t nbr : Nat) (s : State) : Host.Outcome State Fault Refusal :=
  s.runOn t (fun m =>
    match m.upd.fwd, tget m.upd.nbrs nbr with
    | some (_, pay, _), some n =>
      if n.sending && !n.done && n.acked < n.sentTo && n.ackAt + ms 20 ≤ m.clk then
        sendData m nbr { n with sentTo := n.acked, ackAt := m.clk } pay
      else m
    | _, _ => m)

/-- RELAY_PROGRESS_TIMEOUT (R433): 10 s without progress. -/
def execRelayProgressTimeout (t nbr : Nat) (s : State) : Host.Outcome State Fault Refusal :=
  s.runOn t (fun m =>
    match m.upd.fwd, tget m.upd.nbrs nbr with
    | some _, some n => if n.offered && !n.done && n.movedAt + sec 10 ≤ m.clk then failNbr m nbr n else m
    | _, _ => m)

end Sys2Proof.Machine
end

