-- ==== Sys2Proof/Machine/Panel.lean ====
section
/-! DEFINITION. The local panel (R467 to R482): identification, rails, frames, bands, full brightness and the frame
check. The frame memory and the waiting image are State's own fields. -/

namespace Sys2Proof.Machine

/-- The next state of a happening that may start the panel: a start clears the frame memory (R477 step 1). -/
def State.runPanel (s : State) (t : Nat) (f : Mod → Mod) : Host.Outcome State Fault Refusal :=
  let m := s.m.advance t
  let m' := if m.pwr.st = .off then m else f m
  .next { s with
    m := { m' with clk := max s.m.clk t }
    frame := if m'.pnl.starts = s.m.pnl.starts then s.frame else [] }

/-- The bytes of the frame memory (R468), and the CRC-32C of a cleared one. -/
def frameBytes : Nat := 16384
def clearedCrc : W32 := crc32c (List.replicate frameBytes 0)

/-! ### Start and shut-down (R477, R478) -/

/-- Step 1 of a start of the panel: the logic rail is on, the frame memory is cleared (R477). -/
def panelStart (m : Mod) : Mod :=
  if m.pwr.st == .off || m.pwr.st == .fail then m
  else
    { m with pnl := { panelOff m.pnl with
        st := .ident, logic := true, startAt := m.clk, starts := m.pnl.starts + 1, retryAt := none, crcExp := clearedCrc } }

/-- Shut-down by EN 0 (R478): no further try. -/
def panelStop (m : Mod) : Mod := { m with pnl := { panelOff m.pnl with retryAt := none } }

/-- PNL_CTRL.EN changes (R477, R478). -/
def setPanelEn (m : Mod) (v : Bool) : Mod :=
  let m := { m with pnl := { m.pnl with en := v } }
  if v then panelStart m else panelStop m

/-- PNL_EN_WRITE_ON (R477). -/
def execPnlEnWriteOn (t : Nat) (s : State) : Host.Outcome State Fault Refusal :=
  s.runPanel t (regGate 0x14004 1 (fun m => !m.pnl.en) (fun m => if m.pnl.en then m else setPanelEn m true))

/-- PNL_EN_WRITE_OFF (R478). -/
def execPnlEnWriteOff (t : Nat) (s : State) : Host.Outcome State Fault Refusal :=
  s.runReg t 0x14004 0 (fun m => m.pnl.en) (fun m => if m.pnl.en then setPanelEn m false else m)

/-- An identification record is read and its geometry is in range (R467); a failed read returns no record. -/
def identOk (b : List Byte) : Bool :=
  b.length = 16 && 16 ≤ u16 b 0 && u16 b 0 ≤ 256 && 8 ≤ u16 b 2 && u16 b 2 ≤ 128

/-- The panel runs: it is identified and powered (R480). -/
def panelUp (p : PnlBlk) : Bool := p.st == .clear || p.st == .lit || p.st == .hot

/-- PNL_EVENTS bit `i` set. -/
def panelEvent (m : Mod) (i : Nat) : Mod := { m with pnl := { m.pnl with events := setBit32 m.pnl.events i } }

/-- PANEL_IDENT_READ (R467, R477): 10 ms after the start, or 10 s after the last read. -/
def execPanelIdentRead (t : Nat) (ident : List Byte) (s : State) : Host.Outcome State Fault Refusal :=
  s.runOn t (fun m =>
    let p := m.pnl
    let geom : PnlBlk := { p with ident := ident, identAt := m.clk, cols := u16 ident 0, rows := u16 ident 2, maxCode := u8 ident 4 }
    if p.st == .ident then
      (if m.clk < p.startAt + ms 10 then m
       else if identOk ident then
         discovery (panelEvent { m with pnl := { geom with st := .rail, railOn := some (p.startAt + ms 12) } } 0) 5 0 true
       else { m with pnl := { panelOff p with retryAt := some (m.clk + sec 1) } })
    else if panelUp p && p.identAt + sec 10 ≤ m.clk then
      (if identOk ident then { m with pnl := geom }
       else discovery (panelEvent { m with pnl := panelOff p } 0) 5 0 false)
    else m)

/-- The 12 V rail fails (R477, R478). -/
def railFails (m : Mod) : Mod :=
  let m := panelEvent { m with pnl := { panelOff m.pnl with retryAt := some (m.clk + sec 10) } } 3
  reportFault m (faultOf 0x2D 1 0 0x0E00 6 2)

/-- PANEL_RAIL_CHECK (R477, R478): the rail is good above 11.0 V; 5 ms after it was switched on, or later, it fails
below. -/
def execPanelRailCheck (t mv : Nat) (s : State) : Host.Outcome State Fault Refusal :=
  s.runOn t (fun m =>
    match m.pnl.railOn with
    | none => m
    | some x =>
      if m.clk < x then m
      else if 11000 < mv then
        (if m.pnl.st == .rail then { m with pnl := { m.pnl with st := .clear, railOk := true } } else m)
      else if x + ms 5 ≤ m.clk then railFails m
      else m)

/-- PANEL_RETRY (R477). -/
def execPanelRetry (t : Nat) (s : State) : Host.Outcome State Fault Refusal :=
  s.runPanel t (fun m =>
    match m.pnl.retryAt with
    | some x => if x ≤ m.clk && m.pnl.en then panelStart m else m
    | none => m)

/-! ### Frames (R469 to R476) -/

/-- Frames per second (R470). -/
def panelFps (m : Mod) : Nat := if m.pwr.st == .quiet then fld m.pnl.rate 15 8 else fld m.pnl.rate 7 0

/-- A frame starts now: the first after the rail is good, or one frame period after the last (R470). -/
def frameDue (m : Mod) : Bool :=
  panelUp m.pnl && (!m.pnl.scanning || 1000000000 ≤ (m.clk + 1 - m.pnl.frameAt) * panelFps m)

/-- The state at a frame start (R474, R477): the first frame is black; from the next one the frame memory is shown,
unless the driver is hot. -/
def litState (p : PnlBlk) : PanelSt :=
  match p.st with
  | .clear => if p.scanning then .lit else .clear
  | .hot => if p.tempC < 90 then .lit else .hot
  | x => x

/-- What takes effect at a frame start but for the image (R469 to R477). -/
def panelFrameStart (m : Mod) : Mod :=
  let p := m.pnl
  let st := litState p
  let m := if p.bandNew = p.band then m else panelEvent m 1
  { m with pnl := { m.pnl with
      st := st, drive := st == .lit, rate := p.rateNew, crcExp := p.crcNew.getD p.crcExp, crcNew := none,
      bands := p.bandsNew.getD p.bands, bandsNew := none, band := p.bandNew, full := holds m whoPanel,
      pattern := p.patternDue, frameAt := m.clk, scanning := true, checked := false } }

/-- PANEL_FRAME_START (R469, R470): an image that waits is copied into the frame memory. -/
def execPanelFrameStart (t : Nat) (s : State) : Host.Outcome State Fault Refusal :=
  let m := s.m.advance t
  if m.pwr.st != .off && frameDue m then
    .next { s with
      m := { panelFrameStart m with clk := max s.m.clk t }
      frame := if m.pnl.crcNew.isSome then s.image else s.frame
      image := [] }
  else s.runOn t (fun m => m)

/-- PANEL_FRAME_END (R476): `crc` is what the driver computed over the bytes it read. -/
def execPanelFrameEnd (t : Nat) (crc : W32) (s : State) : Host.Outcome State Fault Refusal :=
  s.runOn t (fun m =>
    let p := m.pnl
    if !p.scanning || p.checked || m.clk < p.frameAt + 8333333 then m
    else
      let m := { m with pnl := { p with checked := true } }
      if crc = p.crcExp then
        (if p.patternDue && p.patternNew && p.crcNew.isNone then { m with pnl := { m.pnl with patternDue := false, patternNew := false } } else m)
      else
        let m := if p.patternDue then m else { m with pnl := { m.pnl with patternDue := true, patternNew := false } }
        reportFault (panelEvent m 2) (faultOf 0x2C 1 0 0x0E00 4 2))

/-- PANEL_TEMP_READ (R473, R474): two consecutive readings decide one band; at 100 °C the drive is to be disabled. -/
def execPanelTempRead (t : Nat) (tempC : Int) (s : State) : Host.Outcome State Fault Refusal :=
  s.runOn t (fun m =>
    let p := m.pnl
    if p.st == .off then m
    else
      let edge : Nat → Int := fun b => ((p.bands[b]?).map Band.edgeLow).getD 0
      let up := if p.bandNew < 5 && edge (p.bandNew + 1) ≤ tempC then p.upRun + 1 else 0
      let down := if 0 < p.bandNew && tempC < edge p.bandNew - 2 then p.downRun + 1 else 0
      let p := { p with tempC := tempC, upRun := up, downRun := down }
      let p := if up = 2 then { p with bandNew := p.bandNew + 1, upRun := 0, downRun := 0 }
               else if down = 2 then { p with bandNew := p.bandNew - 1, upRun := 0, downRun := 0 } else p
      if 100 ≤ tempC && (p.st == .clear || p.st == .lit) then
        reportFault (panelEvent { m with pnl := { p with st := .hot } } 4) (faultOf 0x2E 1 0 0x0E00 6 2)
      else { m with pnl := p })

/-! ### The host's operations (R480) -/

/-- PNL_FRAME (R469): the last image accepted before a frame start is the one shown. -/
def execPnlFrame (t : Nat) (q : Req) (crc : W32) (img : List Byte) (s : State) : Host.Outcome State Fault Refusal :=
  let m := s.m.advance t
  let fit := panelUp m.pnl && img.length = frameBytes && crc32c img = crc
  if m.pwr.st != .off && opReady m 0x0380 q false && fit then
    .next { s with
      m := { post { m with pnl := { m.pnl with crcNew := some crc, patternNew := m.pnl.patternDue } } q .ok with clk := max s.m.clk t }
      image := Memory.ofBytes 0 img }
  else
    s.runOp t 0x0380 q (fun m =>
      if img.length != frameBytes then refuse m q .badField
      else if !panelUp m.pnl then refuse m q .pnlAbsent
      else refuse m q .pnlCrc)

/-- A band entry, and the rules of a table (R472). -/
def bandRec (b : List Byte) : Band :=
  { edgeLow := (BitVec.ofNat 8 (u8 b 0)).toInt, code := u8 b 1, fullCode := u8 b 2, precharge := u8 b 3 }
def bandsOk (bs : List Band) : Bool :=
  bs.all (fun b => b.code ≤ 63 && b.code ≤ b.fullCode && b.fullCode ≤ 63 && b.precharge ≤ 8) &&
    ((bs.drop 1).zip (bs.drop 2)).all (fun e => e.1.edgeLow < e.2.edgeLow)

/-- PNL_BANDS (R472, R473): the table holds from the next frame start. -/
def execPnlBands (t : Nat) (q : Req) (buf : List Byte) (s : State) : Host.Outcome State Fault Refusal :=
  s.runOp t 0x0381 q (fun m =>
    let bs := (pieces buf 8 6).map bandRec
    if buf.length = 48 && bandsOk bs then post { m with pnl := { m.pnl with bandsNew := some bs } } q .ok
    else refuse m q .badField)

/-- The grant of full brightness ends, and a PNL_FULL that waits for one ends with it (R475, R480). -/
def releaseFull (m : Mod) (q : Req) : Mod :=
  let m := { m with adm := { m.adm with waiting := m.adm.waiting.filter (fun w => w.who != whoPanel) } }
  let m := postOpt { m with pnl := { m.pnl with fullReq := none } } m.pnl.fullReq .ok
  post (pumpLoops (releasePermit m whoPanel)) q .ok

/-- PNL_FULL (R475): a permit of 4 units for the time asked; while a grant stands, a renewal of it (R247). -/
def execPnlFull (t : Nat) (q : Req) (d : Nat) (s : State) : Host.Outcome State Fault Refusal :=
  s.runOp t 0x0382 q (fun m =>
    if 1000 < d then refuse m q .badField
    else if !panelUp m.pnl then refuse m q .pnlAbsent
    else if d = 0 then releaseFull m q
    else if m.pnl.fullReq.isSome then refuse m q .busy
    else
      let m := startOp { m with pnl := { m.pnl with fullReq := some q } } q
      pumpLoops (if holds m whoPanel then renew m whoPanel 4 d else request m whoPanel .panelFull false d))

/-- PNL_FULL_RELEASE (R475). -/
def execPnlFullRelease (t : Nat) (q : Req) (s : State) : Host.Outcome State Fault Refusal :=
  s.runOp t 0x0382 q (fun m => if !panelUp m.pnl then refuse m q .pnlAbsent else releaseFull m q)

/-- PNL_ID_READ (R480). -/
def execPnlIdRead (t : Nat) (q : Req) (s : State) : Host.Outcome State Fault Refusal :=
  s.runOp t 0x0383 q (fun m =>
    if panelUp m.pnl then post m q .ok { data := m.pnl.ident } else refuse m q .pnlAbsent)

end Sys2Proof.Machine
end

