-- ==== Sys2Proof/Machine/Registers.lean ====
section
/-! DEFINITION. The set-up registers of BAR0 (R8 to R12, R327, R499 to R505): a write is taken field by field by each
field's access code, and the RWP fields, which only a protection change writes (R452). -/

namespace Sys2Proof.Machine

/-! ### Fields (R11) -/

/-- A field of a register as a write sees it: its place, what it holds or was last written, its access code's traits,
the values in its range, and what taking a value does. `act` fields (W1C, WO) hold 0 and act on ones; `free` ones act
under SOFT_LOCK (R502); `prot` ones are RWP; `held` ones are locked while their block runs (R12). -/
structure Field where
  hi : Nat
  lo : Nat
  cur : Nat
  free : Bool := false
  prot : Bool := false
  held : Bool := false
  ok : Nat → Bool := fun _ => true
  set : Nat → Mod → Mod

/-- A W1C field, and a WO field. -/
def w1cField (hi lo : Nat) (set : Nat → Mod → Mod) : Field := { hi := hi, lo := lo, cur := 0, free := true, set := set }
def woField (hi lo : Nat) (set : Nat → Mod → Mod) : Field := { hi := hi, lo := lo, cur := 0, set := set }

/-- An RW or RWB bit. -/
def bitField (i : Nat) (cur : Bool) (set : Bool → Mod → Mod) : Field :=
  { hi := i, lo := i, cur := b2n cur, set := fun v => set (v == 1) }

/-- A value lies from `a` to `b`. -/
def inRange (a b v : Nat) : Bool := a ≤ v && v ≤ b

/-- Why a field keeps its value, by the order of R327: 1 SOFT_LOCK, 2 PROTECTED, 3 LOCKED, 4 BAD_FIELD; 0 it acts. -/
def Field.verdict (f : Field) (soft : Bool) (n : Nat) : Nat :=
  if n = f.cur then 0
  else if soft && !f.free then 1
  else if f.prot then 2
  else if f.held then 3
  else if !f.ok n then 4
  else 0

/-- The earlier of two refusals in the order of R327; 0 is none. -/
def firstRefusal (a b : Nat) : Nat := if a = 0 then b else if b = 0 then a else min a b

/-- The STATUS of a refusal. -/
def refusalStatus (n : Nat) : Status := if n = 2 then .isProtected else if n = 4 then .badField else .locked

/-- A field takes its part of a write, or keeps its value; with the refusal so far. -/
def takeField (soft : Bool) (v : W32) (a : Mod × Nat) (f : Field) : Mod × Nat :=
  let n := fld v f.hi f.lo
  let r := f.verdict soft n
  (if r = 0 && n != f.cur then f.set n a.1 else a.1, firstRefusal a.2 r)

/-- A write is taken field by field, with at most one refusal (R327). -/
def takeWrite (m : Mod) (off : Nat) (v : W32) (fs : List Field) : Mod :=
  let a := fs.foldl (takeField m.gen.softLock v) (m, 0)
  if a.2 = 0 then a.1 else regRefuse a.1 (refusalStatus a.2) off v

/-! ### RWP fields (R452, R505) -/

/-- A value the bits of a 32-bit register take the place of. -/
def withBits (w : W32) (hi lo v : Nat) : W32 :=
  BitVec.ofNat 32 (w.toNat - fld w hi lo * 2 ^ lo + v % 2 ^ (hi + 1 - lo) * 2 ^ lo)

/-- An RWP field. -/
def rwpField (hi lo cur : Nat) (ok : Nat → Bool) (set : Nat → Mod → Mod) : Field :=
  { hi := hi, lo := lo, cur := cur, prot := true, ok := ok, set := set }

/-- SAFETY_FORCE_PERMIT changes: cleared, it releases every force on a SAFETY signal (R55). -/
def setSafetyForce (m : Mod) (v : Bool) : Mod :=
  let m' := { m with sig := { m.sig with safetyForce := v } }
  if !v && m.sig.safetyForce then releaseForces m' true else m'

/-- The RWP fields of the register at an offset, with what a protection change does to each (R452). -/
def rwpFields (m : Mod) (off : Nat) : List Field :=
  match off with
  | 0x3008 => [rwpField 1 1 (b2n m.sig.safetyForce) (fun _ => true) (fun v m => setSafetyForce m (v == 1))]
  | 0xA004 =>
    [rwpField 16 16 (b2n m.saf.gmacReq) (fun _ => true) (fun v m => { m with saf := { m.saf with gmacReq := v == 1 } }),
     rwpField 12 0 m.saf.limitMin (inRange 1 4320) (fun v m => { m with saf := { m.saf with limitMin := v } })]
  | 0xA008 =>
    [rwpField 7 4 (bPort m) (inRange 0 8) (fun v m => degUpdate { m with saf := { m.saf with net := withBits m.saf.net 7 4 v } } .net),
     rwpField 3 0 (aPort m) (inRange 0 8) (fun v m => degUpdate { m with saf := { m.saf with net := withBits m.saf.net 3 0 v } } .net)]
  | 0xB004 =>
    (List.range 6).map (fun p => rwpField (3 * p + 2) (3 * p) (fallbackOf m p) (fun v => v ≤ 5 && v != p)
      (fun v m => { m with lks := { m.lks with fallback := withBits m.lks.fallback (3 * p + 2) (3 * p) v } }))
  | 0xB008 =>
    [0, 1].map (fun i => rwpField i i (fld m.lks.serviceMode i i) (fun _ => true)
      (fun v m => { m with lks := { m.lks with serviceMode := withBits m.lks.serviceMode i i v } }))
  | 0xC004 =>
    [rwpField 15 8 m.tri.aiTol (inRange 1 100) (fun v m => { m with tri := { m.tri with aiTol := v } }),
     rwpField 4 4 (b2n m.tri.soloStart) (fun _ => true) (fun v m => { m with tri := { m.tri with soloStart := v == 1 } }),
     rwpField 1 0 m.tri.seatNew (fun _ => true) (fun v m => { m with tri := { m.tri with seatNew := v } })]
  | 0xC008 => [rwpField 31 0 m.tri.idNew.toNat (fun _ => true) (fun v m => { m with tri := { m.tri with idNew := BitVec.ofNat 32 v } })]
  | 0xD004 => [rwpField 27 16 m.net.ctrlVid (inRange 1 4094) (fun v m => { m with net := { m.net with ctrlVid := v } })]
  | 0x10004 =>
    [rwpField 16 16 (b2n m.flt.hostAck) (fun _ => true) (fun v m => { m with flt := { m.flt with hostAck := v == 1 } }),
     rwpField 9 0 m.flt.jibMs (inRange 1 1000) (fun v m => { m with flt := { m.flt with jibMs := v } })]
  | 0x13010 => [rwpField 2 0 m.sec.policy.toNat (fun _ => true) (fun v m => { m with sec := { m.sec with policy := BitVec.ofNat 3 v } })]
  | _ => []

/-- The registers with RWP fields (R505). -/
def rwpOffsets : List Nat := [0x3008, 0xA004, 0xA008, 0xB004, 0xB008, 0xC004, 0xC008, 0xD004, 0x10004, 0x13010]

/-- The RWP fields of a register hold a value together (R231, R262, R288): the two networks' ports differ, the service
pairs are not both split, a member has a triad identity. -/
def rwpJoint (m : Mod) (off : Nat) (v : W32) : Bool :=
  match off with
  | 0xA008 => fld v 7 4 = 0 || fld v 7 4 != fld v 3 0
  | 0xB008 => fld v 1 0 != 3
  | 0xC004 => fld v 1 0 = 0 || m.tri.idNew != 0
  | 0xC008 => v != 0 || m.tri.seatNew = 0
  | _ => true

/-- A protection change of a register may be made: it has RWP fields and each is in its range (R452). -/
def protOk (m : Mod) (off : Nat) (v : W32) : Bool :=
  let fs := rwpFields m off
  !fs.isEmpty && fs.all (fun f => f.ok (fld v f.hi f.lo)) && rwpJoint m off v

/-- A protection change of a register (R452): only RWP fields are written; the value persists (log 97). -/
def setProt (m : Mod) (off : Nat) (v : W32) : Mod :=
  let m := (rwpFields m off).foldl (fun m f => if fld v f.hi f.lo = f.cur then m else f.set (fld v f.hi f.lo) m) m
  { m with nv := { m.nv with protRegs := tset m.nv.protRegs off v } }

/-! ### The registers of each block (R505) -/

/-- The ring registers (R336): ring `n`, offset `o` in its 32 bytes. -/
def ringFields (m : Mod) (n o : Nat) : List Field :=
  let r := ringOf m n
  let held := r.st != .disabled
  let set : (Ring → Nat → Ring) → Nat → Mod → Mod := fun f v m => setRing m n (f (ringOf m n) v)
  let command := 1 ≤ n && n ≤ 15
  match o with
  | 0x00 => [{ hi := 31, lo := 6, cur := fld r.baseLo 31 6, held := held, set := set (fun r v => { r with baseLo := BitVec.ofNat 32 (64 * v) }) }]
  | 0x04 => [{ hi := 31, lo := 0, cur := r.baseHi.toNat, held := held, set := set (fun r v => { r with baseHi := BitVec.ofNat 32 v }) }]
  | 0x08 =>
    [{ hi := 9, lo := 8, cur := r.cls, held := held, ok := fun v => command && inRange 1 2 v, set := set (fun r v => { r with cls := v }) },
     { hi := 31, lo := 20, cur := r.c1Rate, held := held, ok := fun v => 1 ≤ v || !command || r.cls != 1,
       set := set (fun r v => { r with c1Rate := v }) },
     { hi := 19, lo := 14, cur := r.vector, held := held, set := set (fun r v => { r with vector := v }) },
     { hi := 13, lo := 10, cur := r.defCring, held := held, set := set (fun r v => { r with defCring := v }) },
     { hi := 3, lo := 0, cur := r.sizeLog2, held := held, ok := inRange 4 15, set := set (fun r v => { r with sizeLog2 := v }) }]
  | 0x0C => [{ hi := 15, lo := 0, cur := r.mask.toNat, set := set (fun r v => { r with mask := BitVec.ofNat 16 v }) }]
  | 0x18 => [{ hi := 15, lo := 0, cur := r.modUsNew, set := set (fun r v => { r with modUsNew := v }) }]
  | _ => []

/-- GEN (R501). -/
def genFields (m : Mod) (o : Nat) : List Field :=
  match o with
  | 0x14 => [{ hi := 31, lo := 0, cur := m.gen.scratch.toNat, free := true, set := fun v m => { m with gen := { m.gen with scratch := BitVec.ofNat 32 v } } }]
  | 0x18 => [{ hi := 0, lo := 0, cur := b2n m.gen.softLock, free := true, set := fun v m => { m with gen := { m.gen with softLock := v == 1 } } }]
  | _ => []

/-- HIF without its rings (R336). -/
def hifFields (m : Mod) (o : Nat) : List Field :=
  match o with
  | 0x004 =>
    [{ hi := 11, lo := 8, cur := m.hif.regCring, set := fun v m => { m with hif := { m.hif with regCring := v } } },
     bitField 0 m.hif.ready (fun v m => if v then (if m.hif.attached then hostReadyOn m else m) else hostReadyOff m)]
  | 0x00C => [w1cField 4 0 (fun v m => { m with hif := { m.hif with events := clr32 m.hif.events (BitVec.ofNat 32 v) } })]
  | 0x010 =>
    [{ hi := 31, lo := 31, cur := 0, free := true, set := fun _ m => { m with hif := { m.hif with wdAt := m.clk } } },
     { hi := 15, lo := 0, cur := m.hif.wdMs, ok := fun v => v == 0 || inRange 10 10000 v, set := fun v m => { m with hif := { m.hif with wdMs := v, wdAt := if m.hif.wdMs = 0 then m.clk else m.hif.wdAt } } }]
  | _ => []

/-- ADM, SIG, PGE, LPE and PLN (R68, R91, R142, R161, R504). -/
def controlFields (m : Mod) (off : Nat) : List Field :=
  match off with
  | 0x2014 => [w1cField 2 0 (fun v m => { m with adm := { m.adm with events := clr32 m.adm.events (BitVec.ofNat 32 v) } })]
  | 0x3008 =>
    [woField 8 8 (fun _ m => releaseForces m false),
     bitField 0 m.sig.forceEn (fun v m => { m with sig := { m.sig with forceEn := v } })]
  | 0x3018 => [w1cField 3 0 (fun v m => { m with sig := { m.sig with refused := clr32 m.sig.refused (BitVec.ofNat 32 v) } })]
  | 0x4004 =>
    [bitField 1 m.pge.changeEn (fun v m => { m with pge := { m.pge with changeEn := v } }),
     bitField 0 m.pge.releaseEn (fun v m => { m with pge := { m.pge with releaseEn := v, releaseAt := m.clk } })]
  | 0x4010 => [w1cField 31 0 (fun v m => { m with pge := { m.pge with aborts := lmod m.pge.aborts 0 (fun w => clr32 w (BitVec.ofNat 32 v)) } })]
  | 0x4014 => [w1cField 31 0 (fun v m => { m with pge := { m.pge with aborts := lmod m.pge.aborts 1 (fun w => clr32 w (BitVec.ofNat 32 v)) } })]
  | 0x4018 => [w1cField 31 0 (fun v m => { m with pge := { m.pge with aborts := lmod m.pge.aborts 2 (fun w => clr32 w (BitVec.ofNat 32 v)) } })]
  | 0x4020 => [w1cField 31 0 (fun v m => { m with pge := { m.pge with skips := clr32 m.pge.skips (BitVec.ofNat 32 v) } })]
  | 0x6004 => [bitField 0 m.lpe.plausEn (fun v m => { m with lpe := { m.lpe with plausEn := v } })]
  | 0x6008 => [{ hi := 2, lo := 0, cur := m.lpe.bankSwap.toNat, set := fun v m => { m with lpe := { m.lpe with bankSwap := BitVec.ofNat 3 v } } }]
  | 0x6014 => [w1cField 3 0 (fun v m => { m with lpe := { m.lpe with events := clr32 m.lpe.events (BitVec.ofNat 32 v) } })]
  | 0x8004 =>
    [bitField 1 m.pln.resumeEn (fun v m => { m with pln := { m.pln with resumeEn := v } }),
     bitField 0 m.pln.startEnNew (fun v m => { m with pln := { m.pln with startEnNew := v } })]
  | 0x8014 => [w1cField 3 0 (fun v m => { m with pln := { m.pln with events := clr32 m.pln.events (BitVec.ofNat 32 v) } })]
  | _ => []

/-- FIO, SAF and LKS (R187, R206, R231, R264). -/
def fieldFields (m : Mod) (off : Nat) : List Field :=
  if 0x9020 ≤ off && off < 0x9040 then [w1cField 31 0 (fun v m => clearLatched m ((off - 0x9020) / 4) v)]
  else if 0xA040 ≤ off && off < 0xA060 then [w1cField 31 0 (fun v m => clearFaults m ((off - 0xA040) / 4) v)]
  else
    match off with
    | 0x9004 => [bitField 0 m.fio.testEnNew (fun v m => { m with fio := { m.fio with testEnNew := v } })]
    | 0x9008 => [w1cField 31 24 (fun v m => { m with fio := { m.fio with closeRefused := m.fio.closeRefused &&& ~~~(BitVec.ofNat 8 v) } })]
    | 0x900C => [woField 7 0 (fun v m => closeSwitches m v)]
    | 0x9010 => [w1cField 7 0 (fun v m => { m with fio := { m.fio with gswOpened := clr32 m.fio.gswOpened (BitVec.ofNat 32 v) } })]
    | 0x9100 => [bitField 0 m.fio.calEn (fun v m => { m with fio := { m.fio with calEn := v } })]
    | 0x9104 => [w1cField 3 0 (fun v m => { m with fio := { m.fio with anEvents := clr32 m.fio.anEvents (BitVec.ofNat 32 v) } })]
    | 0xA030 => [w1cField 5 0 (fun v m => { m with saf := { m.saf with events := clr32 m.saf.events (BitVec.ofNat 32 v) } })]
    | 0xB010 => [w1cField 7 0 (fun v m => { m with lks := { m.lks with mismatch := clr32 m.lks.mismatch (BitVec.ofNat 32 v) } })]
    | _ => []

/-- TRI, NET, TIM and CAN (R289, R362, R363, R387). -/
def netFields (m : Mod) (off : Nat) : List Field :=
  if 0xF000 ≤ off && off < 0x10000 then
    (if (off - 0xF000) % 0x200 = 0x14 then
      [w1cField 7 0 (fun v m =>
        let clear : CanPort → CanPort := fun p => { p with events := clr32 p.events (BitVec.ofNat 32 v) }
        { m with can := { m.can with ports := tmod m.can.ports ((off - 0xF000) / 0x200 + 1) clear } })]
     else [])
  else
    match off with
    | 0xC018 => [w1cField 9 0 (fun v m => { m with tri := { m.tri with events := clr32 m.tri.events (BitVec.ofNat 32 v) } })]
    | 0xD004 => [{ hi := 11, lo := 0, cur := m.net.defVid, ok := inRange 1 4094, set := fun v m => { m with net := { m.net with defVid := v } } }]
    | 0xD030 => [w1cField 4 0 (fun v m => { m with net := { m.net with events := clr32 m.net.events (BitVec.ofNat 32 v) } })]
    | 0xE004 =>
      [{ hi := 15, lo := 8, cur := m.tim.domain, held := m.tim.ptpEn, set := fun v m => { m with tim := { m.tim with domain := v } } },
       bitField 3 m.tim.tcEn (fun v m => { m with tim := { m.tim with tcEn := v } }),
       { hi := 2, lo := 2, cur := b2n m.tim.p2p, held := m.tim.ptpEn, set := fun v m => { m with tim := { m.tim with p2p := v == 1 } } },
       bitField 1 m.tim.masterEn (fun v m => { m with tim := { m.tim with masterEn := v } }),
       bitField 0 m.tim.ptpEn (fun v m => { m with tim := { m.tim with ptpEn := v } })]
    | 0xE008 => [{ hi := 31, lo := 0, cur := m.tim.jump, ok := inRange 1000 1000000000, set := fun v m => { m with tim := { m.tim with jump := v } } }]
    | 0xE01C => [w1cField 3 0 (fun v m => { m with tim := { m.tim with events := clr32 m.tim.events (BitVec.ofNat 32 v) } })]
    | _ => []

/-- FLT and REC (R402, R422). -/
def faultFields (m : Mod) (off : Nat) (v : W32) : List Field :=
  match off with
  | 0x10008 => [w1cField 1 1 (fun _ m => clearPrior m), w1cField 0 0 (fun _ m => clearCapture m)]
  | 0x1000C => [{ hi := 0, lo := 0, cur := 0, free := true, set := fun _ m => acknowledge m (fun _ => true) }]
  | 0x10010 => [bitField 0 m.flt.capSel (fun v m => { m with flt := { m.flt with capSel := v } })]
  | 0x10040 => [w1cField 31 0 (fun v m => clearActives m 0 v)]
  | 0x10044 => [w1cField 31 0 (fun v m => clearActives m 1 v)]
  | 0x10050 => [w1cField 4 0 (fun v m => { m with flt := { m.flt with events := clr32 m.flt.events (BitVec.ofNat 32 v) } })]
  | 0x11004 =>
    [{ hi := 31, lo := 24, cur := m.rcr.freezeMax, ok := inRange 1 240, set := fun v m => { m with rcr := { m.rcr with freezeMax := v } } },
     { hi := 23, lo := 12, cur := m.rcr.commitS, ok := inRange 10 600, set := fun v m => { m with rcr := { m.rcr with commitS := v } } },
     bitField 3 m.rcr.t3New (fun v m => { m with rcr := { m.rcr with t3New := v } }),
     bitField 2 m.rcr.t2New (fun v m => { m with rcr := { m.rcr with t2New := v } }),
     bitField 0 m.rcr.en (fun v m => setEn m v)]
  | 0x11008 =>
    let sum : Bool := fld v 15 8 + fld v 7 0 ≤ 15
    [{ hi := 15, lo := 8, cur := m.rcr.t3Mib, ok := fun _ => sum, set := fun v m => { m with rcr := { m.rcr with t3Mib := v } } },
     { hi := 7, lo := 0, cur := m.rcr.t2Mib, ok := fun _ => sum, set := fun v m => { m with rcr := { m.rcr with t2Mib := v } } }]
  | 0x11020 => [w1cField 3 0 (fun v m => { m with rcr := { m.rcr with events := clr32 m.rcr.events (BitVec.ofNat 32 v) } })]
  | _ => []

/-- UPD, SEC, PNL and PWR (R444, R466, R482, R503). -/
def serviceFields (m : Mod) (off : Nat) : List Field :=
  match off with
  | 0x12004 =>
    [{ hi := 23, lo := 16, cur := m.upd.confirmMin, ok := inRange 1 120, set := fun v m => { m with upd := { m.upd with confirmMin := v } } },
     bitField 1 m.upd.relayEn (fun v m => { m with upd := { m.upd with relayEn := v } }),
     bitField 0 m.upd.receiveEn (fun v m => { m with upd := { m.upd with receiveEn := v } })]
  | 0x1204C => [w1cField 5 0 (fun v m => { m with upd := { m.upd with events := clr32 m.upd.events (BitVec.ofNat 32 v) } })]
  | 0x13014 => [w1cField 4 0 (fun v m => { m with sec := { m.sec with events := clr32 m.sec.events (BitVec.ofNat 32 v) } })]
  | 0x14004 => [bitField 0 m.pnl.en (fun v m => setPanelEn m v)]
  | 0x14008 =>
    [{ hi := 15, lo := 8, cur := fld m.pnl.rateNew 15 8, ok := inRange 1 120,
       set := fun v m => { m with pnl := { m.pnl with rateNew := withBits m.pnl.rateNew 15 8 v } } },
     { hi := 7, lo := 0, cur := fld m.pnl.rateNew 7 0, ok := inRange 1 120,
       set := fun v m => { m with pnl := { m.pnl with rateNew := withBits m.pnl.rateNew 7 0 v } } }]
  | 0x14018 => [w1cField 4 0 (fun v m => { m with pnl := { m.pnl with events := clr32 m.pnl.events (BitVec.ofNat 32 v) } })]
  | 0x15004 =>
    [woField 1 1 (fun _ m => { m with pwr := { m.pwr with recovery := false } }), bitField 0 m.nv.autoRun (fun v m => setAutoRun m v)]
  | 0x15008 => [{ hi := 4, lo := 0, cur := m.nv.windowS, ok := inRange 1 30, set := fun v m => { m with nv := { m.nv with windowS := v } } }]
  | 0x15014 => [w1cField 2 0 (fun v m => { m with pwr := { m.pwr with events := clr32 m.pwr.events (BitVec.ofNat 32 v) } })]
  | _ => []

/-- The fields of the register at an offset that a write can reach (R505); none at a reserved offset (R10). RING_CTRL is
apart. -/
def fieldsAt (m : Mod) (off : Nat) (v : W32) : List Field :=
  (if off < 0x1000 then genFields m off
   else if off < 0x1800 then hifFields m (off - 0x1000)
   else if off < 0x2000 then ringFields m ((off - 0x1800) / 0x20) ((off - 0x1800) % 0x20)
   else if off < 0x9000 then controlFields m off
   else if off < 0xC000 then fieldFields m off
   else if off < 0x10000 then netFields m off
   else if off < 0x12000 then faultFields m off v
   else serviceFields m off) ++ rwpFields m off

/-- ENABLE of a ring as part of a register write: what it does, and under SOFT_LOCK the refusal (R316, R327, R502). -/
def writeRingCtrl (m : Mod) (n : Nat) (v : W32) : Mod :=
  let on := bitOf v.toNat 0
  if on == (ringOf m n).enable then m
  else if m.gen.softLock then regRefuse m .locked (ringCtrlOff n) v
  else if on then ringOn m n v else ringOff m n v

/-- A BAR0 write (R327, R500): one that is not aligned is refused with BAD_FIELD; in boot recovery only GEN, HIF and SEC
are served (R446). -/
def registerWrite (m : Mod) (off : Nat) (v : W32) : Mod :=
  if regHeld m off then m
  else if off % 4 != 0 then regRefuse m .badField off v
  else if 0x1800 ≤ off && off < 0x2000 && (off - 0x1800) % 0x20 = 0x10 then writeRingCtrl m ((off - 0x1800) / 0x20) v
  else takeWrite m off v (fieldsAt m off v)

/-- REGISTER_WRITE (R327). -/
def execRegisterWrite (t off : Nat) (v : W32) (s : State) : Host.Outcome State Fault Refusal :=
  s.runPanel t (fun m => registerWrite m off v)

/-- The verdict on a C1 ring's rate: the manual gives the test no figure (R316, R504), so it is a free value (log 50). -/
def rateAdmitted (m : Mod) : Bool := Config.freshBool m.free

/-- RING_ADMISSION_DONE (R316): the ring becomes ACTIVE, or DISABLED with a refusal NOT_ADMITTED. -/
def execRingAdmissionDone (t ring : Nat) (s : State) : Host.Outcome State Fault Refusal :=
  s.runOn t (fun m =>
    let r := ringOf m ring
    if r.st != .pending then m
    else if rateAdmitted m then setRing m.tick ring r.activate
    else
      let m := noteRefused (setRing m.tick ring { r with st := .disabled, enable := false }) 10 ring 0
      regRefuse m .notAdmitted (ringCtrlOff ring) 1)

end Sys2Proof.Machine
end

