-- ==== Sys2Proof/Machine/TabBase.lean ====
section
/-! DEFINITION. Loading and deleting the tables of kinds 1 to 4 of R323: signals, units, unit members and DIC images with
their tasks. A load judges one record after the other; the first refusal refuses the whole load (R45, R239). -/

namespace Sys2Proof.Machine

/-! ### What the loads share -/

/-- The verdict of a check: passed, or the refusal. -/
abbrev Chk := Except Status PUnit.{1}

/-- A condition that a record meets, or is refused. -/
def need (c : Bool) (st : Status) : Chk := if c then .ok ⟨⟩ else .error st

/-- A signal handle that a record requires is judged, or one that may be null (R45). -/
def judged (m : Mod) (h : W32) : Chk := match judgeSig m h with | .ok _ => .ok ⟨⟩ | .error e => .error e
def judgedOpt (m : Mod) (h : W32) : Chk := if h = 0 then .ok ⟨⟩ else judged m h

/-- A unit handle that may be null is judged (R45). -/
def judgedUnit (m : Mod) (h : W32) : Chk :=
  if h = 0 then .ok ⟨⟩ else match judgeUnit m h with | .ok _ => .ok ⟨⟩ | .error e => .error e

/-- Every handle of a list is judged. -/
def judgedAll (m : Mod) (hs : List W32) : Chk :=
  match hs.findSome? (fun h => match judged m h with | .ok _ => none | .error e => some e) with
  | some e => .error e
  | none => .ok ⟨⟩
def judgedAllOpt (m : Mod) (hs : List W32) : Chk := judgedAll m (hs.filter (· != 0))

/-- The TYPE of a signal named by a judged handle. -/
def tyOf (m : Mod) (h : W32) : Nat := match sigAt m (hIdx h) with | some r => r.ty | none => 0

/-- The signals named, where not null, are of a type. -/
def typed (m : Mod) (hs : List W32) (ty : Nat) : Chk :=
  need (hs.all (fun h => h == 0 || tyOf m h == ty)) .typeMismatch

/-- The signals named, where not null, may take an owner: none is CONST (R50), none has another owner (R48). -/
def mayOwn (m : Mod) (hs : List W32) (kind id : Nat) : Chk := do
  let rs := (hs.filter (· != 0)).filterMap (fun h => sigAt m (hIdx h))
  need (rs.all (fun r => !r.isConst)) .constant
  need (rs.all (fun r => ownable r kind id)) .ownerConflict

/-- An object takes its place: what it owned before and no longer owns becomes ownerless (R512), its references change
from `oldRefs` to `newRefs`, and it owns `owned` (R46, R47). -/
def place (m : Mod) (kind id cls : Nat) (oldRefs newRefs owned : List W32) : Except Status Mod := do
  let own := owned.filter (· != 0)
  let m := orphan (dropRefs m oldRefs) kind id (own.map hIdx)
  need (!refsFull m (newRefs ++ own)) .inUse
  return own.foldl (fun m h => ownSig m h kind id cls) (addRefs m newRefs)

/-- The REAL32 fields of a record at the offsets given are finite. -/
def finiteAt (b : List Byte) (offs : List Nat) : Bool := offs.all (fun o => finite32 (w32 b o))

/-- A REAL32 is at least 0. -/
def nonneg32 (f : F32) : Bool := le32 0 f

/-! ### Kind 1: signals (R323) -/

/-- A signal definition: the module, and the record with the assigned generation (R43, R44, R323). -/
def loadSignal (m : Mod) (b : List Byte) : Except Status (Mod × List Byte) := do
  let h := w32 b 0
  let i := hIdx h
  let ty := u8 b 4
  let fl := u8 b 5
  let ring := u8 b 6
  let cst := bitOf fl 0
  let host := bitOf fl 2
  need (fld h 31 28 = 0 && ty ≤ 7 && fl < 8 && zeros b 7 1 && (if host then 1 ≤ ring && ring ≤ 15 else ring == 0) &&
    (cst || zeros b 8 8)) .badField
  need (sigAt m i).isNone .inUse
  let g := genAt m i
  let r : SigRec := {
    gen := g, ty := ty, isConst := cst, safety := bitOf fl 1
    val := if cst then encodeVal ty (w64 b 8) else 0
    qual := if cst then 0xC000 else 0x0005
    ownKind := if host then 7 else 0
    ownId := if host then ring else 0
    ownClass := if host then (ringOf m ring).cls else 0 }
  let b' := patch b 0 (bytes32 (sigHandle i g))
  return (storeAdd (setSig m i r) 1 i 1 b', b')

/-- The next generation of an index (R44). -/
def nextGen (g top : Nat) : Nat := if g ≥ top then 1 else g + 1

/-- What the module keeps of a signal beside its record goes with it. -/
def forgetSignal (m : Mod) (i : Nat) : Mod :=
  { m with tri := { m.tri with
      locals := tdel m.tri.locals i
      changed := m.tri.changed.filter (· != i)
      copies := m.tri.copies.filter (fun c => c.1 != i)
      outside := tdel m.tri.outside i } }

/-- A signal is deleted while nothing refers to it (R45, R46). -/
def deleteSignal (m : Mod) (h : W32) : Except Status Mod :=
  match judgeSig m h with
  | .error e => .error e
  | .ok i =>
    match sigAt m i with
    | none => .error .staleHandle
    | some r =>
      if r.refs > 0 then .error .inUse
      else
        let m := forgetSignal (recDelete m i) i
        .ok (storeDel { m with sig := { m.sig with sigs := tdel m.sig.sigs i, gens := tset m.sig.gens i (nextGen r.gen 127) } } 1 h.toNat)

/-! ### Kind 2: units (R56, R57) -/

/-- The three signals a unit owns. -/
def Unit.owned (u : Unit) : List W32 := [u.modeSig, u.alarmSig, u.stateSig]

/-- A unit record (R57), for the index and generation given. -/
def parseUnit (b : List Byte) (gen : Nat) : Unit :=
  { gen := gen, parent := uIdx (w32 b 4), modeSig := w32 b 8, alarmSig := w32 b 12, stateSig := w32 b 16,
    ilk := (List.range 8).map (fun k => w32 b (20 + 4 * k)), allowed := BitVec.ofNat 16 (u16 b 52) ||| 0x10,
    initMode := (modeOfNo (u8 b 54)).getD .auto, nameTag := w32 b 56,
    raw := patch b 0 (bytes32 (unitHandle (uIdx (w32 b 0)) gen)) }

/-- The interlocks that a unit and its subtree now stand under act on them (R57, R62). -/
def heedInterlocks (m : Mod) (i : Nat) : Mod :=
  (subtree m i).foldl (fun m j =>
    match unitAt m j with
    | some u => if (u.mode == .manual || u.mode == .auto) && ilkOwn m j then enterMode m j .hold else m
    | none => m) m

/-- A unit that is created takes INIT_MODE; its signals show it (R57). -/
def createUnit (m : Mod) (i : Nat) (u : Unit) : Mod :=
  let u := { u with mode := u.initMode, prior := if u.initMode == .manual then .manual else .auto }
  let m := { m with sig := { m.sig with units := tset m.sig.units i u } }
  let m := ownerWrite m u.modeSig (BitVec.ofNat 64 (modeNo u.mode)) 0xC000
  ownerWrite m u.alarmSig 0 0xC000

/-- A unit record: the module, and the record with the assigned generation (R57). -/
def loadUnit (m : Mod) (b : List Byte) : Except Status (Mod × List Byte) := do
  let h := w32 b 0
  let i := uIdx h
  need (fld h 31 24 = 0 && 65 ≤ i && u16 b 52 < 32 && u8 b 54 ≤ 4 && zeros b 55 1 && zeros b 60 4) .badField
  need (w32 b 4 != 0) .badField
  judgedUnit m (w32 b 4)
  let old := tget m.sig.units i
  let u := parseUnit b (match old with | some o => o.gen | none => (tget m.sig.ugens i).getD 1)
  judgedAllOpt m (u.owned ++ u.ilk)
  match old with
  | some o =>
    judgedUnit m h
    need (h != 0) .badField
    need (u.owned == o.owned) .badField
    need (!(subtree m i).contains u.parent) .treeCycle
  | none =>
    typed m [u.modeSig, u.alarmSig] 6
    typed m [u.stateSig] 2
    mayOwn m u.owned 8 i
  typed m u.ilk 0
  let was := match old with | some o => objRefs o.ilk o.owned | none => []
  let m ← place m 8 i 1 was (objRefs u.ilk u.owned) u.owned
  let m := match old with
    | some o =>
      setUnit m i { o with parent := u.parent, ilk := u.ilk, allowed := u.allowed, initMode := u.initMode, nameTag := u.nameTag, raw := u.raw }
    | none => createUnit m i u
  return (storeAdd (heedInterlocks m i) 2 i 1 u.raw, u.raw)

/-- Something names the unit: a unit below it, a member, or a table of loops, plans, tasks or safety functions (R46, R58). -/
def unitUsed (m : Mod) (i : Nat) : Bool :=
  let at_ : W32 → Bool := fun h => h != 0 && uIdx h == i
  !(childrenOf m i).isEmpty || m.sig.members.any (fun e => e.2.unit == i) || m.lpe.loops.any (fun e => at_ e.2.rcd.unit) ||
    m.pln.plans.any (fun e => at_ e.2.unit || e.2.acts.any (fun a => a.kind == 5 && at_ a.target)) ||
    m.pge.tasks.any (fun e => at_ e.2.rcd.unit) || m.saf.funcs.any (fun e => at_ e.2.unit)

/-- A user unit is deleted while nothing refers to it (R45, R46, R56, R512). -/
def deleteUnit (m : Mod) (h : W32) : Except Status Mod :=
  match judgeUnit m h with
  | .error e => .error e
  | .ok i =>
    match tget m.sig.units i with
    | none => .error .badField
    | some u =>
      if i ≤ 64 then .error .badField
      else if unitUsed m i then .error .inUse
      else
        let m := orphan (dropRefs m (objRefs u.ilk u.owned)) 8 i
        .ok (storeDel { m with sig := { m.sig with units := tdel m.sig.units i, ugens := tset m.sig.ugens i (nextGen u.gen 255) } } 2 h.toNat)

/-! ### Kind 3: members (R58) -/

/-- A member record. -/
def loadMember (m : Mod) (b : List Byte) : Except Status Mod := do
  let h := w32 b 0
  let role := u8 b 8
  let level := u8 b 9
  need (role ≤ 1 && level ≤ 3 && (role == 0 || 1 ≤ level) && zeros b 10 6) .badField
  judged m h
  need (w32 b 4 != 0) .badField
  judgedUnit m (w32 b 4)
  need (role == 0 || tyOf m h == 0) .typeMismatch
  need (tget m.sig.members (hIdx h)).isNone .inUse
  need (!refsFull m [h]) .inUse
  let m := addRefs m [h]
  let e : Member := { unit := uIdx (w32 b 4), alarmSource := role == 1, level := level, raw := b }
  return storeAdd { m with sig := { m.sig with members := tset m.sig.members (hIdx h) e } } 3 (hIdx h) 1 b

/-- A member record deleted, by its signal. -/
def deleteMember (m : Mod) (h : W32) : Except Status Mod :=
  match judgeSig m h with
  | .error e => .error e
  | .ok i =>
    if (tget m.sig.members i).isNone then .error .badField
    else
      let m := dropRefs m [h]
      .ok (storeDel { m with sig := { m.sig with members := tdel m.sig.members i } } 3 h.toNat)

/-! ### Kind 4: DIC images and tasks (R72, R73, R92, R112) -/

/-- One task record of a load; `prot` within a protection change. A C0 task starts only there (R20). -/
def loadTask (prot : Bool) (g : Image) (m : Mod) (b : List Byte) : Except Status Mod := do
  let r := parseTask g b
  need (taskFieldsOk g b r) .badField
  need (taskAt m r.task).isNone .locked
  need (prot || r.cls != 0) .isProtected
  need (!pairClosed m r) .pairState
  match recordsRefusal m g [b] [] with
  | some e => .error e
  | none => do
    need (!refsFull m (objRefs (r.reads ++ [r.evSource]) r.writes)) .inUse
    return insertTask m g r .stopped

/-- A DIC image followed by its task records (R323): the module, the first task, and the bytes to keep. `replay` loads what
the configuration store holds, where a later record of a task takes the place of an earlier one (R295). -/
def loadImage (m : Mod) (prot replay : Bool) (count : Nat) (buf : List Byte) : Except Status (Mod × Nat) := do
  let n := if replay then count else u16 buf 48
  need (n ≤ 96 && 64 + 64 * n ≤ buf.length) .badField
  let raw := buf.take (buf.length - 64 * n)
  let recs := pieces (buf.drop raw.length) 64 n
  match parseImage raw with
  | none => .error .badImage
  | some g => do
    let ks := recs.map (fun b => u16 b 0)
    let m := if replay then ks.foldl (fun m k => removeTask m k []) m else m
    let m ← recs.foldlM (loadTask prot g) m
    return (storeAdd (insertImage m g) 4 g.imageId.toNat n buf, ks.headD 0)

end Sys2Proof.Machine
end

