-- ==== Sys2Proof/Machine/TabLoops.lean ====
section
/-! DEFINITION. Loading and deleting the tables of kinds 5 to 7 of R323: loops, microprograms and plans. -/

namespace Sys2Proof.Machine

/-! ### Kind 5: loops (R113, R114) -/

/-- A loop record (R113). -/
def parseLoop (b : List Byte) : LoopRec :=
  let fl := u8 b 3
  { loop := u16 b 0, micro := u8 b 2 == 1, enableOnRun := bitOf fl 0, autoRecover := bitOf fl 1, plausEn := bitOf fl 2,
    frozenEn := bitOf fl 3, period := u32 b 4, phase := u32 b 8, apply := u32 b 12, unit := w32 b 16, pvSrc := w32 b 20,
    spSrc := w32 b 24, ffSig := w32 b 28, manSig := w32 b 32, fbSig := w32 b 36, outSig := w32 b 40, out2Sig := w32 b 44,
    outCh := u16 b 48, out2Ch := u16 b 50, statusSig := w32 b 52, aux := (List.range 4).map (fun k => w32 b (56 + 4 * k)),
    ssRate := w32 b 72, ssStep := w32 b 76, reactRate := w32 b 80, fallback := w32 b 84, safeValue := w32 b 88,
    offValue := w32 b 92, a1 := w32 b 96, a2 := w32 b 100, b1 := w32 b 104, b2 := w32 b 108, dead := u8 b 112, lostN := u8 b 113,
    resN := u16 b 114, resLambda := w32 b 116, resLimit := w32 b 120, frozenWin := u16 b 124, recoverN := u16 b 126,
    frozenMove := w32 b 128, frozenBand := w32 b 132, reactLost := u8 b 136, reactImpl := u8 b 137, reactFrozen := u8 b 138,
    reactAfter := u8 b 139, mdTimeMs := u32 b 140, raw := b }

/-- The process value comes from a channel directly. -/
def LoopRec.direct (r : LoopRec) : Bool := fld r.pvSrc 31 31 == 1

/-- The signals a loop owns, and those it reads. -/
def LoopRec.owned (r : LoopRec) : List W32 := [r.outSig, r.out2Sig, r.statusSig]
def LoopRec.reads (r : LoopRec) : List W32 :=
  (if r.direct then [] else [r.pvSrc]) ++ [r.spSrc, r.ffSig, r.manSig, r.fbSig] ++ r.aux

/-- A channel number, or 0xFFFF for none. -/
def chanNo (c : Nat) : Bool := c ≤ 255 || c == 0xFFFF

/-- The fields of a loop record are in range (R113, R114). -/
def loopFieldsOk (b : List Byte) (r : LoopRec) : Bool :=
  let mdUsed := r.reactLost == 2 || r.reactImpl == 2 || r.reactFrozen == 2
  let gain := staticGain r
  r.loop ≤ 1023 && u8 b 2 ≤ 1 && u8 b 3 < 16 && 20 ≤ r.period && r.period ≤ 10000000 && r.phase < r.period &&
    (r.apply == 0 || (4 ≤ r.apply && r.apply ≤ r.period)) && (!r.direct || r.pvSrc.toNat < 0x80000100) &&
    chanNo r.outCh && chanNo r.out2Ch && finiteAt b [72, 76, 80, 84, 88, 92, 96, 100, 104, 108, 116, 120, 128, 132] &&
    nonneg32 r.ssRate && nonneg32 r.ssStep && nonneg32 r.reactRate && nonneg32 r.resLambda && lt32 r.resLambda 0x3F800000 &&
    nonneg32 r.resLimit && r.dead ≤ 63 && 1 ≤ r.lostN && 1 ≤ r.resN && 8 ≤ r.frozenWin && r.frozenWin ≤ 4096 && 1 ≤ r.recoverN &&
    r.reactLost ≤ 3 && r.reactImpl ≤ 3 && r.reactFrozen ≤ 3 && r.reactAfter ≤ 3 && r.reactAfter != 2 &&
    100 ≤ r.mdTimeMs && r.mdTimeMs ≤ 600000 && zeros b 144 16 &&
    (!mdUsed || (finite32 gain && gain &&& 0x7FFFFFFF != 0)) && (r.micro || (r.out2Sig == 0 && r.out2Ch == 0xFFFF)) && r.outSig != 0 && r.spSrc != 0

/-- A microprogram writes the secondary output (R139). -/
def Micro.usesOut2 (p : Micro) : Bool := (p.code.take p.count).any (fun c => fld c 31 26 == 0x0E)

/-- A loop record: the module with the loop disabled and its banks, bank choice and microprogram kept (R113, R114). -/
def loadLoop (m : Mod) (b : List Byte) : Except Status Mod := do
  let r := parseLoop b
  let old := tget m.lpe.loops r.loop
  let l : Loop := old.getD { rcd := r }
  need (loopFieldsOk b r) .badField
  need (match l.micro with | some p => !p.usesOut2 || r.out2Sig != 0 || r.out2Ch != 0xFFFF | none => true) .badField
  need (!l.enabled) .locked
  judgedUnit m r.unit
  judgedAllOpt m (r.owned ++ r.reads)
  typed m [r.outSig, r.out2Sig] 4
  typed m [r.statusSig] 2
  need (r.reads.all (fun h => h == 0 || tyOf m h != 7)) .typeMismatch
  mayOwn m r.owned 2 r.loop
  let was := match old with | some o => objRefs o.rcd.reads o.rcd.owned | none => []
  let m ← place m 2 r.loop 1 was (objRefs r.reads r.owned) r.owned
  let l' : Loop := { rcd := r, bank0 := l.bank0, bank1 := l.bank1, micro := l.micro, active := l.active }
  return storeAdd (setLoop m r.loop l') 5 r.loop 1 b

/-- A loop deleted, while disabled (R114, R512). -/
def deleteLoop (m : Mod) (n : Nat) : Except Status Mod :=
  match tget m.lpe.loops n with
  | none => .error .badField
  | some l =>
    if l.enabled then .error .locked
    else
      let m := orphan (dropRefs m (objRefs l.rcd.reads l.rcd.owned)) 2 n
      .ok (storeDel { m with lpe := { m.lpe with loops := tdel m.lpe.loops n } } 5 n)

/-! ### Kind 6: microprograms (R137 to R140) -/

/-- An operand selector is listed (R138). -/
def selectorOk (s : Nat) : Bool :=
  s ≤ 0x0E || (0x10 ≤ s && s ≤ 0x13) || (0x20 ≤ s && s ≤ 0x2F) || (0x30 ≤ s && s ≤ 0x32)

/-- A microprogram record (R137). -/
def parseMicro (b : List Byte) : Micro :=
  { count := u8 b 2, curve := (List.range 16).map (fun k => w32 b (16 + 4 * k)),
    code := (List.range 64).map (fun k => w32 b (80 + 4 * k)), raw := b }

/-- A microprogram keeps the rules of R140 with its loop's record. -/
def microOk (b : List Byte) (p : Micro) (r : LoopRec) : Bool :=
  let ins := p.code.take p.count
  let op : W32 → Nat := fun c => fld c 31 26
  2 ≤ p.count && p.count ≤ 64 && zeros b 3 13 &&
    ins.all (fun c => op c ≤ 0x0E && selectorOk (fld c 22 17) && selectorOk (fld c 16 11) && fld c 10 0 == 0) &&
    (ins.dropLast).all (fun c => op c != 0) && (match ins.getLast? with | some c => op c == 0 | none => false) &&
    (ins.filter (fun c => op c == 0x0C)).length ≤ 1 && ins.any (fun c => op c == 0x0D) &&
    (!p.usesOut2 || r.out2Sig != 0 || r.out2Ch != 0xFFFF)

/-- A microprogram record for a loop that is loaded and disabled (R114, R137). -/
def loadMicro (m : Mod) (b : List Byte) : Except Status Mod := do
  let n := u16 b 0
  match tget m.lpe.loops n with
  | none => .error .badField
  | some l => do
    let p := parseMicro b
    need (microOk b p l.rcd) .badField
    need (!l.enabled) .locked
    return storeAdd (setLoop m n { l with micro := some p }) 6 n 1 b

/-- A microprogram deleted, while its loop is disabled. -/
def deleteMicro (m : Mod) (n : Nat) : Except Status Mod :=
  match tget m.lpe.loops n with
  | none => .error .badField
  | some l =>
    if l.micro.isNone then .error .badField
    else if l.enabled then .error .locked
    else .ok (storeDel (setLoop m n { l with micro := none }) 6 n)

/-! ### Kind 7: plans (R143 to R149) -/

/-- A step record (R145). -/
def parseStep (b : List Byte) : PStep :=
  { pauseOnRefusal := bitOf (u8 b 2) 0, wait := u8 b 3, actFirst := u16 b 4, actCount := u8 b 6, condOp := u8 b 7, next := u16 b 8,
    alt := u16 b 10, ticks := u32 b 12, condSig := w32 b 16, condVal := w32 b 20, condBand := w32 b 24 }

/-- An action record (R146). -/
def parseAct (b : List Byte) : PAct :=
  { kind := u8 b 0, arg8 := u8 b 1, arg16 := u16 b 2, target := w32 b 4, value := w32 b 8, rate := w32 b 12 }

/-- A plan (R144 to R146). -/
def parsePlan (b : List Byte) : Plan :=
  let ns := u16 b 2
  let na := u16 b 4
  { abortStep := u16 b 6, unit := w32 b 8, stateSig := w32 b 12, version := w32 b 16, resumeMode := u8 b 20, maxGapS := u8 b 21,
    planTag := w32 b 24, steps := (pieces (b.drop 32) 32 ns).map parseStep,
    acts := (pieces (b.drop (32 + 32 * ns)) 16 na).map parseAct, raw := b.take (32 + 32 * ns + 16 * na) }

/-- A step record is in range in a plan of `ns` steps and `na` actions (R145, R147, R149). -/
def stepOk (ns na : Nat) (k : Nat) (b : List Byte) : Bool :=
  let s := parseStep b
  let goal : Nat → Bool := fun n => n < ns || n == 0xFFFF
  u16 b 0 == k && u8 b 2 < 2 && s.wait ≤ 6 && s.actCount ≤ 32 && s.actFirst + s.actCount ≤ na && s.condOp ≤ 6 &&
    goal s.next && goal s.alt && zeros b 28 4 && finite32 s.condBand && nonneg32 s.condBand &&
    (if s.wait = 1 || s.wait = 3 || s.wait = 4 then 1 ≤ s.ticks else s.wait == 5 || s.ticks == 0) &&
    (!(2 ≤ s.wait && s.wait ≤ 4 || s.wait == 6) || s.condSig != 0)

/-- An action record is in range (R146, R149). -/
def actOk (a : PAct) : Bool :=
  match a.kind with
  | 1 => true
  | 2 => finite32 a.rate && lt32 0 a.rate
  | 3 => a.target.toNat ≤ 1023 && a.arg8 ≤ 1
  | 4 => a.target.toNat ≤ 1023 && a.arg8 ≤ 1
  | 5 => a.arg8 ≤ 4 && a.arg16 < 2 && a.target != 0
  | 6 => 1 ≤ a.arg16
  | 7 => true
  | 8 => a.target.toNat ≤ 1023
  | 9 => a.target.toNat ≤ 1023
  | _ => false

/-- The fields of a plan's records are in range (R144 to R149). -/
def planFieldsOk (b : List Byte) (p : Plan) : Bool :=
  let ns := u16 b 2
  let na := u16 b 4
  u16 b 0 ≤ 1023 && 1 ≤ ns && ns ≤ 4096 && na ≤ 16384 && 32 + 32 * ns + 16 * na ≤ b.length &&
    (p.abortStep < ns || p.abortStep == 0xFFFF) && p.version != 0 && p.resumeMode ≤ 3 && zeros b 22 2 && zeros b 28 4 &&
    ((pieces (b.drop 32) 32 ns).zipIdx).all (fun e => stepOk ns na e.2 e.1) && p.acts.all actOk

/-- The signals a plan sets or ramps, those it owns, and those it reads. -/
def Plan.targets (p : Plan) : List W32 := ((p.acts.filter (fun a => a.kind == 1 || a.kind == 2)).map PAct.target).dedup
def Plan.owned (p : Plan) : List W32 := p.targets ++ [p.stateSig]
def Plan.conds (p : Plan) : List W32 := p.steps.map PStep.condSig

/-- The pool units a plan takes (R143). -/
def Plan.units (p : Plan) : Nat := 2 * p.steps.length + p.acts.length

/-- The plan is IDLE, with no start accepted. -/
def planIdle (m : Mod) (n : Nat) : Bool :=
  match tget m.pln.plans n with
  | some p => (planView m n p).st == .idle
  | none => true

/-- A plan load: one header with its steps and actions (R143 to R149). -/
def loadPlan (m : Mod) (b : List Byte) : Except Status (Mod × Nat) := do
  let p := parsePlan b
  let n := u16 b 0
  let old := tget m.pln.plans n
  need (planFieldsOk b p) .badField
  need (planIdle m n) .locked
  judgedUnit m p.unit
  judgedAll m p.targets
  judgedAllOpt m (p.stateSig :: p.conds)
  match (p.acts.filter (fun a => a.kind == 5)).findSome? (fun a => match judgedUnit m a.target with | .ok _ => none | .error e => some e) with
  | some e => .error e
  | none => do
    need (p.acts.all (fun a =>
      let t := tyOf m a.target
      let c : Bool := match sigAt m (hIdx a.target) with | some r => r.isConst | none => false
      if a.kind = 1 then t != 7 && !c else if a.kind = 2 then (t == 4 || t == 5) && !c else true)) .typeMismatch
    typed m [p.stateSig] 2
    mayOwn m p.owned 3 n
    need ((m.pln.plans.filter (fun e => e.1 != n)).foldl (fun a e => a + e.2.units) p.units ≤ 62464) .noSpace
    let own := ((p.owned.filter (· != 0)).map hIdx).dedup
    need ((m.sig.sigs.filter (fun e => e.2.ownKind == 3 && e.2.ownId != n)).length + own.length ≤ 8192) .noSpace
    let was := match old with | some o => objRefs o.conds o.owned | none => []
    let m ← place m 3 n 1 was (objRefs p.conds p.owned) p.owned
    let m := { m with nv := { m.nv with values := m.nv.values.filter (fun e => e.2.plan != n || own.contains e.1) } }
    return (storeAdd (writePlanState (setPlan m n p) n) 7 n 1 p.raw, n)

/-- A plan deleted, while IDLE (R149, R512). -/
def deletePlan (m : Mod) (n : Nat) : Except Status Mod :=
  match tget m.pln.plans n with
  | none => .error .badField
  | some p =>
    if !planIdle m n then .error .locked
    else
      let m := orphan (dropRefs m (objRefs p.conds p.owned)) 3 n
      let m := { m with pln := { m.pln with plans := tdel m.pln.plans n }, nv := { m.nv with values := m.nv.values.filter (fun e => e.2.plan != n) } }
      .ok (storeDel m 7 n)

end Sys2Proof.Machine
end

