-- ==== Sys2Proof/Machine/TabChans.lean ====
section
/-! DEFINITION. Loading and deleting the tables of kinds 8 to 11 of R323: channels, safety functions, safe telegram
connections and reaction paths. -/

namespace Sys2Proof.Machine

/-! ### Kind 8: channels (R164 to R166, R190, R191) -/

/-- A value, or the default that the manual states where the field is zero (log 104). -/
def orDefault (v d : Nat) : Nat := if v = 0 then d else v
def orDefault32 (v d : F32) : F32 := if v = 0 then d else v

/-- A channel record: the layout of R190 for FUNCTION 6 and 7, of R164 for the others. -/
def parseChan (b : List Byte) : ChanRec :=
  let fl := u8 b 3
  let r : ChanRec := { function := u8 b 2, safetyMember := bitOf fl 0, wbEn := bitOf fl 1, testEn := bitOf fl 2, signal := w32 b 4,
                       demand := w32 b 8, testSrc := u16 b 16, safeVal := u8 b 18, updateUs := u32 b 24, wd100 := u16 b 32, raw := b }
  if r.function = 6 || r.function = 7 then
    { r with scaleLo := w32 b 12, conv := u8 b 19, persistMs := orDefault (u16 b 20) 200, powered := u8 b 22 == 1, bandMs := u8 b 23,
             scaleHi := w32 b 28, filtTauUs := u32 b 36, aoMin := orDefault32 (w32 b 40) 0x40733333,
             aoMax := orDefault32 (w32 b 44) 0x41A40000, safeMa := w32 b 48 }
  else
    { r with filtThr := u16 b 12, filtCeil := u16 b 14, testDiv := u8 b 19, darkUs := orDefault (u16 b 20) 200,
             brightUs := orDefault (u16 b 22) 50, pwmPeriodUs := u32 b 28 }

/-- The channel named by TEST_SRC is a TEST_SOURCE channel (R165). -/
def isSourceNo (m : Mod) (n : Nat) : Bool := n ≤ 255 && (chanOf m n).isSource

/-- A digital record is in range (R164, R165); fields that its function does not use are not judged (log 109). -/
def digitalOk (m : Mod) (n : Nat) (b : List Byte) (r : ChanRec) : Bool :=
  let di := r.function == 1 || r.function == 2
  let out := 3 ≤ r.function && r.function ≤ 5
  u8 b 3 < 8 && r.safeVal ≤ 2 && r.testDiv ≤ 3 && zeros b 34 30 && (di || r.function == 0 || r.testSrc == 0xFFFF || isSourceNo m r.testSrc) &&
    (!r.safetyMember || (r.testEn && r.safeVal == 0 && r.testDiv == 0 && r.wd100 ≤ 20)) &&
    (!di || (1 ≤ r.filtThr && r.filtThr ≤ r.filtCeil && r.filtCeil < 2 * r.filtThr && r.demand == 0 &&
      (r.testSrc == 0xFFFF || (isSourceNo m r.testSrc && r.testSrc != n && (!r.safetyMember || (chanOf m r.testSrc).rcd.safeVal == 0))))) &&
    (!out || (5 ≤ r.wd100 && r.wd100 ≤ 1000 && 80 ≤ r.darkUs && r.darkUs ≤ 250 && 30 ≤ r.brightUs && r.brightUs ≤ 100)) &&
    (r.function != 3 || r.demand == 0 || (10 ≤ r.updateUs && r.updateUs ≤ 10000 && r.updateUs % 10 == 0 && !r.safetyMember)) &&
    (r.function != 4 || (!r.testEn && !r.safetyMember && 100 ≤ r.pwmPeriodUs && r.pwmPeriodUs ≤ 10000000 && r.pwmPeriodUs % 10 == 0)) &&
    (r.function != 5 || (r.demand == 0 && (r.safeVal == 0 ||
      !m.fio.chans.any (fun e => e.2.isDi && e.2.rcd.safetyMember && e.2.rcd.testSrc == n))))

/-- An analogue record is in range (R190, R191). -/
def analogueOk (b : List Byte) (r : ChanRec) : Bool :=
  let ai := r.function == 6
  (u8 b 3 == 0 || u8 b 3 == 2) && r.testSrc == 0xFFFF && finiteAt b [12, 28, 40, 44, 48] && !eq32 r.scaleLo r.scaleHi &&
    5 ≤ r.wd100 && r.wd100 ≤ 1000 && zeros b 34 2 && zeros b 52 12 &&
    (if ai then r.demand == 0 && r.safeVal == 0 && r.conv ≤ 3 && u16 b 20 == 0 && u8 b 22 ≤ 1 && r.updateUs == 0 && r.filtTauUs ≤ 10000000
     else r.safeVal ≤ 3 && r.conv == 0 && 10 ≤ r.persistMs && r.persistMs ≤ 10000 && zeros b 22 2 && r.filtTauUs == 0 &&
       (r.demand == 0 || (100 ≤ r.updateUs && r.updateUs ≤ 10000 && r.updateUs % 100 == 0)) &&
       le32 0x40600000 r.aoMin && le32 r.aoMin 0x41A00000 && lt32 r.aoMin r.aoMax && le32 r.aoMax 0x41AC0000 &&
       (r.safeVal != 3 || (le32 0x40600000 r.safeMa && le32 r.safeMa 0x41AC0000)))

/-- What of a new record takes effect at once on a channel in use: the rest keeps its value until its boundary (R166,
R191). -/
def atOnce (old new : ChanRec) : ChanRec :=
  { new with
    filtThr := old.filtThr, filtCeil := old.filtCeil, testEn := old.testEn, testDiv := old.testDiv, darkUs := old.darkUs
    brightUs := old.brightUs, pwmPeriodUs := old.pwmPeriodUs, updateUs := old.updateUs, wd100 := old.wd100, scaleLo := old.scaleLo
    scaleHi := old.scaleHi, bandMs := old.bandMs, filtTauUs := old.filtTauUs, conv := old.conv, aoMin := old.aoMin
    aoMax := old.aoMax, safeMa := old.safeMa, persistMs := old.persistMs }

/-- An accepted record in the channel: enabled with its calibration checked (R203) and SUPPLY_LOW as it stands (R163), or,
where in use, changed at once and at its boundaries. -/
def putRecord (m : Mod) (n : Nat) (r : ChanRec) : Mod :=
  let c := chanOf m n
  let m :=
    if c.used then setChan m n { c with shadow := some r, rcd := atOnce c.rcd r }
    else
      let m := putChan m n { rcd := r, enabled := r.function != 0, switchedAt := m.clk, nominal := c.nominal }
      let m := if r.function = 6 || r.function = 7 then enableCal m n else m
      if r.function != 0 && bitOf m.fio.low.toNat (n / 32) then setDiag m n 6 true (some 1) else m
  drive m n

/-- A channel record; `prot` within a protection change (R164 to R166, R190, R191). -/
def loadChan (prot : Bool) (m : Mod) (b : List Byte) : Except Status Mod := do
  let n := u16 b 0
  let r := parseChan b
  let c := chanOf m n
  let analogue := r.function == 6 || r.function == 7
  need (n ≤ 255 && r.function ≤ 7 && (if analogue then analogueOk b r else digitalOk m n b r)) .badField
  need (prot || !(r.safetyMember || c.rcd.safetyMember)) .isProtected
  need (!c.used || (c.rcd.function == r.function && c.rcd.safetyMember == r.safetyMember && c.rcd.testSrc == r.testSrc &&
    c.rcd.powered == r.powered)) .locked
  need (r.function == 0 || r.signal != 0) .badField
  judgedAllOpt m [r.signal, r.demand]
  typed m [r.signal] (if analogue then 4 else 0)
  typed m [r.demand] (if r.function = 3 then 0 else 4)
  mayOwn m [r.signal] 1 n
  let m ← place m 1 n (if r.safetyMember then 0 else 1) (objRefs [c.rcd.demand] [c.rcd.signal]) (objRefs [r.demand] [r.signal]) [r.signal]
  return storeAdd (putRecord m n r) 8 n 1 b

/-- A channel's record deleted: the channel is inert (R296, R512). One that a safety function, a path or another channel's
TEST_SRC names is in use (log 110). -/
def deleteChan (prot : Bool) (m : Mod) (n : Nat) : Except Status Mod := do
  let c := chanOf m n
  need (m.fio.chans.any (fun e => e.1 == n) && !c.rcd.raw.isEmpty) .badField
  need (prot || !c.rcd.safetyMember) .isProtected
  need (!(m.saf.funcs.any (fun e => e.2.outCh.contains n || e.2.lockCh == n) || m.adm.paths.any (fun e => e.2.inCh == n || e.2.outCh == n) ||
    m.fio.chans.any (fun e => e.2.isDi && e.2.rcd.testSrc == n))) .inUse
  let m := orphan (dropRefs m (objRefs [c.rcd.demand] [c.rcd.signal])) 1 n
  return storeDel { m with fio := { m.fio with chans := tdel m.fio.chans n } } 8 n

/-! ### Kind 9: safety functions (R207 to R210) -/

/-- A safety function record (R208). -/
def parseFunc (b : List Byte) : Func :=
  let fl := u8 b 3
  { kind := u8 b 2, autoRestart := bitOf fl 0, stopCat1 := bitOf fl 1, powerToUnlock := bitOf fl 2,
    ins := (List.range 4).map (fun k => w32 b (4 + 4 * k)), resetSig := w32 b 20, unlockReq := w32 b 24, unlockPermit := w32 b 28,
    outCh := (List.range 4).map (fun k => u16 b (32 + 2 * k)), lockCh := u16 b 40, discMs := u16 b 42, stopDelayMs := u16 b 44,
    syncMs := u16 b 46, unit := w32 b 48, stateSig := w32 b 52, prestopSig := w32 b 56, ossdPulseUs := u16 b 60,
    ossdTestMs := u16 b 62, raw := b }

/-- The inputs a function of a kind uses (R209). -/
def insUsed (kind : Nat) : Nat := if kind = 4 then 4 else if kind = 3 then 3 else 2

/-- A value lies in a range where a condition holds, and is 0 otherwise. -/
def inRangeIf (c : Bool) (lo hi v : Nat) : Bool := if c then lo ≤ v && v ≤ hi else v == 0

/-- The fields of a function record are in range, its handles present or null as its kind asks, its outputs safety output
members (R208 to R210). -/
def funcFieldsOk (m : Mod) (b : List Byte) (f : Func) : Bool :=
  let used := insUsed f.kind
  let member : Nat → Bool := fun c => c ≤ 255 && (chanOf m c).safeOut
  u16 b 0 ≤ 255 && 1 ≤ f.kind && f.kind ≤ 5 && u8 b 3 < 8 && (!f.autoRestart || f.kind == 2 || f.kind == 3 || f.kind == 5) &&
    (!f.stopCat1 || f.kind == 1) && (!f.powerToUnlock || f.kind == 3) && (f.ins.take used).all (· != 0) && (f.ins.drop used).all (· == 0) &&
    (f.resetSig == 0) == (f.kind == 4) && (f.unlockReq != 0) == (f.kind == 3) && (f.unlockPermit != 0) == (f.kind == 3) &&
    f.outCh.all (fun c => c == 0xFFFF || member c) && f.outCh.any (· != 0xFFFF) && (if f.kind = 3 then member f.lockCh else f.lockCh == 0xFFFF) &&
    10 ≤ f.discMs && f.discMs ≤ (if f.kind = 4 then 200 else 3000) && inRangeIf f.stopCat1 10 10000 f.stopDelayMs &&
    inRangeIf (f.kind == 4) 100 500 f.syncMs && (f.prestopSig != 0) == f.stopCat1 && inRangeIf (f.kind == 5) 50 1000 f.ossdPulseUs &&
    inRangeIf (f.kind == 5) 10 10000 f.ossdTestMs

/-- The channels behind a function's inputs fit its kind (R210). -/
def funcInsOk (m : Mod) (f : Func) : Bool :=
  let chan : W32 → Option ChanRec := fun h => (chanBySig m h).map (fun c => (chanOf m c).rcd)
  let di : ChanRec → Bool := fun r => (r.function == 1 || r.function == 2) && r.safetyMember
  let src : Nat → Option Nat := fun k => match chan (f.inSig k) with | some r => if r.testSrc = 0xFFFF then none else some r.testSrc | none => none
  let apart : Nat → Bool := fun k => (src k).isNone || src k != src (k + 1)
  if f.kind = 5 then
    (f.ins.take 2).all (fun h => match chan h with | some r => di r && r.testSrc == 0xFFFF && f.ossdPulseUs < 10 * r.filtThr | none => false)
  else
    (f.ins.filter (· != 0)).all (fun h => match chan h with | some r => !(di r && r.testSrc == 0xFFFF) | none => true) &&
      apart 0 && (f.kind != 4 || apart 2)

/-- The channels a function names. -/
def Func.chans (f : Func) : List Nat := (f.outCh ++ [f.lockCh]).filter (· != 0xFFFF)

/-- The signals a function owns. -/
def Func.owned (f : Func) : List W32 := [f.stateSig, f.prestopSig]

/-- The channels that a function no longer commands: an output that other functions name follows them, any other goes
OFF (R220). -/
def dropOuts (m : Mod) (cs : List Nat) : Mod :=
  cs.foldl (fun m c =>
    let named := m.saf.funcs.filter (fun e => e.2.chans.contains c)
    command m c (boolVal (!named.isEmpty && named.all (fun e => e.2.outCh.contains c && e.2.runs))) 0xC000) m

/-- A safety function record, within a protection change (R207, R210). -/
def loadFunc (prot : Bool) (m : Mod) (b : List Byte) : Except Status Mod := do
  let n := u16 b 0
  let f := parseFunc b
  let old := tget m.saf.funcs n
  need prot .isProtected
  need (funcFieldsOk m b f) .badField
  judgedUnit m f.unit
  judgedAllOpt m (f.reads ++ f.owned)
  typed m f.reads 0
  typed m [f.stateSig] 2
  typed m [f.prestopSig] 0
  need (funcInsOk m f) .badField
  need (f.chans.all (fun c => (m.saf.funcs.filter (fun e => e.1 != n && e.2.chans.contains c)).length ≤ 7)) .badField
  need (f.reads.all (fun h => h == 0 || (match sigAt m (hIdx h) with | some r => r.ownClass == 0 | none => true))) .classRead
  mayOwn m f.owned 9 n
  let was := match old with | some o => objRefs o.reads o.owned | none => []
  let m ← place m 9 n 0 was (objRefs f.reads f.owned) f.owned
  let gone := match old with | some o => o.chans.filter (fun c => !f.chans.contains c) | none => []
  return storeAdd (dropOuts (setFunc m n f) gone) 9 n 1 b

/-- A safety function deleted, within a protection change; one that a path names is in use (log 110). -/
def deleteFunc (prot : Bool) (m : Mod) (n : Nat) : Except Status Mod := do
  need prot .isProtected
  match tget m.saf.funcs n with
  | none => .error .badField
  | some f => do
    need (!m.adm.paths.any (fun e => e.2.func == n)) .inUse
    let m := orphan (dropRefs m (objRefs f.reads f.owned)) 9 n
    let m := { m with saf := { m.saf with funcs := tdel m.saf.funcs n } }
    return storeDel (dropOuts m f.chans) 9 n

/-! ### Kind 10: safe telegram connections (R222) -/

/-- A connection record with its map entries (R222). -/
def parseConn (b : List Byte) (clk : Nat) : Conn :=
  { send := u8 b 2 == 0, gmac := bitOf (u8 b 3) 0, peerId := w32 b 4, peerConn := u16 b 8, periodUs := u32 b 12, watchdogUs := u32 b 16,
    netlossMs := u32 b 20, seed := w32 b 24, safeBits := w64 b 28,
    map := (pieces (b.drop 64) 8 (u16 b 10)).map (fun e => (w32 e 0, u8 e 4)), raw := b, lastAccept := clk }

/-- The fields of a connection record are in range (R222). -/
def connFieldsOk (b : List Byte) (c : Conn) : Bool :=
  u16 b 0 ≤ 127 && u8 b 2 ≤ 1 && u8 b 3 < 2 && u16 b 10 ≤ 70 && 250 ≤ c.periodUs && c.periodUs ≤ 100000 && zeros b 36 28 &&
    (if c.send then c.peerConn == 0 && c.watchdogUs == 0 && c.netlossMs == 0
     else c.peerConn ≤ 127 && 2 * c.periodUs ≤ c.watchdogUs && c.watchdogUs ≤ 1000000 && 10 ≤ c.netlossMs && c.netlossMs ≤ 10000) &&
    (pieces (b.drop 64) 8 (u16 b 10)).all (fun e => u8 e 4 ≤ 69 && zeros e 5 3)

/-- The signals a connection's map names, and those the connection owns. -/
def Conn.sigs (c : Conn) : List W32 := c.map.map Prod.fst
def Conn.owned (c : Conn) : List W32 := if c.send then [] else c.sigs.dedup

/-- A connection record, within a protection change. -/
def loadConn (prot : Bool) (m : Mod) (b : List Byte) : Except Status Mod := do
  let n := u16 b 0
  let c := parseConn b m.clk
  let old := tget m.saf.conns n
  need prot .isProtected
  need (connFieldsOk b c) .badField
  judgedAll m c.sigs
  need (c.map.all (fun e => tyOf m e.1 == (if e.2 < 64 then 0 else 4))) .typeMismatch
  need (!c.send || c.sigs.all (fun h => match sigAt m (hIdx h) with | some r => r.ownClass == 0 | none => false)) .classRead
  mayOwn m c.owned 6 n
  let was := match old with | some o => objRefs o.sigs o.owned | none => []
  let m ← place m 6 n 0 was (objRefs c.sigs c.owned) c.owned
  let m := { m with saf := { m.saf with netLost := m.saf.netLost.filter (fun e => e.1 != n) } }
  return storeAdd (degUpdate (setConn m n c) .net) 10 n 1 b

/-- A connection deleted, within a protection change; one that a path names is in use (log 110). -/
def deleteConn (prot : Bool) (m : Mod) (n : Nat) : Except Status Mod := do
  need prot .isProtected
  match tget m.saf.conns n with
  | none => .error .badField
  | some c => do
    need (!m.adm.paths.any (fun e => e.2.conn == n)) .inUse
    let m := orphan (dropRefs m (objRefs c.sigs c.owned)) 6 n
    let m := { m with saf := { m.saf with conns := tdel m.saf.conns n, netLost := m.saf.netLost.filter (fun e => e.1 != n) } }
    return storeDel (degUpdate m .net) 10 n

/-! ### Kind 11: paths (R237, R238) -/

/-- A path record (R237). -/
def parsePath (b : List Byte) : PathRec :=
  { kind := u8 b 2, inCh := u16 b 4, conn := u16 b 6, func := u16 b 8, task := u8 b 10, outCh := u16 b 12, netUs := u32 b 16,
    peerUs := u32 b 20, limitUs := u32 b 24, boundUs := 0, raw := b }

/-- A path record, part of the protection set-up (R450): its elements are connected as declared (R238). -/
def loadPath (prot : Bool) (m : Mod) (b : List Byte) : Except Status Mod := do
  let n := u16 b 0
  let p := parsePath b
  need prot .isProtected
  need (n ≤ 511 && p.kind ≤ 3 && zeros b 3 1 && zeros b 11 1 && zeros b 14 2 && zeros b 28 4 && (p.task ≤ 95 || p.task == 0xFF) &&
    (p.kind == 3 || (p.netUs == 0 && p.peerUs == 0)) && pathLinked m p) .badField
  let p := { p with boundUs := boundUs m p }
  return storeAdd { m with adm := { m.adm with paths := tset m.adm.paths n p } } 11 n 1 b

/-- A path record deleted, within a protection change. -/
def deletePath (prot : Bool) (m : Mod) (n : Nat) : Except Status Mod := do
  need prot .isProtected
  need (tget m.adm.paths n).isSome .badField
  return storeDel { m with adm := { m.adm with paths := tdel m.adm.paths n } } 11 n

end Sys2Proof.Machine
end

