-- ==== Sys2Proof/Machine/Tables.lean ====
section
/-! DEFINITION. TABLE_LOAD, TABLE_DELETE and TABLE_READ (R239, R320, R322, R323, R439, R504). -/

namespace Sys2Proof.Machine

/-- What a load gives: the module, RES0, RES1, the bytes as they stand in BUF, and the loops or the plan it loaded. -/
structure Loaded where
  m : Mod
  res0 : W32
  res1 : W32 := 0
  data : List Byte
  loops : List Nat := []
  plan : Nat := 0
deriving DecidableEq, Repr

/-- The records of `size` bytes of a load; none where the buffer is too short or the count is 0. -/
def recordsOf (count size : Nat) (buf : List Byte) : Except Status (List (List Byte)) := do
  need (1 ≤ count && count * size ≤ buf.length) .badField
  return pieces buf size count

/-- Records that are judged and taken one after the other. -/
def takeAll (f : Mod → List Byte → Except Status Mod) (m : Mod) (rs : List (List Byte)) : Except Status Mod := rs.foldlM f m

/-- As `takeAll`, where each record is written back. -/
def takeBackAll (f : Mod → List Byte → Except Status (Mod × List Byte)) (m : Mod) (rs : List (List Byte)) :
    Except Status (Mod × List Byte) :=
  rs.foldlM (fun a b => do
    let (m, b') ← f a.1 b
    return (m, a.2 ++ b')) (m, [])

/-- Connection records, each with its map entries (R222). -/
def takeConns (prot : Bool) : Nat → Mod → List Byte → Except Status Mod
  | 0, m, _ => .ok m
  | n + 1, m, buf => do
    let len := 64 + 8 * u16 buf 10
    need (64 ≤ buf.length && len ≤ buf.length) .badField
    let m ← loadConn prot m (buf.take len)
    takeConns prot n m (buf.drop len)

/-- The first number of a record: a handle or a number. -/
def firstNo (buf : List Byte) : W32 := BitVec.ofNat 32 (u16 buf 0)

/-- A table load before admission (R323): judged as a whole. -/
def loadRecords (m : Mod) (prot replay : Bool) (kind count : Nat) (buf : List Byte) : Except Status Loaded :=
  match kind with
  | 1 => do
    let (m, b) ← takeBackAll loadSignal m (← recordsOf count 16 buf)
    return { m := m, res0 := w32 b 0, data := b }
  | 2 => do
    let (m, b) ← takeBackAll loadUnit m (← recordsOf count 64 buf)
    return { m := m, res0 := w32 b 0, data := b }
  | 3 => do
    let m ← takeAll loadMember m (← recordsOf count 16 buf)
    return { m := m, res0 := w32 buf 0, data := buf }
  | 4 => do
    let (m, k) ← loadImage m prot replay count buf
    return { m := m, res0 := BitVec.ofNat 32 k, data := buf }
  | 5 => do
    let rs ← recordsOf count 160 buf
    let m ← takeAll loadLoop m rs
    return { m := m, res0 := firstNo buf, data := buf, loops := rs.map (fun b => u16 b 0) }
  | 6 => do
    let rs ← recordsOf count 336 buf
    let m ← takeAll loadMicro m rs
    return { m := m, res0 := firstNo buf, data := buf, loops := rs.map (fun b => u16 b 0) }
  | 7 => do
    need (32 ≤ buf.length) .badField
    let (m, n) ← loadPlan m buf
    return { m := m, res0 := firstNo buf, data := buf, plan := n }
  | 8 => do
    let m ← takeAll (loadChan prot) m (← recordsOf count 64 buf)
    return { m := m, res0 := firstNo buf, data := buf }
  | 9 => do
    let m ← takeAll (loadFunc prot) m (← recordsOf count 64 buf)
    return { m := m, res0 := firstNo buf, data := buf }
  | 10 => do
    need (1 ≤ count) .badField
    let m ← takeConns prot count m buf
    return { m := m, res0 := firstNo buf, data := buf }
  | 11 => do
    let rs ← recordsOf count 32 buf
    let m ← takeAll (loadPath prot) m rs
    let bound : List Byte → Nat := fun b => match tget m.adm.paths (u16 b 0) with | some p => p.boundUs | none => 0
    return { m := m, res0 := firstNo buf, res1 := BitVec.ofNat 32 (bound buf), data := rs.flatMap (fun b => patch b 28 (leBytes 4 (bound b))) }
  | _ => .error .badField

/-- The test a load fails, with its object (R239, R504). -/
def loadTest (l : Loaded) : Option (Nat × Nat) :=
  match taskTest l.m with
  | some x => some x
  | none =>
    match firstDense l.m l.loops with
    | some n => some (2, n)
    | none => (admitTest l.m).map (fun x => if x.1 = 3 then (3, l.plan) else x)

/-- A table load, judged and admitted (R239): what it gives, or the refusal, with the test noted for NOT_ADMITTED. -/
def tableLoad (m : Mod) (prot replay : Bool) (kind count : Nat) (buf : List Byte) : Except (Mod × Status) Loaded :=
  match loadRecords m prot replay kind count buf with
  | .error e => .error (m, e)
  | .ok l =>
    if kind ≤ 3 then .ok l
    else
      match loadTest l with
      | some (test, obj) => .error (noteRefused m test obj kind, .notAdmitted)
      | none => .ok { l with m := settleAdmission l.m }

/-- What a load of a kind is refused with before its content is looked at (R262, R439): signals, units and members need no
admission. -/
def kindHeld (m : Mod) (kind : Nat) : Option Status :=
  if kind ≤ 3 then (if anyTrial m then some .trialActive else none) else loadHeld m

/-- TABLE_LOAD (R320, R323). -/
def execTableLoad (t : Nat) (q : Req) (kind count : Nat) (buf : List Byte) (s : State) : Host.Outcome State Fault Refusal :=
  s.runCmd t 0x0001 q (fun m =>
    match kindHeld m kind with
    | some e => refuse m q e
    | none =>
      match tableLoad m false false kind count buf with
      | .error (m, e) => refuse m q e
      | .ok l => post l.m q .ok { r0 := l.res0, r1 := l.res1, data := l.data })

/-- A task is deleted by an on-line change only (R73). -/
def deleteTask (m : Mod) (k : Nat) : Except Status Mod := if (taskAt m k).isSome then .error .locked else .error .badField

/-- A table object deleted (R46, R512). -/
def tableDelete (m : Mod) (prot : Bool) (kind : Nat) (num : W32) : Except Status Mod :=
  let n := num.toNat
  let r : Except Status Mod := match kind with
    | 1 => deleteSignal m num
    | 2 => deleteUnit m num
    | 3 => deleteMember m num
    | 4 => deleteTask m n
    | 5 => deleteLoop m n
    | 6 => deleteMicro m n
    | 7 => deletePlan m n
    | 8 => deleteChan prot m n
    | 9 => deleteFunc prot m n
    | 10 => deleteConn prot m n
    | 11 => deletePath prot m n
    | _ => .error .badField
  r.map (fun m => if kind ≤ 3 then m else settleAdmission m)

/-- TABLE_DELETE (R320). -/
def execTableDelete (t : Nat) (q : Req) (kind : Nat) (num : W32) (s : State) : Host.Outcome State Fault Refusal :=
  s.runCmd t 0x0002 q (fun m =>
    if anyTrial m then refuse m q .trialActive
    else
      match tableDelete m false kind num with
      | .error e => refuse m q e
      | .ok m => post m q .ok)

/-- The definition record of a signal, with its handle current (R322, R323). -/
def signalRecord (i : Nat) (r : SigRec) : List Byte :=
  let host := r.ownKind == 7
  bytes32 (sigHandle i r.gen) ++ leBytes 1 r.ty ++ leBytes 1 (b2n r.isConst + 2 * b2n r.safety + 4 * b2n host) ++
    leBytes 1 (if host then r.ownId else 0) ++ [0] ++ bytes64 (if r.isConst then r.val else 0)

/-- The record of an object as loaded (R322); a signal or unit by its index, or by a handle whose index is taken (log 112). -/
def recordAt (m : Mod) (kind num : Nat) : Option (List Byte) :=
  let h := BitVec.ofNat 32 num
  match kind with
  | 1 => (sigAt m (hIdx h)).map (signalRecord (hIdx h))
  | 2 => (tget m.sig.units (uIdx h)).bind (fun u => if u.raw.isEmpty then none else some u.raw)
  | 3 => (tget m.sig.members (hIdx h)).map Member.raw
  | 4 => (taskAt m num).map (fun t => t.rcd.raw)
  | 5 => (tget m.lpe.loops num).map (fun l => l.rcd.raw)
  | 6 => ((tget m.lpe.loops num).bind Loop.micro).map Micro.raw
  | 7 => (tget m.pln.plans num).map Plan.raw
  | 8 => (tget m.fio.chans num).bind (fun c => if c.rcd.raw.isEmpty then none else some (c.shadow.getD c.rcd).raw)
  | 9 => (tget m.saf.funcs num).map Func.raw
  | 10 => (tget m.saf.conns num).map Conn.raw
  | 11 => (tget m.adm.paths num).map PathRec.raw
  | _ => none

/-- TABLE_READ (R322). -/
def execTableRead (t : Nat) (q : Req) (kind num : Nat) (s : State) : Host.Outcome State Fault Refusal :=
  s.runOp t 0x0045 q (fun m =>
    match recordAt m kind num with
    | none => refuse m q .badField
    | some b => post m q .ok { r0 := 1, data := b })

end Sys2Proof.Machine
end

