-- ==== Sys2Proof/Machine/Security.lean ====
section
/-! DEFINITION. Two-party protection, lifecycle and debug (R445 to R466). -/

namespace Sys2Proof.Machine

/-! ### Keys (R445, R456) -/

/-- A role key is installed: ENGINEERING 0 to 3 and SAFETY 4 to 7. -/
def roleKey (m : Mod) (k : Nat) : Option (List Byte) := tget m.nv.roleKeys k
def engKeys (m : Mod) : List (List Byte) := (m.nv.roleKeys.filter (fun e => e.1 < 4)).map Prod.snd
def safetyKeys (m : Mod) : List (List Byte) := (m.nv.roleKeys.filter (fun e => 4 ≤ e.1)).map Prod.snd

/-- The image keys that are provisioned and not revoked. -/
def liveImageKeys (m : Mod) : List (List Byte) :=
  (m.nv.imageKeys.filter (fun e => e.1 < 4 && !bitOf m.nv.revoked.toNat e.1)).map Prod.snd

/-- The public half of the device key, 97 uncompressed bytes (R445). -/
def devicePub (m : Mod) : List Byte :=
  match ecMul 384 m.nv.devicePriv (some (gx384, gy384)) with
  | some (x, y) => 4 :: (beBytes 48 x ++ beBytes 48 y)
  | none => List.replicate 97 0

/-! ### Events (R457) -/

/-- The event PROTECTION of a package: 0 proposed, 1 applied, 2 refused, 3 withdrawn, 4 expired. -/
def protEvent (m : Mod) (detail : Nat) (seq target : W32) (st : Status) : Mod :=
  leadEvent m 10 detail seq (target.zeroExtend 64) (BitVec.ofNat 32 st.code)

/-- A bit of SEC_EVENTS. -/
def secEvent (m : Mod) (bit : Nat) : Mod := { m with sec := { m.sec with events := setBit32 m.sec.events bit } }

/-- A proposal or a confirmation is refused: PROT_REFUSED, for a signature AUTH_FAIL, and the event (R457, R466). -/
def refuseProt (m : Mod) (q : Req) (seq target : W32) (st : Status) : Mod :=
  let m := secEvent m 1
  let m := if st = .protSignature then secEvent m 3 else m
  refuse (protEvent m 2 seq target st) q st

/-! ### Packages (R451, R452) -/

/-- The items of a package body: kinds and contents; none where they do not fill it. -/
def itemsOf : Nat → List Byte → Option (List (Nat × List Byte))
  | 0, b => if b.isEmpty then some [] else none
  | n + 1, b =>
    let len := u32 b 4
    let next := 8 + pad8 len
    if b.length < next || !zeros b 2 2 then none
    else (itemsOf n (b.drop next)).map (fun r => (u16 b 0, slice b 8 len) :: r)

/-- The header of a package and the sizes are in form (R451). -/
def packageOk (b : List Byte) : Bool :=
  192 ≤ b.length && u32 b 0 == 0x43505250 && u16 b 4 == 1 && 1 ≤ u16 b 6 && u16 b 6 ≤ 4096 && u32 b 16 ≤ 2 ^ 26 && u8 b 20 ≤ 3 &&
    zeros b 21 11 && zeros b 80 16 && 192 + u32 b 16 ≤ b.length

/-- The body of a package, and its items. -/
def packageBody (b : List Byte) : List Byte := slice b 192 (u32 b 16)
def packageItems (b : List Byte) : Option (List (Nat × List Byte)) := itemsOf (u16 b 6) (packageBody b)

/-- The change package of a CHANGE item (R452, log 117). -/
def changePkgOf (b : List Byte) : ChangePkg :=
  { image := Config.changeImage b, tasks := Config.changeTasks b, values := Config.changeValues b,
    consts := Config.changeConsts b, removed := Config.changeRemoved b }

/-! ### The items (R452, R455) -/

/-- What an item gives: the module, or the refusal with the module it leaves noted (ADM_LAST of R504). -/
abbrev ItemOut := Except (Mod × Status) Mod

/-- A REGISTER item (R452): only RWP fields; a change of LKS_FALLBACK is admitted (R241). -/
def registerItem (m : Mod) (b : List Byte) : ItemOut :=
  let off := u32 b 0
  if b.length < 8 || !protOk m off (w32 b 4) then .error (m, .badField)
  else
    let m' := setProt m off (w32 b 4)
    match (if off = 0xB004 then admitTest m' else none) with
    | some (test, obj) => .error (noteRefused m test obj 0, .notAdmitted)
    | none => .ok (if off = 0xB004 then settleAdmission m' else m')

/-- A RELAY item: the eight entries of R431. -/
def relayItem (m : Mod) (b : List Byte) : ItemOut :=
  let es := pieces b 16 8
  if b.length = 128 && es.all (fun e => u8 e 10 ≤ 8 && u8 e 11 < 8 && zeros e 12 4) then
    .ok { m with nv := { m.nv with relay := es } }
  else .error (m, .badField)

/-- A ROLE_KEY item (R452, R456): a key belongs to one role, and no role is left without a key. -/
def roleItem (m : Mod) (b : List Byte) : ItemOut :=
  let role := u8 b 0
  let ix := u8 b 1
  let key := slice b 4 97
  let at_ := ix + (if role = 2 then 4 else 0)
  let other := if role = 1 then safetyKeys m else engKeys m
  if b.length < 101 || role < 1 || role > 2 || ix > 3 || !zeros b 3 1 then .error (m, .badField)
  else if u8 b 2 = 1 then
    if (pointOf key).isNone || other.contains key then .error (m, .badField)
    else .ok { m with nv := { m.nv with roleKeys := tset m.nv.roleKeys at_ key } }
  else if u8 b 2 = 2 then
    let rest := tdel m.nv.roleKeys at_
    if !zeros b 4 97 || !rest.any (fun e => decide (e.1 < 4) == (role == 1)) then .error (m, .badField)
    else .ok { m with nv := { m.nv with roleKeys := rest } }
  else .error (m, .badField)

/-- The key that a GMAC_KEY item wraps for this module (R452): no entry for it, or one that does not unwrap, refuses. -/
def gmacKeyFor (m : Mod) (b : List Byte) : Except Status (List Byte) :=
  match (pieces (b.drop 4) 144 (u8 b 2)).find? (fun e => w32 e 0 == m.nv.moduleId) with
  | none => .error .badField
  | some e =>
    match (ecdhKey m.nv.devicePriv (slice e 4 97)).bind (fun k => unwrapKey k (slice e 104 40)) with
    | some k => .ok k
    | none => .error .protSignature

/-- A GMAC_KEY item: NEXT loaded, or ROLL (R452, R462). -/
def gmacItem (m : Mod) (b : List Byte) : ItemOut :=
  let set_ : (KeySet → KeySet) → Mod := fun f =>
    if u8 b 0 = 1 then { m with nv := { m.nv with gmacTel := f m.nv.gmacTel } } else { m with nv := { m.nv with gmacStn := f m.nv.gmacStn } }
  if b.length < 4 || u8 b 0 < 1 || u8 b 0 > 2 || u8 b 2 > 3 || !zeros b 3 1 || b.length < 4 + 144 * u8 b 2 then .error (m, .badField)
  else if u8 b 1 = 1 then
    match gmacKeyFor m b with
    | .error e => .error (m, e)
    | .ok k => .ok (set_ (fun s => { s with next := k }))
  else if u8 b 1 = 2 then .ok (set_ (fun s => { current := s.next, next := [] }))
  else .error (m, .badField)

/-- Why a POWER command of a protection change is refused (R292, R298, R450, R460). -/
def powerRefusal (m : Mod) (a0 : Nat) : Option Status :=
  let up := m.pwr.st == .run || m.pwr.st == .quiet
  match a0 with
  | 1 => if cmdHeld m || !(up || (m.pwr.st == .hold && (!m.pwr.starting || runConditions m))) then some .notReady else none
  | 2 => if cmdHeld m || !(up || m.pwr.st == .hold) then some .notReady else none
  | 3 => if cmdHeld m || !up then some .notReady else none
  | 5 => none
  | _ => some .badField

/-- Why a RESTART command of a protection change is refused (R294, R399, R450, R460). -/
def restartRefusal (m : Mod) (a0 : Nat) : Option Status :=
  match a0 with
  | 1 => if cmdHeld m then some .notReady else none
  | 2 => if cmdHeld m || m.pwr.starting then some .notReady else none
  | 3 => if m.nv.lifecycle == .blank || m.nv.lifecycle == .void || (m.flt.f3 && m.nv.capture.isSome) then some .notReady else none
  | _ => some .badField

/-- A COMMAND item: a descriptor of POWER, RESTART or UPD_ACTIVATE (R318, R452). -/
def commandItem (m : Mod) (b : List Byte) : ItemOut :=
  let op := u16 b 0
  let a0 := u32 b 12
  let a1 := u32 b 16
  let run : Option Status → Mod → ItemOut := fun no m' => match no with | some e => .error (m, e) | none => .ok m'
  if b.length < 64 then .error (m, .badField)
  else if op = 0x0005 then
    run (powerRefusal m a0) (match a0 with
      | 1 => cmdRun m none
      | 2 => cmdHold m none true
      | 3 => cmdQuiet m none
      | _ => enterFail m .shutdown)
  else if op = 0x0006 then
    run (restartRefusal m a0) (match a0 with
      | 1 => beginServiceRestart m
      | 2 => cmdProgram m none a1 true
      | _ => cmdModule m none a1)
  else if op = 0x0181 then run (activateRefusal m a0 (bitOf a1 0) true) (activate m none a0 (bitOf a1 0))
  else .error (m, .badField)

/-- What a return authorisation signs: the module identity and SEC_PROT_SEQ (R447). -/
def returnDigest (m : Mod) : List Byte := sha384 (bytes32 m.nv.moduleId ++ bytes32 m.nv.protSeq)

/-- Entry to VOID (R449): FAIL with cause SHUTDOWN, and every MRAM key is erased. -/
def enterVoid (m : Mod) : Mod :=
  let m := enterFail (closeDebug m) .shutdown
  { m with nv := { m.nv with lifecycle := .void, roleKeys := [], gmacTel := {}, gmacStn := {} } }

/-- A LIFECYCLE item (R447, R461). -/
def lifecycleItem (m : Mod) (b : List Byte) : ItemOut :=
  let lc := m.nv.lifecycle
  match u32 b 0 with
  | 2 =>
    if lc == .provisioned && m.sec.debug == .closed then .ok { m with nv := { m.nv with lifecycle := .sealed } }
    else .error (m, .lifecycle)
  | 3 =>
    if lc != .provisioned && lc != .sealed then .error (m, .lifecycle)
    else if (liveImageKeys m).any (fun k => ecdsaOk k (returnDigest m) (slice b 4 96)) then
      .ok { m with nv := { m.nv with returnPending := true } }
    else .error (m, .protSignature)
  | 4 => if lc == .provisioned || lc == .sealed || lc == .returned then .ok (enterVoid m) else .error (m, .lifecycle)
  | _ => .error (m, .badField)

/-- A REVOKE_IMAGE_KEY item (R456): not the key of an ACTIVE section, nor the last one. -/
def revokeItem (m : Mod) (b : List Byte) : ItemOut :=
  let k := u32 b 0
  let signsActive := m.nv.regions.any (fun r => !r.active.header.isEmpty && u8 r.active.header 19 == k)
  let left := m.nv.imageKeys.any (fun e => e.1 < 4 && e.1 != k && !bitOf m.nv.revoked.toNat e.1)
  if b.length < 4 || k > 3 || signsActive || !left then .error (m, .badField)
  else .ok { m with nv := { m.nv with revoked := m.nv.revoked ||| BitVec.ofNat 4 (2 ^ k) } }

/-- A refusal of a plain table operation. -/
def ofStatus (m : Mod) (x : Except Status Mod) : ItemOut := x.mapError (fun e => (m, e))

/-- One item of a protection change takes effect, or is refused by its own chapter's checks (R452, R454, R455). -/
def applyItem (m : Mod) (item : Nat × List Byte) : ItemOut :=
  let b := item.2
  match item.1 with
  | 1 => if b.length < 8 then .error (m, .badField) else (tableLoad m true false (u32 b 0) (u32 b 4) (b.drop 8)).map Loaded.m
  | 2 => if b.length < 8 then .error (m, .badField) else ofStatus m (tableDelete m true (u32 b 0) (w32 b 4))
  | 3 =>
    if b.length < 16 || !zeros b 12 4 then .error (m, .badField)
    else
      let (m', st) := postChange m none (u32 b 8) (leNat (slice b 0 8)) (changePkgOf (b.drop 16)) true
      if st = .ok then .ok m' else .error (m', st)
  | 4 => registerItem m b
  | 5 => relayItem m b
  | 6 => roleItem m b
  | 7 => gmacItem m b
  | 8 => commandItem m b
  | 9 =>
    let n := u32 b 0
    if b.length < 4 || n < 1 || n > 480 then .error (m, .badField)
    else .ok { m with sec := { m.sec with grantEnd := some (m.clk + sec (60 * n)) } }
  | 10 => lifecycleItem m b
  | 11 => revokeItem m b
  | _ => .error (m, .badField)

/-- Every item of a package, one after the other (R454, R455). -/
def applyItems (m : Mod) (b : List Byte) : ItemOut :=
  match packageItems b with
  | none => .error (m, .badField)
  | some is => is.foldlM applyItem m

/-- What of a refused item's admission stays noted (R504). -/
def noteItem (m : Mod) (e : Mod × Status) : Mod :=
  if e.2 = .notAdmitted then { m with adm := { m.adm with last := e.1.adm.last, events := e.1.adm.events } } else m

/-! ### Proposal, confirmation and the protection instant (R453 to R457) -/

/-- Why a protection change cannot run now (R262, R439). -/
def protHeld (m : Mod) : Option Status :=
  if noJoinedSvc m then some .pairState else if anyTrial m then some .trialActive else none

/-- The checks of SEC_PROPOSE before the dry run (R451, R454, R456). -/
def proposalRefusal (m : Mod) (b : List Byte) : Option Status :=
  if m.sec.pending.isSome || m.sec.confirmed.isSome then some .protPending
  else if !packageOk b then some .badField
  else if !(match roleKey m (u8 b 20) with | some k => ecdsaOk k (sha384 (b.take 96)) (slice b 96 96) | none => false) then
    some .protSignature
  else if w32 b 8 != speakId m || w32 b 12 != m.nv.protSeq + 1 then some .protSeq
  else if sha384 (packageBody b) != slice b 32 48 then some .protSignature
  else protHeld m

/-- SEC_PROPOSE (R454). -/
def execSecPropose (t : Nat) (q : Req) (buf : List Byte) (s : State) : Host.Outcome State Fault Refusal :=
  s.runCmd t 0x0200 q (fun m =>
    let seq := w32 buf 12
    let target := w32 buf 8
    match proposalRefusal m buf with
    | some e => refuseProt m q seq target e
    | none =>
      let m' := { m with nv := { m.nv with protSeq := seq } }
      match applyItems m' buf with
      | .error e => refuseProt (noteItem m e) q seq target e.2
      | .ok _ =>
        let p : Proposal := { pkg := buf.take (192 + u32 buf 16), seq := seq, target := target, acceptedAt := m.clk }
        post (protEvent { m' with sec := { m'.sec with pending := some p } } 0 seq target .ok) q .ok { r0 := seq })

/-- A proposal is older than 600 s (R456). -/
def Proposal.late (p : Proposal) (clk : Nat) : Bool := p.acceptedAt + sec 600 < clk

/-- A proposal is discarded at its expiry, and its PROT_SEQ is kept as expired (R456). -/
def expire (m : Mod) (p : Proposal) : Mod :=
  protEvent (secEvent { m with sec := { m.sec with pending := none }, nv := { m.nv with protExpired := some p.seq } } 2) 4 p.seq p.target .ok

/-- The checks of SEC_CONFIRM in the order of R455. -/
def confirmRefusal (m : Mod) (p : Proposal) (key : Nat) (sig : List Byte) : Option (Status × Mod) :=
  let signed : Bool := match (if key ≤ 3 then roleKey m (4 + key) else none) with
    | some k => ecdsaOk k (sha384 (p.pkg.take 192 ++ leBytes 1 key)) sig
    | none => false
  let hasChange : Bool := match packageItems p.pkg with | some is => is.any (fun i => i.1 == 3) | none => false
  if !signed then some (.protSignature, m)
  else
    match protHeld m with
    | some e => some (e, m)
    | none =>
      if hasChange && m.pge.change.isSome then some (.changeBusy, m)
      else
        match applyItems m p.pkg with
        | .error e => some (e.2, noteItem m e)
        | .ok _ => none

/-- SEC_CONFIRM (R455): it completes after the protection instant. -/
def execSecConfirm (t : Nat) (q : Req) (seq : W32) (key : Nat) (sig : List Byte) (s : State) : Host.Outcome State Fault Refusal :=
  s.runCmd t 0x0201 q (fun m =>
    match m.sec.pending with
    | some p =>
      if p.seq != seq then refuseProt m q seq p.target .protNone
      else if p.late m.clk then refuseProt (expire m p) q seq p.target .protExpired
      else
        match confirmRefusal m p key sig with
        | some (e, m) => refuseProt { m with sec := { m.sec with pending := none } } q seq p.target e
        | none => startOp { m with sec := { m.sec with pending := none, confirmed := some (p, q) } } q
    | none => refuseProt m q seq (speakId m) (if m.nv.protExpired = some seq && m.nv.protSeq = seq then .protExpired else .protNone))

/-- PROTECTION_INSTANT (R455): every item of the confirmed package takes effect, or, where the configuration has changed
since the checks, none. -/
def execProtectionInstant (t : Nat) (s : State) : Host.Outcome State Fault Refusal :=
  s.runOn t (fun m =>
    match m.sec.confirmed with
    | none => m
    | some (p, q) =>
      let m := { m with sec := { m.sec with confirmed := none } }
      match applyItems m p.pkg with
      | .error e => refuseProt (noteItem m e) q p.seq p.target e.2
      | .ok _ =>
        let m := post (protEvent (secEvent m 0) 1 p.seq p.target .ok) q .ok
        match applyItems m p.pkg with
        | .ok m' => m'
        | .error e => e.1)

/-- PROPOSAL_EXPIRY (R456). -/
def execProposalExpiry (t : Nat) (s : State) : Host.Outcome State Fault Refusal :=
  s.runOn t (fun m =>
    match m.sec.pending with
    | some p => if p.acceptedAt + sec 600 ≤ m.clk then expire m p else m
    | none => m)

/-- SEC_WITHDRAW (R453). -/
def execSecWithdraw (t : Nat) (q : Req) (seq : W32) (s : State) : Host.Outcome State Fault Refusal :=
  s.runCmd t 0x0202 q (fun m =>
    match m.sec.pending with
    | some p =>
      if p.seq = seq then post (protEvent { m with sec := { m.sec with pending := none } } 3 seq p.target .ok) q .ok
      else refuse m q .protNone
    | none => refuse m q .protNone)

/-- SEC_PROPOSAL_READ (R464). -/
def execSecProposalRead (t : Nat) (q : Req) (s : State) : Host.Outcome State Fault Refusal :=
  s.runCmd t 0x0203 q (fun m =>
    match m.sec.pending with
    | some p => post m q .ok { r0 := BitVec.ofNat 32 p.pkg.length, data := p.pkg }
    | none => refuse m q .protNone)

/-- SEC_IDENTITY_READ (R464). -/
def execSecIdentityRead (t : Nat) (q : Req) (s : State) : Host.Outcome State Fault Refusal :=
  s.runCmd t 0x0204 q (fun m => post m q .ok { data := bytes32 m.nv.moduleId ++ devicePub m ++ [0, 0, 0] })

/-- SEC_ROLE_INIT (R456). -/
def execSecRoleInit (t : Nat) (q : Req) (buf : List Byte) (s : State) : Host.Outcome State Fault Refusal :=
  s.runCmd t 0x0205 q (fun m =>
    let eng := slice buf 0 97
    let saf := slice buf 104 97
    if m.nv.lifecycle != .provisioned || !m.nv.roleKeys.isEmpty then refuse m q .lifecycle
    else if buf.length < 208 || (pointOf eng).isNone || (pointOf saf).isNone || eng == saf then refuse m q .badField
    else post { m with nv := { m.nv with roleKeys := [(0, eng), (4, saf)] } } q .ok)

/-! ### Debug (R458 to R461) -/

/-- The number of a debug level (R466). -/
def Debug.no : Debug → Nat
  | .closed => 0 | .observe => 1 | .full => 2

/-- The challenge that stands (R458): it changes after every attempt, and from start to start (log 8). -/
def challengeNow (m : Mod) : List Byte := Config.challenge (2 ^ 32 * m.nv.startCount + m.sec.attempts)

/-- The keys that open a level (R459). -/
def debugKeys (m : Mod) (full : Bool) : List (List Byte) :=
  match m.nv.lifecycle with
  | .provisioned => liveImageKeys m ++ (if bitOf m.sec.policy.toNat (b2n full) then engKeys m else [])
  | .sealed => if !full && m.sec.grantEnd.isSome && bitOf m.sec.policy.toNat 2 then engKeys m else []
  | .returned => liveImageKeys m
  | _ => []

/-- Entry to FULL (R460): outputs safe, switches open, the application pairs stopped, HOLD, and an F1. -/
def enterFull (m : Mod) : Mod :=
  let m := { m with sec := { m.sec with debug := .full } }
  let m := abortAll (openAll (allSafe m))
  let m := if m.pwr.st = .hold then m else enterHold m
  reportFault (stopPairs { m with pwr := { m.pwr with cmd := none } } .down) (faultOf 0x29 1 0 0x0E00 0 0xFF)

/-- G1 can be used: the module is up (R463). -/
def g1Up (m : Mod) : Bool := m.pwr.st == .run || m.pwr.st == .hold || m.pwr.st == .quiet

/-- DEBUG_TOKEN (R458, R459). -/
def execDebugToken (t : Nat) (full : Bool) (sig : List Byte) (s : State) : Host.Outcome State Fault Refusal :=
  s.runOn t (fun m =>
    if !g1Up m || m.sec.lockout.isSome then m
    else
      let digest := sha384 (challengeNow m ++ leBytes 1 (1 + b2n full))
      let ok := (debugKeys m full).any (fun k => ecdsaOk k digest sig)
      let m := { m with sec := { m.sec with attempts := m.sec.attempts + 1 } }
      if ok then
        let m := secEvent { m with sec := { m.sec with failures := 0 } } 4
        if m.sec.debug == .full then m
        else if full then enterFull m
        else { m with sec := { m.sec with debug := .observe } }
      else
        let n := m.sec.failures + 1
        let m := secEvent { m with sec := { m.sec with failures := if n = 8 then 0 else n, lockout := if n = 8 then some m.clk else none } } 3
        reportFault m (faultOf 0x28 0 0 0x0E00 0 0xFF))

/-- DEBUG_LOCKOUT_END (R458). -/
def execDebugLockoutEnd (t : Nat) (s : State) : Host.Outcome State Fault Refusal :=
  s.runOn t (fun m =>
    match m.sec.lockout with
    | some x => if x + sec 60 ≤ m.clk then { m with sec := { m.sec with lockout := none } } else m
    | none => m)

/-- DEBUG_GRANT_END (R459, R461): OBSERVE closes; FULL ends as R460 states alone. -/
def execDebugGrantEnd (t : Nat) (s : State) : Host.Outcome State Fault Refusal :=
  s.runOn t (fun m =>
    match m.sec.grantEnd with
    | some x =>
      if x ≤ m.clk then
        if m.sec.debug == .full then { m with sec := { m.sec with grantEnd := none } } else closeDebug m
      else m
    | none => m)

/-- What G1 reads of a core or memory at an address: what FULL has written there, and else a free value, since the manual
gives G1 no address map (log 116). -/
def g1Byte (m : Mod) (dbg : List Host.Cell) (a : Nat) : Byte :=
  match tget dbg a with
  | some v => v
  | none => (Config.fresh32 m.free).truncate 8

/-- What a debug access does in the module (R458): a level that does not permit it reads nothing. -/
def g1Access (m : Mod) (dbg : List Host.Cell) (a : DebugAccess) : Mod :=
  let read : List Byte → Mod := fun b => { m with sec := { m.sec with g1 := b } }
  if !g1Up m then m
  else
    match a with
    | .identity => read (bytes32 m.nv.moduleId ++ leBytes 1 (match m.nv.lifecycle with
        | .blank => 0 | .provisioned => 1 | .sealed => 2 | .returned => 3 | .void => 4) ++ challengeNow m)
    | .read x => if m.sec.debug == .closed then read [] else (read [g1Byte m dbg x]).tick
    | .write _ _ => read []
    | .halt c =>
      if m.sec.debug == .full && c < 16 && !m.sec.halted.contains c then { m with sec := { m.sec with g1 := [], halted := m.sec.halted ++ [c] } }
      else read []
    | .stepCore _ => read []

/-- DEBUG_ACCESS (R458): a write in FULL reaches its address; a step of a core runs nothing, since the application pairs
are stopped and have no instance (R460, log 116). -/
def execDebugAccess (t : Nat) (a : DebugAccess) (s : State) : Host.Outcome State Fault Refusal :=
  match s.runOn t (fun m => g1Access m s.dbg a) with
  | .next u =>
    .next { u with dbg := match a with
      | .write x v => if g1Up s.m && s.m.sec.debug == .full then tset s.dbg x v else s.dbg
      | _ => s.dbg }
  | o => o

end Sys2Proof.Machine
end

