-- ==== Sys2Proof/Machine/Start.lean ====
section
/-! DEFINITION. The start of the module (R291, R295 to R298, R307, R308), the boot checks (R446), what an update finds at a
start (R428, R435 to R438), and the resumption of plans (R160). -/

namespace Sys2Proof.Machine

/-! ### Step 1 (R295, R307) -/

/-- The module restarts by itself, without a supply loss (R307). -/
def restarting (m : Mod) : Bool := m.pwr.failCause == .restart && m.pwr.nextCause != .powerUp

/-- SUPPLY_APPLIED (R295, R307): the supply rises above 18.0 V. -/
def execSupplyApplied (t mv : Nat) (s : State) : Host.Outcome State Fault Refusal :=
  s.run t (fun m =>
    let m := { m with gen := { m.gen with supplyMv := mv } }
    if m.pwr.st == .off && mv > 18000 && !m.pwr.needRemoval && m.pwr.charging.isNone && !restarting m then
      { m with pwr := { m.pwr with charging := some m.clk } }
    else m)

/-! ### Step 2: what is kept, and the boot checks (R295, R393, R435 to R438, R446 to R448, R501) -/

/-- The cause of the start (R501). -/
def startCause (m : Mod) : StartCause :=
  match m.pwr.failCause with
  | .supply => .supplyReturn
  | .restart => m.pwr.nextCause
  | _ => .powerUp

/-- RECOVERY is set at a start with the cause (R310). -/
def recovers (c : StartCause) : Bool := c == .supplyReturn || c == .fault || c == .exclusion || c == .abandonment

/-- What MRAM, flash and OTP give the start (R393, R501): the capture held becomes the prior one. -/
def keptNv (v : NvBlk) : NvBlk :=
  { v with
    startCount := min (v.startCount + 1) 0xFFFF
    prior := if v.capture.isSome then v.capture else v.prior
    capture := none }

/-- The module as reset leaves it, with what survives (R294, R295 step 2). -/
def freshMod (m : Mod) (cause : StartCause) (uj : Nat) : Mod :=
  let nv := keptNv m.nv
  { clk := m.clk, free := m.free, nv := nv, gen := { cause := cause },
    pwr := { storeUj := uj, recovery := recovers cause, replay := nv.store.length },
    tim := { zero := m.clk }, flt := { priorSet := nv.prior.isSome } }

/-- The move to RETURNED takes effect, with its erasure (R447, R448). -/
def eraseReturned (m : Mod) : Mod :=
  if m.nv.returnPending then
    { m with
      nv := { m.nv with
        returnPending := false, lifecycle := .returned, roleKeys := [], gmacTel := {}, gmacStn := {}, relay := [], store := [],
        archive2 := [], archive3 := [], protRegs := tdel m.nv.protRegs 0x13010 }
      pwr := { m.pwr with replay := 0 } }
  else m

/-- The RWP fields take the values last set by a protection change (R452, log 97); seat and triad identity are in force from
this start (R288). -/
def restoreProt (m : Mod) : Mod :=
  let m := m.nv.protRegs.foldl (fun m e => setProt m e.1 e.2) m
  { m with tri := { m.tri with seat := m.tri.seatNew, id := m.tri.idNew, epoch := (regionOf m 1).compat } }

/-- The service pairs' modes of this start (R262): with both split bits set, pair 6 runs joined and its bit is cleared. -/
def serviceNow (m : Mod) : Mod :=
  let w := m.lks.serviceMode
  let cfg := if fld w 1 0 = 3 then 2 else fld w 1 0
  let w := withBits (withBits w 1 0 cfg) 17 16 cfg
  { m with
    lks := { m.lks with serviceMode := w }
    nv := { m.nv with protRegs := tmod m.nv.protRegs 0xB008 (fun v => withBits v 1 0 cfg) } }

/-- An update interrupted while its package was in DRAM returns to IDLE (R438); forwarding ends with it. -/
def interruptedRegion (m : Mod) (n : Nat) : Mod :=
  let r := { regionOf m n with forwarding := false }
  if inWorkspace r then
    let m := setRegion m n { r with st := .idle }
    reportFault { m with upd := { m.upd with events := setBit32 m.upd.events 5 } } (faultOf 0x26 0 n 0x0C00 0 3)
  else setRegion m n r

/-- The RUN time of a trial so far (R436): a POWER-UP and a restart by the host start it from zero. -/
def carryTrial (old : Mod) (cause : StartCause) (m : Mod) (n : Nat) : Mod :=
  let r := regionOf m n
  let again := cause == .powerUp || cause == .supplyReturn || cause == .hostRestart
  setRegion m n { r with ran := if again then 0 else trialRun old r, ranBase := 0 }

/-- A start whose cause ends every trial (R437). -/
def endsTrial (c : StartCause) : Bool := c == .fault || c == .exclusion || c == .abandonment

/-- A staged section is copied to the region's inactive section and checked there; slot S is released (R435). -/
def copyStaged (m : Mod) (n : Nat) : Mod :=
  match m.nv.slotS with
  | some (k, x) =>
    let r := regionOf m n
    if k != n || r.st != .activating then m
    else
      let m := setRegion m n { (r.setInactive x) with staged := false }
      let m := { m with nv := { m.nv with slotS := none } }
      if sha384 x.bytes = slice x.header 48 48 then m else fallBackState m n
  | none => m

/-- A section passes the boot check (R446); a section of the factory has no header here, and its signature stands as
`genuine`. -/
def sectionOk (m : Mod) (r : Region) (x : Section) : Bool :=
  if x.header.isEmpty then x.genuine && !x.rejected
  else
    pkSigned m x.header && u8 x.header 18 ≥ m.nv.epoch && (pkVersion x.header).toNat ≥ r.floor.toNat && !x.rejected &&
      sha384 x.bytes = slice x.header 48 48

/-- The boot check of a region (R446): a TRIAL section that fails falls back; an ACTIVE one that fails leaves boot
recovery. -/
def bootCheck (m : Mod) (n : Nat) : Mod :=
  let r := regionOf m n
  let m := if r.trial && !sectionOk m r r.inactive then fallBackState m n else m
  let r := regionOf m n
  if r.trial || sectionOk m r r.active || m.sec.bootFail.isSome then m
  else { m with sec := { m.sec with bootFail := some n } }

/-- What each region finds at a start. -/
def bootRegion (old : Mod) (cause : StartCause) (m : Mod) (n : Nat) : Mod :=
  let m := carryTrial old cause (copyStaged (interruptedRegion m n) n) n
  let m := if endsTrial cause && (regionOf m n).st == .trial then fallBackState m n else m
  beginTrial (bootCheck m n) n

/-- Reset is released (R295 step 2). -/
def startModule (m : Mod) (uj : Nat) : Mod :=
  let cause := startCause m
  let f := restoreProt (eraseReturned (freshMod m cause uj))
  serviceNow ([1, 2, 3].foldl (bootRegion m cause) f)

/-- The next state of a happening that may start the module: with a start the DRAM is lost, and with it what was written to
the panel's memories and by G1 (R294, R477). -/
def State.runStart (s : State) (t : Nat) (due : Mod → Bool) (f : Mod → Mod) : Host.Outcome State Fault Refusal :=
  let m := s.m.advance t
  if due m then .next { s with m := { f m with clk := max s.m.clk t }, frame := [], image := [], dbg := [] }
  else .next { s with m := { m with clk := max s.m.clk t } }

/-- STORE_CHARGED (R295, R307): the store is charged; a MODULE restart begins here without a pause (log 118). -/
def execStoreCharged (t uj : Nat) (s : State) : Host.Outcome State Fault Refusal :=
  s.runStart t (fun m => m.pwr.st == .off && (m.pwr.charging.isSome || restarting m)) (fun m => startModule m uj)

/-- HOLDUP_LOW_START (R308). -/
def execHoldupLowStart (t uj : Nat) (s : State) : Host.Outcome State Fault Refusal :=
  s.runStart t (fun m => m.pwr.st == .off && (match m.pwr.charging with | some x => decide (x + sec 1 ≤ m.clk) | none => false))
    (fun m =>
      let m := startModule m uj
      reportFault { m with pwr := { m.pwr with holdupLow := true } } (faultOf 0x17 1 0 0x0E00 6))

/-! ### Steps 3 and 4 (R203, R295, R343) -/

/-- Step 3: MRAM is read, the calibration set is checked, and module time starts at 0. -/
def stepThree (m : Mod) : Mod := (List.range 256).foldl checkCal { m with tim := { m.tim with zero := m.clk } }

/-- Step 4: the service pairs run, the application pairs pass through SELFTEST, test frames begin, and the panel starts
(R263, R295, R477). -/
def stepFour (m : Mod) : Mod :=
  let st : Nat → PairSt := fun p => if svcSplit m p then .split else .joined
  let m := setPair (setPair m 6 { pairOf m 6 with st := st 6 }) 7 { pairOf m 7 with st := st 7 }
  let m := frameStart (stopPairs m .selftest)
  let m := { m with pwr := { m.pwr with epoch := nowNs m } }
  if m.pnl.en then panelStart m else m

/-! ### Step 5: the configuration store (R295, R296, R439) -/

/-- The module with its application pairs as they will be, for the placement of tasks. -/
def asJoined (m : Mod) : Mod := stopPairs m .joined

/-- An entry of the configuration store is loaded and admitted, or its deletion repeated. -/
def replayEntry (m : Mod) (e : StoreEnt) : Except (Mod × Status) Mod :=
  let out : Except Status Mod → Except (Mod × Status) Mod := fun x => match x with | .error st => .error (m, st) | .ok m => .ok m
  match e.kind with
  | 12 =>
    match loadStation m e.num e.buf with
    | .error st => .error (m, st)
    | .ok m' =>
      match admitTest m' with
      | some (test, obj) => .error (noteRefused m test obj 0, .notAdmitted)
      | none => .ok (settleAdmission m')
  | 13 => out (loadNav m e.count e.buf)
  | 14 => out (loadCan m e.num e.buf)
  | 15 => out (loadClasses m e.num e.count e.buf)
  | 16 => out (loadList m e.num e.count e.buf)
  | 104 => .ok (settleAdmission (removeTask m e.num []))
  | 112 => .ok (settleAdmission (clearStation m e.num []))
  | k =>
    if k ≥ 100 then out (tableDelete m true (k - 100) (BitVec.ofNat 32 e.num))
    else (tableLoad m true true k e.count e.buf).map Loaded.m

/-- One entry; a refused load leaves its mark (R436), and ADM_LAST where admission refused it (R504). -/
def replayOne (m : Mod) (e : StoreEnt) : Mod :=
  match replayEntry m e with
  | .ok m => m
  | .error (m, _) => { m with pwr := { m.pwr with storeRefused := true } }

/-- The configuration store loaded in its order; MRAM and flash keep what they hold. -/
def replayStore (m : Mod) : Mod :=
  let x := (m.nv.store.take m.pwr.replay).foldl replayOne (asJoined m)
  { x with nv := m.nv, lks := { x.lks with pairs := m.lks.pairs } }

/-- Every user unit takes INIT_MODE at the start (R57). -/
def initUnits (m : Mod) : Mod :=
  m.sig.units.foldl (fun m e =>
    match tget m.sig.units e.1 with
    | some u => if u.raw.isEmpty then m else createUnit m e.1 u
    | none => m) m

/-- A record that came behind another of its channel is in force from the start on. -/
def settleShadows (m : Mod) : Mod :=
  { m with fio := { m.fio with chans := tmap m.fio.chans (fun _ c =>
      match c.shadow with
      | some r => { c with rcd := r, shadow := none }
      | none => c) } }

/-- Step 5: the store is loaded, units and channels are at their initial states, safety functions pass from INIT to TRIPPED,
and a member claims (R212, R239, R280, R296). A refused load ends every trial (R436). -/
def stepFive (m : Mod) : Mod :=
  let m := settleShadows (initUnits (replayStore m))
  let m := driveAll (m.saf.funcs.foldl (fun m e => evaluate m e.1) m)
  let m := beginClaim (settleAdmission m)
  if m.pwr.storeRefused then fallBackAll m else m

/-- START_SEQUENCE_STEP (R295): steps 3, 4 and 5 complete in their order; in boot recovery none does (R446). -/
def execStartSequenceStep (t step : Nat) (s : State) : Host.Outcome State Fault Refusal :=
  s.runPanel t (fun m =>
    if m.pwr.st != .hold || !m.pwr.starting || m.pwr.startStep + 1 != step || step < 3 || step > 5 || m.sec.bootFail.isSome then m
    else
      let m := { m with pwr := { m.pwr with startStep := step } }
      if step = 3 then stepThree m else if step = 4 then stepFour m else stepFive m)

/-! ### Plan resumption (R160) -/

/-- The newest copy of a resume slot: the later SEQ, and of two with one SEQ the copy written last (log 49). -/
def ResumeSlot.newest (r : ResumeSlot) : Option JRec :=
  match r.copyA, r.copyB with
  | some a, some b =>
    if serialLater a.seq b.seq then some b else if serialLater b.seq a.seq then some a else if r.nextB then some a else some b
  | some a, none => some a
  | none, b => b

/-- The plan of a record had ended: END, or a completed abort. -/
def JRec.ended (j : JRec) : Bool := j.kind == 5 || (j.kind == 6 && j.toStep == 0xFFFF)

/-- The gap since a record is within MAX_GAP_S: known only where both ends are PTP time. -/
def gapOk (m : Mod) (p : Plan) (j : JRec) : Bool :=
  p.maxGapS == 0 ||
    (m.tim.traceable && j.trace && nowNs m ≤ j.wrapCount.toNat * 2 ^ 32 + j.time.toNat + sec p.maxGapS)

/-- Step 3 of R160: the plan's signals take their stored values and qualities, with the time of now. -/
def restoreValues (m : Mod) (n : Nat) : Mod :=
  m.nv.values.foldl (fun m e =>
    match sigAt m e.1 with
    | some r => if e.2.plan = n && r.ownKind = 3 && r.ownId = n then ownerWrite m (sigHandle e.1 r.gen) e.2.val e.2.qual else m
    | none => m) m

/-- The ramps of a plan that were running. -/
def storedRamps (m : Mod) (n : Nat) : List Ramp := (m.nv.values.filter (fun e => e.2.plan == n)).filterMap (fun e => e.2.ramp)

/-- A plan is not resumed: it is IDLE, and an ABORT record with CAUSE 7 says so. -/
def resumeRefused (m : Mod) (n : Nat) (p : Plan) (j : JRec) : Mod :=
  let m := restoreValues m n
  let q := { p with step := j.toStep, inStep := j.inStep, remain := j.remain, starts := j.starts, slot := j.slot }
  let m := journal m n q { kind := 6, cause := 7, fromStep := j.toStep, toStep := 0xFFFF, source := 5 }
  { m with pln := { m.pln with events := setBit32 m.pln.events 2 } }

/-- A plan is resumed by its RESUME_MODE: 0 CONTINUE, 1 REENTER, 3 PAUSE; then its unit's mode applies. -/
def resumePlanAt (m : Mod) (n : Nat) (p : Plan) (j : JRec) : Mod :=
  let m := restoreValues m n
  let abort := j.kind == 6
  let q := { p with
    st := if abort then .aborting else .running, aborting := abort, step := j.toStep, inStep := j.inStep, remain := j.remain,
    starts := j.starts, slot := j.slot, resumed := true, ramps := storedRamps m n }
  let w : JWhat := { kind := 7, cause := 7, fromStep := 0xFFFF, toStep := j.toStep, source := 5 }
  let m := { m with pln := { m.pln with events := setBit32 m.pln.events 1 } }
  let m :=
    if p.resumeMode = 1 then enterStep m n q j.toStep w
    else
      let q := if p.resumeMode = 3 then { q with st := .paused, pausedByCmd := true } else q
      writePlanState (setPlan (journal m n q w) n q) n
  unitOnPlan m n (planMode m p)

/-- A plan whose newest record is not its end is taken up (R160). -/
def resumeSlot (m : Mod) (n : Nat) (j : JRec) : Mod :=
  match tget m.pln.plans n with
  | none => resumeRefused m n { version := j.version } j
  | some p =>
    if m.pln.resumeEn && p.version == j.version && p.resumeMode != 2 && gapOk m p j then resumePlanAt m n p j
    else resumeRefused m n p j

/-- Every resume slot (R160). -/
def resumePlans (m : Mod) : Mod :=
  m.nv.slots.foldl (fun m e =>
    match e.2.newest with
    | some j => if j.ended then m else resumeSlot m e.1 j
    | none => m) m

/-! ### Entry to RUN (R297, R298) -/

/-- The instant of the first entry to RUN: for a member the triad's epoch, for any other module a test frame start. -/
def entryInstant (m : Mod) : Bool :=
  if m.tri.seat != 0 then m.pwr.epoch ≤ nowNs m else m.pwr.epoch ≤ nowNs m && (nowNs m - m.pwr.epoch) % ms 128 = 0

/-- The first entry to RUN, in the order of R297. -/
def enterRun (m0 : Mod) : Mod :=
  let m := resumePlans m0
  let q := match m0.pwr.cmd with | some (.run, r) => r | _ => none
  let m := { m with pwr := { m0.pwr with
    st := .run, starting := false, runAsked := false, cmd := none, firstRun := some m0.clk, events := setBit32 m0.pwr.events 0,
    epoch := if m0.tri.seat = 0 then nowNs m0 else m0.pwr.epoch } }
  let m := postOpt (if m0.tri.seat = 0 then m else frameRealign m) q .ok
  let m := (m.lpe.loops.filter (fun e => e.2.rcd.enableOnRun)).foldl (fun m e => enableLoop m e.1 true) m
  let m := (m.pge.tasks.filter (fun e => e.2.rcd.startOnRun)).foldl (fun m e => startTask m e.1 e.2) m
  let m := startTiers { m with rcr := { m.rcr with begun := true } }
  let m := { m with flt := { m.flt with alive := aliveOk m } }
  if bitOf m.pln.events.toNat 2 then fallBackAll m else m

/-- ENTER_RUN (R297, R298). -/
def execEnterRun (t : Nat) (s : State) : Host.Outcome State Fault Refusal :=
  s.runOn t (fun m =>
    if m.pwr.st == .hold && m.pwr.starting && runConditions m && !cmdHeld m && (m.nv.autoRun || m.pwr.runAsked) && entryInstant m then
      enterRun m
    else m)

end Sys2Proof.Machine
end

