-- ==== Sys2Proof/Machine/Dispatch.lean ====
section
/-! DEFINITION. Each command and its meaning. -/

namespace Sys2Proof.Machine

/-- The effect of a command on everything but the queue. -/
def exec (i : Instr) (s : State) : Host.Outcome State Fault Refusal :=
  match i with
  | .supplyApplied t mv => Sys2Proof.Machine.execSupplyApplied t mv s
  | .storeCharged t uj => Sys2Proof.Machine.execStoreCharged t uj s
  | .holdupLowStart t uj => Sys2Proof.Machine.execHoldupLowStart t uj s
  | .holdupRecheck t uj charged => Sys2Proof.Machine.execHoldupRecheck t uj charged s
  | .startSequenceStep t step => Sys2Proof.Machine.execStartSequenceStep t step s
  | .enterRun t => Sys2Proof.Machine.execEnterRun t s
  | .supplyDip t mv uj => Sys2Proof.Machine.execSupplyDip t mv uj s
  | .dipEnd t mv uj => Sys2Proof.Machine.execDipEnd t mv uj s
  | .dipTimerExpiry t => Sys2Proof.Machine.execDipTimerExpiry t s
  | .flushComplete t => Sys2Proof.Machine.execFlushComplete t s
  | .thermalTrip t dieC => Sys2Proof.Machine.execThermalTrip t dieC s
  | .powerRun t q => Sys2Proof.Machine.execPowerRun t q s
  | .powerHold t q => Sys2Proof.Machine.execPowerHold t q s
  | .powerQuiet t q => Sys2Proof.Machine.execPowerQuiet t q s
  | .powerShutdown t q => Sys2Proof.Machine.execPowerShutdown t q s
  | .restartService t q => Sys2Proof.Machine.execRestartService t q s
  | .restartProgram t q seat => Sys2Proof.Machine.execRestartProgram t q seat s
  | .restartModule t q seat => Sys2Proof.Machine.execRestartModule t q seat s
  | .holdAbandon t task => Sys2Proof.Machine.execHoldAbandon t task s
  | .pairsStopped t => Sys2Proof.Machine.execPairsStopped t s
  | .rideThroughExpiry t task => Sys2Proof.Machine.execRideThroughExpiry t task s
  | .recoveryTimeout t => Sys2Proof.Machine.execRecoveryTimeout t s
  | .serviceRestartComplete t => Sys2Proof.Machine.execServiceRestartComplete t s
  | .serviceRestartTimeout t => Sys2Proof.Machine.execServiceRestartTimeout t s
  | .tableLoad t q kind count buf => Sys2Proof.Machine.execTableLoad t q kind count buf s
  | .tableDelete t q kind num => Sys2Proof.Machine.execTableDelete t q kind num s
  | .changePost t q kind when_ pkg => Sys2Proof.Machine.execChangePost t q kind when_ pkg s
  | .changeAbort t q => Sys2Proof.Machine.execChangeAbort t q s
  | .changeInstant t => Sys2Proof.Machine.execChangeInstant t s
  | .pairSplit t q pair buf => Sys2Proof.Machine.execPairSplit t q pair buf s
  | .drainComplete t pair => Sys2Proof.Machine.execDrainComplete t pair s
  | .pairJoin t q pair => Sys2Proof.Machine.execPairJoin t q pair s
  | .joinCopy t pair => Sys2Proof.Machine.execJoinCopy t pair s
  | .pairRestart t q pair => Sys2Proof.Machine.execPairRestart t q pair s
  | .selftestComplete t pair pass => Sys2Proof.Machine.execSelftestComplete t pair pass s
  | .pairMismatch t pair cause => Sys2Proof.Machine.execPairMismatch t pair cause s
  | .triadRetry t q => Sys2Proof.Machine.execTriadRetry t q s
  | .triadEpoch t q => Sys2Proof.Machine.execTriadEpoch t q s
  | .calStart t q ch fn => Sys2Proof.Machine.execCalStart t q ch fn s
  | .calPoint t q ch point refMa refV => Sys2Proof.Machine.execCalPoint t q ch point refMa refV s
  | .calPointAveraged t ch rawMa rawV => Sys2Proof.Machine.execCalPointAveraged t ch rawMa rawV s
  | .calCommit t q ch tag calTime => Sys2Proof.Machine.execCalCommit t q ch tag calTime s
  | .calAbort t q ch => Sys2Proof.Machine.execCalAbort t q ch s
  | .calRead t q ch => Sys2Proof.Machine.execCalRead t q ch s
  | .calCheckPass t => Sys2Proof.Machine.execCalCheckPass t s
  | .unitCmd t q unit mode aon => Sys2Proof.Machine.execUnitCmd t q unit mode aon s
  | .unitResume t q unit => Sys2Proof.Machine.execUnitResume t q unit s
  | .walkerNextCommand t => Sys2Proof.Machine.execWalkerNextCommand t s
  | .interlockActive t unit => Sys2Proof.Machine.execInterlockActive t unit s
  | .unitRollUp t unit => Sys2Proof.Machine.execUnitRollUp t unit s
  | .planStart t q plan step => Sys2Proof.Machine.execPlanStart t q plan step s
  | .planPause t q plan => Sys2Proof.Machine.execPlanPause t q plan s
  | .planResume t q plan => Sys2Proof.Machine.execPlanResume t q plan s
  | .planAbort t q plan => Sys2Proof.Machine.execPlanAbort t q plan s
  | .loopBank t q loop bank => Sys2Proof.Machine.execLoopBank t q loop bank s
  | .loopEnable t q on buf => Sys2Proof.Machine.execLoopEnable t q on buf s
  | .bankWrite t q loop bank buf => Sys2Proof.Machine.execBankWrite t q loop bank buf s
  | .forceSet t q sig ty val => Sys2Proof.Machine.execForceSet t q sig ty val s
  | .releaseForce t q sig => Sys2Proof.Machine.execReleaseForce t q sig s
  | .signalWrite t q sig qual val => Sys2Proof.Machine.execSignalWrite t q sig qual val s
  | .signalRead t q sig => Sys2Proof.Machine.execSignalRead t q sig s
  | .taskStart t q task => Sys2Proof.Machine.execTaskStart t q task s
  | .taskStop t q task => Sys2Proof.Machine.execTaskStop t q task s
  | .taskClear t q task => Sys2Proof.Machine.execTaskClear t q task s
  | .taskStatus t q task => Sys2Proof.Machine.execTaskStatus t q task s
  | .channelStatus t q ch => Sys2Proof.Machine.execChannelStatus t q ch s
  | .signalBlock t q first count => Sys2Proof.Machine.execSignalBlock t q first count s
  | .directoryBlock t q first count => Sys2Proof.Machine.execDirectoryBlock t q first count s
  | .journalRead t q first count => Sys2Proof.Machine.execJournalRead t q first count s
  | .valueArea t q first count => Sys2Proof.Machine.execValueArea t q first count s
  | .changeRecord t q changeNo => Sys2Proof.Machine.execChangeRecord t q changeNo s
  | .tableRead t q kind num => Sys2Proof.Machine.execTableRead t q kind num s
  | .doorbellSubmit t ring v => Sys2Proof.Machine.execDoorbellSubmit t ring v s
  | .doorbellConsume t ring v => Sys2Proof.Machine.execDoorbellConsume t ring v s
  | .descriptorFetch t ring desc ok => Sys2Proof.Machine.execDescriptorFetch t ring desc ok s
  | .completionWrite t ring ok => Sys2Proof.Machine.execCompletionWrite t ring ok s
  | .eventDelivery t ring ok => Sys2Proof.Machine.execEventDelivery t ring ok s
  | .msixMessage t ring => Sys2Proof.Machine.execMsixMessage t ring s
  | .ringAdmissionDone t ring => Sys2Proof.Machine.execRingAdmissionDone t ring s
  | .ringEnable t ring => Sys2Proof.Machine.execRingEnable t ring s
  | .ringDisable t ring => Sys2Proof.Machine.execRingDisable t ring s
  | .hostReadySet t => Sys2Proof.Machine.execHostReadySet t s
  | .hostReadyClear t => Sys2Proof.Machine.execHostReadyClear t s
  | .hostAttach t speed width => Sys2Proof.Machine.execHostAttach t speed width s
  | .hostDetach t cause => Sys2Proof.Machine.execHostDetach t cause s
  | .hostWdKick t => Sys2Proof.Machine.execHostWdKick t s
  | .hostWdExpiry t => Sys2Proof.Machine.execHostWdExpiry t s
  | .registerWrite t off v => Sys2Proof.Machine.execRegisterWrite t off v s
  | .timNowLoRead t => Sys2Proof.Machine.execTimNowLoRead t s
  | .releaseAll t => Sys2Proof.Machine.execReleaseAll t s
  | .releaseEnWrite t v => Sys2Proof.Machine.execReleaseEnWrite t v s
  | .plausEnWrite t v => Sys2Proof.Machine.execPlausEnWrite t v s
  | .gswCloseRequest t mask => Sys2Proof.Machine.execGswCloseRequest t mask s
  | .latchedClear t m_ mask => Sys2Proof.Machine.execLatchedClear t m_ mask s
  | .safFaultClear t m_ mask => Sys2Proof.Machine.execSafFaultClear t m_ mask s
  | .fltAck t => Sys2Proof.Machine.execFltAck t s
  | .capturedClear t => Sys2Proof.Machine.execCapturedClear t s
  | .priorClear t => Sys2Proof.Machine.execPriorClear t s
  | .activeClear t m_ mask => Sys2Proof.Machine.execActiveClear t m_ mask s
  | .recoveryClear t => Sys2Proof.Machine.execRecoveryClear t s
  | .autoRunWrite t v => Sys2Proof.Machine.execAutoRunWrite t v s
  | .recEnWrite t v => Sys2Proof.Machine.execRecEnWrite t v s
  | .pnlEnWriteOn t => Sys2Proof.Machine.execPnlEnWriteOn t s
  | .pnlEnWriteOff t => Sys2Proof.Machine.execPnlEnWriteOff t s
  | .taskRelease t task => Sys2Proof.Machine.execTaskRelease t task s
  | .eventRelease t task src => Sys2Proof.Machine.execEventRelease t task src s
  | .heldRelease t task => Sys2Proof.Machine.execHeldRelease t task s
  | .snapshotComplete t task => Sys2Proof.Machine.execSnapshotComplete t task s
  | .taskDispatch t core => Sys2Proof.Machine.execTaskDispatch t core s
  | .taskPreemption t core => Sys2Proof.Machine.execTaskPreemption t core s
  | .commitComplete t task => Sys2Proof.Machine.execCommitComplete t task s
  | .stepBudgetExhausted t task => Sys2Proof.Machine.execStepBudgetExhausted t task s
  | .deadlineExpiry t task => Sys2Proof.Machine.execDeadlineExpiry t task s
  | .dicNop core => Sys2Proof.Machine.execDicNop core s
  | .dicLd core ty d sp ix => Sys2Proof.Machine.execDicLd core ty d sp ix s
  | .dicSt core ty d sp ix => Sys2Proof.Machine.execDicSt core ty d sp ix s
  | .dicLdx core ty d a sp base len => Sys2Proof.Machine.execDicLdx core ty d a sp base len s
  | .dicStx core ty d a sp base len => Sys2Proof.Machine.execDicStx core ty d a sp base len s
  | .dicLdi16 core ty d imm => Sys2Proof.Machine.execDicLdi16 core ty d imm s
  | .dicLdi32 core ty d imm => Sys2Proof.Machine.execDicLdi32 core ty d imm s
  | .dicLdi64 core ty d imm => Sys2Proof.Machine.execDicLdi64 core ty d imm s
  | .dicMov core ty d a => Sys2Proof.Machine.execDicMov core ty d a s
  | .dicTget core d ix => Sys2Proof.Machine.execDicTget core d ix s
  | .dicAdd core ty d a b => Sys2Proof.Machine.execDicAdd core ty d a b s
  | .dicSub core ty d a b => Sys2Proof.Machine.execDicSub core ty d a b s
  | .dicMul core ty d a b => Sys2Proof.Machine.execDicMul core ty d a b s
  | .dicDiv core ty d a b => Sys2Proof.Machine.execDicDiv core ty d a b s
  | .dicMod core ty d a b => Sys2Proof.Machine.execDicMod core ty d a b s
  | .dicNeg core ty d a => Sys2Proof.Machine.execDicNeg core ty d a s
  | .dicAbs core ty d a => Sys2Proof.Machine.execDicAbs core ty d a s
  | .dicMin core ty d a b => Sys2Proof.Machine.execDicMin core ty d a b s
  | .dicMax core ty d a b => Sys2Proof.Machine.execDicMax core ty d a b s
  | .dicSqrt core ty d a => Sys2Proof.Machine.execDicSqrt core ty d a s
  | .dicLim core ty d a b => Sys2Proof.Machine.execDicLim core ty d a b s
  | .dicExp core ty d a => Sys2Proof.Machine.execDicExp core ty d a s
  | .dicLn core ty d a => Sys2Proof.Machine.execDicLn core ty d a s
  | .dicSin core ty d a => Sys2Proof.Machine.execDicSin core ty d a s
  | .dicCos core ty d a => Sys2Proof.Machine.execDicCos core ty d a s
  | .dicAtan2 core ty d a b => Sys2Proof.Machine.execDicAtan2 core ty d a b s
  | .dicAnd core ty d a b => Sys2Proof.Machine.execDicAnd core ty d a b s
  | .dicOr core ty d a b => Sys2Proof.Machine.execDicOr core ty d a b s
  | .dicXor core ty d a b => Sys2Proof.Machine.execDicXor core ty d a b s
  | .dicNot core ty d a => Sys2Proof.Machine.execDicNot core ty d a s
  | .dicShl core ty d a b => Sys2Proof.Machine.execDicShl core ty d a b s
  | .dicShr core ty d a b => Sys2Proof.Machine.execDicShr core ty d a b s
  | .dicBitget core ty d a b => Sys2Proof.Machine.execDicBitget core ty d a b s
  | .dicBitset core ty d a b => Sys2Proof.Machine.execDicBitset core ty d a b s
  | .dicCmp core ty d a b cond => Sys2Proof.Machine.execDicCmp core ty d a b cond s
  | .dicSel core ty d a b => Sys2Proof.Machine.execDicSel core ty d a b s
  | .dicCvt core ty d a src => Sys2Proof.Machine.execDicCvt core ty d a src s
  | .dicQget core ty d a => Sys2Proof.Machine.execDicQget core ty d a s
  | .dicQset core ty d a => Sys2Proof.Machine.execDicQset core ty d a s
  | .dicQsel core ty d a b => Sys2Proof.Machine.execDicQsel core ty d a b s
  | .dicBr core off => Sys2Proof.Machine.execDicBr core off s
  | .dicBrt core a off => Sys2Proof.Machine.execDicBrt core a off s
  | .dicBrf core a off => Sys2Proof.Machine.execDicBrf core a off s
  | .dicLoop core a off max => Sys2Proof.Machine.execDicLoop core a off max s
  | .dicLidx core d => Sys2Proof.Machine.execDicLidx core d s
  | .dicCall core target => Sys2Proof.Machine.execDicCall core target s
  | .dicRet core => Sys2Proof.Machine.execDicRet core s
  | .dicEnd core => Sys2Proof.Machine.execDicEnd core s
  | .dicNow core d => Sys2Proof.Machine.execDicNow core d s
  | .fbTon core inst => Sys2Proof.Machine.execFbTon core inst s
  | .fbTof core inst => Sys2Proof.Machine.execFbTof core inst s
  | .fbTp core inst => Sys2Proof.Machine.execFbTp core inst s
  | .fbCtu core inst => Sys2Proof.Machine.execFbCtu core inst s
  | .fbCtd core inst => Sys2Proof.Machine.execFbCtd core inst s
  | .fbEdge core inst => Sys2Proof.Machine.execFbEdge core inst s
  | .fbSetl core inst => Sys2Proof.Machine.execFbSetl core inst s
  | .fbRstl core inst => Sys2Proof.Machine.execFbRstl core inst s
  | .fbHyst core inst => Sys2Proof.Machine.execFbHyst core inst s
  | .fbFilt1 core inst => Sys2Proof.Machine.execFbFilt1 core inst s
  | .fbRampl core inst => Sys2Proof.Machine.execFbRampl core inst s
  | .fbTotal core inst => Sys2Proof.Machine.execFbTotal core inst s
  | .fbDeadb core inst => Sys2Proof.Machine.execFbDeadb core inst s
  | .fbInterp core inst => Sys2Proof.Machine.execFbInterp core inst s
  | .sysLoopBank core => Sys2Proof.Machine.execSysLoopBank core s
  | .sysLoopEnable core => Sys2Proof.Machine.execSysLoopEnable core s
  | .sysLoopCoef core => Sys2Proof.Machine.execSysLoopCoef core s
  | .sysPlanStart core => Sys2Proof.Machine.execSysPlanStart core s
  | .sysPlanPause core => Sys2Proof.Machine.execSysPlanPause core s
  | .sysPlanResume core => Sys2Proof.Machine.execSysPlanResume core s
  | .sysPlanAbort core => Sys2Proof.Machine.execSysPlanAbort core s
  | .sysUnitCmd core => Sys2Proof.Machine.execSysUnitCmd core s
  | .sysUnitResume core => Sys2Proof.Machine.execSysUnitResume core s
  | .sysMsgSend core => Sys2Proof.Machine.execSysMsgSend core s
  | .sysHostEvent core => Sys2Proof.Machine.execSysHostEvent core s
  | .loopSample t loop => Sys2Proof.Machine.execLoopSample t loop s
  | .loopApply t loop late => Sys2Proof.Machine.execLoopApply t loop late s
  | .modelDriveExpiry t loop => Sys2Proof.Machine.execModelDriveExpiry t loop s
  | .planTick t => Sys2Proof.Machine.execPlanTick t s
  | .resumeSlotRefresh t plan => Sys2Proof.Machine.execResumeSlotRefresh t plan s
  | .diSample t ch high => Sys2Proof.Machine.execDiSample t ch high s
  | .doDemandRead t ch => Sys2Proof.Machine.execDoDemandRead t ch s
  | .pwmPeriodStart t ch => Sys2Proof.Machine.execPwmPeriodStart t ch s
  | .pwmOnTimeEnd t ch => Sys2Proof.Machine.execPwmOnTimeEnd t ch s
  | .testFrameStart t => Sys2Proof.Machine.execTestFrameStart t s
  | .testSlotStart t ch => Sys2Proof.Machine.execTestSlotStart t ch s
  | .testPulseEnd t ch seen => Sys2Proof.Machine.execTestPulseEnd t ch seen s
  | .inputTestWindowEnd t ch => Sys2Proof.Machine.execInputTestWindowEnd t ch s
  | .outputSuspect t ch => Sys2Proof.Machine.execOutputSuspect t ch s
  | .suspectClassify t ch obs => Sys2Proof.Machine.execSuspectClassify t ch obs s
  | .notAchievedDo t ch => Sys2Proof.Machine.execNotAchievedDo t ch s
  | .overloadLatch t ch thermal => Sys2Proof.Machine.execOverloadLatch t ch thermal s
  | .wireBreakSet t ch => Sys2Proof.Machine.execWireBreakSet t ch s
  | .wireBreakClear t ch => Sys2Proof.Machine.execWireBreakClear t ch s
  | .supplyLowSet t blk => Sys2Proof.Machine.execSupplyLowSet t blk s
  | .supplyLowClear t blk => Sys2Proof.Machine.execSupplyLowClear t blk s
  | .gswRailCheck t blk railMv => Sys2Proof.Machine.execGswRailCheck t blk railMv s
  | .watchdogRefresh t ch => Sys2Proof.Machine.execWatchdogRefresh t ch s
  | .watchdogTrip t ch => Sys2Proof.Machine.execWatchdogTrip t ch s
  | .aiConversion t ch rawMa => Sys2Proof.Machine.execAiConversion t ch rawMa s
  | .aiOverload t ch => Sys2Proof.Machine.execAiOverload t ch s
  | .aoDemandRead t ch => Sys2Proof.Machine.execAoDemandRead t ch s
  | .aoReadback t ch rawMa rawV => Sys2Proof.Machine.execAoReadback t ch rawMa rawV s
  | .compliancePersist t ch => Sys2Proof.Machine.execCompliancePersist t ch s
  | .miswireLatch t ch => Sys2Proof.Machine.execMiswireLatch t ch s
  | .safetyEvaluation t f => Sys2Proof.Machine.execSafetyEvaluation t f s
  | .safetyTick t => Sys2Proof.Machine.execSafetyTick t s
  | .discrepancyExpiry t f => Sys2Proof.Machine.execDiscrepancyExpiry t f s
  | .stopDelayExpiry t f => Sys2Proof.Machine.execStopDelayExpiry t f s
  | .syncExpiry t f => Sys2Proof.Machine.execSyncExpiry t f s
  | .handContact t f => Sys2Proof.Machine.execHandContact t f s
  | .ossdTestExpiry t f second => Sys2Proof.Machine.execOssdTestExpiry t f second s
  | .lockReleaseReady t f => Sys2Proof.Machine.execLockReleaseReady t f s
  | .telegramSend t conn => Sys2Proof.Machine.execTelegramSend t conn s
  | .telegramReceive t conn net pdu => Sys2Proof.Machine.execTelegramReceive t conn net pdu s
  | .connectionWatchdogExpiry t conn => Sys2Proof.Machine.execConnectionWatchdogExpiry t conn s
  | .netlossExpiry t conn net => Sys2Proof.Machine.execNetlossExpiry t conn net s
  | .portLinkChange t port up giga => Sys2Proof.Machine.execPortLinkChange t port up giga s
  | .degradedExpiry t cause => Sys2Proof.Machine.execDegradedExpiry t cause s
  | .degradedCauseEnd t cause => Sys2Proof.Machine.execDegradedCauseEnd t cause s
  | .degradedSave t => Sys2Proof.Machine.execDegradedSave t s
  | .permitRequest t who op c1 durMs => Sys2Proof.Machine.execPermitRequest t who op c1 durMs s
  | .permitRelease t who => Sys2Proof.Machine.execPermitRelease t who s
  | .permitRenew t who units durMs => Sys2Proof.Machine.execPermitRenew t who units durMs s
  | .grantExpiry t who => Sys2Proof.Machine.execGrantExpiry t who s
  | .roundInstant t => Sys2Proof.Machine.execRoundInstant t s
  | .roundFrameReceive t seat f => Sys2Proof.Machine.execRoundFrameReceive t seat f s
  | .roundWindowClose t => Sys2Proof.Machine.execRoundWindowClose t s
  | .voteInstant t => Sys2Proof.Machine.execVoteInstant t s
  | .signatureCompare t => Sys2Proof.Machine.execSignatureCompare t s
  | .heartbeatSend t => Sys2Proof.Machine.execHeartbeatSend t s
  | .heartbeatReceive t seat => Sys2Proof.Machine.execHeartbeatReceive t seat s
  | .peerLossDeclaration t seat => Sys2Proof.Machine.execPeerLossDeclaration t seat s
  | .triadLinkDown t t2 => Sys2Proof.Machine.execTriadLinkDown t t2 s
  | .claimFrame t seat triadId epoch version running => Sys2Proof.Machine.execClaimFrame t seat triadId epoch version running s
  | .triadForm t => Sys2Proof.Machine.execTriadForm t s
  | .soloFormTimeout t => Sys2Proof.Machine.execSoloFormTimeout t s
  | .resyncBulkEnd t dirtyMib => Sys2Proof.Machine.execResyncBulkEnd t dirtyMib s
  | .deltaPassEnd t passMib => Sys2Proof.Machine.execDeltaPassEnd t passMib s
  | .shadowStart t => Sys2Proof.Machine.execShadowStart t s
  | .regionCompare t differing => Sys2Proof.Machine.execRegionCompare t differing s
  | .resyncInStep t => Sys2Proof.Machine.execResyncInStep t s
  | .resyncAbandon t codeError => Sys2Proof.Machine.execResyncAbandon t codeError s
  | .claimRetry t => Sys2Proof.Machine.execClaimRetry t s
  | .frameIngress t port f => Sys2Proof.Machine.execFrameIngress t port f s
  | .frameEgress t port => Sys2Proof.Machine.execFrameEgress t port s
  | .ptpOffset t port off => Sys2Proof.Machine.execPtpOffset t port off s
  | .ptpMessageSend t port msg => Sys2Proof.Machine.execPtpMessageSend t port msg s
  | .masterLost t => Sys2Proof.Machine.execMasterLost t s
  | .timWrap t => Sys2Proof.Machine.execTimWrap t s
  | .ppsOutEdge t => Sys2Proof.Machine.execPpsOutEdge t s
  | .ppsInEdge t => Sys2Proof.Machine.execPpsInEdge t s
  | .nmeaSentence t src text => Sys2Proof.Machine.execNmeaSentence t src text s
  | .navTimeout t entry => Sys2Proof.Machine.execNavTimeout t entry s
  | .stationBeacon t stationId mac => Sys2Proof.Machine.execStationBeacon t stationId mac s
  | .stationCycle t st => Sys2Proof.Machine.execStationCycle t st s
  | .inSeg t st frame => Sys2Proof.Machine.execInSeg t st frame s
  | .stationInputInstant t st => Sys2Proof.Machine.execStationInputInstant t st s
  | .acycResp t st refused data => Sys2Proof.Machine.execAcycResp t st refused data s
  | .stationTimeout t st => Sys2Proof.Machine.execStationTimeout t st s
  | .stationLoad t q st buf => Sys2Proof.Machine.execStationLoad t q st buf s
  | .stationDelete t q st => Sys2Proof.Machine.execStationDelete t q st s
  | .navLoad t q count buf => Sys2Proof.Machine.execNavLoad t q count buf s
  | .ptpPort t q port en asym => Sys2Proof.Machine.execPtpPort t q port en asym s
  | .stationRead t q st obj => Sys2Proof.Machine.execStationRead t q st obj s
  | .stationWrite t q st obj data => Sys2Proof.Machine.execStationWrite t q st obj data s
  | .canPortLoad t q port buf => Sys2Proof.Machine.execCanPortLoad t q port buf s
  | .canSend t q port b data => Sys2Proof.Machine.execCanSend t q port b data s
  | .canRead t q port b racing => Sys2Proof.Machine.execCanRead t q port b racing s
  | .canRecover t q port => Sys2Proof.Machine.execCanRecover t q port s
  | .canFrameReceive t port f => Sys2Proof.Machine.execCanFrameReceive t port f s
  | .canPeriodRequest t port b => Sys2Proof.Machine.execCanPeriodRequest t port b s
  | .canTxEnd t port b r => Sys2Proof.Machine.execCanTxEnd t port b r s
  | .canNoPartner t port => Sys2Proof.Machine.execCanNoPartner t port s
  | .recoverDelayExpiry t port => Sys2Proof.Machine.execRecoverDelayExpiry t port s
  | .canRecovered t port => Sys2Proof.Machine.execCanRecovered t port s
  | .referenceCycleStart t port => Sys2Proof.Machine.execReferenceCycleStart t port s
  | .heartbeatTimeout t port node => Sys2Proof.Machine.execHeartbeatTimeout t port node s
  | .canMapTimeout t port entry => Sys2Proof.Machine.execCanMapTimeout t port entry s
  | .faultReport t f => Sys2Proof.Machine.execFaultReport t f s
  | .firmwareAck t => Sys2Proof.Machine.execFirmwareAck t s
  | .jibExpiry t => Sys2Proof.Machine.execJibExpiry t s
  | .aliveToggle t => Sys2Proof.Machine.execAliveToggle t s
  | .okContactDrop t => Sys2Proof.Machine.execOkContactDrop t s
  | .recorderSample t sig => Sys2Proof.Machine.execRecorderSample t sig s
  | .accumulatorSweep t tier => Sys2Proof.Machine.execAccumulatorSweep t tier s
  | .intervalClose t tier => Sys2Proof.Machine.execIntervalClose t tier s
  | .archiveFlush t tier writes => Sys2Proof.Machine.execArchiveFlush t tier writes s
  | .freezeMaxExpiry t => Sys2Proof.Machine.execFreezeMaxExpiry t s
  | .recClassLoad t q first count buf => Sys2Proof.Machine.execRecClassLoad t q first count buf s
  | .recListLoad t q tier count buf => Sys2Proof.Machine.execRecListLoad t q tier count buf s
  | .recFreeze t q => Sys2Proof.Machine.execRecFreeze t q s
  | .recFreezeRelease t q => Sys2Proof.Machine.execRecFreezeRelease t q s
  | .recRead t q tier seq first count => Sys2Proof.Machine.execRecRead t q tier seq first count s
  | .updReceive t q supersede noRelay hdr => Sys2Proof.Machine.execUpdReceive t q supersede noRelay hdr s
  | .payloadReceived t payload => Sys2Proof.Machine.execPayloadReceived t payload s
  | .verifyDone t region => Sys2Proof.Machine.execVerifyDone t region s
  | .applyDone t region => Sys2Proof.Machine.execApplyDone t region s
  | .updActivate t q region triadSeq => Sys2Proof.Machine.execUpdActivate t q region triadSeq s
  | .updCancel t q region => Sys2Proof.Machine.execUpdCancel t q region s
  | .updReject t q region => Sys2Proof.Machine.execUpdReject t q region s
  | .trialConfirm t region => Sys2Proof.Machine.execTrialConfirm t region s
  | .trialTimeout t region => Sys2Proof.Machine.execTrialTimeout t region s
  | .relayOffer t srcId supersede hdr => Sys2Proof.Machine.execRelayOffer t srcId supersede hdr s
  | .relayAccept t nbr pkg => Sys2Proof.Machine.execRelayAccept t nbr pkg s
  | .relayHave t nbr pkg => Sys2Proof.Machine.execRelayHave t nbr pkg s
  | .relayRefuse t nbr pkg status => Sys2Proof.Machine.execRelayRefuse t nbr pkg status s
  | .relayData t srcId pkg off bytes => Sys2Proof.Machine.execRelayData t srcId pkg off bytes s
  | .relayAck t nbr pkg off => Sys2Proof.Machine.execRelayAck t nbr pkg off s
  | .relayDone t nbr pkg status => Sys2Proof.Machine.execRelayDone t nbr pkg status s
  | .relayAbort t srcId pkg => Sys2Proof.Machine.execRelayAbort t srcId pkg s
  | .relayResendTimeout t nbr => Sys2Proof.Machine.execRelayResendTimeout t nbr s
  | .relayProgressTimeout t nbr => Sys2Proof.Machine.execRelayProgressTimeout t nbr s
  | .secPropose t q buf => Sys2Proof.Machine.execSecPropose t q buf s
  | .secConfirm t q seq key sig => Sys2Proof.Machine.execSecConfirm t q seq key sig s
  | .protectionInstant t => Sys2Proof.Machine.execProtectionInstant t s
  | .secWithdraw t q seq => Sys2Proof.Machine.execSecWithdraw t q seq s
  | .secProposalRead t q => Sys2Proof.Machine.execSecProposalRead t q s
  | .secIdentityRead t q => Sys2Proof.Machine.execSecIdentityRead t q s
  | .secRoleInit t q buf => Sys2Proof.Machine.execSecRoleInit t q buf s
  | .proposalExpiry t => Sys2Proof.Machine.execProposalExpiry t s
  | .debugToken t full sig => Sys2Proof.Machine.execDebugToken t full sig s
  | .debugAccess t a => Sys2Proof.Machine.execDebugAccess t a s
  | .debugLockoutEnd t => Sys2Proof.Machine.execDebugLockoutEnd t s
  | .debugGrantEnd t => Sys2Proof.Machine.execDebugGrantEnd t s
  | .pnlFrame t q crc img => Sys2Proof.Machine.execPnlFrame t q crc img s
  | .pnlBands t q buf => Sys2Proof.Machine.execPnlBands t q buf s
  | .pnlFull t q ms => Sys2Proof.Machine.execPnlFull t q ms s
  | .pnlFullRelease t q => Sys2Proof.Machine.execPnlFullRelease t q s
  | .pnlIdRead t q => Sys2Proof.Machine.execPnlIdRead t q s
  | .panelFrameStart t => Sys2Proof.Machine.execPanelFrameStart t s
  | .panelFrameEnd t crc => Sys2Proof.Machine.execPanelFrameEnd t crc s
  | .panelTempRead t tempC => Sys2Proof.Machine.execPanelTempRead t tempC s
  | .panelIdentRead t ident => Sys2Proof.Machine.execPanelIdentRead t ident s
  | .panelRailCheck t mv => Sys2Proof.Machine.execPanelRailCheck t mv s
  | .panelRetry t => Sys2Proof.Machine.execPanelRetry t s
  | .supplyRemoved t => Sys2Proof.Machine.execSupplyRemoved t s
  | .triadLinkUp t t2 => Sys2Proof.Machine.execTriadLinkUp t t2 s
  | .ptpAnnounce t port a => Sys2Proof.Machine.execPtpAnnounce t port a s
  | .notAchievedClear t ch => Sys2Proof.Machine.execNotAchievedClear t ch s
  | .fieldSupplyFall t blk => Sys2Proof.Machine.execFieldSupplyFall t blk s

end Sys2Proof.Machine
end

