-- ==== Sys2Proof/Machine/RegRead.lean ====
section
/-! DEFINITION. What a host reads at each offset of BAR0 (R8 to R10, R499 to R505): every field of every register from the
state, reserved bits and reserved offsets as zero. A read changes nothing; the one that latches, of TIM_NOW_LO (R344), is a
command of its own. -/

namespace Sys2Proof.Machine

/-! ### Putting a register together -/

/-- A register from its fields: high bit, low bit, value. -/
def regOf (fs : List (Nat × Nat × Nat)) : W32 :=
  BitVec.ofNat 32 ((fs.map (fun f => f.2.2 % 2 ^ (f.1 + 1 - f.2.1) * 2 ^ f.2.1)).sum)

/-- A register of 32 truth values: bit n for number 32 × m + n. -/
def regBits (m : Nat) (p : Nat → Bool) : W32 := regOf ((List.range 32).map (fun n => (n, n, b2n (p (32 * m + n)))))

/-- A time left in ns as whole units of `unit` ns; a part of one counts as one (log 119). -/
def leftIn (unit ns : Nat) : Nat := (ns + unit - 1) / unit

/-! ### The numbers of the named states -/

/-- PWR_STATE.STATE (R503). -/
def PState.no : PState → Nat
  | .off => 0 | .run => 1 | .hold => 2 | .quiet => 3 | .fail => 4

/-- PWR_FAIL_CAUSE.CAUSE (R503). -/
def FailCause.no : FailCause → Nat
  | .none => 0 | .supply => 1 | .shutdown => 2 | .restart => 3

/-- GEN_START.CAUSE (R501). -/
def StartCause.no : StartCause → Nat
  | .powerUp => 1 | .supplyReturn => 2 | .hostRestart => 3 | .activation => 4 | .fallBack => 5 | .fault => 6 | .exclusion => 7
  | .abandonment => 8

/-- LKS_STATE (R264). -/
def PairSt.no : PairSt → Nat
  | .down => 0 | .selftest => 1 | .joined => 2 | .draining => 3 | .split => 4 | .joining => 5 | .lost => 6

/-- HIF_RING_CTRL.STATE (R336). -/
def RingSt.no : RingSt → Nat
  | .disabled => 0 | .pending => 1 | .active => 2 | .draining => 3 | .error => 4

/-- CAN_STATE.STATE (R387). -/
def CanSt.no : CanSt → Nat
  | .off => 0 | .errorActive => 1 | .errorPassive => 2 | .busOff => 3

/-- UPD_REGIONn.STATE (R444). -/
def RegionSt.no : RegionSt → Nat
  | .idle => 0 | .receiving => 1 | .verifying => 2 | .applying => 3 | .ready => 4 | .activating => 5 | .trial => 6

/-- SEC_STATUS.LIFECYCLE (R466). -/
def Lifecycle.no : Lifecycle → Nat
  | .blank => 0 | .provisioned => 1 | .sealed => 2 | .returned => 3 | .void => 4

/-- PNL_STATUS.STATE (R482). -/
def PanelSt.no : PanelSt → Nat
  | .off => 0 | .ident => 1 | .rail => 2 | .clear => 3 | .lit => 4 | .hot => 5

/-- The pair runs (R263): it is neither down, nor in its self-test, nor lost. -/
def PairSt.runs (s : PairSt) : Bool := s != .down && s != .selftest && s != .lost

/-! ### GEN, HIF, PWR and ADM (R336, R501, R503, R504) -/

/-- The capture record's 32 bytes (R391); all zero when empty. -/
def captureBytes (c : Option Capture) : List Byte :=
  match c with
  | none => List.replicate 32 0
  | some c =>
    sealed (leBytes 8 c.addr ++ leBytes 2 c.master.toNat ++ leBytes 1 c.access ++ leBytes 1 c.actClass ++ bytes32 c.time ++ [c.wrapTag] ++
      leBytes 1 c.src ++ leBytes 1 c.cls ++ leBytes 1 c.level ++ leBytes 2 c.mergeCount ++ [c.merged] ++
      leBytes 1 (b2n c.escalated + 2 * b2n c.acked + 4 * b2n c.f3Taken) ++ bytes32 c.detail)

/-- GEN (R501). -/
def genReg (m : Mod) (o : Nat) : W32 :=
  match o with
  | 0x00 => 0x02561D9E
  | 0x04 => regOf [(15, 8, 1), (7, 0, 1)]
  | 0x08 => m.nv.moduleId
  | 0x0C => regOf [(31, 16, m.nv.startCount), (3, 0, m.gen.cause.no)]
  | 0x10 => regOf [(31, 16, m.gen.supplyMv), (15, 8, (BitVec.ofInt 8 m.gen.dieC).toNat)]
  | 0x14 => m.gen.scratch
  | 0x18 => regOf [(0, 0, b2n m.gen.softLock)]
  | _ => 0

/-- HIF without its rings (R336). -/
def hifReg (m : Mod) (o : Nat) : W32 :=
  match o with
  | 0x00 => regOf [(31, 24, 64), (23, 16, 128), (15, 8, 64), (7, 0, 15)]
  | 0x04 => regOf [(11, 8, m.hif.regCring), (0, 0, b2n m.hif.ready)]
  | 0x08 =>
    regOf [(31, 28, m.hif.speed), (27, 24, m.hif.width), (23, 16, m.hif.flights.length), (2, 2, b2n m.pwr.svcStopped),
           (1, 1, b2n (eventRings.any (fun n => (ringOf m n).replaying))), (0, 0, b2n m.hif.attached)]
  | 0x0C => m.hif.events
  | 0x10 => regOf [(15, 0, m.hif.wdMs)]
  | 0x14 => m.hif.dropped
  | 0x18 => m.hif.discarded
  | _ => 0

/-- The registers of ring `n` (R336). -/
def ringReg (m : Mod) (n o : Nat) : W32 :=
  let r := ringOf m n
  match o with
  | 0x00 => regOf [(31, 6, fld r.baseLo 31 6)]
  | 0x04 => r.baseHi
  | 0x08 => regOf [(31, 20, r.c1Rate), (19, 14, r.vector), (13, 10, r.defCring), (9, 8, r.cls), (3, 0, r.sizeLog2)]
  | 0x0C => regOf [(15, 0, r.mask.toNat)]
  | 0x10 => regOf [(6, 4, r.st.no), (0, 0, b2n r.enable)]
  | 0x14 => regOf [(31, 16, r.doorbell.toNat), (15, 0, r.index.toNat)]
  | 0x18 => regOf [(15, 0, r.modUsNew)]
  | _ => 0

/-- PWR (R503). -/
def pwrReg (m : Mod) (o : Nat) : W32 :=
  match o with
  | 0x00 => regOf [(10, 10, b2n m.pwr.holdupLow), (9, 9, b2n m.pwr.recovery), (8, 8, b2n m.pwr.starting), (2, 0, m.pwr.st.no)]
  | 0x04 => regOf [(0, 0, b2n m.nv.autoRun)]
  | 0x08 => regOf [(4, 0, m.nv.windowS)]
  | 0x0C => regOf [(15, 8, m.nv.failWrap.toNat), (7, 0, m.nv.failCause.no)]
  | 0x10 => m.nv.failTime
  | 0x14 => m.pwr.events
  | _ => 0

/-- ADM (R504). Until the configuration has been loaded BASE and POOL hold their reset value 0. -/
def admReg (m : Mod) (o : Nat) : W32 :=
  match o with
  | 0x00 => regOf [(31, 16, 400), (15, 8, 12), (7, 0, 50)]
  | 0x04 => if m.pwr.startStep < 5 then 0 else regOf [(24, 16, pool m), (8, 0, m.adm.base)]
  | 0x08 => regOf [(31, 31, b2n m.adm.holdBack), (23, 16, min 255 m.adm.waiting.length), (8, 0, granted m)]
  | 0x0C => regOf [(15, 0, (accesses m + 999) / 1000)]
  | 0x10 => m.adm.last
  | 0x14 => m.adm.events
  | _ => 0

/-! ### SIG, PGE, LPE and PLN (R68, R91, R142, R161) -/

/-- SIG (R68). -/
def sigReg (m : Mod) (o : Nat) : W32 :=
  match o with
  | 0x00 => regOf [(22, 0, 0x200000)]
  | 0x04 => regOf [(16, 0, 0x10000)]
  | 0x08 => regOf [(1, 1, b2n m.sig.safetyForce), (0, 0, b2n m.sig.forceEn)]
  | 0x0C => regOf [(16, 16, b2n (!m.sig.walking.isEmpty)), (12, 0, forceCount m)]
  | 0x10 => regOf [(22, 0, m.sig.sigs.length)]
  | 0x14 => regOf [(16, 0, 65 + (m.sig.units.filter (fun e => 65 ≤ e.1)).length)]
  | 0x18 => m.sig.refused
  | _ => 0

/-- PGE (R91). -/
def pgeReg (m : Mod) (o : Nat) : W32 :=
  match o with
  | 0x00 => regOf [(31, 24, 32), (23, 16, 64), (15, 8, 6), (7, 0, 32)]
  | 0x04 => regOf [(1, 1, b2n m.pge.changeEn), (0, 0, b2n m.pge.releaseEn)]
  | 0x08 =>
    regOf ([(17, 17, b2n m.pge.switching.isSome), (16, 16, b2n m.pge.change.isSome)] ++
      (List.range 8).flatMap (fun n => [(8 + n, 8 + n, b2n ((pairOf m n).st == .split)), (n, n, b2n (pairOf m n).st.runs)]))
  | 0x10 => (m.pge.aborts[0]?).getD 0
  | 0x14 => (m.pge.aborts[1]?).getD 0
  | 0x18 => (m.pge.aborts[2]?).getD 0
  | 0x20 => m.pge.skips
  | 0x30 => m.pge.changeSeq
  | _ => 0

/-- The admitted loop load in units of 1,000 slots per second, rounded up (R118, R142). -/
def kSlots (m : Mod) : Nat :=
  let r := sumFrac ((countedLoops m).map (fun l => (1000 * loopSlots l, l.rcd.period)))
  (r.1 + r.2 - 1) / r.2

/-- LPE (R142). -/
def lpeReg (m : Mod) (o : Nat) : W32 :=
  match o with
  | 0x00 => regOf [(31, 16, 0x400), (15, 8, 64), (7, 0, 2)]
  | 0x04 => regOf [(0, 0, b2n m.lpe.plausEn)]
  | 0x08 => regOf [(2, 0, m.lpe.bankSwap.toNat)]
  | 0x0C =>
    regOf [(26, 16, (m.lpe.loops.filter (fun e => e.2.enabled)).length), (10, 0, (m.lpe.loops.filter (fun e => e.2.reaction.isSome)).length)]
  | 0x10 => regOf [(13, 0, kSlots m)]
  | 0x14 => m.lpe.events
  | _ => 0

/-- PLN (R161). -/
def plnReg (m : Mod) (o : Nat) : W32 :=
  match o with
  | 0x00 => regOf [(31, 16, 0x400), (15, 8, 64), (7, 0, 100)]
  | 0x04 => regOf [(1, 1, b2n m.pln.resumeEn), (0, 0, b2n m.pln.startEnNew)]
  | 0x08 => regOf [(22, 16, (m.pln.plans.filter (fun e => e.2.st != .idle)).length), (10, 0, m.pln.plans.length)]
  | 0x0C => m.nv.jseq
  | 0x10 => regOf [(10, 0, (tickLoad m + 9) / 10)]
  | 0x14 => m.pln.events
  | _ => 0

/-! ### FIO, SAF and LKS (R187, R206, R231, R264) -/

/-- FIO (R187, R206). -/
def fioReg (m : Mod) (o : Nat) : W32 :=
  if 0x20 ≤ o && o < 0x40 then regBits ((o - 0x20) / 4) (fun n => (chanOf m n).latched)
  else if 0x120 ≤ o && o < 0x140 then regBits ((o - 0x120) / 4) (fun n => (chanOf m n).nominal)
  else
    match o with
    | 0x00 => regOf [(31, 16, 0x100), (15, 8, 8), (7, 0, 32)]
    | 0x04 => regOf [(0, 0, b2n m.fio.testEnNew)]
    | 0x08 => regOf [(31, 24, m.fio.closeRefused.toNat), (23, 16, m.fio.closed.toNat), (15, 8, m.fio.low.toNat), (7, 0, m.fio.okb.toNat)]
    | 0x10 => m.fio.gswOpened
    | 0x14 => m.fio.frame
    | 0x18 => m.fio.discards
    | 0x100 => regOf [(0, 0, b2n m.fio.calEn)]
    | 0x104 => m.fio.anEvents
    | 0x108 =>
      regOf [(24, 16, ((List.range 256).filter (fun n => (calOf m n).source == 2)).length), (8, 0, (m.fio.chans.filter (fun e => e.2.nominal)).length)]
    | _ => 0

/-- SAF_DEG_NET, SAF_DEG_PAIR and SAF_DEG_SEAT (R231). -/
def degReg (m : Mod) (d : Deg) : W32 :=
  regOf [(31, 31, b2n d.active), (30, 30, b2n d.expired), (17, 0, if d.active && !d.expired then leftIn (sec 1) (d.remain m.clk) else 0)]

/-- SAF (R231). -/
def safReg (m : Mod) (o : Nat) : W32 :=
  if 0x40 ≤ o && o < 0x60 then
    regBits ((o - 0x40) / 4) (fun n => match tget m.saf.funcs n with | some f => f.st == .fault | none => false)
  else
    match o with
    | 0x00 => regOf [(31, 16, 0x100), (15, 8, 128), (7, 0, 4)]
    | 0x04 => regOf [(16, 16, b2n m.saf.gmacReq), (12, 0, m.saf.limitMin)]
    | 0x08 => regOf [(7, 0, fld m.saf.net 7 0)]
    | 0x0C =>
      regOf [(24, 16, (m.saf.funcs.filter (fun e => e.2.st == .fault)).length),
             (8, 0, (m.saf.funcs.filter (fun e => e.2.st == .enabled || e.2.st == .stopping)).length)]
    | 0x10 =>
      regOf [(23, 16, (m.saf.conns.filter (fun e => !e.2.send && e.2.single)).length), (7, 0, (m.saf.conns.filter (fun e => e.2.st == .failed)).length)]
    | 0x20 => degReg m m.saf.degNet
    | 0x24 => degReg m m.saf.degPair
    | 0x28 => degReg m m.saf.degSeat
    | 0x30 => m.saf.events
    | 0x60 => m.saf.discards
    | _ => 0

/-- LKS (R264). -/
def lksReg (m : Mod) (o : Nat) : W32 :=
  match o with
  | 0x00 => regOf [(23, 16, 2), (15, 8, 6), (7, 0, 8)]
  | 0x04 => regOf [(17, 0, fld m.lks.fallback 17 0)]
  | 0x08 => regOf [(17, 16, fld m.lks.serviceMode 17 16), (1, 0, fld m.lks.serviceMode 1 0)]
  | 0x0C => regOf ((List.range 8).map (fun n => (4 * n + 3, 4 * n, (pairOf m n).st.no)))
  | 0x10 => m.lks.mismatch
  | 0x14 => m.lks.capture
  | 0x18 => m.lks.migrated
  | _ => 0

/-! ### TRI, NET, TIM and CAN (R289, R362, R363, R387) -/

/-- TRI (R289); an RWP field reads as the value in force (R11), so SEAT and TRIAD_ID as this start took them. -/
def triReg (m : Mod) (o : Nat) : W32 :=
  match o with
  | 0x00 => regOf [(23, 16, 100), (15, 8, 2), (7, 0, 3)]
  | 0x04 => regOf [(15, 8, m.tri.aiTol), (4, 4, b2n m.tri.soloStart), (1, 0, m.tri.seat)]
  | 0x08 => m.tri.id
  | 0x0C => triStatus m
  | 0x10 => m.tri.round
  | 0x14 => regOf [(31, 16, m.tri.remain.toNat), (15, 8, m.tri.passes), (7, 0, min 255 (recentOuts m).length)]
  | 0x18 => m.tri.events
  | 0x1C => m.tri.discrepant
  | _ => 0

/-- NET (R362). -/
def netReg (m : Mod) (o : Nat) : W32 :=
  let joined : Nat → Bool := fun n => match tget m.net.stations n with | some s => s.joined | none => false
  let port : (EPort → Bool) → Nat → Nat := fun f n => b2n (match tget m.net.ports n with | some p => f p | none => false)
  match o with
  | 0x00 => regOf [(31, 24, 8), (23, 16, 64), (15, 0, 0x4000)]
  | 0x04 => regOf [(27, 16, m.net.ctrlVid), (11, 0, m.net.defVid)]
  | 0x08 => regOf ((List.range 8).flatMap (fun n => [(8 + n, 8 + n, port (fun p => p.up && p.giga) (n + 1)), (n, n, port EPort.up (n + 1))]))
  | 0x0C => BitVec.ofNat 32 m.nv.mac.toNat
  | 0x10 => regOf [(15, 0, m.nv.mac.toNat / 2 ^ 32)]
  | 0x20 => regBits 0 joined
  | 0x24 => regBits 1 joined
  | 0x30 => m.net.events
  | 0x34 => m.net.unmatched
  | _ => 0

/-- TIM (R363); TIM_NOW_HI holds what the last read of TIM_NOW_LO latched (R344). -/
def timReg (m : Mod) (o : Nat) : W32 :=
  match o with
  | 0x00 => regOf [(7, 0, 40)]
  | 0x04 =>
    regOf [(15, 8, m.tim.domain), (3, 3, b2n m.tim.tcEn), (2, 2, b2n m.tim.p2p), (1, 1, b2n m.tim.masterEn), (0, 0, b2n m.tim.ptpEn)]
  | 0x08 => BitVec.ofNat 32 m.tim.jump
  | 0x0C => time32 m
  | 0x10 => m.tim.nowHi
  | 0x14 =>
    regOf [(31, 31, b2n m.tim.traceable), (30, 30, b2n m.tim.locked), (29, 29, b2n m.tim.stepped), (3, 0, m.tim.masterPort)]
  | 0x18 => BitVec.ofInt 32 m.tim.offset
  | 0x1C => m.tim.events
  | 0x20 => m.tim.ppsIn
  | _ => 0

/-- A CAN window (R387). -/
def canReg (c : CanPort) (o : Nat) : W32 :=
  let blocked : Nat → Bool := fun n => match tget c.bufs n with | some b => b.blocked | none => false
  match o with
  | 0x00 => regOf [(31, 24, 64), (23, 16, 32), (15, 8, 2), (7, 0, 80)]
  | 0x04 =>
    regOf [(31, 31, b2n c.noPartner), (30, 30, b2n c.txOnPartner), (29, 28, c.st.no), (27, 27, b2n c.singleShot), (15, 15, b2n (128 ≤ c.rxc)),
           (14, 8, min 127 c.rxc), (7, 0, if c.st = .busOff then 255 else min 255 c.tec)]
  | 0x08 => regOf [(6, 0, c.tdcv)]
  | 0x0C => regBits 0 blocked
  | 0x10 => regBits 1 blocked
  | 0x14 => c.events
  | 0x18 => regOf [(31, 16, c.lost1), (15, 0, c.lost0)]
  | _ => 0

/-! ### FLT, REC, UPD, SEC and PNL (R402, R422, R444, R466, R482) -/

/-- FLT (R402). -/
def fltReg (m : Mod) (o : Nat) : W32 :=
  if 0x20 ≤ o && o < 0x40 then w32 (captureBytes (if m.flt.capSel then m.nv.prior else m.nv.capture)) (o - 0x20)
  else
    match o with
    | 0x00 => regOf [(31, 16, 0x3E8), (15, 8, 64), (7, 0, 4)]
    | 0x04 => regOf [(16, 16, b2n m.flt.hostAck), (9, 0, m.flt.jibMs)]
    | 0x08 =>
      regOf [(15, 8, min 255 m.flt.awaiting.length), (7, 6, match m.nv.capture with | some c => c.level | none => 0),
             (4, 4, b2n m.flt.jib.isSome), (3, 3, b2n m.flt.alive), (2, 2, b2n m.flt.f3), (1, 1, b2n m.flt.priorSet),
             (0, 0, b2n m.nv.capture.isSome)]
    | 0x10 => regOf [(0, 0, b2n m.flt.capSel)]
    | 0x40 => regOf [(31, 0, m.flt.active.toNat)]
    | 0x44 => regOf [(31, 0, m.flt.active.toNat / 2 ^ 32)]
    | 0x48 => regOf [(31, 16, ((m.flt.counts[1]?).getD 0).toNat), (15, 0, ((m.flt.counts[0]?).getD 0).toNat)]
    | 0x4C => regOf [(31, 16, ((m.flt.counts[3]?).getD 0).toNat), (15, 0, ((m.flt.counts[2]?).getD 0).toNat)]
    | 0x50 => m.flt.events
    | _ => 0

/-- REC (R422). -/
def recReg (m : Mod) (o : Nat) : W32 :=
  let r := m.rcr
  match o with
  | 0x00 => regOf [(31, 24, 16), (23, 16, 3), (15, 8, 64)]
  | 0x04 => regOf [(31, 24, r.freezeMax), (23, 12, r.commitS), (3, 3, b2n r.t3New), (2, 2, b2n r.t2New), (0, 0, b2n r.en)]
  | 0x08 => regOf [(15, 8, r.t3Mib), (7, 0, r.t2Mib)]
  | 0x0C =>
    regOf [(5, 5, b2n (m.pwr.holdupLow && (r.t2Buf || r.t3Buf))), (4, 4, b2n (freezeStable m)), (3, 3, b2n r.frozen.isSome),
           (2, 2, b2n r.tier3.running), (1, 1, b2n r.tier2.running), (0, 0, b2n r.tier1.running)]
  | 0x10 => (m.nv.recSeq[0]?).getD 0
  | 0x14 => (m.nv.recSeq[1]?).getD 0
  | 0x18 => (m.nv.recSeq[2]?).getD 0
  | 0x1C => r.lost
  | 0x20 => r.events
  | _ => 0

/-- UPD_REGIONn (R444): the RUN time that a trial still needs is counted as in R436. -/
def regionReg (m : Mod) (n : Nat) : W32 :=
  let r := regionOf m n
  regOf [(31, 16, if r.st = .trial then leftIn (sec 1) (sec (60 * r.confirmMin) - trialRun m r) else 0), (8, 8, b2n r.inactive.rejected),
         (7, 7, b2n r.forwarding), (6, 6, b2n r.staged), (5, 4, if r.activeB then 2 else 1), (3, 0, r.st.no)]

/-- UPD (R444). -/
def updReg (m : Mod) (o : Nat) : W32 :=
  match o with
  | 0x00 => regOf [(31, 24, 3), (23, 16, 8), (15, 0, 256)]
  | 0x04 => regOf [(23, 16, m.upd.confirmMin), (1, 1, b2n m.upd.relayEn), (0, 0, b2n m.upd.receiveEn)]
  | 0x10 => regionReg m 1
  | 0x14 => regionReg m 2
  | 0x18 => regionReg m 3
  | 0x20 => (regionOf m 1).version
  | 0x24 => (regionOf m 2).version
  | 0x28 => (regionOf m 3).version
  | 0x30 => (regionOf m 1).floor
  | 0x34 => (regionOf m 2).floor
  | 0x38 => (regionOf m 3).floor
  | 0x40 => regOf [(31, 16, (regionOf m 1).compat), (5, 0, m.nv.epoch)]
  | 0x44 =>
    regOf ((List.range 8).flatMap (fun n =>
      match tget m.upd.nbrs n with
      | some x => [(8 + n, 8 + n, b2n x.failed), (n, n, b2n x.delivered)]
      | none => []))
  | 0x48 => m.upd.package
  | 0x4C => m.upd.events
  | _ => 0

/-- SEC (R466). -/
def secReg (m : Mod) (o : Nat) : W32 :=
  let keys : Nat → Nat := fun a => ((List.range 4).map (fun n => b2n (tget m.nv.roleKeys (a + n)).isSome * 2 ^ n)).sum
  match o with
  | 0x00 => regOf [(31, 24, 4), (23, 16, 4), (15, 8, 2), (7, 0, 64)]
  | 0x04 =>
    regOf [(31, 24, keys 4), (23, 16, keys 0), (15, 12, m.nv.revoked.toNat), (11, 10, m.nv.refurbished), (9, 9, b2n m.sec.bootFail.isSome),
           (8, 8, b2n m.sec.pending.isSome), (5, 4, (m.sec.debug).no), (2, 0, m.nv.lifecycle.no)]
  | 0x08 => m.nv.protSeq
  | 0x0C =>
    regOf [(24, 16, match m.sec.grantEnd with | some e => leftIn (sec 60) (e - m.clk) | none => 0),
           (9, 0, match m.sec.pending with | some p => leftIn (sec 1) (p.acceptedAt + sec 600 - m.clk) | none => 0)]
  | 0x10 => regOf [(2, 0, m.sec.policy.toNat)]
  | 0x14 => m.sec.events
  | _ => 0

/-- PNL (R482). -/
def pnlReg (m : Mod) (o : Nat) : W32 :=
  let p := m.pnl
  match o with
  | 0x00 => regOf [(31, 24, 6), (23, 16, 4), (15, 8, 128), (7, 0, 120)]
  | 0x04 => regOf [(0, 0, b2n p.en)]
  | 0x08 => regOf [(15, 0, fld p.rateNew 15 0)]
  | 0x0C =>
    regOf [(31, 24, (BitVec.ofInt 8 p.tempC).toNat), (18, 16, p.band), (10, 8, p.st.no), (2, 2, b2n p.full), (1, 1, b2n p.pattern),
           (0, 0, b2n p.railOk)]
  | 0x10 => regOf [(31, 24, p.maxCode), (23, 16, p.rows), (8, 0, p.cols)]
  | 0x14 => p.crcExp
  | 0x18 => p.events
  | _ => 0

/-! ### BAR0 (R499, R500) -/

/-- The register at an offset of its block. -/
def blockReg (m : Mod) (off : Nat) : W32 :=
  if off < 0x1000 then genReg m off
  else if off < 0x1800 then hifReg m (off - 0x1000)
  else if off < 0x2000 then ringReg m ((off - 0x1800) / 0x20) ((off - 0x1800) % 0x20)
  else if off < 0x3000 then admReg m (off - 0x2000)
  else if off < 0x4000 then sigReg m (off - 0x3000)
  else if off < 0x6000 then pgeReg m (off - 0x4000)
  else if off < 0x8000 then lpeReg m (off - 0x6000)
  else if off < 0x9000 then plnReg m (off - 0x8000)
  else if off < 0xA000 then fioReg m (off - 0x9000)
  else if off < 0xB000 then safReg m (off - 0xA000)
  else if off < 0xC000 then lksReg m (off - 0xB000)
  else if off < 0xD000 then triReg m (off - 0xC000)
  else if off < 0xE000 then netReg m (off - 0xD000)
  else if off < 0xF000 then timReg m (off - 0xE000)
  else if off < 0x10000 then canReg ((tget m.can.ports ((off - 0xF000) / 0x200 + 1)).getD {}) ((off - 0xF000) % 0x200)
  else if off < 0x11000 then fltReg m (off - 0x10000)
  else if off < 0x12000 then recReg m (off - 0x11000)
  else if off < 0x13000 then updReg m (off - 0x12000)
  else if off < 0x14000 then secReg m (off - 0x13000)
  else if off < 0x15000 then pnlReg m (off - 0x14000)
  else if off < 0x16000 then pwrReg m (off - 0x15000)
  else 0

/-- What a read of BAR0 returns (R10, R500): zero where it is not aligned, at a reserved offset, and in boot recovery
outside the registers that are served (R446). -/
def registerRead (m : Mod) (off : Nat) : W32 :=
  if off % 4 != 0 || regHeld m off then 0 else blockReg m off

end Sys2Proof.Machine
end

