-- ==== Sys2Proof/WellFormed.lean ====
section
/-! DEFINITION. Which commands are well formed: every number an operand names lies in the range the manual gives it. A
meaning is given for every operand all the same; a number outside its range names nothing. -/

namespace Sys2Proof

/-- A number lies from `a` to `b`. -/
def inside (a b n : Nat) : Bool := a ≤ n && n ≤ b

/-- A register V0 to V15 (R93), and a type (R38). -/
def regNo (n : Nat) : Bool := n < 16
def typeNo (n : Nat) : Bool := n < 8

/-- A descriptor's identity: a submission ring (R313), a position in a ring of at most 32,768 entries, and CRING 0 or 16
to 31 (R318). -/
def reqOk (q : Req) : Bool :=
  (q.ring < 16 || inside 48 63 q.ring) && q.index < 32768 && (q.cring == 0 || inside 16 31 q.cring)

/-- A fault: a source (R389), a class F0 to F3 (R388), an access and an activity class (R391). -/
def faultOk (f : FaultInfo) : Bool := f.src < 64 && f.cls < 4 && f.access < 7 && (f.actClass < 4 || f.actClass == 0xFF)

/-- A CAN frame (R364): its identifier fits its format, and its DLC fits 4 bits. -/
def canFrameOk (f : CanFrame) : Bool := f.id < (if f.ext then 536870912 else 2048) && f.dlc < 16

/-- A command is well formed. -/
def Instr.wf (i : Instr) : Bool :=
  match i with
  | .supplyApplied _ _ => true
  | .storeCharged _ _ => true
  | .holdupLowStart _ _ => true
  | .holdupRecheck _ _ _ => true
  | .startSequenceStep _ step => inside 3 5 step
  | .enterRun _ => true
  | .supplyDip _ _ _ => true
  | .dipEnd _ _ _ => true
  | .dipTimerExpiry _ => true
  | .flushComplete _ => true
  | .thermalTrip _ _ => true
  | .powerRun _ q => reqOk q
  | .powerHold _ q => reqOk q
  | .powerQuiet _ q => reqOk q
  | .powerShutdown _ q => reqOk q
  | .restartService _ q => reqOk q
  | .restartProgram _ q seat => reqOk q && seat < 4
  | .restartModule _ q seat => reqOk q && seat < 4
  | .holdAbandon _ task => task < 96
  | .pairsStopped _ => true
  | .rideThroughExpiry _ task => task < 96
  | .recoveryTimeout _ => true
  | .serviceRestartComplete _ => true
  | .serviceRestartTimeout _ => true
  | .tableLoad _ q kind _ _ => reqOk q && kind < 256
  | .tableDelete _ q kind _ => reqOk q && kind < 256
  | .changePost _ q kind _ _ => reqOk q && kind < 256
  | .changeAbort _ q => reqOk q
  | .changeInstant _ => true
  | .pairSplit _ q pair _ => reqOk q && pair < 8
  | .drainComplete _ pair => pair < 8
  | .pairJoin _ q pair => reqOk q && pair < 8
  | .joinCopy _ pair => pair < 8
  | .pairRestart _ q pair => reqOk q && pair < 8
  | .selftestComplete _ pair _ => pair < 8
  | .pairMismatch _ pair _ => pair < 8
  | .triadRetry _ q => reqOk q
  | .triadEpoch _ q => reqOk q
  | .calStart _ q ch fn => reqOk q && ch < 256 && fn < 256
  | .calPoint _ q ch point _ _ => reqOk q && ch < 256 && point < 256
  | .calPointAveraged _ ch _ _ => ch < 256
  | .calCommit _ q ch _ _ => reqOk q && ch < 256
  | .calAbort _ q ch => reqOk q && ch < 256
  | .calRead _ q ch => reqOk q && ch < 256
  | .calCheckPass _ => true
  | .unitCmd _ q _ mode _ => reqOk q && mode < 5
  | .unitResume _ q _ => reqOk q
  | .walkerNextCommand _ => true
  | .interlockActive _ unit => unit < 65536
  | .unitRollUp _ unit => unit < 65536
  | .planStart _ q plan step => reqOk q && plan < 1024 && step < 4096
  | .planPause _ q plan => reqOk q && plan < 1024
  | .planResume _ q plan => reqOk q && plan < 1024
  | .planAbort _ q plan => reqOk q && plan < 1024
  | .loopBank _ q loop bank => reqOk q && loop < 1024 && bank < 2
  | .loopEnable _ q _ _ => reqOk q
  | .bankWrite _ q loop bank _ => reqOk q && loop < 1024 && bank < 2
  | .forceSet _ q _ ty _ => reqOk q && typeNo ty
  | .releaseForce _ q _ => reqOk q
  | .signalWrite _ q _ _ _ => reqOk q
  | .signalRead _ q _ => reqOk q
  | .taskStart _ q task => reqOk q && task < 96
  | .taskStop _ q task => reqOk q && task < 96
  | .taskClear _ q task => reqOk q && task < 96
  | .taskStatus _ q task => reqOk q && task < 96
  | .channelStatus _ q ch => reqOk q && ch < 256
  | .signalBlock _ q _ _ => reqOk q
  | .directoryBlock _ q _ _ => reqOk q
  | .journalRead _ q _ _ => reqOk q
  | .valueArea _ q _ _ => reqOk q
  | .changeRecord _ q _ => reqOk q
  | .tableRead _ q kind _ => reqOk q && kind < 256
  | .doorbellSubmit _ ring _ => ring < 64
  | .doorbellConsume _ ring _ => ring < 64
  | .descriptorFetch _ ring _ _ => ring < 64
  | .completionWrite _ ring _ => ring < 64
  | .eventDelivery _ ring _ => ring < 64
  | .msixMessage _ ring => ring < 64
  | .ringAdmissionDone _ ring => ring < 64
  | .ringEnable _ ring => ring < 64
  | .ringDisable _ ring => ring < 64
  | .hostReadySet _ => true
  | .hostReadyClear _ => true
  | .hostAttach _ _ _ => true
  | .hostDetach _ _ => true
  | .hostWdKick _ => true
  | .hostWdExpiry _ => true
  | .registerWrite _ off _ => off < 131072
  | .timNowLoRead _ => true
  | .releaseAll _ => true
  | .releaseEnWrite _ _ => true
  | .plausEnWrite _ _ => true
  | .gswCloseRequest _ _ => true
  | .latchedClear _ m _ => m < 8
  | .safFaultClear _ m _ => m < 8
  | .fltAck _ => true
  | .capturedClear _ => true
  | .priorClear _ => true
  | .activeClear _ m _ => m < 2
  | .recoveryClear _ => true
  | .autoRunWrite _ _ => true
  | .recEnWrite _ _ => true
  | .pnlEnWriteOn _ => true
  | .pnlEnWriteOff _ => true
  | .taskRelease _ task => task < 96
  | .eventRelease _ task _ => task < 96
  | .heldRelease _ task => task < 96
  | .snapshotComplete _ task => task < 96
  | .taskDispatch _ core => core < 12
  | .taskPreemption _ core => core < 12
  | .commitComplete _ task => task < 96
  | .stepBudgetExhausted _ task => task < 96
  | .deadlineExpiry _ task => task < 96
  | .dicNop core => core < 12
  | .dicLd core ty d sp ix => core < 12 && typeNo ty && regNo d && sp < 8 && ix < 8192
  | .dicSt core ty d sp ix => core < 12 && typeNo ty && regNo d && sp < 8 && ix < 8192
  | .dicLdx core ty d a sp base len => core < 12 && typeNo ty && regNo d && regNo a && sp < 8 && base < 8192 && len < 65536
  | .dicStx core ty d a sp base len => core < 12 && typeNo ty && regNo d && regNo a && sp < 8 && base < 8192 && len < 65536
  | .dicLdi16 core ty d _ => core < 12 && typeNo ty && regNo d
  | .dicLdi32 core ty d _ => core < 12 && typeNo ty && regNo d
  | .dicLdi64 core ty d _ => core < 12 && typeNo ty && regNo d
  | .dicMov core ty d a => core < 12 && typeNo ty && regNo d && regNo a
  | .dicTget core d ix => core < 12 && regNo d && ix < 8192
  | .dicAdd core ty d a b => core < 12 && typeNo ty && regNo d && regNo a && regNo b
  | .dicSub core ty d a b => core < 12 && typeNo ty && regNo d && regNo a && regNo b
  | .dicMul core ty d a b => core < 12 && typeNo ty && regNo d && regNo a && regNo b
  | .dicDiv core ty d a b => core < 12 && typeNo ty && regNo d && regNo a && regNo b
  | .dicMod core ty d a b => core < 12 && typeNo ty && regNo d && regNo a && regNo b
  | .dicNeg core ty d a => core < 12 && typeNo ty && regNo d && regNo a
  | .dicAbs core ty d a => core < 12 && typeNo ty && regNo d && regNo a
  | .dicMin core ty d a b => core < 12 && typeNo ty && regNo d && regNo a && regNo b
  | .dicMax core ty d a b => core < 12 && typeNo ty && regNo d && regNo a && regNo b
  | .dicSqrt core ty d a => core < 12 && typeNo ty && regNo d && regNo a
  | .dicLim core ty d a b => core < 12 && typeNo ty && regNo d && regNo a && regNo b
  | .dicExp core ty d a => core < 12 && typeNo ty && regNo d && regNo a
  | .dicLn core ty d a => core < 12 && typeNo ty && regNo d && regNo a
  | .dicSin core ty d a => core < 12 && typeNo ty && regNo d && regNo a
  | .dicCos core ty d a => core < 12 && typeNo ty && regNo d && regNo a
  | .dicAtan2 core ty d a b => core < 12 && typeNo ty && regNo d && regNo a && regNo b
  | .dicAnd core ty d a b => core < 12 && typeNo ty && regNo d && regNo a && regNo b
  | .dicOr core ty d a b => core < 12 && typeNo ty && regNo d && regNo a && regNo b
  | .dicXor core ty d a b => core < 12 && typeNo ty && regNo d && regNo a && regNo b
  | .dicNot core ty d a => core < 12 && typeNo ty && regNo d && regNo a
  | .dicShl core ty d a b => core < 12 && typeNo ty && regNo d && regNo a && regNo b
  | .dicShr core ty d a b => core < 12 && typeNo ty && regNo d && regNo a && regNo b
  | .dicBitget core ty d a b => core < 12 && typeNo ty && regNo d && regNo a && regNo b
  | .dicBitset core ty d a b => core < 12 && typeNo ty && regNo d && regNo a && regNo b
  | .dicCmp core ty d a b cond => core < 12 && typeNo ty && regNo d && regNo a && regNo b && cond < 16
  | .dicSel core ty d a b => core < 12 && typeNo ty && regNo d && regNo a && regNo b
  | .dicCvt core ty d a src => core < 12 && typeNo ty && regNo d && regNo a && typeNo src
  | .dicQget core ty d a => core < 12 && typeNo ty && regNo d && regNo a
  | .dicQset core ty d a => core < 12 && typeNo ty && regNo d && regNo a
  | .dicQsel core ty d a b => core < 12 && typeNo ty && regNo d && regNo a && regNo b
  | .dicBr core off => core < 12 && off < 65536
  | .dicBrt core a off => core < 12 && regNo a && off < 65536
  | .dicBrf core a off => core < 12 && regNo a && off < 65536
  | .dicLoop core a off max => core < 12 && regNo a && off < 65536 && max < 65536
  | .dicLidx core d => core < 12 && regNo d
  | .dicCall core target => core < 12 && target < 4194304
  | .dicRet core => core < 12
  | .dicEnd core => core < 12
  | .dicNow core d => core < 12 && regNo d
  | .fbTon core inst => core < 12 && inst < 65536
  | .fbTof core inst => core < 12 && inst < 65536
  | .fbTp core inst => core < 12 && inst < 65536
  | .fbCtu core inst => core < 12 && inst < 65536
  | .fbCtd core inst => core < 12 && inst < 65536
  | .fbEdge core inst => core < 12 && inst < 65536
  | .fbSetl core inst => core < 12 && inst < 65536
  | .fbRstl core inst => core < 12 && inst < 65536
  | .fbHyst core inst => core < 12 && inst < 65536
  | .fbFilt1 core inst => core < 12 && inst < 65536
  | .fbRampl core inst => core < 12 && inst < 65536
  | .fbTotal core inst => core < 12 && inst < 65536
  | .fbDeadb core inst => core < 12 && inst < 65536
  | .fbInterp core inst => core < 12 && inst < 65536
  | .sysLoopBank core => core < 12
  | .sysLoopEnable core => core < 12
  | .sysLoopCoef core => core < 12
  | .sysPlanStart core => core < 12
  | .sysPlanPause core => core < 12
  | .sysPlanResume core => core < 12
  | .sysPlanAbort core => core < 12
  | .sysUnitCmd core => core < 12
  | .sysUnitResume core => core < 12
  | .sysMsgSend core => core < 12
  | .sysHostEvent core => core < 12
  | .loopSample _ loop => loop < 1024
  | .loopApply _ loop _ => loop < 1024
  | .modelDriveExpiry _ loop => loop < 1024
  | .planTick _ => true
  | .resumeSlotRefresh _ plan => plan < 1024
  | .diSample _ ch _ => ch < 256
  | .doDemandRead _ ch => ch < 256
  | .pwmPeriodStart _ ch => ch < 256
  | .pwmOnTimeEnd _ ch => ch < 256
  | .testFrameStart _ => true
  | .testSlotStart _ ch => ch < 256
  | .testPulseEnd _ ch _ => ch < 256
  | .inputTestWindowEnd _ ch => ch < 256
  | .outputSuspect _ ch => ch < 256
  | .suspectClassify _ ch _ => ch < 256
  | .notAchievedDo _ ch => ch < 256
  | .overloadLatch _ ch _ => ch < 256
  | .wireBreakSet _ ch => ch < 256
  | .wireBreakClear _ ch => ch < 256
  | .supplyLowSet _ blk => blk < 8
  | .supplyLowClear _ blk => blk < 8
  | .gswRailCheck _ blk _ => blk < 8
  | .watchdogRefresh _ ch => ch < 256
  | .watchdogTrip _ ch => ch < 256
  | .aiConversion _ ch _ => ch < 256
  | .aiOverload _ ch => ch < 256
  | .aoDemandRead _ ch => ch < 256
  | .aoReadback _ ch _ _ => ch < 256
  | .compliancePersist _ ch => ch < 256
  | .miswireLatch _ ch => ch < 256
  | .safetyEvaluation _ f => f < 256
  | .safetyTick _ => true
  | .discrepancyExpiry _ f => f < 256
  | .stopDelayExpiry _ f => f < 256
  | .syncExpiry _ f => f < 256
  | .handContact _ f => f < 256
  | .ossdTestExpiry _ f _ => f < 256
  | .lockReleaseReady _ f => f < 256
  | .telegramSend _ conn => conn < 128
  | .telegramReceive _ conn _ _ => conn < 128
  | .connectionWatchdogExpiry _ conn => conn < 128
  | .netlossExpiry _ conn _ => conn < 128
  | .portLinkChange _ port _ _ => inside 1 8 port
  | .degradedExpiry _ _ => true
  | .degradedCauseEnd _ _ => true
  | .degradedSave _ => true
  | .permitRequest _ _ _ _ _ => true
  | .permitRelease _ _ => true
  | .permitRenew _ _ _ _ => true
  | .grantExpiry _ _ => true
  | .roundInstant _ => true
  | .roundFrameReceive _ seat _ => seat < 4
  | .roundWindowClose _ => true
  | .voteInstant _ => true
  | .signatureCompare _ => true
  | .heartbeatSend _ => true
  | .heartbeatReceive _ seat => seat < 4
  | .peerLossDeclaration _ seat => seat < 4
  | .triadLinkDown _ _ => true
  | .claimFrame _ seat _ _ _ _ => seat < 4
  | .triadForm _ => true
  | .soloFormTimeout _ => true
  | .resyncBulkEnd _ _ => true
  | .deltaPassEnd _ _ => true
  | .shadowStart _ => true
  | .regionCompare _ _ => true
  | .resyncInStep _ => true
  | .resyncAbandon _ _ => true
  | .claimRetry _ => true
  | .frameIngress _ port _ => inside 1 8 port
  | .frameEgress _ port => inside 1 8 port
  | .ptpOffset _ port _ => inside 1 8 port
  | .ptpMessageSend _ port _ => inside 1 8 port
  | .masterLost _ => true
  | .timWrap _ => true
  | .ppsOutEdge _ => true
  | .ppsInEdge _ => true
  | .nmeaSentence _ src _ => inside 1 8 src
  | .navTimeout _ entry => entry < 256
  | .stationBeacon _ _ _ => true
  | .stationCycle _ st => st < 64
  | .inSeg _ st _ => st < 64
  | .stationInputInstant _ st => st < 64
  | .acycResp _ st _ _ => st < 64
  | .stationTimeout _ st => st < 64
  | .stationLoad _ q st _ => reqOk q && st < 64
  | .stationDelete _ q st => reqOk q && st < 64
  | .navLoad _ q _ _ => reqOk q
  | .ptpPort _ q port _ _ => reqOk q && inside 1 8 port
  | .stationRead _ q st _ => reqOk q && st < 64
  | .stationWrite _ q st _ _ => reqOk q && st < 64
  | .canPortLoad _ q port _ => reqOk q && inside 1 8 port
  | .canSend _ q port b _ => reqOk q && inside 1 8 port && b < 64
  | .canRead _ q port b _ => reqOk q && inside 1 8 port && b < 66
  | .canRecover _ q port => reqOk q && inside 1 8 port
  | .canFrameReceive _ port f => inside 1 8 port && canFrameOk f
  | .canPeriodRequest _ port b => inside 1 8 port && b < 64
  | .canTxEnd _ port b _ => inside 1 8 port && b < 64
  | .canNoPartner _ port => inside 1 8 port
  | .recoverDelayExpiry _ port => inside 1 8 port
  | .canRecovered _ port => inside 1 8 port
  | .referenceCycleStart _ port => inside 1 8 port
  | .heartbeatTimeout _ port node => inside 1 8 port && inside 1 127 node
  | .canMapTimeout _ port entry => inside 1 8 port && entry < 256
  | .faultReport _ f => faultOk f
  | .firmwareAck _ => true
  | .jibExpiry _ => true
  | .aliveToggle _ => true
  | .okContactDrop _ => true
  | .recorderSample _ sig => sig < 2097152
  | .accumulatorSweep _ tier => inside 1 3 tier
  | .intervalClose _ tier => inside 1 3 tier
  | .archiveFlush _ tier _ => inside 1 3 tier
  | .freezeMaxExpiry _ => true
  | .recClassLoad _ q _ _ _ => reqOk q
  | .recListLoad _ q tier _ _ => reqOk q && inside 1 3 tier
  | .recFreeze _ q => reqOk q
  | .recFreezeRelease _ q => reqOk q
  | .recRead _ q tier _ _ _ => reqOk q && inside 1 3 tier
  | .updReceive _ q _ _ _ => reqOk q
  | .payloadReceived _ _ => true
  | .verifyDone _ region => inside 1 3 region
  | .applyDone _ region => inside 1 3 region
  | .updActivate _ q region _ => reqOk q && inside 1 3 region
  | .updCancel _ q region => reqOk q && inside 1 3 region
  | .updReject _ q region => reqOk q && inside 1 3 region
  | .trialConfirm _ region => inside 1 3 region
  | .trialTimeout _ region => inside 1 3 region
  | .relayOffer _ _ _ _ => true
  | .relayAccept _ nbr _ => nbr < 10
  | .relayHave _ nbr _ => nbr < 10
  | .relayRefuse _ nbr _ _ => nbr < 10
  | .relayData _ _ _ _ _ => true
  | .relayAck _ nbr _ _ => nbr < 10
  | .relayDone _ nbr _ _ => nbr < 10
  | .relayAbort _ _ _ => true
  | .relayResendTimeout _ nbr => nbr < 10
  | .relayProgressTimeout _ nbr => nbr < 10
  | .secPropose _ q _ => reqOk q
  | .secConfirm _ q _ key _ => reqOk q && key < 8
  | .protectionInstant _ => true
  | .secWithdraw _ q _ => reqOk q
  | .secProposalRead _ q => reqOk q
  | .secIdentityRead _ q => reqOk q
  | .secRoleInit _ q _ => reqOk q
  | .proposalExpiry _ => true
  | .debugToken _ _ _ => true
  | .debugAccess _ _ => true
  | .debugLockoutEnd _ => true
  | .debugGrantEnd _ => true
  | .pnlFrame _ q _ _ => reqOk q
  | .pnlBands _ q _ => reqOk q
  | .pnlFull _ q _ => reqOk q
  | .pnlFullRelease _ q => reqOk q
  | .pnlIdRead _ q => reqOk q
  | .panelFrameStart _ => true
  | .panelFrameEnd _ _ => true
  | .panelTempRead _ _ => true
  | .panelIdentRead _ _ => true
  | .panelRailCheck _ _ => true
  | .panelRetry _ => true
  | .supplyRemoved _ => true
  | .triadLinkUp _ _ => true
  | .ptpAnnounce _ port _ => inside 1 8 port
  | .notAchievedClear _ ch => ch < 256
  | .fieldSupplyFall _ blk => blk < 8

end Sys2Proof
end

