-- ==== Sys2Proof/Safety.lean ====
section
/-! DEFINITION. The terms the statements are made in: what a command of an instant sees, the shapes a next state takes, and what a safe
run keeps: no command stops the block, its memories keep their form, and its clock does not go back. -/

open Sys2Proof Sys2Proof.Machine

namespace Sys2Proof.Claims


/-- The module as a command of instant `t` finds it: the clock is there, and nothing else has changed but the RUN time. -/
def seen (s : State) (t : Nat) : Mod := s.m.advance t

/-- exec answers the next state in which the module is `m` at the clock of the command, and the three memories and the queue
are as they were. -/
def Gives (i : Instr) (s : State) (t : Nat) (m : Mod) : Prop :=
  exec i s = .next { s with m := { m with clk := max s.m.clk t } }

/-- exec answers a next state, of whose module `p` holds; the three memories and the queue are as they were. -/
def Makes (i : Instr) (s : State) (p : Mod → Prop) : Prop :=
  ∃ u, exec i s = .next u ∧ p u.m ∧ u.frame = s.frame ∧ u.image = s.image ∧ u.dbg = s.dbg ∧ u.pending = s.pending

/-- The module is powered (R290). -/
def On (s : State) : Prop := s.m.pwr.st ≠ .off

/-- A descriptor's operation is served, on this seat (R16, R287, R290, R318, R446). -/
def Served (s : State) (t op : Nat) (q : Req) : Prop := opReady (seen s t) op q = true ∧ notLead (seen s t) = false

/-- The mode of a unit. -/
def modeAt (m : Mod) (i : Nat) : Option Mode := (unitAt m i).map Machine.Unit.mode

/-- A DIC instruction of the core with no effect but on the task that runs there: the instance goes on by `words` words and `steps` steps, `f` is
done to it, and the end of a loop body is taken (R77, R96, R101). -/
def Executes (ins : Instr) (s : State) (core words steps : Nat) (f : Task → Inst → Inst) : Prop :=
  ∀ k t i, runningOn s.m core = some (k, t, i) →
    exec ins s = .next { s with m := { s.m with pge := { s.m.pge with
      tasks := tset s.m.pge.tasks k { t with inst := some (loopEnd 9 (f t { i with pc := i.pc + words, steps := i.steps + steps })) } } } }

/-- A function block of the core: V0, V1 where the block has it, and the block's entry are what `o` says (R106). -/
def Blocks (ins : Instr) (s : State) (core inst steps : Nat) (o : Task → Inst → Fbi → FbOut) : Prop :=
  Executes ins s core 1 steps (fun t i =>
    let x := o t i ((i.fbi[inst]?).getD {})
    let j := { i.setReg 0 x.v0 with fbi := lset i.fbi inst x.st }
    match x.v1 with | some y => j.setReg 1 y | none => j)

/-- What the manual gives as the reset value of the registers of BAR0 (R505): the offset, the bits it gives a number for, and their value. A field
"set at start", "restored" or "factory value" is left out; of the rings, rings 0, 1, 32 and 63 stand for all. -/
def resetRegisters : List (Nat × W32 × W32) :=
  [(0x0, 0xFFFFFFFF, 0x2561D9E), (0x4, 0xFFFFFFFF, 0x101), (0xC, 0xFFF0, 0x0), (0x10, 0xFFFFFFFF, 0x0), (0x14, 0xFFFFFFFF, 0x0),
   (0x18, 0xFFFFFFFF, 0x0), (0x1000, 0xFFFFFFFF, 0x4080400F), (0x1004, 0xFFFFFFFF, 0x0), (0x1008, 0xFFFFFFFF, 0x0), (0x100C, 0xFFFFFFFF, 0x0),
   (0x1010, 0xFFFFFFFF, 0x0), (0x1014, 0xFFFFFFFF, 0x0), (0x1018, 0xFFFFFFFF, 0x0), (0x1800, 0xFFFFFFFF, 0x0), (0x1804, 0xFFFFFFFF, 0x0),
   (0x1808, 0xFFFFFFFF, 0x204), (0x180C, 0xFFFFFFFF, 0x0), (0x1810, 0xFFFFFFFF, 0x0), (0x1814, 0xFFFFFFFF, 0x0), (0x1818, 0xFFFFFFFF, 0x0),
   (0x1820, 0xFFFFFFFF, 0x0), (0x1824, 0xFFFFFFFF, 0x0), (0x1828, 0xFFFFFFFF, 0x204), (0x182C, 0xFFFFFFFF, 0x0), (0x1830, 0xFFFFFFFF, 0x0),
   (0x1834, 0xFFFFFFFF, 0x0), (0x1838, 0xFFFFFFFF, 0x0), (0x1C00, 0xFFFFFFFF, 0x0), (0x1C04, 0xFFFFFFFF, 0x0), (0x1C08, 0xFFFFFFFF, 0x204),
   (0x1C0C, 0xFFFFFFFF, 0xFFFF), (0x1C10, 0xFFFFFFFF, 0x0), (0x1C14, 0xFFFFFFFF, 0x0), (0x1C18, 0xFFFFFFFF, 0x0), (0x1FE0, 0xFFFFFFFF, 0x0)] ++
  [(0x1FE4, 0xFFFFFFFF, 0x0), (0x1FE8, 0xFFFFFFFF, 0x204), (0x1FEC, 0xFFFFFFFF, 0x0), (0x1FF0, 0xFFFFFFFF, 0x0), (0x1FF4, 0xFFFFFFFF, 0x0),
   (0x1FF8, 0xFFFFFFFF, 0x0), (0x2000, 0xFFFFFFFF, 0x1900C32), (0x2004, 0xFFFFFFFF, 0x0), (0x2008, 0xFFFFFFFF, 0x0), (0x200C, 0xFFFFFFFF, 0x0),
   (0x2010, 0xFFFFFFFF, 0x0), (0x2014, 0xFFFFFFFF, 0x0), (0x3000, 0xFFFFFFFF, 0x200000), (0x3004, 0xFFFFFFFF, 0x10000), (0x3008, 0xFFFFFFFF, 0x1),
   (0x300C, 0xFFFFFFFF, 0x0), (0x3010, 0xFFFFFFFF, 0x0), (0x3014, 0xFFFFFFFF, 0x41), (0x3018, 0xFFFFFFFF, 0x0), (0x4000, 0xFFFFFFFF, 0x20400620),
   (0x4004, 0xFFFFFFFF, 0x3), (0x4008, 0xFFFFFFFF, 0x0), (0x4010, 0xFFFFFFFF, 0x0), (0x4014, 0xFFFFFFFF, 0x0), (0x4018, 0xFFFFFFFF, 0x0),
   (0x4020, 0xFFFFFFFF, 0x0), (0x4030, 0xFFFFFFFF, 0x0), (0x6000, 0xFFFFFFFF, 0x4004002), (0x6004, 0xFFFFFFFF, 0x1), (0x6008, 0xFFFFFFFF, 0x7),
   (0x600C, 0xFFFFFFFF, 0x0), (0x6010, 0xFFFFFFFF, 0x0), (0x6014, 0xFFFFFFFF, 0x0), (0x8000, 0xFFFFFFFF, 0x4004064), (0x8004, 0xFFFFFFFF, 0x3)] ++
  [(0x8008, 0xFFFFFFFF, 0x0), (0x8010, 0xFFFFFFFF, 0x0), (0x8014, 0xFFFFFFFF, 0x0), (0x9000, 0xFFFFFFFF, 0x1000820), (0x9004, 0xFFFFFFFF, 0x1),
   (0x9008, 0xFFFFFFFF, 0x0), (0x900C, 0xFFFFFFFF, 0x0), (0x9010, 0xFFFFFFFF, 0x0), (0x9014, 0xFFFFFFFF, 0x0), (0x9018, 0xFFFFFFFF, 0x0),
   (0x9020, 0xFFFFFFFF, 0x0), (0x9024, 0xFFFFFFFF, 0x0), (0x9028, 0xFFFFFFFF, 0x0), (0x902C, 0xFFFFFFFF, 0x0), (0x9030, 0xFFFFFFFF, 0x0),
   (0x9034, 0xFFFFFFFF, 0x0), (0x9038, 0xFFFFFFFF, 0x0), (0x903C, 0xFFFFFFFF, 0x0), (0x9100, 0xFFFFFFFF, 0x0), (0x9104, 0xFFFFFFFF, 0x0),
   (0x9108, 0xFE00FE00, 0x0), (0xA000, 0xFFFFFFFF, 0x1008004), (0xA004, 0xFFFFFFFF, 0x1E0), (0xA008, 0xFFFFFFFF, 0x0), (0xA00C, 0xFFFFFFFF, 0x0),
   (0xA010, 0xFFFFFFFF, 0x0), (0xA020, 0xFFFFFFFF, 0x0), (0xA024, 0xFFFFFFFF, 0x0), (0xA028, 0xFFFFFFFF, 0x0), (0xA030, 0xFFFFFFFF, 0x0),
   (0xA040, 0xFFFFFFFF, 0x0), (0xA044, 0xFFFFFFFF, 0x0), (0xA048, 0xFFFFFFFF, 0x0), (0xA04C, 0xFFFFFFFF, 0x0), (0xA050, 0xFFFFFFFF, 0x0)] ++
  [(0xA054, 0xFFFFFFFF, 0x0), (0xA058, 0xFFFFFFFF, 0x0), (0xA05C, 0xFFFFFFFF, 0x0), (0xA060, 0xFFFFFFFF, 0x0), (0xB000, 0xFFFFFFFF, 0x20608),
   (0xB004, 0xFFFFFFFF, 0x254C1), (0xB008, 0xFFFFFFFF, 0x0), (0xB00C, 0xFFFFFFFF, 0x0), (0xB010, 0xFFFFFFFF, 0x0), (0xB014, 0xFFFFFFFF, 0x0),
   (0xB018, 0xFFFFFFFF, 0x0), (0xC000, 0xFFFFFFFF, 0x640203), (0xC004, 0xFFFFFFFF, 0x500), (0xC008, 0xFFFFFFFF, 0x0), (0xC00C, 0xFFFF, 0x0),
   (0xC010, 0xFFFFFFFF, 0x0), (0xC014, 0xFFFFFFFF, 0x0), (0xC018, 0xFFFFFFFF, 0x0), (0xC01C, 0xFFFFFFFF, 0x0), (0xD000, 0xFFFFFFFF, 0x8404000),
   (0xD004, 0xFFFFFFFF, 0x10001), (0xD008, 0xFFFFFFFF, 0x0), (0xD020, 0xFFFFFFFF, 0x0), (0xD024, 0xFFFFFFFF, 0x0), (0xD030, 0xFFFFFFFF, 0x0),
   (0xD034, 0xFFFFFFFF, 0x0), (0xE000, 0xFFFFFFFF, 0x28), (0xE004, 0xFFFFFFFF, 0x9), (0xE008, 0xFFFFFFFF, 0xF4240), (0xE00C, 0xFFFFFFFF, 0x0),
   (0xE010, 0xFFFFFFFF, 0x0), (0xE014, 0xFFFFFFFF, 0x0), (0xE018, 0xFFFFFFFF, 0x0), (0xE01C, 0xFFFFFFFF, 0x0), (0xE020, 0xFFFFFFFF, 0x0)] ++
  [(0xF000, 0xFFFFFFFF, 0x40200250), (0xF004, 0xFFFFFFFF, 0x0), (0xF008, 0xFFFFFFFF, 0x0), (0xF00C, 0xFFFFFFFF, 0x0), (0xF010, 0xFFFFFFFF, 0x0),
   (0xF014, 0xFFFFFFFF, 0x0), (0xF018, 0xFFFFFFFF, 0x0), (0x10000, 0xFFFFFFFF, 0x3E84004), (0x10004, 0xFFFFFFFF, 0x14), (0x10008, 0xFFFFFFFD, 0x0),
   (0x1000C, 0xFFFFFFFF, 0x0), (0x10010, 0xFFFFFFFF, 0x0), (0x10020, 0xFFFFFFFF, 0x0), (0x10024, 0xFFFFFFFF, 0x0), (0x10028, 0xFFFFFFFF, 0x0),
   (0x1002C, 0xFFFFFFFF, 0x0), (0x10030, 0xFFFFFFFF, 0x0), (0x10034, 0xFFFFFFFF, 0x0), (0x10038, 0xFFFFFFFF, 0x0), (0x1003C, 0xFFFFFFFF, 0x0),
   (0x10040, 0xFFFFFFFF, 0x0), (0x10044, 0xFFFFFFFF, 0x0), (0x10048, 0xFFFFFFFF, 0x0), (0x1004C, 0xFFFFFFFF, 0x0), (0x10050, 0xFFFFFFFF, 0x0),
   (0x11000, 0xFFFFFFFF, 0x10034000), (0x11004, 0xFFFFFFFF, 0x1E03C001), (0x11008, 0xFFFFFFFF, 0x708), (0x1100C, 0xFFFFFFFF, 0x0),
   (0x1101C, 0xFFFFFFFF, 0x0), (0x11020, 0xFFFFFFFF, 0x0), (0x12000, 0xFFFFFFFF, 0x3080100), (0x12004, 0xFFFFFFFF, 0xA0003),
   (0x12010, 0xFFFFFE80, 0x0), (0x12014, 0xFFFFFE80, 0x0)] ++
  [(0x12018, 0xFFFFFE80, 0x0), (0x12040, 0xFFC0, 0x0), (0x12044, 0xFFFFFFFF, 0x0), (0x12048, 0xFFFFFFFF, 0x0), (0x1204C, 0xFFFFFFFF, 0x0),
   (0x13000, 0xFFFFFFFF, 0x4040240), (0x13004, 0x1F8, 0x0), (0x1300C, 0xFFFFFFFF, 0x0), (0x13010, 0xFFFFFFFF, 0x5), (0x13014, 0xFFFFFFFF, 0x0),
   (0x14000, 0xFFFFFFFF, 0x6048078), (0x14004, 0xFFFFFFFF, 0x1), (0x14008, 0xFFFFFFFF, 0x178), (0x1400C, 0xFFFFFFFF, 0x0),
   (0x14010, 0xFFFFFFFF, 0x0), (0x14014, 0xFFFFFFFF, 0x0), (0x14018, 0xFFFFFFFF, 0x0), (0x15000, 0xFFFFF9FF, 0x102), (0x15004, 0xFFFFFFFE, 0x0),
   (0x15008, 0xFFFFFFE0, 0x0), (0x1500C, 0xFFFF0000, 0x0), (0x15014, 0xFFFFFFFF, 0x0)]


/-- The core whose instruction, block or service request a command of the program engine is (R94). -/
def coreOf? (i : Instr) : Option Nat :=
  match i with
  | .dicNop c | .dicLd c _ _ _ _ | .dicSt c _ _ _ _ | .dicLdx c _ _ _ _ _ _ | .dicStx c _ _ _ _ _ _ | .dicLdi16 c _ _ _
  | .dicLdi32 c _ _ _ | .dicLdi64 c _ _ _ | .dicMov c _ _ _ | .dicTget c _ _ | .dicAdd c _ _ _ _ | .dicSub c _ _ _ _
  | .dicMul c _ _ _ _ | .dicDiv c _ _ _ _ | .dicMod c _ _ _ _ | .dicNeg c _ _ _ | .dicAbs c _ _ _ | .dicMin c _ _ _ _
  | .dicMax c _ _ _ _ | .dicSqrt c _ _ _ | .dicLim c _ _ _ _ | .dicExp c _ _ _ | .dicLn c _ _ _ | .dicSin c _ _ _
  | .dicCos c _ _ _ | .dicAtan2 c _ _ _ _ | .dicAnd c _ _ _ _ | .dicOr c _ _ _ _ | .dicXor c _ _ _ _ | .dicNot c _ _ _
  | .dicShl c _ _ _ _ | .dicShr c _ _ _ _ | .dicBitget c _ _ _ _ | .dicBitset c _ _ _ _ | .dicCmp c _ _ _ _ _ | .dicSel c _ _ _ _
  | .dicCvt c _ _ _ _ | .dicQget c _ _ _ | .dicQset c _ _ _ | .dicQsel c _ _ _ _ | .dicBr c _ | .dicBrt c _ _
  | .dicBrf c _ _ | .dicLoop c _ _ _ | .dicLidx c _ | .dicCall c _ | .dicRet c | .dicEnd c
  | .dicNow c _ | .fbTon c _ | .fbTof c _ | .fbTp c _ | .fbCtu c _ | .fbCtd c _
  | .fbEdge c _ | .fbSetl c _ | .fbRstl c _ | .fbHyst c _ | .fbFilt1 c _ | .fbRampl c _
  | .fbTotal c _ | .fbDeadb c _ | .fbInterp c _ | .sysLoopBank c | .sysLoopEnable c | .sysLoopCoef c
  | .sysPlanStart c | .sysPlanPause c | .sysPlanResume c | .sysPlanAbort c | .sysUnitCmd c | .sysUnitResume c
  | .sysMsgSend c | .sysHostEvent c => some c
  | _ => none

/-- The commands that act on an unpowered module: its supply, its start, and the contact that opens without power (R290, R295, R307, R308, R485). -/
def actsInOff (i : Instr) : Bool :=
  match i with
  | .supplyApplied _ _ | .storeCharged _ _ | .holdupLowStart _ _ | .supplyRemoved _ | .okContactDrop _ => true
  | _ => false

/-- The commands that may clear or fill the panel's frame memory (R295, R469, R477). -/
def touchesFrame (i : Instr) : Bool :=
  match i with
  | .storeCharged _ _ | .holdupLowStart _ _ | .startSequenceStep _ _ | .registerWrite _ _ _ | .pnlEnWriteOn _ | .panelRetry _ | .panelFrameStart _ => true
  | _ => false

/-- The commands that may take or drop the image that waits for it (R295, R469), and those that reach the memory behind G1 (R295, R458). -/
def touchesImage (i : Instr) : Bool :=
  match i with
  | .storeCharged _ _ | .holdupLowStart _ _ | .panelFrameStart _ | .pnlFrame _ _ _ _ => true
  | _ => false
def touchesDebug (i : Instr) : Bool :=
  match i with
  | .storeCharged _ _ | .holdupLowStart _ _ | .debugAccess _ _ => true
  | _ => false

/-- The form of the module's three addressed memories: the frame memory and its waiting image are canonical, and the cells written through G1 stand in the order of their addresses. -/
def MemoryForm (s : State) : Prop :=
  Memory.wf s.frame ∧ Memory.wf s.image ∧ List.Pairwise (fun x y => x.1 < y.1) s.dbg

end Sys2Proof.Claims
end

