-- ==== Sys2Proof/Certificates/Slice0/Obligations.lean ====
section
/-! DEFINITION. The statements for the provers. A statement that covers several matters is the conjunction of its parts, each a
proposition of its own in Sys2Proof.Claims. -/

open Sys2Proof Sys2Proof.Machine Sys2Proof.Claims

namespace Sys2Proof.Claims

/-- Every command answers a next state, leaves the queue to the step, and never turns the clock back. -/
def EveryCommandCompletes : Prop :=
  ∀ (c : Instr) (s : State), ∃ u, exec c s = .next u ∧ u.pending = s.pending ∧ s.m.clk ≤ u.m.clk

/-- The frame of the memories: no command but those the manual gives an effect on one changes it (R458, R469, R477). -/
def MemoriesKept : Prop :=
  ∀ (c : Instr) (s u : State), exec c s = .next u →
    (touchesFrame c = false → u.frame = s.frame) ∧ (touchesImage c = false → u.image = s.image) ∧ (touchesDebug c = false → u.dbg = s.dbg)

/-- An owner write changes the one record it names, with the instant's time and STALE cleared; a constant and a null handle take none (R37, R47,
R50); in a formed triad a voted input is this seat's copy only, until the vote (R272). -/
def OwnerWritesOneRecord : Prop :=
  ∀ (m : Mod) (h : W32) (v : Val) (q : Qual) (r : SigRec), sigAt m (hIdx h) = some r →
    (h ≠ 0 → r.isConst = false → m.tri.mode = 0 →
      ∃ x, sigAt (ownerWrite m h v q) (hIdx h) = some x ∧ x.val = v ∧ x.qual = q ∧ x.time = time32 m ∧ x.wrap = wrap16 m ∧ x.stale = false ∧
        x.forced = r.forced ∧ x.forceVal = r.forceVal ∧ x.ownKind = r.ownKind ∧ x.ownId = r.ownId ∧ x.refs = r.refs) ∧
    ((h = 0 ∨ r.isConst = true) → ownerWrite m h v q = m) ∧
    (h ≠ 0 → r.isConst = false → isVoted m r = true → (ownerWrite m h v q).sig = m.sig ∧
      tget (ownerWrite m h v q).tri.locals (hIdx h) = some { val := v, qual := q, time := time32 m, wrap := wrap16 m }) ∧
    (∀ j, j ≠ hIdx h → sigAt (ownerWrite m h v q) j = sigAt m j)

/-- The host's operations on a signal (R47, R52, R54, R68, R321): each acts on the record its handle names and leaves every other record as it is; a
write by a ring that does not own the signal is NOT_OWNER and writes nothing. -/
def SignalCommands : Prop :=
  ∀ (s : State) (t i ty : Nat) (q : Req) (h : W32) (v : Val) (ql : Qual) (r : SigRec), judgeSig s.m h = .ok i → sigAt s.m i = some r →
    (Served s t 0x0026 q → forceCheck s.m r ty = none →
      Makes (.forceSet t q h ty v) s (fun m => sigAt m i = some (r.force v) ∧ ∀ j, j ≠ i → sigAt m j = sigAt s.m j)) ∧
    (∀ e, Served s t 0x0026 q → forceCheck s.m r ty = some e →
      Makes (.forceSet t q h ty v) s (fun m => m.sig.sigs = s.m.sig.sigs ∧ bitOf m.sig.refused.toNat 2 = true)) ∧
    (Served s t 0x0027 q →
      Makes (.releaseForce t q h) s (fun m => sigAt m i = some r.unforce ∧ ∀ j, j ≠ i → sigAt m j = sigAt s.m j)) ∧
    (Served s t 0x0028 q → r.isConst = false → r.ownKind = 7 → r.ownId = q.ring →
      Makes (.signalWrite t q h ql v) s (fun m =>
        sigAt m i = some (r.write (encodeVal r.ty v) (ql &&& 0xC03F) (time32 (seen s t)) (wrap16 (seen s t))) ∧
        ∀ j, j ≠ i → sigAt m j = sigAt s.m j)) ∧
    (Served s t 0x0028 q → r.isConst = false → (r.ownKind ≠ 7 ∨ r.ownId ≠ q.ring) →
      Makes (.signalWrite t q h ql v) s (fun m => m.sig.sigs = s.m.sig.sigs ∧ bitOf m.sig.refused.toNat 0 = true)) ∧
    (opReady (seen s t) 0x0029 q = true →
      Gives (.signalRead t q h) s t (post (seen s t) q .ok {
        r0 := BitVec.ofNat 32 (r.view.qual.toNat + 65536 * flagsWord r), r1 := r.time, r2 := r.wrap.zeroExtend 32, r64 := r.view.val })) ∧
    (On s → bootHeld s.m = false → s.m.gen.softLock = false →
      Makes (.releaseAll t) s (fun m => ∀ j, sigAt m j = (sigAt s.m j).map (fun x => if x.forced then x.unforce else x)))

/-- A null handle, one with a reserved bit or generation 0 is BAD_FIELD, one that names another generation or nothing STALE_HANDLE, and any other
names its signal (R44, R45). -/
def HandlesAreJudged : Prop :=
  ∀ (m : Mod) (h : W32),
    ((h = 0 ∨ fld h 27 21 = 0 ∨ fld h 31 28 ≠ 0) → judgeSig m h = .error .badField) ∧
    (fld h 27 21 ≠ 0 → fld h 31 28 = 0 → sigAt m (hIdx h) = none → judgeSig m h = .error .staleHandle) ∧
    (∀ r, fld h 27 21 ≠ 0 → fld h 31 28 = 0 → sigAt m (hIdx h) = some r →
      judgeSig m h = if r.gen = fld h 27 21 then .ok (hIdx h) else .error .staleHandle)

/-- A supply that rises starts the charging of the store (R295 step 1); a charged store, or one that is not charged within 1 s, releases reset: HOLD
with STARTING, the cause and the count of the start (R291, R307, R308, R501), and DRAM lost (R294). -/
def StartBringsHold : Prop :=
  ∀ (s : State) (t mv uj : Nat),
    (s.m.pwr.st = .off → 18000 < mv → s.m.pwr.needRemoval = false → s.m.pwr.charging = none → restarting s.m = false →
      Gives (.supplyApplied t mv) s t
        { seen s t with gen := { s.m.gen with supplyMv := mv }, pwr := { (seen s t).pwr with charging := some (max s.m.clk t) } }) ∧
    (s.m.pwr.st = .off → (s.m.pwr.charging.isSome = true ∨ restarting s.m = true) →
      ∃ u, exec (.storeCharged t uj) s = .next u ∧ u.m.pwr.st = .hold ∧ u.m.pwr.starting = true ∧ u.m.pwr.startStep = 2 ∧
        u.m.gen.cause = startCause s.m ∧ u.m.nv.startCount = min (s.m.nv.startCount + 1) 0xFFFF ∧
        u.m.pge = {} ∧ u.m.lpe = {} ∧ u.m.pln = {} ∧ u.m.fio = {} ∧ u.frame = [] ∧ u.image = [] ∧ u.dbg = [] ∧ u.pending = s.pending) ∧
    (∀ x, s.m.pwr.st = .off → s.m.pwr.charging = some x → x + 1000000000 ≤ max s.m.clk t →
      ∃ u, exec (.holdupLowStart t uj) s = .next u ∧ u.m.pwr.st = .hold ∧ u.m.pwr.starting = true ∧ u.m.pwr.startStep = 2 ∧
        u.m.pwr.holdupLow = true ∧ bitOf u.m.flt.active.toNat 0x17 = true)

/-- The steps 3, 4 and 5 of a start complete in their order (R295): module time starts at 0 with step 3 (R343), with step 4 the service pairs run as
LKS_SERVICE_MODE had them at the start (R262) and test frames begin (R175). -/
def StartStepsInOrder : Prop :=
  ∀ (s : State) (t : Nat), s.m.pwr.st = .hold → s.m.pwr.starting = true → s.m.sec.bootFail = none →
    (s.m.pwr.startStep = 2 → ∃ u, exec (.startSequenceStep t 3) s = .next u ∧ u.m.pwr.startStep = 3 ∧ u.m.tim.zero = max s.m.clk t) ∧
    (s.m.pwr.startStep = 3 → ∃ u, exec (.startSequenceStep t 4) s = .next u ∧ u.m.pwr.startStep = 4 ∧
      (∀ p, p < 6 → (pairOf u.m p).st = .selftest) ∧
      (∀ p, p = 6 ∨ p = 7 → (pairOf u.m p).st = if svcSplit s.m p then .split else .joined) ∧
      u.m.fio.frame = s.m.fio.frame + 1 ∧ u.m.fio.frameAt = max s.m.clk t) ∧
    (s.m.pwr.startStep = 4 → ∃ u, exec (.startSequenceStep t 5) s = .next u ∧
      u.m = { stepFive { seen s t with pwr := { (seen s t).pwr with startStep := 5 } } with clk := max s.m.clk t })

/-- The first entry to RUN under the conditions of R297 and R298: STARTING clears (R291), the recorder begins (R309), the release epoch is set
(R74); and a RUN command given before counts. -/
def FirstEntryToRun : Prop :=
  ∀ (s : State) (t : Nat), s.m.pwr.st = .hold → s.m.pwr.starting = true → runConditions (seen s t) = true →
    cmdHeld (seen s t) = false → (s.m.nv.autoRun = true ∨ s.m.pwr.runAsked = true) → entryInstant (seen s t) = true →
    bitOf (resumePlans (seen s t)).pln.events.toNat 2 = false →
    Makes (.enterRun t) s (fun m => m.pwr.st = .run ∧ m.pwr.starting = false ∧ m.pwr.firstRun = some (max s.m.clk t) ∧
      bitOf m.pwr.events.toNat 0 = true ∧ m.rcr.begun = true ∧ m.pln = (resumePlans (seen s t)).pln ∧
      m.pwr.epoch = (if s.m.tri.seat = 0 then nowNs (seen s t) else s.m.pwr.epoch))

/-- HOLD lets instances run to their stop instants (R299): one of class C2 or C3 that has not committed within 100 ms is abandoned as a skipped
release, the pairs stop when every task has, and a stopped task's window ends with its signals BAD, STALE (R301). -/
def HoldStopsTasks : Prop :=
  ∀ (s : State) (t k x : Nat) (v : Task), s.m.pwr.st = .hold → taskAt s.m k = some v →
    (s.m.pwr.holdAt = some x → x + 100000000 ≤ max s.m.clk t → 2 ≤ v.rcd.cls → v.busy = true →
      Makes (.holdAbandon t k) s (fun m => ∃ w, taskAt m k = some w ∧ w.inst = none ∧ w.st = .idle ∧ w.stopAt = some (max s.m.clk t))) ∧
    (s.m.pwr.starting = false → s.m.pwr.holdAt = some x → allStopped s.m = true →
      Makes (.pairsStopped t) s (fun m => ∀ p, p < 6 → (pairOf m p).st = if s.m.pwr.program then .selftest else .down)) ∧
    (v.stopAt = some x → v.rcd.cls ≠ 0 → v.rideDone = false → x + v.window ≤ max s.m.clk t →
      Makes (.rideThroughExpiry t k) s (fun m => m.pwr.rideExpired = true ∧
        (∀ i r, sigAt s.m i = some r → r.ownKind = 4 → r.ownId = k →
          ∃ r', sigAt m i = some r' ∧ r'.qual = 0x0001 ∧ r'.stale = true ∧ r'.val = r.val ∧ r'.time = r.time)))

/-- A dip of the supply starts its timer, and its end above 16.5 V stops it (R305); with 0.60 J or less in the store FAIL is entered at the fall
(R487); the timer's expiry enters FAIL with cause SUPPLY, the flush's completion OFF, and a SHUTDOWN is accepted with FAIL at once (R305, R307). -/
def SupplyFailure : Prop :=
  ∀ (s : State) (t mv uj : Nat) (q : Req), On s →
    (mv < 16000 → s.m.pwr.st ≠ .fail → s.m.pwr.dip = none → 600000 < uj →
      Gives (.supplyDip t mv uj) s t { seen s t with
        gen := { s.m.gen with supplyMv := mv }, pwr := { (seen s t).pwr with storeUj := uj, dip := some (max s.m.clk t) } }) ∧
    (mv < 16000 → s.m.pwr.st ≠ .fail → s.m.pwr.dip = none → uj ≤ 600000 →
      Makes (.supplyDip t mv uj) s (fun m => m.pwr.st = .fail ∧ m.pwr.failCause = .supply ∧ m.nv.failCause = .supply)) ∧
    (∀ l, s.m.pwr.dip = some l → 16500 < mv → max s.m.clk t < l + min 10000000 ((s.m.pwr.storeUj - 600000) * 50) →
      Gives (.dipEnd t mv uj) s t { seen s t with
        gen := { s.m.gen with supplyMv := mv }, pwr := { (seen s t).pwr with storeUj := uj, dip := none } }) ∧
    (∀ l, s.m.pwr.dip = some l → l + min 10000000 ((s.m.pwr.storeUj - 600000) * 50) ≤ max s.m.clk t →
      Makes (.dipTimerExpiry t) s (fun m => m.pwr.st = .fail ∧ m.pwr.failCause = .supply ∧ m.pwr.dip = none ∧ m.nv.failCause = .supply)) ∧
    (s.m.pwr.st = .fail →
      Makes (.flushComplete t) s (fun m => m.pwr.st = .off ∧ m.hif.attached = false ∧ m.hif.speed = 0 ∧ m.hif.width = 0 ∧
        m.pwr.needRemoval = (s.m.pwr.failCause == .shutdown))) ∧
    (Served s t 0x0005 q →
      Makes (.powerShutdown t q) s (fun m => m.pwr.st = .fail ∧ m.pwr.failCause = .shutdown ∧ m.nv.failCause = .shutdown))

/-- Entry to FAIL (R305 steps 2 to 4, R306): instances aborted, every switch open, no winding permit stands, debug is closed and ALIVE still, the
application pairs are down, the buffered tiers flushed and the cause recorded in MRAM. -/
def FailMakesSafe : Prop :=
  ∀ (m : Mod) (c : FailCause),
    (enterFail m c).pwr.st = .fail ∧ (enterFail m c).pwr.failCause = c ∧ (enterFail m c).fio.closed = 0 ∧
    (enterFail m c).adm.grants = [] ∧ (enterFail m c).adm.waiting = [] ∧ (enterFail m c).sec.debug = .closed ∧
    (enterFail m c).flt.alive = false ∧ (∀ p, p < 6 → (pairOf (enterFail m c) p).st = .down) ∧
    (∀ k x, taskAt (enterFail m c) k = some x → x.busy = false) ∧ (enterFail m c).nv.failCause = c ∧
    (enterFail m c).nv.capture = m.nv.capture ∧ (enterFail m c).nv.store = m.nv.store

/-- The POWER and RESTART commands (R292 to R294, R298, R299, R304, R320). -/
def PowerCommands : Prop :=
  ∀ (s : State) (t seat : Nat) (q : Req), cmdHeld s.m = false →
    (Served s t 0x0005 q → s.m.pwr.st = .quiet →
      Gives (.powerRun t q) s t (startOp { seen s t with pwr := { (seen s t).pwr with cmd := some (.run, some q) } } q)) ∧
    (Served s t 0x0005 q → s.m.pwr.st = .hold → s.m.pwr.starting = false → allJoined s.m = true →
      Makes (.powerRun t q) s (fun m => m.pwr.st = .run ∧ bitOf m.pwr.events.toNat 0 = true ∧ m.pwr.epoch = s.m.pwr.epoch ∧
        (∀ k x, taskAt m k = some x → x.lastRelease = none))) ∧
    (Served s t 0x0005 q → (s.m.pwr.st = .run ∨ s.m.pwr.st = .quiet) → hasC0 s.m = false →
      Makes (.powerHold t q) s (fun m => m.pwr.st = .hold ∧ m.pwr.holdAt = some (max s.m.clk t) ∧ bitOf m.pwr.events.toNat 1 = true ∧
        m.pwr.cmd = some (.hold, some q))) ∧
    (Served s t 0x0005 q → s.m.pwr.st = .run →
      Gives (.powerQuiet t q) s t (startOp { seen s t with pwr := { (seen s t).pwr with cmd := some (.quiet, some q) } } q)) ∧
    (Served s t 0x0006 q → Gives (.restartService t q) s t (beginServiceRestart (post (seen s t) q .ok))) ∧
    (Served s t 0x0006 q → s.m.pwr.starting = false → hasC0 s.m = false → s.m.tri.mode = 0 →
      Makes (.restartProgram t q seat) s (fun m => m.pwr.program = true ∧ (s.m.pwr.st = .run ∨ s.m.pwr.st = .quiet → m.pwr.st = .hold))) ∧
    (Served s t 0x0006 q → (s.m.tri.mode = 0 ∨ seat = s.m.tri.seat) →
      Makes (.restartModule t q seat) s (fun m => m.pwr.st = .fail ∧ m.pwr.failCause = .restart ∧ m.pwr.nextCause = .hostRestart))

/-- A SERVICE restart (R16, R294, R397): the service pairs stop, and run again in the modes of this start when it completes; without completion
within 2 s LEVEL becomes 3 and the F3 reaction follows. -/
def ServiceRestart : Prop :=
  (∀ m : Mod, (beginServiceRestart m).pwr.svcStopped = true ∧ (beginServiceRestart m).pwr.svcRestart = some m.clk ∧
    (beginServiceRestart m).pwr.st = m.pwr.st ∧ (beginServiceRestart m).pge = m.pge ∧ (beginServiceRestart m).lpe.loops = m.lpe.loops ∧
    (beginServiceRestart m).fio = m.fio) ∧
  ∀ (s : State) (t x : Nat), On s → s.m.pwr.svcRestart = some x →
    Makes (.serviceRestartComplete t) s (fun m => m.pwr.svcStopped = false ∧ m.pwr.svcRestart = none ∧
      (∀ p, p = 6 ∨ p = 7 → (pairOf m p).st = if bitOf s.m.lks.serviceMode.toNat (p + 10) then .split else .joined)) ∧
    (x + 2000000000 ≤ max s.m.clk t → Makes (.serviceRestartTimeout t) s (fun m => m.flt.f3 = true ∧ m.flt.jib = none))

/-- Supply removed after a SHUTDOWN (R307), the recheck of the store (R308), RECOVERY's end by time and by the host (R310), AUTO_RUN (R503) and the
opening of the OK contact (R485). -/
def PowerUpkeep : Prop :=
  ∀ (s : State) (t uj : Nat) (b : Bool),
    (s.m.pwr.st = .off → Gives (.supplyRemoved t) s t { seen s t with
      gen := { s.m.gen with supplyMv := 0 }
      pwr := { (seen s t).pwr with needRemoval := false, charging := none, nextCause := .powerUp } }) ∧
    (On s → Gives (.holdupRecheck t uj b) s t { seen s t with
      pwr := { (seen s t).pwr with storeUj := uj, holdupLow := s.m.pwr.holdupLow && !b } }) ∧
    (∀ x, On s → s.m.pwr.firstRun = some x → x + 600000000000 ≤ max s.m.clk t →
      Gives (.recoveryTimeout t) s t { seen s t with pwr := { (seen s t).pwr with recovery := false } }) ∧
    (On s → bootHeld s.m = false → s.m.gen.softLock = false →
      Gives (.recoveryClear t) s t { seen s t with pwr := { (seen s t).pwr with recovery := false } }) ∧
    (On s → bootHeld s.m = false → s.m.gen.softLock = false →
      Makes (.autoRunWrite t b) s (fun m => m.nv = { s.m.nv with autoRun := b } ∧
        m.pwr.runAsked = (s.m.pwr.runAsked || (b && s.m.pwr.starting && runConditions (seen s t) && !cmdHeld s.m)))) ∧
    ((s.m.pwr.st = .off ∨ (∀ x, s.m.flt.aliveAt = some x → x + 1500000 < max s.m.clk t)) →
      Gives (.okContactDrop t) s t { seen s t with flt := { s.m.flt with okContact := false } })

/-- A table load that R323 and admission accept answers with the loaded objects' first number and writes the record back (R320, R323); a refused one
changes nothing but what notes the refusal, and its descriptor completes with the status (R239). A deletion and a table read likewise (R46, R322).
-/
def TableCommands : Prop :=
  ∀ (s : State) (t kind count : Nat) (q : Req) (buf : List Byte) (num : W32) (n : Nat),
    (∀ l, Served s t 0x0001 q → kindHeld (seen s t) kind = none → tableLoad (seen s t) false false kind count buf = .ok l →
      Gives (.tableLoad t q kind count buf) s t (post l.m q .ok { r0 := l.res0, r1 := l.res1, data := l.data })) ∧
    (∀ m e, Served s t 0x0001 q → kindHeld (seen s t) kind = none → tableLoad (seen s t) false false kind count buf = .error (m, e) →
      Gives (.tableLoad t q kind count buf) s t (refuse m q e) ∧ m.sig = s.m.sig ∧ m.pge = s.m.pge ∧ m.lpe = s.m.lpe ∧
        m.pln = s.m.pln ∧ m.fio = s.m.fio ∧ m.saf = s.m.saf ∧ m.nv = s.m.nv) ∧
    (∀ m, Served s t 0x0002 q → anyTrial s.m = false → tableDelete (seen s t) false kind num = .ok m →
      Gives (.tableDelete t q kind num) s t (post m q .ok)) ∧
    (∀ e, Served s t 0x0002 q → anyTrial s.m = false → tableDelete (seen s t) false kind num = .error e →
      Gives (.tableDelete t q kind num) s t (refuse (seen s t) q e)) ∧
    (∀ b, opReady (seen s t) 0x0045 q = true → recordAt s.m kind n = some b →
      Gives (.tableRead t q kind n) s t (post (seen s t) q .ok { r0 := 1, data := b }))

/-- The bulk reads of signals and the directory, of the journal and of plan-owned values return the records of the range and their number (R322); a
status read returns the 32-byte records of a task and of a channel (R324). -/
def ReadsCopyRecords : Prop :=
  ∀ (s : State) (t a n : Nat) (q : Req) (x : W32),
    (opReady (seen s t) 0x0040 q = true → 1 ≤ n → n ≤ 65536 → a + n ≤ 2097152 →
      Gives (.signalBlock t q a n) s t
        (post (seen s t).tick q .ok { r0 := BitVec.ofNat 32 n, data := (span a n).flatMap (sigBytesAt s.m) })) ∧
    (opReady (seen s t) 0x0041 q = true → 1 ≤ n → n ≤ 65536 → a + n ≤ 2097152 →
      Gives (.directoryBlock t q a n) s t
        (post (seen s t) q .ok { r0 := BitVec.ofNat 32 n, data := (span a n).flatMap (dirBytes s.m) })) ∧
    (opReady (seen s t) 0x0042 q = true → 1 ≤ n → n ≤ 16384 →
      ∃ d, Gives (.journalRead t q x n) s t (post (seen s t) q .ok d) ∧ d.r0.toNat ≤ n ∧ d.data.length = 64 * d.r0.toNat) ∧
    (opReady (seen s t) 0x0043 q = true → 1 ≤ n → a + n ≤ 8192 →
      ∃ d, Gives (.valueArea t q a n) s t (post (seen s t) q .ok d) ∧ d.r0.toNat ≤ n) ∧
    (∀ k, opReady (seen s t) 0x002B q = true → taskAt s.m a = some k →
      ∃ d, Gives (.taskStatus t q a) s t (post (seen s t) q .ok { data := d }) ∧ d.length = 32 ∧
        d.take 8 = bytes64 k.cycles ∧ u8 d 20 = tstateNo k.st ∧ u8 d 21 = (k.pair + 128 * b2n k.coreB) % 256) ∧
    (opReady (seen s t) 0x002C q = true → a < 256 →
      ∃ d, Gives (.channelStatus t q a) s t (post (seen s t) q .ok { data := d }) ∧ d.length = 32 ∧
        d.take 4 = bytes32 (chanOf s.m a).status ∧ u8 d 6 = (chanOf s.m a).rcd.function % 256)

/-- Every change descriptor is numbered (R91); a refused one leaves a record of its refusal and no change pending (R85, R90); one that is accepted
is applied at once where it is VALUE and waits for its instant otherwise (R84). -/
def ChangesAreNumbered : Prop :=
  ∀ (m : Mod) (q : Option Req) (kind w : Nat) (p : ChangePkg) (prot : Bool),
    (postChange m q kind w p prot).1.pge.changeSeq = m.pge.changeSeq + 1 ∧
    ((postChange m q kind w p prot).2 ≠ .ok →
      (postChange m q kind w p prot).1.pge = { m.pge with changeSeq := m.pge.changeSeq + 1 } ∧
      ∃ c, (postChange m q kind w p prot).1.nv.changes = m.nv.changes ++ [c] ∧ c.no = m.pge.changeSeq + 1 ∧ c.outcome = 1 ∧
        c.status = (postChange m q kind w p prot).2) ∧
    ((postChange m q kind w p prot).2 = .ok → kind ≠ 1 →
      ∃ c, (postChange m q kind w p prot).1.pge.change = some c ∧ c.no = m.pge.changeSeq + 1 ∧ c.kind = kind ∧ c.pkg = p ∧
        c.instant = (if w = 0 then nowNs m + 1 else w) ∧ (postChange m q kind w p prot).1.pge.tasks = m.pge.tasks) ∧
    (m.pge.change.isSome = true → m.pge.changeEn = true → (postChange m q kind w p prot).2 = .changeBusy) ∧
    (m.pge.changeEn = false → (postChange m q kind w p prot).2 = .changeDisabled)

/-- The commands of an on-line change: the descriptor (R85), the abort before the change instant and after it (R85), the change instant (R84), and
the read of a record (R90, R322). -/
def ChangeCommands : Prop :=
  ∀ (s : State) (t kind w : Nat) (q : Req) (p : ChangePkg),
    (Served s t 0x0003 q → Gives (.changePost t q kind w p) s t (postChange (seen s t) (some q) kind w p false).1) ∧
    (∀ c, Served s t 0x0004 q → s.m.pge.change = some c → nowNs (seen s t) < c.instant →
      Makes (.changeAbort t q) s (fun m => m.pge = { s.m.pge with change := none } ∧
        ∃ r, m.nv.changes = s.m.nv.changes ++ [r] ∧ r.no = c.no ∧ r.outcome = 2)) ∧
    (Served s t 0x0004 q → (s.m.pge.change = none ∨ ∃ c, s.m.pge.change = some c ∧ c.instant ≤ nowNs (seen s t)) →
      Gives (.changeAbort t q) s t (refuse (seen s t) q .tooLate)) ∧
    (∀ c, On s → s.m.pge.change = some c → c.instant ≤ nowNs (seen s t) →
      Makes (.changeInstant t) s (fun m => m.pge.change = none ∧
        (∃ r, m.nv.changes = s.m.nv.changes ++ [r] ∧ r.no = c.no ∧ r.outcome = 0) ∧
        (c.kind = 3 → m.pge.switching = some (c.no, touched 3 c.pkg c.image)))) ∧
    (∀ c n, opReady (seen s t) 0x0044 q = true → (s.m.nv.changes.filter (fun c => c.no == n)).getLast? = some c →
      Gives (.changeRecord t q n) s t
        (post (seen s t) q .ok { r0 := 1, r1 := BitVec.ofNat 32 (changeBytes c).length, data := changeBytes c }))

/-- A pair passes its self-test to JOINED, a service pair configured split to SPLIT, and to LOST when it fails (R263); a pair restart takes a LOST
or DOWN pair into SELFTEST, and any other state refuses it (R257, R263). -/
def PairsPassSelftest : Prop :=
  ∀ (s : State) (t p : Nat) (q : Req),
    (On s → (pairOf s.m p).st = .selftest →
      Makes (.selftestComplete t p true) s (fun m => (pairOf m p).st = if svcSplit s.m p then .split else .joined)) ∧
    (On s → (pairOf s.m p).st = .selftest → anyTrial s.m = false →
      Makes (.selftestComplete t p false) s (fun m => (pairOf m p).st = .lost)) ∧
    (Served s t 0x0009 q → p < 8 → ((pairOf s.m p).st = .lost ∨ (pairOf s.m p).st = .down) →
      Gives (.pairRestart t q p) s t (startOp (setPair (seen s t) p { pairOf s.m p with st := .selftest, req := some q }) q)) ∧
    (Served s t 0x0009 q → p < 8 → (pairOf s.m p).st ≠ .lost → (pairOf s.m p).st ≠ .down →
      Gives (.pairRestart t q p) s t (refuse (seen s t) q .pairState))

/-- A mismatch of a running application pair without C0 tasks: the pair is LOST, LKS_MISMATCH and the fault stand, and its tasks are HALTED with
their instances aborted (R253, R255, R264). A joined service pair's mismatch restarts the service firmware (R262). -/
def MismatchLosesPair : Prop :=
  ∀ (s : State) (t p c : Nat), On s → anyTrial s.m = false →
    (p < 6 → (pairOf s.m p).st = .joined → s.m.flt.f3 = false → s.m.pwr.st ≠ .fail →
      (∀ e ∈ s.m.pge.tasks, e.2.pair = p → e.2.rcd.cls ≠ 0) →
      Makes (.pairMismatch t p c) s (fun m => (pairOf m p).st = .lost ∧ bitOf m.lks.mismatch.toNat p = true ∧
        bitOf m.flt.active.toNat 2 = true ∧
        (s.m.lks.mismatch = 0 → m.lks.capture = BitVec.ofNat 32 (16 * (c % 16) + p)) ∧
        (∀ k v, taskAt s.m k = some v → v.pair = p → v.st ≠ .stopped →
          ∃ w, taskAt m k = some w ∧ w.st = .halted ∧ w.inst = none))) ∧
    ((p = 6 ∨ p = 7) → (pairOf s.m p).st = .joined →
      Makes (.pairMismatch t p c) s (fun m => m.pwr.svcStopped = true ∧ m.pwr.svcRestart.isSome = true ∧
        bitOf m.lks.mismatch.toNat p = true ∧ bitOf m.flt.active.toNat 2 = true))

/-- A split: DRAINING at the request, with idle C1 tasks moved to their drain pairs; SPLIT when no C1 task is left (R258, R259). A join: JOINING at
the request, JOINED once core B is idle or 100 ms have gone (R260). What is refused leaves the pair as it was. -/
def SplitAndJoin : Prop :=
  ∀ (s : State) (t p : Nat) (q : Req) (buf : List Byte),
    (Served s t 0x0007 q → splitRefusal (seen s t) p buf = none →
      Makes (.pairSplit t q p buf) s (fun m => (pairOf m p).st = .draining ∧ (pairOf m p).req = some q ∧
        (∀ k v, taskAt s.m k = some v → v.pair = p → v.rcd.cls = 1 → v.busy = false →
          ∃ w, taskAt m k = some w ∧ w.pair = splitByte buf k))) ∧
    (∀ e, Served s t 0x0007 q → splitRefusal (seen s t) p buf = some e →
      Makes (.pairSplit t q p buf) s (fun m => m.lks = s.m.lks ∧ m.pge = s.m.pge)) ∧
    (On s → (pairOf s.m p).st = .draining → (∀ o, o ≠ p → (pairOf s.m o).st ≠ .draining) →
      (∀ e ∈ s.m.pge.tasks, e.2.pair = p → e.2.rcd.cls ≠ 1) →
      Makes (.drainComplete t p) s (fun m => (pairOf m p).st = .split)) ∧
    (Served s t 0x0008 q → p < 6 → (pairOf s.m p).st = .split →
      Makes (.pairJoin t q p) s (fun m => (pairOf m p).st = .joining ∧ (pairOf m p).joinAt = max s.m.clk t)) ∧
    (On s → (pairOf s.m p).st = .joining →
      ((∀ e ∈ s.m.pge.tasks, e.2.pair = p → e.2.coreB = true → e.2.busy = false) ∨ (pairOf s.m p).joinAt + 100000000 ≤ max s.m.clk t) →
      Makes (.joinCopy t p) s (fun m => (pairOf m p).st = .joined ∧ (pairOf m p).drain = [] ∧ (pairOf m p).maskB = []))

/-- The vote of R272: of BOOL, integer, ENUM16 and BITS64 copies a strict majority of the GOOD ones, GOOD; one usable copy alone UNCERTAIN; none, or
two that disagree, zero and BAD. Of REAL copies three numbers give their median, two that agree the worse quality, two beyond tolerance the lower
seat's copy UNCERTAIN, none the previous value BAD; in SOLO the seat's own copy unchanged. -/
def VotedValues : Prop :=
  ∀ (m : Mod) (r : SigRec) (a b c : View), isGood a.qual = true → isGood b.qual = true → isGood c.qual = true → m.tri.mode ≠ 1 →
    (r.ty ≠ 4 → r.ty ≠ 5 →
      (a.val = b.val → (voteOf m r [a, b, c]).val = a.val ∧ (voteOf m r [a, c, b]).val = a.val ∧ (voteOf m r [c, a, b]).val = a.val ∧
        (voteOf m r [a, b, c]).qual = 0xC000 ∧ (voteOf m r [a, b]).val = a.val ∧ (voteOf m r [a, b]).qual = 0xC000) ∧
      (a.val ≠ b.val → (voteOf m r [a, b]).val = 0 ∧ (voteOf m r [a, b]).qual = 0x0000 ∧
        (c.val ≠ a.val → c.val ≠ b.val → (voteOf m r [a, b, c]).qual = 0x0000)) ∧
      voteOf m r [a] = { a with qual := 0x4000 } ∧ (voteOf m r []).val = 0 ∧ (voteOf m r []).qual = 0x0000) ∧
    (r.ty = 4 →
      (eq32 (valReal a.val) (valReal b.val) = false → aiOwner m r = none → voteOf m r [a, b] = { a with qual := 0x4000 }) ∧
      (le32 (valReal a.val) (valReal b.val) = true → le32 (valReal b.val) (valReal c.val) = true →
        isNan32 (valReal a.val) = false → isNan32 (valReal b.val) = false → isNan32 (valReal c.val) = false →
        voteOf m r [a, b, c] = b) ∧
      voteOf m r [a] = { a with qual := 0x4000 } ∧
      (voteOf m r [{ a with qual := 0x0000 }]).val = r.val ∧ (voteOf m r [{ a with qual := 0x0000 }]).qual = 0x0000) ∧
    (voteOf { m with tri := { m.tri with mode := 1 } } r [a] = a)

/-- What the round frames command of an output is compared bit for bit (R274): in TRIAD two that agree release their value and the third seat is in
the minority; where all three differ, and where the two of DUO do, nothing is released. -/
def OutputsCompared : Prop :=
  ∀ (o : Nat) (f g h : RoundFrame) (x y z : Nat),
    (cmdOf f o = cmdOf g o →
      compareOut [(x, f), (y, g)] o = (some (cmdOf f o), none) ∧
      (cmdOf h o ≠ cmdOf f o →
        compareOut [(x, f), (y, g), (z, h)] o = (some (cmdOf f o), some z) ∧
        compareOut [(x, f), (z, h), (y, g)] o = (some (cmdOf f o), some z) ∧
        compareOut [(z, h), (x, f), (y, g)] o = (some (cmdOf f o), some z))) ∧
    (cmdOf f o ≠ cmdOf g o →
      compareOut [(x, f), (y, g)] o = (none, none) ∧
      (cmdOf h o ≠ cmdOf f o → cmdOf h o ≠ cmdOf g o → compareOut [(x, f), (y, g), (z, h)] o = (none, none)))

/-- The rounds of a formed triad (R268): at a round instant a frame goes out with what changed since the last; a peer's frame counts until the
window closes, 170 µs after the instant; then peers without one are missing one more round (R278); the vote at 200 µs ends the round. -/
def RoundsRun : Prop :=
  ∀ (s : State) (t n : Nat) (f : RoundFrame) (r : Round), On s →
    (s.m.tri.mode ≠ 0 → s.m.pwr.st ≠ .fail → s.m.sec.debug ≠ .full → s.m.pwr.epoch ≤ nowNs (seen s t) →
      (nowNs (seen s t) - s.m.pwr.epoch) % 100000 = 0 →
      (∀ x ∈ s.m.tri.rounds, x.no ≠ BitVec.ofNat 32 ((nowNs (seen s t) - s.m.pwr.epoch) / 100000)) →
      Makes (.roundInstant t) s (fun m => m.tri.changed = [] ∧ m.tri.cmds = [] ∧ m.tri.navOut = [] ∧ ∃ x,
        m.tri.rounds = s.m.tri.rounds ++ [x] ∧ x.no = BitVec.ofNat 32 ((nowNs (seen s t) - s.m.pwr.epoch) / 100000) ∧
        x.began = max s.m.clk t ∧ x.closed = false ∧ x.frames = [] ∧ m.tri.round = x.no)) ∧
    (s.m.tri.seat ≠ 0 → n ≠ s.m.tri.seat → 1 ≤ n → n ≤ 3 →
      Gives (.roundFrameReceive t n f) s t { seen s t with tri := { s.m.tri with
        heard := some f.round
        rounds := s.m.tri.rounds.map (fun x =>
          if x.no = f.round ∧ x.closed = false ∧ max s.m.clk t ≤ x.began + 170000 then { x with frames := tset x.frames n f } else x) } }) ∧
    (s.m.tri.rounds.find? (fun x => !x.closed && decide (x.began + 170000 ≤ max s.m.clk t)) = some r →
      Makes (.roundWindowClose t) s (fun m => (∀ x ∈ m.tri.rounds, x.no = r.no → x.closed = true) ∧
        (∀ k, k ∈ voters s.m → k ≠ s.m.tri.seat →
          tget m.tri.missing k = some (if (tget r.frames k).isSome then 0 else (tget s.m.tri.missing k).getD 0 + 1)))) ∧
    (s.m.tri.rounds.head? = some r → r.began + 200000 ≤ max s.m.clk t →
      Makes (.voteInstant t) s (fun m => ∀ x, x ∈ m.tri.rounds ↔ x ∈ s.m.tri.rounds ∧ x.no ≠ r.no)) ∧
    (s.m.tri.seat ≠ 0 → s.m.tri.mode ≠ 0 → (∀ x, s.m.tri.beatAt = some x → x + 1000000 ≤ max s.m.clk t) →
      Makes (.heartbeatSend t) s (fun m => m.tri = { s.m.tri with beatAt := some (max s.m.clk t) })) ∧
    (s.m.tri.seat ≠ 0 → n ≠ s.m.tri.seat → 1 ≤ n → n ≤ 3 →
      Gives (.heartbeatReceive t n) s t { seen s t with tri := { s.m.tri with beats := tset s.m.tri.beats n (max s.m.clk t) } })

/-- A seat whose signature the two others contradict is excluded (R275): a peer stops voting, and this seat raises its fault and restarts as a
module. A peer silent on both paths is lost, and of two that hear each other's heartbeats only the lower role excludes itself (R278). A link that
goes down is reported (R266). -/
def SeatsAreExcluded : Prop :=
  ∀ (s : State) (t n : Nat) (b : Bool), On s → anyTrial s.m = false →
    (∀ (r : Round) (x y z : Nat × W32) (l : List (Nat × W32)), s.m.tri.rounds.head? = some r → r.no.toNat % 1000 = 0 →
      (voters s.m).filterMap (fun n => if n = s.m.tri.seat then some (n, r.own.signature) else (tget r.frames n).map (fun f => (n, f.signature))) = l → (l = [x, y, z] ∨ l = [x, z, y] ∨ l = [z, x, y]) →
      x.2 = y.2 → z.2 ≠ x.2 →
      (z.1 ≠ s.m.tri.seat → Makes (.signatureCompare t) s (fun m => z.1 ∈ m.tri.leaving ∧ bitOf m.tri.events.toNat 8 = true ∧ bitOf m.tri.events.toNat 2 = true)) ∧
      (z.1 = s.m.tri.seat → Makes (.signatureCompare t) s (fun m => m.pwr.st = .fail ∧ bitOf m.tri.events.toNat 8 = true ∧
        (s.m.pwr.st ≠ .fail → m.pwr.nextCause = .exclusion)))) ∧
    (n ≠ s.m.tri.seat → n ∈ voters s.m → n ∉ s.m.tri.leaving → 3 ≤ (tget s.m.tri.missing n).getD 0 →
      ((∀ x, tget s.m.tri.beats n = some x → x + 2000000 ≤ max s.m.clk t) →
        Makes (.peerLossDeclaration t n) s (fun m => n ∈ m.tri.leaving ∧ bitOf m.tri.events.toNat 0 = true ∧ bitOf m.flt.active.toNat 0x12 = true)) ∧
      (∀ x, tget s.m.tri.beats n = some x → max s.m.clk t < x + 2000000 → (ranked s.m [n, s.m.tri.seat]).getLastD n = n →
        Makes (.peerLossDeclaration t n) s (fun m => n ∈ m.tri.leaving ∧ bitOf m.tri.events.toNat 3 = true)) ∧
      (∀ x, tget s.m.tri.beats n = some x → max s.m.clk t < x + 2000000 → (ranked s.m [n, s.m.tri.seat]).getLastD n = s.m.tri.seat →
        Makes (.peerLossDeclaration t n) s (fun m => m.pwr.st = .fail ∧ bitOf m.tri.events.toNat 3 = true))) ∧
    (s.m.tri.seat ≠ 0 → (if b then s.m.tri.t2 else s.m.tri.t1) = true →
      Makes (.triadLinkDown t b) s (fun m => (if b then m.tri.t2 else m.tri.t1) = false ∧
        (if b then m.tri.t1 else m.tri.t2) = (if b then s.m.tri.t1 else s.m.tri.t2) ∧
        bitOf m.tri.events.toNat 6 = true ∧ bitOf m.flt.active.toNat 0x12 = true)) ∧
    (s.m.pwr.st ≠ .fail →
      Gives (.triadLinkUp t b) s t { seen s t with tri := { s.m.tri with t1 := s.m.tri.t1 || !b, t2 := s.m.tri.t2 || b } })

/-- A claim is heard (R280, R281, R283); two members of an epoch form the triad with the lowest seat as LEAD (R277, R280); alone after 10 s a member
is SOLO or stays ALONE (R280). An OUT seat claims again by the retry command, an abandoned one after 60 s (R284); the LEAD accepts an epoch change
for followers in step (R286). -/
def TriadForms : Prop :=
  ∀ (s : State) (t n e v : Nat) (q : Req), On s →
    (s.m.tri.seat ≠ 0 → n ≠ s.m.tri.seat → 1 ≤ n → n ≤ 3 →
      (Makes (.claimFrame t n s.m.tri.id e v false) s (fun m => ∃ c ∈ m.tri.claims, c.seat = n ∧ c.epoch = e ∧ c.version = v ∧ c.running = false)) ∧
      (s.m.tri.st = .claiming → Makes (.claimFrame t n s.m.tri.id e v true) s (fun m => m.tri.st = .bulk ∧ m.adm.holdBack = true ∧
        m.tri.resyncAt = some (max s.m.clk t) ∧ m.tri.resyncSeat = s.m.tri.seat)) ∧
      (s.m.tri.st = .inStep → s.m.tri.resyncSeat = 0 → n ∉ voters s.m →
        Makes (.claimFrame t n s.m.tri.id e v false) s (fun m => m.tri.resyncSeat = n ∧ m.tri.resyncAt = some (max s.m.clk t)))) ∧
    (∀ x c, s.m.tri.st = .claiming → s.m.tri.claimAt = some x → max s.m.clk t ≤ x + 10000000000 → s.m.tri.claims = [c] →
      c.epoch = s.m.tri.epoch → c.running = false → s.m.tri.seat ≤ 3 → 1 ≤ c.seat → c.seat ≤ 3 → 1 ≤ s.m.tri.seat → c.seat ≠ s.m.tri.seat →
      Makes (.triadForm t) s (fun m => m.tri.st = .inStep ∧ m.tri.mode = 2 ∧ roleOf m (min c.seat s.m.tri.seat) = .lead ∧
        roleOf m (max c.seat s.m.tri.seat) = .second ∧ m.pwr.epoch = (nowNs (seen s t) / 100000 + 1) * 100000)) ∧
    (∀ x, s.m.tri.st = .claiming → s.m.tri.claimAt = some x → x + 10000000000 ≤ max s.m.clk t → s.m.tri.claims = [] →
      (s.m.tri.soloStart = false → Gives (.soloFormTimeout t) s t { seen s t with tri := { s.m.tri with st := .alone, claimAt := none } }) ∧
      (s.m.tri.soloStart = true → Makes (.soloFormTimeout t) s (fun m => m.tri.st = .inStep ∧ m.tri.mode = 1))) ∧
    (∀ x, s.m.nv.triRetry = some x → x + 60000000000 ≤ max s.m.clk t → s.m.tri.st = .alone → 5 ≤ s.m.pwr.startStep → s.m.tri.seat ≠ 0 →
      (recentOuts (seen s t)).length < 3 →
      Makes (.claimRetry t) s (fun m => m.tri.st = .claiming ∧ m.tri.claimAt = some (max s.m.clk t) ∧ m.nv.triRetry = none)) ∧
    (opReady (seen s t) 0x000A q = true → s.m.tri.st = .out → s.m.tri.seat ≠ 0 →
      Makes (.triadRetry t q) s (fun m => m.tri.st = .claiming ∧ m.nv.triOut = [])) ∧
    (Served s t 0x000B q → s.m.tri.seat ≠ 0 → s.m.tri.mode ≠ 0 → s.m.tri.switch = none → s.m.tri.followers ≠ [] → s.m.tri.epoch < e →
      (∀ f ∈ s.m.tri.followers, f.2 = e) → (voters s.m).length ≤ s.m.tri.followers.length →
      Gives (.triadEpoch t q) s t (startOp { seen s t with tri := { s.m.tri with switch := some (s.m.tri.round + 2, q) } } q))

/-- The steps of a resynchronisation (R283): BULK, DELTA passes that end with one of at most 4 MiB or after 8, SHADOW, the comparison of the
regions, and IN_STEP after 1,000 matching rounds, with the hold-back over. An abandonment restarts the returning seat (R284). -/
def ResyncSteps : Prop :=
  ∀ (s : State) (t n : Nat) (b : Bool), On s →
    (s.m.tri.st = .bulk → Gives (.resyncBulkEnd t n) s t { seen s t with tri := { s.m.tri with st := .delta, remain := BitVec.ofNat 16 n } }) ∧
    (s.m.tri.st = .delta → s.m.tri.passesDone = false →
      Makes (.deltaPassEnd t n) s (fun m => m.tri.passes = s.m.tri.passes + 1 ∧ m.tri.st = .delta ∧
        m.tri.passesDone = (decide (n ≤ 4) || decide (s.m.tri.passes = 7)))) ∧
    (s.m.tri.st = .delta → s.m.tri.passesDone = true →
      Makes (.shadowStart t) s (fun m => m.tri.st = .shadow ∧ m.tri.compared = false ∧ m.tri.matching = 0)) ∧
    (s.m.tri.st = .shadow → Gives (.regionCompare t n) s t { seen s t with tri := { s.m.tri with
      compared := n == 0, matching := if s.m.tri.compared && n == 0 then s.m.tri.matching else 0, remain := BitVec.ofNat 16 n } }) ∧
    (s.m.tri.resyncAt.isSome = true → s.m.tri.resyncSeat = s.m.tri.seat → s.m.tri.seat ≠ 0 → s.m.tri.st = .shadow → s.m.tri.compared = true →
      1000 ≤ s.m.tri.matching → (∀ k, triadEpochOf s.m k = s.m.tri.epoch) →
      Makes (.resyncInStep t) s (fun m => m.tri.st = .inStep ∧ s.m.tri.seat ∈ m.tri.entering ∧ m.adm.holdBack = false ∧
        m.tri.resyncAt = none ∧ bitOf m.tri.events.toNat 4 = true)) ∧
    (s.m.tri.resyncAt.isSome = true → s.m.tri.resyncSeat ≠ 0 → s.m.tri.resyncSeat ≠ s.m.tri.seat → triadEpochOf s.m s.m.tri.resyncSeat = s.m.tri.epoch →
      Makes (.resyncInStep t) s (fun m => s.m.tri.resyncSeat ∈ m.tri.entering ∧ m.tri.resyncSeat = 0 ∧ m.adm.holdBack = false)) ∧
    (s.m.tri.resyncAt.isSome = true → s.m.tri.resyncSeat = s.m.tri.seat →
      Makes (.resyncAbandon t b) s (fun m => m.pwr.st = .fail ∧ m.pwr.nextCause = .abandonment ∧ m.nv.triRetry = some (max s.m.clk t) ∧
        bitOf m.tri.events.toNat 5 = true))

/-- Every unit judges a mode command by R61: the mode it holds is accepted; a target not in ALLOWED, OFF to HOLD, SAFE to AUTO and HOLD, and leaving
SAFE under an active cause are REFUSED_MODE; MANUAL and AUTO are INTERLOCKED under an interlock; SAFE is always accepted. -/
def ModesAreJudged : Prop :=
  ∀ (m : Mod) (i : Nat) (u : Machine.Unit) (x : Mode), unitAt m i = some u →
    (u.mode = x → judgeMode m i x = none) ∧ judgeMode m i .safe = none ∧
    (u.mode ≠ x → x ≠ .safe → bitOf u.allowed.toNat (modeNo x) = false → judgeMode m i x = some .refusedMode) ∧
    (u.mode = .off → judgeMode m i .hold = some .refusedMode) ∧
    (u.mode = .safe → judgeMode m i .auto = some .refusedMode ∧ judgeMode m i .hold = some .refusedMode) ∧
    (u.mode = .safe → causeActive m i = true → x ≠ .safe → judgeMode m i x = some .refusedMode) ∧
    (u.mode ≠ x → u.mode ≠ .safe → (x = .manual ∨ x = .auto) → bitOf u.allowed.toNat (modeNo x) = true →
      judgeMode m i x = if ilkOwn m i then some .interlocked else none) ∧
    (u.mode = .safe → causeActive m i = false → bitOf u.allowed.toNat 0 = true → judgeMode m i .off = none)

/-- A mode command is judged over the whole subtree (R63): with ALL_OR_NONE and one refusal nothing changes and no unit is counted as accepted; with
no refusal every unit of the subtree is. -/
def ModeCommandsWalk : Prop :=
  ∀ (m : Mod) (c : WalkCmd) (x : Mode), c.mode = some x →
    (c.aon = true → (∃ i ∈ subtree m c.unit, (judgeMode m i x).isSome = true) →
      (walk m c).1.sig.units = m.sig.units ∧ (walk m c).1.sig.unit0 = m.sig.unit0 ∧ (walk m c).2.accepted = 0 ∧
      (walk m c).2.refused = ((subtree m c.unit).filter (fun i => (judgeMode m i x).isSome)).length) ∧
    ((∀ i ∈ subtree m c.unit, judgeMode m i x = none) →
      (walk m c).2.accepted = (subtree m c.unit).length ∧ (walk m c).2.refused = 0 ∧ (walk m c).2.status = .ok ∧
      ∀ i ∈ subtree m c.unit, modeAt (walk m c).1 i = some x)

/-- The unit commands: a mode command and RESUME start at once or wait while their subtree is commanded (R64, R321), the next starts when one ends
(R64), an active interlock holds every MANUAL and AUTO unit below it (R62), and a change rolls up (R65, R66). -/
def UnitCommands : Prop :=
  ∀ (s : State) (t i n : Nat) (q : Req) (h : W32) (x : Mode) (b : Bool),
    (Served s t 0x0020 q → judgeUnit s.m h = .ok i → modeOfNo n = some x →
      Gives (.unitCmd t q h n b) s t (commandUnit (seen s t) { unit := i, mode := some x, aon := b, c1 := c1Ring s.m q, req := some q })) ∧
    (Served s t 0x0021 q → judgeUnit s.m h = .ok i →
      Gives (.unitResume t q h) s t (commandUnit (seen s t) { unit := i, mode := none, aon := false, c1 := c1Ring s.m q, req := some q })) ∧
    (∀ c, walkBusy s.m c = true → (commandUnit (seen s t) c).sig = { s.m.sig with walkQ := enqueueWalk s.m.sig.walkQ c }) ∧
    (∀ c, walkBusy s.m c = false → commandUnit (seen s t) c = startWalk (seen s t) c) ∧
    (On s → Gives (.walkerNextCommand t) s t (nextWalk (seen s t))) ∧
    (On s → s.m.sig.walkQ = [] →
      Gives (.walkerNextCommand t) s t { seen s t with sig := { s.m.sig with walking := s.m.sig.walking.drop 1 } }) ∧
    (On s → ilkHere s.m n = true → Makes (.interlockActive t n) s (fun m => ∀ j ∈ subtree s.m n, ∀ u, unitAt s.m j = some u →
      ∃ v, unitAt m j = some v ∧ v.mode = (if u.mode = .manual ∨ u.mode = .auto then .hold else u.mode) ∧
        v.prior = (if u.mode = .manual ∨ u.mode = .auto then u.mode else u.prior))) ∧
    (On s → Gives (.unitRollUp t n) s t ((lineage s.m n).foldl rollOne (seen s t)))

/-- A roll-up leaves the unit's alarm level and composite state word as R66 computes them, and touches no other unit. -/
def RollUpComputes : Prop :=
  ∀ (m : Mod) (i : Nat) (u : Machine.Unit), unitAt m i = some u →
    (∃ v, unitAt (rollOne m i) i = some v ∧ v.word = stateWord m i ∧ v.alarm = alarmOf m (subtree m i) ∧ v.mode = u.mode) ∧
    (∀ j, j ≠ i → unitAt (rollOne m i) j = unitAt m j)

/-- What commands do to a plan at their tick (R154, R155): a start enters its step RUNNING with the starts counted, a pause keeps the step, a resume
goes on, and an abort enters ABORT_STEP or ends the plan, as a second abort does. -/
def PlanTransitions : Prop :=
  ∀ (m : Mod) (c : PlanCmd) (p : Plan), tget m.pln.plans c.plan = some p →
    (c.op = 0 → p.st = .idle → ∃ p', tget (applyCmd m c).pln.plans c.plan = some p' ∧ p'.step = c.step ∧ p'.starts = p.starts + 1 ∧
      p'.inStep = 0 ∧ (p'.st = .running ∨ p'.st = .paused)) ∧
    (c.op = 1 → (p.st = .running ∨ p.st = .aborting) → ∃ p', tget (applyCmd m c).pln.plans c.plan = some p' ∧ p'.st = .paused ∧
      p'.step = p.step ∧ p'.inStep = p.inStep ∧ p'.remain = p.remain) ∧
    (c.op = 2 → p.st = .paused → ∃ p', tget (applyCmd m c).pln.plans c.plan = some p' ∧ p'.step = p.step ∧
      p'.st = (if p.aborting then .aborting else .running)) ∧
    (c.op = 3 → p.st ≠ .idle → (p.aborting = true ∨ p.abortStep = 0xFFFF) → ∃ p', tget (applyCmd m c).pln.plans c.plan = some p' ∧ p'.st = .idle ∧
      p'.ramps = []) ∧
    (c.op = 3 → p.st ≠ .idle → p.aborting = false → p.abortStep ≠ 0xFFFF → ∃ p', tget (applyCmd m c).pln.plans c.plan = some p' ∧
      p'.step = p.abortStep ∧ p'.aborting = true ∧ (p'.st = .aborting ∨ p'.st = .paused))

/-- Where each wait kind leaves to (R147). -/
def WaitKinds : Prop :=
  ∀ (m : Mod) (p : Plan),
    (p.now.wait = 0 → waitLeaves m p = some (p.now.next, 0, false)) ∧
    (p.now.wait = 1 → waitLeaves m p = if p.remain = 0 then some (p.now.next, 0, false) else none) ∧
    (p.now.wait = 2 → waitLeaves m p = if condHolds m p.now then some (p.now.next, 1, false) else none) ∧
    (p.now.wait = 3 → condHolds m p.now = false → waitLeaves m p = if p.remain = 0 then some (p.now.alt, 2, true) else none) ∧
    (p.now.wait = 4 → condHolds m p.now = true → waitLeaves m p = if p.remain = 0 then some (p.now.next, 1, false) else none) ∧
    (p.now.wait = 5 → (∃ r ∈ p.ramps, r.ofStep = true) → p.now.ticks = 0 → waitLeaves m p = none) ∧
    (p.now.wait = 6 → waitLeaves m p = if condHolds m p.now then some (p.now.next, 1, false) else some (p.now.alt, 3, true))

/-- TASK_CMD (R77): no ring starts or stops a C0 task (R20); START takes STOPPED to IDLE afresh, STOP takes effect from IDLE at once and else at the
next commit end, CLEAR takes HALTED to STOPPED unless the pair is LOST. -/
def TaskCommands : Prop :=
  ∀ (s : State) (t k : Nat) (q : Req) (v : Task), Served s t 0x002A q → taskAt s.m k = some v →
    (v.rcd.cls = 0 → Gives (.taskStart t q k) s t (refuse (seen s t) q .isProtected) ∧
      Gives (.taskStop t q k) s t (refuse (seen s t) q .isProtected) ∧ Gives (.taskClear t q k) s t (refuse (seen s t) q .isProtected)) ∧
    (v.rcd.cls ≠ 0 → v.st = .stopped → Makes (.taskStart t q k) s (fun m => ∃ x, taskAt m k = some x ∧ x.st = .idle ∧ x.lastRelease = none ∧
      x.lastCommit = none ∧ x.retain = v.retain ∧ x.fbi = v.fbi)) ∧
    (v.rcd.cls ≠ 0 → v.st = .idle → Makes (.taskStop t q k) s (fun m => ∃ x, taskAt m k = some x ∧ x.st = .stopped ∧ x.queue = [] ∧ x.stopAt.isSome = true)) ∧
    (v.rcd.cls ≠ 0 → v.busy = true → Makes (.taskStop t q k) s (fun m => ∃ x, taskAt m k = some x ∧ x.st = v.st ∧ x.stopReq = true ∧ x.inst = v.inst)) ∧
    (v.rcd.cls ≠ 0 → v.st = .halted → (pairOf s.m v.pair).st ≠ .lost →
      Makes (.taskClear t q k) s (fun m => ∃ x, taskAt m k = some x ∧ x.st = .stopped ∧ x.queue = [])) ∧
    (v.rcd.cls ≠ 0 → v.st ≠ .halted → Gives (.taskClear t q k) s t (post (seen s t) q .notReady))

/-- A cyclic release of an idle task begins its instance and counts it (R74, R77); at a running C0 or C1 task it is deferred to the commit end, at
one of C2 or C3 it is skipped and counted (R83). Between releases nothing happens (R74). -/
def CyclicReleases : Prop :=
  ∀ (s : State) (t k : Nat) (v : Task), On s → taskAt s.m k = some v → v.rcd.event = false → releasesNow s.m v = true →
    (onInstant (seen s t) v.rcd.period v.rcd.phase = true → v.st = .idle → v.switchTo = none →
      Makes (.taskRelease t k) s (fun m => ∃ x i, taskAt m k = some x ∧ x.st = .snapshot ∧ x.inst = some i ∧ i.release = nowNs (seen s t) ∧
        x.cycles = v.cycles + 1 ∧ x.lastRelease = some (nowNs (seen s t)) ∧ i.pc = (newInst s.m v { t := 0 }).pc ∧ i.retain = v.retain)) ∧
    (onInstant (seen s t) v.rcd.period v.rcd.phase = true → v.busy = true → v.rcd.cls < 2 →
      Makes (.taskRelease t k) s (fun m => taskAt m k = some { v with deferred := some (nowNs (seen s t)) })) ∧
    (onInstant (seen s t) v.rcd.period v.rcd.phase = true → v.busy = true → 2 ≤ v.rcd.cls →
      Makes (.taskRelease t k) s (fun m => ∃ x, taskAt m k = some x ∧ x.skipped = satInc v.skipped ∧ x.st = v.st ∧ x.inst = v.inst ∧
        bitOf m.flt.active.toNat 5 = true ∧ (k < 32 → bitOf m.pge.skips.toNat k = true))) ∧
    (onInstant (seen s t) v.rcd.period v.rcd.phase = false → Gives (.taskRelease t k) s t (seen s t))

/-- An event release joins the task's queue, or merges into the newest when it is full (R76, R111); an idle task takes the oldest as soon as
PERIOD_US has passed since its last release (R76). -/
def EventReleases : Prop :=
  ∀ (s : State) (t k : Nat) (v : Task) (src : ReleaseSource), On s → taskAt s.m k = some v → releasesNow s.m v = true →
    (v.rcd.event = true → sourceFits v.rcd src = true → (∀ p, src ≠ .message p) → v.busy = true → v.queue.length < v.rcd.qDepth →
      Makes (.eventRelease t k src) s (fun m => ∃ x, taskAt m k = some x ∧ x.queue = v.queue ++ [{ t := nowNs (seen s t), msg := [] }] ∧ x.st = v.st)) ∧
    (v.rcd.event = true → sourceFits v.rcd src = true → (∀ p, src ≠ .message p) → v.busy = true → v.rcd.qDepth ≤ v.queue.length →
      Makes (.eventRelease t k src) s (fun m => ∃ x, taskAt m k = some x ∧ x.merged = satInc v.merged ∧ x.queue.length = v.queue.length ∧ x.st = v.st)) ∧
    (v.rcd.event = true → sourceFits v.rcd src = true → (∀ p, src ≠ .message p) → v.st = .idle → v.queue = [] → 0 < v.rcd.qDepth → v.lastRelease = none →
      v.switchTo = none → Makes (.eventRelease t k src) s (fun m => ∃ x, taskAt m k = some x ∧ x.st = .snapshot ∧ x.queue = [] ∧ x.cycles = v.cycles + 1)) ∧
    (∀ r rest, v.st = .idle → v.queue = r :: rest → v.switchTo = none → (∀ y, v.lastRelease = some y → y + 1000 * v.rcd.period ≤ nowNs (seen s t)) →
      Makes (.heldRelease t k) s (fun m => ∃ x i, taskAt m k = some x ∧ x.st = .snapshot ∧ x.queue = rest ∧ x.inst = some i ∧
        i.release = nowNs (seen s t) ∧ i.msg = r.msg))

/-- The phases of an instance (R77, R78, R80 to R82): a snapshot that need not wait takes the visible records of the read set and is READY; the
highest-ranked ready task takes a free core, and pre-empts a lower-ranked one that keeps its snapshot and write buffer. -/
def InstancePhases : Prop :=
  ∀ (s : State) (t k c : Nat) (v : Task), On s → taskAt s.m k = some v →
    (∀ i, v.st = .snapshot → v.inst = some i → snapshotWaits s.m v i = false → i.snap = [] →
      Makes (.snapshotComplete t k) s (fun m => taskAt m k = some { v with
        st := .ready, inst := some { i with snap := v.rcd.reads.map (viewOf s.m) } })) ∧
    (∀ i, v.st = .snapshot → v.inst = some i → snapshotWaits s.m v i = true → Gives (.snapshotComplete t k) s t (seen s t)) ∧
    (tget s.m.pge.running c = none → bestReady s.m c = some (k, v) → pairServes s.m v = true →
      Makes (.taskDispatch t c) s (fun m => taskAt m k = some { v with st := .running } ∧ tget m.pge.running c = some k)) ∧
    (∀ j y, tget s.m.pge.running c = some j → taskAt s.m j = some y → bestReady s.m c = some (k, v) → j ≠ k → keyLt (rankKey k v) (rankKey j y) = true →
      Makes (.taskPreemption t c) s (fun m => taskAt m k = some { v with st := .running } ∧ taskAt m j = some { y with st := .ready } ∧
        tget m.pge.running c = some k))

/-- The order of R71: a lower class number first, then the higher priority's lower number, then the earlier release, then the lower task number. -/
def ReadyOrder : Prop :=
  ∀ (j k : Nat) (x y : Task) (a b : Inst), x.inst = some a → y.inst = some b →
    (keyLt (rankKey j x) (rankKey k y) = true ↔
      x.rcd.cls < y.rcd.cls ∨ (x.rcd.cls = y.rcd.cls ∧ (x.rcd.prio < y.rcd.prio ∨ (x.rcd.prio = y.rcd.prio ∧
        (a.release < b.release ∨ (a.release = b.release ∧ j < k))))))

/-- A commit that need not wait writes the buffered records and keeps the instance's retained variables and block entries (R79, R80); the task is
IDLE, or STOPPED at a requested stop (R77). -/
def CommitsWrite : Prop :=
  ∀ (s : State) (t k : Nat) (v : Task) (i : Inst), On s → taskAt s.m k = some v → v.st = .committing → v.inst = some i → commitWaits s.m v i = false →
    s.m.tri.mode = 0 → i.reqs = [] → v.edits = [] → v.deferred = none → v.queue = [] → v.haltAtCommit = false → s.m.pwr.st = .run →
    (pairOf s.m v.pair).st = .joined → (v.rcd.cls = 0 → v.stopReq = false) →
    Makes (.commitComplete t k) s (fun m =>
      (∃ x, taskAt m k = some x ∧ x.st = (if v.stopReq then .stopped else .idle) ∧ x.inst = none ∧ x.retain = i.retain ∧ x.fbi = i.fbi ∧
        x.lastCommit = some i.release) ∧
      (∀ h z r, v.rcd.writes = [h] → i.wbuf = [some z] → sigAt s.m (hIdx h) = some r → h ≠ 0 → r.isConst = false →
        ∃ x, sigAt m (hIdx h) = some x ∧ x.val = z.v ∧ x.qual = z.q ∧ x.time = BitVec.ofNat 32 (nsAt (seen s t) i.began)) ∧
      (∀ h r, v.rcd.writes = [h] → i.wbuf = [none] → sigAt s.m (hIdx h) = some r → sigAt m (hIdx h) = some r))

/-- A task that runs past WC_STEPS, or whose commit has not begun at its deadline, is aborted (R83): of class C1 to C3 it is HALTED, commits
nothing, its bit in PGE_ABORT is set and its fault stands. -/
def OverrunsAbort : Prop :=
  ∀ (s : State) (t k : Nat) (v : Task) (i : Inst), On s → taskAt s.m k = some v → v.inst = some i → v.rcd.cls ≠ 0 → k < 96 → s.m.pge.aborts.length = 3 →
    anyTrial s.m = false →
    (v.st = .running → v.rcd.wcSteps ≤ i.steps →
      Makes (.stepBudgetExhausted t k) s (fun m => m.sig.sigs = s.m.sig.sigs ∧ bitOf ((m.pge.aborts[k / 32]?).getD 0).toNat (k % 32) = true ∧
        bitOf m.flt.active.toNat 3 = true ∧ ∃ x, taskAt m k = some x ∧ x.st = .halted ∧ x.inst = none)) ∧
    (v.rcd.cls = 1 → v.busy = true → v.st ≠ .committing →
      i.release + 1000 * (if v.rcd.deadline = 0 then v.rcd.period else v.rcd.deadline) ≤ nowNs (seen s t) →
      Makes (.deadlineExpiry t k) s (fun m => m.sig.sigs = s.m.sig.sigs ∧ bitOf ((m.pge.aborts[k / 32]?).getD 0).toNat (k % 32) = true ∧
        bitOf m.flt.active.toNat 4 = true ∧ ∃ x, taskAt m k = some x ∧ x.st = .halted ∧ x.inst = none))

/-- Samples and applies of a loop at its instants (R115, R117, R119, R129, R133, R136): a sample leaves an output due APPLY_US later; applied, it is
the output and the integrator of the loop; late, both stay and LATE and an F2 are raised; a disabled loop writes OFF_VALUE once; MODEL_DRIVE gives
way to REACT_AFTER. -/
def LoopInstants : Prop :=
  ∀ (s : State) (t n : Nat) (l : Loop) (o : LoopOut), On s → tget s.m.lpe.loops n = some l →
    (ctlRuns s.m = true → onInstant (seen s t) l.rcd.period l.rcd.phase = true → s.m.lpe.waiting = [] → s.m.pnl.fullReq = none →
      l.enabled = true → loopMode s.m l ≠ .off →
      Gives (.loopSample t n) s t (sampleOn (seen s t) n l (loopMode s.m l)) ∧
      Makes (.loopSample t n) s (fun m => ∃ x y, tget m.lpe.loops n = some x ∧ x.pendingOut = some y ∧
        y.due = applyDue (seen s t) l ∧
        (isBad (readPv s.m l.rcd.pvSrc).q = true → x.badRun = l.badRun + 1 ∧ (l.rcd.lostN ≤ l.badRun + 1 → x.lost = true)) ∧
        (isBad (readPv s.m l.rcd.pvSrc).q = false → x.badRun = 0))) ∧
    (ctlRuns s.m = true → onInstant (seen s t) l.rcd.period l.rcd.phase = true → s.m.lpe.waiting = [] → s.m.pnl.fullReq = none →
      l.enabled = false → l.offPending = true →
      Makes (.loopSample t n) s (fun m => ∃ x, tget m.lpe.loops n = some x ∧ x.u = l.rcd.offValue ∧ x.closed = false ∧ x.offPending = false ∧ x.pendingOut = none)) ∧
    (l.pendingOut = some o → o.due ≤ max s.m.clk t →
      Makes (.loopApply t n false) s (fun m => ∃ x, tget m.lpe.loops n = some x ∧ x.u = o.u ∧ x.i = o.i ∧ x.applied = true ∧ x.pendingOut = none) ∧
      Makes (.loopApply t n true) s (fun m => bitOf m.lpe.events.toNat 0 = true ∧ bitOf m.flt.active.toNat 0x0B = true ∧
        ∃ x, tget m.lpe.loops n = some x ∧ x.u = l.u ∧ x.i = l.i ∧ x.pendingOut = none)) ∧
    (l.reaction = some 2 → l.mdSince + 1000000 * l.rcd.mdTimeMs ≤ max s.m.clk t →
      Makes (.modelDriveExpiry t n) s (fun m => ∃ x, tget m.lpe.loops n = some x ∧ x.reaction = some l.rcd.reactAfter ∧ x.mdExpired = true))

/-- The reactions of a loop rank SAFE, FALLBACK, HOLD, MODEL_DRIVE (R133), and what each drives (R132): the output held at entry, FALLBACK,
SAFE_VALUE, each at REACT_RATE or in one step. -/
def ReactionsDrive : Prop :=
  ∀ (l : Loop) (u : F32),
    reactTarget l 0 u = l.holdTarget ∧ reactTarget l 1 u = l.rcd.fallback ∧ reactTarget l 3 u = l.rcd.safeValue ∧
    (lt32 0 l.rcd.reactRate = false → ∀ x, rampOut l u x = x) ∧
    (∀ a b, higher (some a) b = if reactRank a < reactRank b then some b else some a) ∧
    reactRank 3 > reactRank 1 ∧ reactRank 1 > reactRank 0 ∧ reactRank 0 > reactRank 2

/-- An integer result beyond its type's range takes the nearest limit and UNCERTAIN; one in range is exact with the quality given (R98). -/
def IntegersSaturate : Prop :=
  ∀ (ty : Nat) (x : Int) (q : Qual), tyReal ty = false →
    asInt ty (satVal ty x q).v = max (tyMin ty) (min x (tyMax ty)) ∧
    (tyMin ty ≤ x → x ≤ tyMax ty → (satVal ty x q).q = q) ∧ (x < tyMin ty ∨ tyMax ty < x → (satVal ty x q).q = worse q 0x4000)

/-- Integer arithmetic (R96 to R98, R100): the saturated result of the values under TYPE, with the worst quality of the operands; a division by zero
gives 0, BAD; the steps are those of R96 and R97. -/
def DicIntegers : Prop :=
  ∀ (s : State) (core ty d a b : Nat), tyReal ty = false →
    Executes (.dicAdd core ty d a b) s core 1 1 (fun _ i => i.setReg d (satVal ty (asInt ty (i.reg a).v + asInt ty (i.reg b).v) (worse (i.reg a).q (i.reg b).q))) ∧
    Executes (.dicSub core ty d a b) s core 1 1 (fun _ i => i.setReg d (satVal ty (asInt ty (i.reg a).v - asInt ty (i.reg b).v) (worse (i.reg a).q (i.reg b).q))) ∧
    Executes (.dicMul core ty d a b) s core 1 (if ty = 3 then 3 else 2) (fun _ i => i.setReg d (satVal ty (asInt ty (i.reg a).v * asInt ty (i.reg b).v) (worse (i.reg a).q (i.reg b).q))) ∧
    Executes (.dicDiv core ty d a b) s core 1 (if ty = 3 then 16 else 8) (fun _ i => i.setReg d (if asInt ty (i.reg b).v = 0 then { v := 0, q := 0x0000 }
      else satVal ty (Int.tdiv (asInt ty (i.reg a).v) (asInt ty (i.reg b).v)) (worse (i.reg a).q (i.reg b).q))) ∧
    Executes (.dicMod core ty d a b) s core 1 (if ty = 3 then 16 else 8) (fun _ i => i.setReg d (if asInt ty (i.reg b).v = 0 then { v := 0, q := 0x0000 }
      else satVal ty (Int.tmod (asInt ty (i.reg a).v) (asInt ty (i.reg b).v)) (worse (i.reg a).q (i.reg b).q))) ∧
    Executes (.dicNeg core ty d a) s core 1 1 (fun _ i => i.setReg d (satVal ty (-asInt ty (i.reg a).v) (i.reg a).q)) ∧
    Executes (.dicAbs core ty d a) s core 1 1 (fun _ i => i.setReg d (satVal ty |asInt ty (i.reg a).v| (i.reg a).q)) ∧
    Executes (.dicMin core ty d a b) s core 1 1 (fun _ i => i.setReg d (satVal ty (min (asInt ty (i.reg a).v) (asInt ty (i.reg b).v)) (worse (i.reg a).q (i.reg b).q))) ∧
    Executes (.dicMax core ty d a b) s core 1 1 (fun _ i => i.setReg d (satVal ty (max (asInt ty (i.reg a).v) (asInt ty (i.reg b).v)) (worse (i.reg a).q (i.reg b).q))) ∧
    Executes (.dicLim core ty d a b) s core 1 1 (fun _ i => i.setReg d (satVal ty (min (max (asInt ty (i.reg d).v) (asInt ty (i.reg a).v)) (asInt ty (i.reg b).v))
      (if asInt ty (i.reg b).v < asInt ty (i.reg a).v then worse (worse (i.reg d).q (worse (i.reg a).q (i.reg b).q)) 0x4000 else worse (i.reg d).q (worse (i.reg a).q (i.reg b).q))))

/-- Real arithmetic (R96 to R98, R100): the operation of IEEE 754 on the operands' patterns, BAD where the result is a NaN or infinite and otherwise
the operands' worst quality, at the step costs of R96 and R97. -/
def DicReals : Prop :=
  ∀ (s : State) (core ty d a b : Nat), ty = 4 ∨ ty = 5 →
    (∀ p q, (realVQ ty p q).v = BitVec.ofNat 64 p ∧ (realVQ ty p q).q = if fFinite (tyFmt ty) p then q else 0x0000) ∧
    Executes (.dicAdd core ty d a b) s core 1 (if ty = 4 then 2 else 3) (fun _ i => i.setReg d (realVQ ty (fAdd (tyFmt ty) (asPat ty (i.reg a).v) (asPat ty (i.reg b).v)) (worse (i.reg a).q (i.reg b).q))) ∧
    Executes (.dicSub core ty d a b) s core 1 (if ty = 4 then 2 else 3) (fun _ i => i.setReg d (realVQ ty (fSub (tyFmt ty) (asPat ty (i.reg a).v) (asPat ty (i.reg b).v)) (worse (i.reg a).q (i.reg b).q))) ∧
    Executes (.dicMul core ty d a b) s core 1 (if ty = 4 then 2 else 4) (fun _ i => i.setReg d (realVQ ty (fMul (tyFmt ty) (asPat ty (i.reg a).v) (asPat ty (i.reg b).v)) (worse (i.reg a).q (i.reg b).q))) ∧
    Executes (.dicDiv core ty d a b) s core 1 (if ty = 4 then 8 else 16) (fun _ i => i.setReg d (realVQ ty (fDiv (tyFmt ty) (asPat ty (i.reg a).v) (asPat ty (i.reg b).v)) (worse (i.reg a).q (i.reg b).q))) ∧
    Executes (.dicSqrt core ty d a) s core 1 (if ty = 4 then 12 else 24) (fun _ i => i.setReg d (realVQ ty (fSqrt (tyFmt ty) (asPat ty (i.reg a).v)) (i.reg a).q)) ∧
    Executes (.dicExp core ty d a) s core 1 (if ty = 4 then 24 else 40) (fun _ i => i.setReg d (realVQ ty (fExpo (tyFmt ty) (asPat ty (i.reg a).v)) (i.reg a).q)) ∧
    Executes (.dicLn core ty d a) s core 1 (if ty = 4 then 24 else 40) (fun _ i => i.setReg d (realVQ ty (fLn (tyFmt ty) (asPat ty (i.reg a).v)) (i.reg a).q)) ∧
    Executes (.dicSin core ty d a) s core 1 (if ty = 4 then 24 else 40) (fun _ i => i.setReg d (realVQ ty (fSin (tyFmt ty) (asPat ty (i.reg a).v)) (i.reg a).q)) ∧
    Executes (.dicCos core ty d a) s core 1 (if ty = 4 then 24 else 40) (fun _ i => i.setReg d (realVQ ty (fCos (tyFmt ty) (asPat ty (i.reg a).v)) (i.reg a).q)) ∧
    Executes (.dicAtan2 core ty d a b) s core 1 (if ty = 4 then 28 else 48) (fun _ i => i.setReg d (realVQ ty (fAtan2 (tyFmt ty) (asPat ty (i.reg a).v) (asPat ty (i.reg b).v)) (worse (i.reg a).q (i.reg b).q)))

/-- The bitwise instructions (R96, R97, R100): logical on the width of TYPE with B taken modulo 64; a shift by the width or more gives zero, BITGET
at or above the width FALSE, and BITSET there leaves the value. -/
def DicBits : Prop :=
  ∀ (s : State) (core ty d a b : Nat),
    Executes (.dicAnd core ty d a b) s core 1 1 (fun _ i => i.setReg d { v := encodeVal ty ((i.reg a).v &&& (i.reg b).v), q := worse (i.reg a).q (i.reg b).q }) ∧
    Executes (.dicOr core ty d a b) s core 1 1 (fun _ i => i.setReg d { v := encodeVal ty ((i.reg a).v ||| (i.reg b).v), q := worse (i.reg a).q (i.reg b).q }) ∧
    Executes (.dicXor core ty d a b) s core 1 1 (fun _ i => i.setReg d { v := encodeVal ty ((i.reg a).v ^^^ (i.reg b).v), q := worse (i.reg a).q (i.reg b).q }) ∧
    Executes (.dicNot core ty d a) s core 1 1 (fun _ i => i.setReg d { v := encodeVal ty (~~~(i.reg a).v), q := (i.reg a).q }) ∧
    Executes (.dicShl core ty d a b) s core 1 1 (fun _ i => i.setReg d {
      v := encodeVal ty (BitVec.ofNat 64 ((i.reg a).v.toNat % 2 ^ tyWidth ty * 2 ^ ((i.reg b).v.toNat % 64) % 2 ^ tyWidth ty)), q := worse (i.reg a).q (i.reg b).q }) ∧
    Executes (.dicShr core ty d a b) s core 1 1 (fun _ i => i.setReg d {
      v := encodeVal ty (BitVec.ofNat 64 ((i.reg a).v.toNat % 2 ^ tyWidth ty / 2 ^ ((i.reg b).v.toNat % 64))), q := worse (i.reg a).q (i.reg b).q }) ∧
    Executes (.dicBitget core ty d a b) s core 1 1 (fun _ i => i.setReg d (boolVQ (bitOf (widthBits ty (i.reg a).v) (bitCount (i.reg b))) (worse (i.reg a).q (i.reg b).q))) ∧
    Executes (.dicBitset core ty d a b) s core 1 1 (fun _ i => i.setReg d (bitsetVQ ty (i.reg d) (i.reg a) (i.reg b))) ∧
    (∀ x y z : VQ, tyWidth ty ≤ y.v.toNat % 64 → bitsetVQ ty x z y = { v := encodeVal ty x.v, q := worse x.q z.q } ∧ bitOf (widthBits ty x.v) (bitCount y) = false)

/-- Control flow (R96, R101, R102, R105): branches go forward from the word after the instruction, LOOP takes min(A, MAX) iterations of its body,
LIDX names the present one, CALL and RET nest, NOW is the release instant, and END makes the task COMMITTING at this instant and frees its core
(R77, R80). -/
def DicControl : Prop :=
  ∀ (s : State) (core a d o x : Nat),
    Executes (.dicBr core o) s core 1 1 (fun _ i => { i with pc := i.pc + o }) ∧
    Executes (.dicBrt core a o) s core 1 1 (fun _ i => if bitOf (i.reg a).v.toNat 0 then { i with pc := i.pc + o } else i) ∧
    Executes (.dicBrf core a o) s core 1 1 (fun _ i => if bitOf (i.reg a).v.toNat 0 then i else { i with pc := i.pc + o }) ∧
    Executes (.dicLoop core a o x) s core 2 2 (fun _ i => enterLoop i (min ((i.reg a).v.toNat % 2 ^ 32) x) o) ∧
    (∀ i : Inst, (enterLoop i 0 o).pc = i.pc + o ∧ (enterLoop i 0 o).loops = i.loops ∧ (enterLoop i x o).steps = i.steps + 2 * x ∧
      (0 < x → 0 < o → (enterLoop i x o).pc = i.pc ∧ (enterLoop i x o).loops = { start := i.pc, stop := i.pc + o, total := x, idx := 0, depth := i.calls.length } :: i.loops)) ∧
    (∀ (i : Inst) f rest, i.loops = f :: rest → f.depth = i.calls.length → i.pc = f.stop → f.idx + 1 < f.total →
      loopEnd 9 i = { i with pc := f.start, loops := { f with idx := f.idx + 1 } :: rest }) ∧
    (∀ (i : Inst) f, i.loops = [f] → i.pc = f.stop → f.depth = i.calls.length → f.total ≤ f.idx + 1 → loopEnd 9 i = { i with loops := [] }) ∧
    Executes (.dicLidx core d) s core 1 1 (fun _ i => i.setReg d { v := BitVec.ofNat 64 ((i.loops.head?.map LoopFrame.idx).getD 0), q := 0xC000 }) ∧
    Executes (.dicCall core o) s core 2 2 (fun _ i => { i with calls := i.pc :: i.calls, pc := o }) ∧
    (∀ k t i r rest, runningOn s.m core = some (k, t, i) → i.calls = r :: rest → i.loops = [] →
      exec (.dicRet core) s = .next { s with m := { s.m with pge := { s.m.pge with tasks := tset s.m.pge.tasks k { t with
        inst := some { i with pc := r, steps := i.steps + 1, calls := rest } } } } }) ∧
    Executes (.dicNow core d) s core 1 1 (fun _ i => i.setReg d { v := BitVec.ofNat 64 i.release, q := 0xC000 }) ∧
    (∀ k t i, runningOn s.m core = some (k, t, i) → ∃ u, exec (.dicEnd core) s = .next u ∧ (∃ y j, taskAt u.m k = some y ∧ y.st = .committing ∧ y.inst = some j ∧
      j.began = s.m.clk ∧ j.wbuf = i.wbuf ∧ j.reqs = i.reqs) ∧ tget u.m.pge.running core = none ∧ (∀ n, n ≠ k → taskAt u.m n = taskAt s.m n) ∧
      u.m.sig = s.m.sig ∧ u.pending = s.pending)

/-- The service requests (R108, R109): each queues its number with V0 to V4 for the commit, up to 64 of an instance. -/
def ServiceRequests : Prop :=
  ∀ (s : State) (core : Nat) (c : Instr) (n : Nat),
    (c, n) ∈ [(Instr.sysLoopBank core, 0x01), (.sysLoopEnable core, 0x02), (.sysLoopCoef core, 0x03), (.sysPlanStart core, 0x10), (.sysPlanPause core, 0x11),
      (.sysPlanResume core, 0x12), (.sysPlanAbort core, 0x13), (.sysUnitCmd core, 0x20), (.sysUnitResume core, 0x21), (.sysMsgSend core, 0x30), (.sysHostEvent core, 0x31)] →
    Executes c s core 1 4 (fun _ i => if i.reqs.length < 64 then { i with reqs := i.reqs ++ [{ num := n, v0 := (i.reg 0).v, v1 := (i.reg 1).v, v2 := (i.reg 2).v, v3 := (i.reg 3).v, v4 := (i.reg 4).v }] } else i)

/-- The function blocks (R106, R107): each writes V0, V1 where it has one, and its own entry, at the step cost of R106. -/
def FunctionBlocks : Prop :=
  ∀ (s : State) (core n : Nat),
    Blocks (.fbTon core n) s core n 12 (fun _ i e => ton i e (worse (worse 0xC000 (i.reg 0).q) (i.reg 1).q)) ∧
    Blocks (.fbTof core n) s core n 12 (fun _ i e => tof i e (worse (worse 0xC000 (i.reg 0).q) (i.reg 1).q)) ∧
    Blocks (.fbTp core n) s core n 12 (fun _ i e => tp i e (worse (worse 0xC000 (i.reg 0).q) (i.reg 1).q)) ∧
    Blocks (.fbCtu core n) s core n 8 (fun _ i e => counter i e (worse (worse (worse 0xC000 (i.reg 0).q) (i.reg 1).q) (i.reg 2).q) true) ∧
    Blocks (.fbCtd core n) s core n 8 (fun _ i e => counter i e (worse (worse (worse 0xC000 (i.reg 0).q) (i.reg 1).q) (i.reg 2).q) false) ∧
    Blocks (.fbEdge core n) s core n 4 (fun _ i e => { st := { e with w0 := boolVal (i.b 0) }, v0 := boolVQ (i.b 0 && decide (e.w0 = 0)) (worse 0xC000 (i.reg 0).q), v1 := some (boolVQ (!i.b 0 && decide (e.w0 = 1)) (worse 0xC000 (i.reg 0).q)) }) ∧
    Blocks (.fbSetl core n) s core n 4 (fun _ i e => latch i e (worse (worse 0xC000 (i.reg 0).q) (i.reg 1).q) true) ∧
    Blocks (.fbRstl core n) s core n 4 (fun _ i e => latch i e (worse (worse 0xC000 (i.reg 0).q) (i.reg 1).q) false) ∧
    (∀ k t i, runningOn s.m core = some (k, t, i) → ∃ u j, exec (.fbHyst core n) s = .next u ∧ taskAt u.m k = some { t with inst := some j } ∧ j.steps = i.steps + 6 ∧
      ((j.regs[0]?).isSome = true → bitOf (j.reg 0).v.toNat 0 = (if lt64 (i.r64 1) (i.r64 0) then true else if lt64 (i.r64 0) (i.r64 2) then false
        else ((i.fbi[n]?).getD {}).w0 == 1))) ∧
    Blocks (.fbFilt1 core n) s core n 20 (fun t i e => heldOr i e (worse (worse 0xC000 (i.reg 0).q) (i.reg 1).q) (if i.i64 1 ≤ 0 then i.r64 0 else if elapsed t i = 0 then e.w0
      else Config.lag64 e.w0 (i.r64 0) (elapsed t i) (i.i64 1))) ∧
    Blocks (.fbRampl core n) s core n 20 (fun t i e => heldOr i e (worse (worse 0xC000 (i.reg 0).q) (i.reg 1).q) (if le64 (i.r64 1) 0 then e.w0
      else approach e.w0 (i.r64 0) (overTime (i.r64 1) (elapsed t i)))) ∧
    Blocks (.fbTotal core n) s core n 16 (fun t i e => heldOr i e (worse (worse 0xC000 (i.reg 0).q) (i.reg 1).q) (if i.b 1 then 0
      else add64 e.w0 (overTime (i.r64 0) (elapsed t i)))) ∧
    Blocks (.fbDeadb core n) s core n 6 (fun _ i e => { st := e, v0 := realVQ 5 (deadband (i.r64 0) (i.r64 1)).toNat (worse (worse 0xC000 (i.reg 0).q) (i.reg 1).q) }) ∧
    (∀ k t i, runningOn s.m core = some (k, t, i) → ∃ u j, exec (.fbInterp core n) s = .next u ∧ taskAt u.m k = some { t with inst := some j } ∧ j.steps = i.steps + 40 ∧
      ((imageOf s.m t).bind (fun g => interpTable g.consts (xIndex i 1)) = none → 0 < i.regs.length → j.reg 0 = { v := 0, q := 0x0000 }) ∧
      (∀ ps, (imageOf s.m t).bind (fun g => interpTable g.consts (xIndex i 1)) = some ps → isNan64 (i.r64 0) = false → 0 < i.regs.length →
        (j.reg 0).v = BitVec.ofNat 64 (interp ps (i.r64 0)).toNat))

/-- What the timers, counters and latches output (R106): TON turns TRUE once IN has been TRUE for PT, TOF stays TRUE for PT after its fall, a
counter counts rising inputs within INT32 and yields to its reset or load, SETL lets the set and RSTL the reset win, and a block whose main input is
BAD holds its state, UNCERTAIN (R107). -/
def BlocksBehave : Prop :=
  ∀ (i : Inst) (e : Fbi) (q : Qual) (y : F64),
    (i.b 0 = false → (ton i e q).v0 = boolVQ false q ∧ (ton i e q).st = {}) ∧
    (i.b 0 = true → e.w0 = 1 → (ton i e q).v0 = boolVQ (decide (i.i64 1 ≤ ((i.release - e.w1.toNat : Nat) : Int))) q ∧ (ton i e q).st.w1 = e.w1) ∧
    (i.b 0 = true → (tof i e q).v0 = boolVQ true q ∧ (tof i e q).st.w0 = 1) ∧
    (i.b 0 = false → e.w0 = 0 → (tof i e q).v0 = boolVQ false q) ∧
    (i.b 0 = false → e.w0 = 2 → (tof i e q).v0 = boolVQ (decide (((i.release - e.w1.toNat : Nat) : Int) < i.i64 1)) q) ∧
    (i.b 0 = true → e.w0 = 0 → i.b 1 = false → asInt 1 (counter i e q true).st.w1 = min (asInt 1 e.w1 + 1) 2147483647 ∧
      asInt 1 (counter i e q false).st.w1 = max (asInt 1 e.w1 - 1) (-2147483648)) ∧
    (i.b 1 = true → asInt 1 (counter i e q true).st.w1 = 0 ∧ asInt 1 (counter i e q false).st.w1 = i.i32 2) ∧
    (i.b 0 = true → (latch i e q true).v0 = boolVQ true q) ∧ (i.b 1 = true → (latch i e q false).v0 = boolVQ false q) ∧
    (i.b 0 = false → i.b 1 = false → (latch i e q true).v0 = boolVQ (decide (e.w0 = 1)) q ∧ (latch i e q false).v0 = boolVQ (decide (e.w0 = 1)) q) ∧
    (isBad (i.reg 0).q = true → heldOr i e q y = { st := e, v0 := { v := e.w0, q := 0x4000 } })

/-- The host comes and goes (R332 to R336): attach, HOST_READY with the replay of the units on each active event ring, detach with what was in
flight discarded, counted or left to end, and the watchdog that detaches a silent host. -/
def HostAttachment : Prop :=
  ∀ (s : State) (t a b : Nat) (c : DetachCause), On s →
    (s.m.hif.attached = false → s.m.pwr.st ≠ .fail →
      Makes (.hostAttach t a b) s (fun m => m.hif.attached = true ∧ m.hif.speed = a ∧ m.hif.width = b ∧ bitOf m.hif.events.toNat 1 = true)) ∧
    (s.m.hif.attached = true →
      Makes (.hostDetach t c) s (fun m => m.hif.attached = false ∧ m.hif.ready = false ∧ m.hif.flights = [] ∧ m.hif.compl = [] ∧
        bitOf m.hif.events.toNat 0 = true ∧ (∀ n r, tget m.hif.rings n = some r → r.st = .disabled) ∧
        (∀ f ∈ s.m.hif.flights, f.started = true → f.finished = false → (f.ring, f.index) ∈ m.hif.orphans) ∧
        (m.pge = s.m.pge ∧ m.lpe = s.m.lpe ∧ m.pln = s.m.pln ∧ m.fio = s.m.fio))) ∧
    (bootHeld s.m = false → s.m.gen.softLock = false → s.m.hif.attached = true → s.m.hif.ready = false →
      Makes (.hostReadySet t) s (fun m => m.hif.ready = true ∧ ∀ n, 32 ≤ n → n ≤ 47 → (ringOf s.m n).st = .active →
        (ringOf m n).replaying = true ∧ (ringOf m n).before = (ringOf s.m n).queue.length ∧
        (ringOf m n).replay = if bitOf (ringOf s.m n).mask.toNat 1 then subtree s.m 0 else [])) ∧
    (s.m.gen.softLock = false → Makes (.hostReadyClear t) s (fun m => m.hif.ready = false ∧
      (∀ n r, tget s.m.hif.rings n = some r → ∃ x, tget m.hif.rings n = some x ∧ x.queue = r.queue ∧ x.replaying = false))) ∧
    Makes (.hostWdKick t) s (fun m => m.hif.wdAt = max s.m.clk t) ∧
    (s.m.hif.attached = true → s.m.hif.wdMs ≠ 0 → s.m.hif.wdAt + 1000000 * s.m.hif.wdMs ≤ max s.m.clk t →
      Makes (.hostWdExpiry t) s (fun m => m.hif.attached = false ∧ bitOf m.hif.events.toNat 4 = true))

/-- Rings go in and out of service (R316): ENABLE makes a ring that passes its checks ACTIVE at index 0, and a C1 ring PENDING until its admission
is done; written 0 it drains, or is DISABLED with nothing in flight; a completion ring in use is not disabled. -/
def RingsInService : Prop :=
  ∀ (s : State) (t n : Nat), On s → n < 64 → (regHeld s.m (0x1800 + 0x20 * n + 0x10) = false) → s.m.gen.softLock = false →
    ((ringOf s.m n).enable = false → enableOk s.m n = true → isC1Ring s.m n = false →
      Makes (.ringEnable t n) s (fun m => (ringOf m n).st = .active ∧ (ringOf m n).index = 0 ∧ (ringOf m n).doorbell = 0 ∧ (ringOf m n).enable = true)) ∧
    ((ringOf s.m n).enable = false → enableOk s.m n = true → isC1Ring s.m n = true →
      Makes (.ringEnable t n) s (fun m => (ringOf m n).st = .pending)) ∧
    ((ringOf s.m n).enable = false → enableOk s.m n = false → Gives (.ringEnable t n) s t (regRefuse (seen s t) .badField (0x1800 + 0x20 * n + 0x10) 1)) ∧
    ((ringOf s.m n).st = .pending → Makes (.ringAdmissionDone t n) s (fun m =>
      (ringOf m n).st = (if rateAdmitted s.m then .active else .disabled) ∧ (ringOf m n).enable = rateAdmitted s.m)) ∧
    ((ringOf s.m n).enable = true → (ringOf s.m n).st = .active → (isCompletion n && cringInUse s.m n) = false →
      Makes (.ringDisable t n) s (fun m => (ringOf m n).enable = false ∧ (ringOf m n).st = (if flightsOf s.m n = 0 then .disabled else .draining))) ∧
    ((ringOf s.m n).enable = true → isCompletion n = true → cringInUse s.m n = true →
      Gives (.ringDisable t n) s t (regRefuse (seen s t) .locked (0x1800 + 0x20 * n + 0x10) 0))

/-- Doorbells (R315): ignored for a DISABLED or PENDING ring, taken by one in service when valid, and otherwise the ring is in ERROR with
DOORBELL_ERR. -/
def Doorbells : Prop :=
  ∀ (s : State) (t n : Nat) (v : W32), On s →
    (isSubmission n = true → ((ringOf s.m n).st = .disabled ∨ (ringOf s.m n).st = .pending) → Gives (.doorbellSubmit t n v) s t (seen s t)) ∧
    (isSubmission n = true → (ringOf s.m n).st = .active → bellOk (ringOf s.m n) false v = true →
      Gives (.doorbellSubmit t n v) s t (setRing (seen s t) n { ringOf s.m n with doorbell := v.truncate 16 })) ∧
    (isSubmission n = true → (ringOf s.m n).st = .active → bellOk (ringOf s.m n) false v = false →
      Makes (.doorbellSubmit t n v) s (fun m => (ringOf m n).st = .error ∧ (ringOf m n).doorbell = (ringOf s.m n).doorbell ∧
        bitOf m.hif.events.toNat 2 = true)) ∧
    ((isCompletion n || isEvent n) = true → (ringOf s.m n).st = .active → bellOk (ringOf s.m n) true v = true →
      Gives (.doorbellConsume t n v) s t (setRing (seen s t) n { ringOf s.m n with doorbell := v.truncate 16 })) ∧
    ((isCompletion n || isEvent n) = true → (ringOf s.m n).st = .active → bellOk (ringOf s.m n) true v = false →
      Makes (.doorbellConsume t n v) s (fun m => (ringOf m n).st = .error ∧ bitOf m.hif.events.toNat 2 = true))

/-- A descriptor is fetched where its ring may be served and no ring of a higher level waits (R319): the index goes on and the operation is in
flight; an unknown OPCODE and an operation of another ring complete at once (R318); a fetch that fails leaves the ring in ERROR (R316). -/
def DescriptorsAreFetched : Prop :=
  ∀ (s : State) (t n : Nat) (d : List Byte), On s → fetchable (seen s t) n = true → noneBefore (seen s t) n = true →
    Makes (.descriptorFetch t n d false) s (fun m => (ringOf m n).st = .error ∧ m.hif.flights = s.m.hif.flights) ∧
    Makes (.descriptorFetch t n d true) s (fun m => (ringOf m n).index = ixNext (ringOf s.m n).size (ringOf s.m n).index) ∧
    (cringOk (seen s t) (descReq n (ringOf s.m n) d) = true → permitted (seen s t) (u16 d 0) n = true → (ringUse (u16 d 0)).isSome = true →
      Makes (.descriptorFetch t n d true) s (fun m => m.hif.compl = s.m.hif.compl ∧ ∃ f, m.hif.flights = s.m.hif.flights ++ [f] ∧ f.ring = n ∧
        f.index = ixPos (ringOf s.m n).index ∧ f.tag = w32 d 4 ∧ f.opcode = u16 d 0 ∧ f.fence = bitOf (u16 d 2) 1 ∧ f.started = false ∧ f.finished = false)) ∧
    (cringOk (seen s t) (descReq n (ringOf s.m n) d) = true → ringUse (u16 d 0) = none → s.m.hif.orphans = [] →
      Makes (.descriptorFetch t n d true) s (fun m => ∃ c, m.hif.compl = s.m.hif.compl ++ [c] ∧ c.status = .badOpcode ∧ c.tag = w32 d 4 ∧
        c.ring = n ∧ c.index = ixPos (ringOf s.m n).index))

/-- Ring indices (R314): the next index counts up and toggles its phase as the position wraps, and the distance between two indices grows by one
entry at each step. -/
def RingIndicesWrap : Prop :=
  ∀ (n : Nat) (i j : BitVec 16), 4 ≤ n → n ≤ 15 → ixPos i < 2 ^ n → ixPos j < 2 ^ n → 0 ≤ dist (2 ^ n) i j → dist (2 ^ n) i j < 2 ^ n →
    dist (2 ^ n) i (ixNext (2 ^ n) j) = dist (2 ^ n) i j + 1 ∧ ixPos (ixNext (2 ^ n) j) < 2 ^ n ∧ dist (2 ^ n) i i = 0

/-- What the module writes into the rings (R319, R325, R329, R331): the oldest completion of a ring and its slot's end, the next queued event with
its sequence number, an MSI-X message spaced by MOD_US; a write that fails detaches the host (R333). -/
def EntriesAreWritten : Prop :=
  ∀ (s : State) (t n : Nat) (c : Compl) (e : Event) (r' : Ring), On s →
    (s.m.hif.compl.find? (fun c => c.cring == n) = some c → s.m.hif.attached = true → hasRoom (ringOf s.m n) = true →
      Gives (.completionWrite t n true) s t (writeCompletion (seen s t) n c) ∧
      Makes (.completionWrite t n true) s (fun m => m.hif.compl = s.m.hif.compl.erase c) ∧
      Makes (.completionWrite t n false) s (fun m => m.hif.attached = false ∧ m.hif.ready = false ∧ m.hif.flights = [] ∧ m.hif.compl = [])) ∧
    (isEvent n = true → s.m.hif.attached = true → s.m.hif.ready = true → (ringOf s.m n).st = .active → hasRoom (ringOf s.m n) = true →
      nextEntry (seen s t) (ringOf s.m n) = some (e, r') →
      Gives (.eventDelivery t n true) s t (setRing (seen s t) n { putEntry r' (eventBytes (ringOf s.m n) e) with seq := (ringOf s.m n).seq + 1 })) ∧
    ((ringOf s.m n).overflow = none → (ringOf s.m n).replaying = false → ∀ x rest, (ringOf s.m n).queue = x :: rest →
      ∃ r, nextEntry (seen s t) (ringOf s.m n) = some (x, r) ∧ r.queue = rest) ∧
    ((ringOf s.m n).msiDue = true → s.m.hif.attached = true → (∀ x, (ringOf s.m n).lastMsi = some x → x + 1000 * (ringOf s.m n).modUs ≤ max s.m.clk t) →
      Gives (.msixMessage t n) s t (setRing (seen s t) n { ringOf s.m n with
        msiDue := false, lastMsi := some (max s.m.clk t), modUs := (ringOf s.m n).modUsNew }))

/-- A written completion is 32 bytes with TAG, STATUS, the phase that the host looks for and the results at their places (R315, R325). -/
def CompletionLayout : Prop :=
  ∀ (r : Ring) (c : Compl), c.ring < 256 →
    (complBytes r c).length = 32 ∧ w32 (complBytes r c) 0 = c.tag ∧ u16 (complBytes r c) 4 = c.status.code ∧
    bitOf (u16 (complBytes r c) 6) 0 = !ixPhase r.index ∧ bitOf (u16 (complBytes r c) 6) 1 = c.register ∧ u8 (complBytes r c) 8 = c.ring ∧
    w32 (complBytes r c) 12 = c.res0 ∧ w32 (complBytes r c) 16 = c.res1 ∧ w32 (complBytes r c) 20 = c.res2 ∧ w64 (complBytes r c) 24 = c.res64

/-- An event queue never passes 8,192 entries: with room the event joins at the end, and a full queue loses its oldest into OVERFLOW, which counts
it and keeps its kind (R331). -/
def EventQueuesBounded : Prop :=
  ∀ (r : Ring) (e : Event),
    (r.queue.length < 8192 → (enqueue r e).queue = r.queue ++ [e] ∧ (enqueue r e).overflow = r.overflow) ∧
    (r.queue.length ≤ 8192 → (enqueue r e).queue.length ≤ 8192) ∧
    (∀ o rest, r.queue = o :: rest → 8192 ≤ r.queue.length → (enqueue r e).queue = rest ++ [e] ∧
      ∃ v, (enqueue r e).overflow = some v ∧ (r.overflow = none → v.merged = 1 ∧ v.time = o.time ∧ v.wrap = o.wrap) ∧
        (∀ w, r.overflow = some w → v.merged = satInc w.merged ∧ v.time = w.time) ∧ v.newest = o.time ∧
        (o.kind < 16 → bitOf v.mask.toNat o.kind = true))

/-- What a write of a BAR0 register does, field by field (R11, R12, R327): a value that is held changes nothing; SOFT_LOCK, PROTECTED, LOCKED and a
value out of range refuse the field in that order; a write that is not aligned is BAD_FIELD; at most one refusal is posted, and only with
HOST_READY. -/
def RegisterWriteRules : Prop :=
  ∀ (f : Field) (soft : Bool) (n off : Nat) (v : W32) (m : Mod) (st : Status),
    (n = f.cur → f.verdict soft n = 0) ∧
    (n ≠ f.cur → soft = true → f.free = false → f.verdict soft n = 1) ∧
    (n ≠ f.cur → (soft = false ∨ f.free = true) → f.prot = true → f.verdict soft n = 2) ∧
    (n ≠ f.cur → (soft = false ∨ f.free = true) → f.prot = false → f.held = true → f.verdict soft n = 3) ∧
    (n ≠ f.cur → (soft = false ∨ f.free = true) → f.prot = false → f.held = false → f.verdict soft n = if f.ok n then 0 else 4) ∧
    (regHeld m off = false → off % 4 ≠ 0 → registerWrite m off v = regRefuse m .badField off v) ∧
    ((regRefuse m st off v).hif.compl.length = m.hif.compl.length + (if m.hif.ready then 1 else 0) ∧
      bitOf (regRefuse m st off v).hif.events.toNat 3 = true ∧ (regRefuse m st off v).hif.rings = m.hif.rings)

/-- Register writes as the host sees them (R10 to R12, R327, R452, R501 to R503): SCRATCH and SOFT_LOCK take values under SOFT_LOCK too; WINDOW_S
takes 1 to 30 and SOFT_LOCK keeps it; a W1C register clears the bits written 1; an RWP field keeps its value; a reserved offset takes nothing, and
it reads as zero (R500), as an unaligned read does; TIM_NOW_LO reads module time (R344). -/
def RegisterWrites : Prop :=
  ∀ (s : State) (t : Nat) (v : W32), On s → bootHeld s.m = false →
    Makes (.registerWrite t 0x14 v) s (fun m =>
      m = { seen s t with gen := { s.m.gen with scratch := v }, clk := max s.m.clk t } ∧ registerRead m 0x14 = v) ∧
    Makes (.registerWrite t 0x18 v) s (fun m => m.gen = { s.m.gen with softLock := bitOf v.toNat 0 }) ∧
    (s.m.gen.softLock = false → 1 ≤ v.toNat % 32 → v.toNat % 32 ≤ 30 → Makes (.registerWrite t 0x15008 v) s (fun m => m.nv.windowS = v.toNat % 32)) ∧
    (s.m.nv.windowS ≠ v.toNat % 32 → (s.m.gen.softLock = true ∨ v.toNat % 32 = 0 ∨ v.toNat % 32 = 31) →
      Makes (.registerWrite t 0x15008 v) s (fun m => m.nv = s.m.nv ∧ bitOf m.hif.events.toNat 3 = true)) ∧
    Makes (.registerWrite t 0x3018 v) s (fun m => ∀ i, i < 4 → bitOf m.sig.refused.toNat i = (bitOf s.m.sig.refused.toNat i && !bitOf v.toNat i)) ∧
    Makes (.registerWrite t 0xA004 v) s (fun m => m.saf = s.m.saf) ∧
    Makes (.registerWrite t 0xB004 v) s (fun m => m.lks = s.m.lks) ∧
    Gives (.registerWrite t 0x1018 v) s t (seen s t) ∧
    (∀ off, (0x16000 ≤ off ∨ off % 4 ≠ 0) → registerRead s.m off = 0) ∧
    registerRead s.m 0xE00C = time32 s.m ∧
    Gives (.timNowLoRead t) s t { seen s t with tim := { s.m.tim with nowHi := BitVec.ofNat 32 (wrapNo (seen s t)) } } ∧
    (∀ b, s.m.gen.softLock = false →
      Gives (.releaseEnWrite t b) s t { seen s t with pge := { s.m.pge with releaseEn := b, releaseAt := max s.m.clk t } })

/-- The yo-yo filter (R167): the count moves by one at each sample between 0 and FILT_CEIL, the input turns TRUE at FILT_THR and FALSE at FILT_CEIL
− FILT_THR, and nothing else changes it. -/
def YoyoFilter : Prop :=
  ∀ (c : Chan) (clk : Nat), c.count ≤ c.rcd.filtCeil →
    (yoyo c true clk).count = min (c.count + 1) c.rcd.filtCeil ∧ (yoyo c false clk).count = c.count - 1 ∧
    (c.q = false → (yoyo c true clk).q = decide (c.rcd.filtThr ≤ min (c.count + 1) c.rcd.filtCeil)) ∧
    (c.q = true → 0 < c.rcd.filtThr → (yoyo c true clk).q = !decide (min (c.count + 1) c.rcd.filtCeil + c.rcd.filtThr ≤ c.rcd.filtCeil)) ∧
    (c.q = true → (yoyo c false clk).q = !decide (c.count - 1 + c.rcd.filtThr ≤ c.rcd.filtCeil)) ∧
    (∀ h, (yoyo c h clk).status = c.status ∧ (yoyo c h clk).rcd = c.rcd)

/-- Samples, demands and PWM of digital channels (R163, R167, R168, R171, R172): every 10 µs a sample feeds an input's filter or is an output's
readback; a demand read drives the channel; a PWM period starts on its period and its on-time ends with the driver off. -/
def DigitalInstants : Prop :=
  ∀ (s : State) (t n : Nat) (h : Bool) (c : Chan), On s → chanOf s.m n = c → c.used = true →
    ((max s.m.clk t - s.m.tim.zero) % 10000 = 0 → c.isDi = true → c.window = none → c.shadow = none → c.shown = none → c.lowAt = none →
      darkSource (seen s t) = none →
      Makes (.diSample t n h) s (fun m => (chanOf m n).q = (yoyo c h (max s.m.clk t)).q ∧ (chanOf m n).count = (yoyo c h (max s.m.clk t)).count ∧
        (chanOf m n).lastRaw = h)) ∧
    ((max s.m.clk t - s.m.tim.zero) % 10000 = 0 → c.isDi = false → c.drives = true → c.pulse = none →
      Makes (.diSample t n h) s (fun m => (chanOf m n).rbHigh = h ∧ (chanOf m n).driver = c.driver)) ∧
    ((max s.m.clk t - s.m.tim.zero) % 10000 ≠ 0 → Gives (.diSample t n h) s t (seen s t)) ∧
    (c.rcd.function = 3 → c.rcd.safetyMember = false → Gives (.doDemandRead t n) s t (readDemand (seen s t) n)) ∧
    (c.rcd.function = 4 → (∀ x, c.perAt = some x → x + 1000 * c.rcd.pwmPeriodUs ≤ max s.m.clk t) →
      Makes (.pwmPeriodStart t n) s (fun m => (chanOf m n).perAt = some (max s.m.clk t))) ∧
    (∀ x, c.onEnd = some x → x ≤ max s.m.clk t → c.safeDriving = false →
      Makes (.pwmOnTimeEnd t n) s (fun m => (chanOf m n).driver = false ∧ (chanOf m n).onEnd = none ∧ (chanOf m n).perAt = c.perAt))

/-- Under a condition of R184 an output drives its SAFE_VAL unless a latched diagnostic holds it off: OFF or ON for a digital output, 3.5 mA or 21.5
mA for an AO (R184, R196); an AO with MISWIRE sets 3.5 mA (R199). With no condition a DO drives its demand (R171). -/
def SafeValuesDrive : Prop :=
  ∀ (m : Mod) (n : Nat) (c : Chan), tget m.fio.chans n = some c →
    ((m.flt.f3 = true ∨ m.pwr.st = .fail ∨ m.sec.debug = .full ∨ bitOf c.status.toNat 5 = true) → (c.isDo = true ∨ c.isSource = true) →
      (c.rcd.safeVal = 0 → (chanOf (drive m n) n).driver = false) ∧
      (c.rcd.safeVal = 1 → (chanOf (drive m n) n).driver = !c.blocked)) ∧
    ((m.flt.f3 = true ∨ m.pwr.st = .fail ∨ m.sec.debug = .full ∨ bitOf c.status.toNat 5 = true) → c.isAo = true → bitOf c.status.toNat 10 = false →
      (c.rcd.safeVal = 0 → (chanOf (drive m n) n).setMa = 0x40600000) ∧ (c.rcd.safeVal = 1 → (chanOf (drive m n) n).setMa = 0x41AC0000)) ∧
    (c.isAo = true → bitOf c.status.toNat 10 = true → (chanOf (drive m n) n).setMa = 0x40600000) ∧
    (c.rcd.function = 3 → c.rcd.safetyMember = false → c.written = true → c.offSeen = none → c.inOff = false → chanMode m n c ≠ some .off →
      safeStands m n c = false → (chanOf (drive m n) n).driver = (!c.blocked && c.demand)) ∧
    (∀ k, k ≠ n → chanOf (drive m n) k = chanOf m k)

/-- Test frames and pulses (R175 to R178): a frame sets the tests that are due, a slot gives an ON output a dark pulse and an OFF one a bright
pulse; a dark pulse not seen makes the output suspect, a bright one not seen latches its diagnostic, and an input that did not show its source's
pulse is suspect. -/
def TestPulses : Prop :=
  ∀ (s : State) (t n : Nat) (c : Chan) (b : Bool), On s → chanOf s.m n = c →
    (4 ≤ s.m.pwr.startStep → s.m.fio.frameAt + 128000000 ≤ max s.m.clk t →
      Makes (.testFrameStart t) s (fun m => m.fio.frame = s.m.fio.frame + 1 ∧ m.fio.frameAt = max s.m.clk t ∧
        (tget s.m.fio.chans n = some c → c.shadow = none → (chanOf m n).retest = false ∧
          (chanOf m n).due = (c.retest || decide ((s.m.fio.frame + 1).toNat % 2 ^ c.rcd.testDiv = 0))))) ∧
    (c.used = true → c.drives = true → s.m.fio.frame ≠ 0 → max s.m.clk t = s.m.fio.frameAt + 500000 * n → s.m.fio.slotEnd ≤ max s.m.clk t → c.due = true →
      testsOn s.m c = true → blockSuspended s.m n = false → c.blocked = false → c.rcd.function ≠ 4 →
      (c.driver = true → c.isSource = false → Makes (.testSlotStart t n) s (fun m => (chanOf m n).pulse = some { dark := true, stop := max s.m.clk t + 1000 * c.rcd.darkUs })) ∧
      (c.driver = false → c.safeDriving = false → Makes (.testSlotStart t n) s (fun m => (chanOf m n).pulse = some { dark := false, stop := max s.m.clk t + 1000 * c.rcd.brightUs }))) ∧
    (∀ p, c.pulse = some p → p.stop ≤ max s.m.clk t →
      Gives (.testPulseEnd t n true) s t (setChan (seen s t) n { c with pulse := none }) ∧
      (blockSuspended s.m n = false → p.dark = true → Makes (.testPulseEnd t n false) s (fun m => bitOf (chanOf m n).status.toNat 7 = true ∧ (chanOf m n).pulse = none)) ∧
      (blockSuspended s.m n = false → p.dark = false → Makes (.testPulseEnd t n false) s (fun m => bitOf (chanOf m n).status.toNat 4 = true))) ∧
    (∀ w, c.window = some w → w.start + 400000 ≤ max s.m.clk t → w.before = true →
      (∀ x ∈ w.samples, w.start + 1000 * ((chanOf s.m c.rcd.testSrc).rcd.darkUs + 100) ≤ x.1 → x.2 = true) →
      twoLow (w.samples.filter (fun x => decide (x.1 ≤ w.start + 1000 * ((chanOf s.m c.rcd.testSrc).rcd.darkUs + 100)))) = b →
      Makes (.inputTestWindowEnd t n) s (fun m => (chanOf m n).window = none ∧ bitOf (chanOf m n).status.toNat 7 = (!b || bitOf c.status.toNat 7)))

/-- The diagnostics of a digital channel (R169, R170, R173, R180, R182, R185): what sets each bit of the status word, what latches, and what clears.
-/
def DigitalDiagnostics : Prop :=
  ∀ (s : State) (t n : Nat) (c : Chan), On s → chanOf s.m n = c → c.used = true →
    (c.drives = true → c.pulse = none → c.driver = false → c.switchedAt + 30000 ≤ max s.m.clk t → c.armed = true → c.status &&& 0x0000008C = 0 → blockSuspended s.m n = false →
      Makes (.outputSuspect t n) s (fun m => bitOf (chanOf m n).status.toNat 7 = true ∧ (chanOf m n).driver = false)) ∧
    (bitOf c.status.toNat 7 = true → bitOf c.status.toNat 2 = false → c.isDi = false →
      Makes (.suspectClassify t n .stayedHigh) s (fun m => bitOf (chanOf m n).status.toNat 2 = true ∧ bitOf (chanOf m n).status.toNat 7 = false)) ∧
    (c.drives = true → c.driver = true → c.pulse = none → c.switchedAt + 30000 ≤ max s.m.clk t → blockSuspended s.m n = false → bitOf c.status.toNat 8 = false →
      Makes (.notAchievedDo t n) s (fun m => bitOf (chanOf m n).status.toNat 8 = true ∧ (chanOf m n).naSince = some (max s.m.clk t))) ∧
    (c.drives = true → bitOf c.status.toNat 8 = true →
      Makes (.notAchievedClear t n) s (fun m => bitOf (chanOf m n).status.toNat 8 = false ∧ (chanOf m n).naSince = none)) ∧
    (c.drives = true → Makes (.overloadLatch t n true) s (fun m => bitOf (chanOf m n).status.toNat 1 = true)) ∧
    (c.rcd.wbEn = true → c.isDi = true → Makes (.wireBreakSet t n) s (fun m => bitOf (chanOf m n).status.toNat 0 = true)) ∧
    (c.isDi = true → Makes (.wireBreakClear t n) s (fun m => bitOf (chanOf m n).status.toNat 0 = false)) ∧
    (∀ x, c.wdLast = some x → x + 100000 * c.rcd.wd100 ≤ max s.m.clk t → bitOf c.status.toNat 5 = false →
      Makes (.watchdogTrip t n) s (fun m => bitOf (chanOf m n).status.toNat 5 = true ∧ (chanOf m n).wdTripped = true)) ∧
    Makes (.watchdogRefresh t n) s (fun m => (chanOf m n).wdLast = some (max s.m.clk t) ∧ (chanOf m n).wdTripped = false) ∧
    (bootHeld s.m = false → n < 256 → c.latched = true → ownCause c = false → c.partners = [] →
      ∀ w : W32, bitOf w.toNat (n % 32) = true →
      Makes (.latchedClear t (n / 32) w) s (fun m => (chanOf m n).latched = false ∧ (chanOf m n).driver = c.driver))

/-- The field supply and the group safety switches (R163, R174, R489): a falling supply suspends the block's checks, SUPPLY_LOW marks every channel
in use and ends when the supply is back; a switch closes unless barred, and its rail is checked 1 ms later: one that stays up after opening is an
F3. -/
def SuppliesAndSwitches : Prop :=
  ∀ (s : State) (t b v : Nat) (w : W32), On s → b < 8 →
    Makes (.fieldSupplyFall t b) s (fun m => bitOf m.fio.suspended.toNat b = true ∧
      (s.m.fio.suspended = 0 → ∀ n c, n / 32 = b → tget s.m.fio.chans n = some c → c.drives = true → (chanOf m n).pulse = none)) ∧
    Makes (.supplyLowSet t b) s (fun m => bitOf m.fio.low.toNat b = true ∧ bitOf m.fio.okb.toNat b = false ∧
      ∀ n c, n / 32 = b → tget s.m.fio.chans n = some c → c.used = true → bitOf (chanOf m n).status.toNat 6 = true) ∧
    Makes (.supplyLowClear t b) s (fun m => bitOf m.fio.low.toNat b = false ∧ bitOf m.fio.okb.toNat b = true ∧ bitOf m.fio.suspended.toNat b = false ∧
      ∀ n c, n / 32 = b → tget s.m.fio.chans n = some c → c.used = true → bitOf (chanOf m n).status.toNat 6 = false) ∧
    (bootHeld s.m = false → s.m.gen.softLock = false → bitOf w.toNat b = true →
      Makes (.gswCloseRequest t w) s (fun m => if closeBarred s.m b then bitOf m.fio.closeRefused.toNat b = true else bitOf m.fio.closed.toNat b = true)) ∧
    (∀ x, tget s.m.fio.railCheck b = some (false, x) → x + 1000000 ≤ max s.m.clk t → 5000 ≤ v →
      Makes (.gswRailCheck t b v) s (fun m => m.flt.f3 = true ∧ bitOf m.fio.stuck.toNat b = true)) ∧
    (∀ x, tget s.m.fio.railCheck b = some (true, x) → x + 1000000 ≤ max s.m.clk t → v ≤ 18000 →
      Makes (.gswRailCheck t b v) s (fun m => bitOf m.fio.closed.toNat b = false)) ∧
    (∀ x, tget s.m.fio.railCheck b = some (true, x) → x + 1000000 ≤ max s.m.clk t → 18000 < v →
      Gives (.gswRailCheck t b v) s t { seen s t with fio := { s.m.fio with railCheck := tdel s.m.fio.railCheck b } })

/-- The analogue channels (R192 to R200): a conversion gives the current by the channel's coefficients and filter, a readback the current and
terminal voltage, a demand read drives; the overload of a powered input, a compliance loss that persists and a miswiring are reported. -/
def AnalogueInstants : Prop :=
  ∀ (s : State) (t n : Nat) (a b : F32) (c : Chan), On s → chanOf s.m n = c → c.used = true →
    (c.rcd.function = 6 → c.shadow = none →
      Makes (.aiConversion t n a) s (fun m => (chanOf m n).currentMa = formCurrent s.m c.coeffs c.coeffs.aiGain c.coeffs.aiOffset a ∧
        (chanOf m n).filtI = some (filtered c (formCurrent s.m c.coeffs c.coeffs.aiGain c.coeffs.aiOffset a)) ∧ (chanOf m n).setMa = c.setMa)) ∧
    (c.rcd.function = 6 → c.rcd.powered = true → c.loopSupply = true →
      Makes (.aiOverload t n) s (fun m => bitOf (chanOf m n).status.toNat 1 = true ∧ (chanOf m n).loopSupply = false)) ∧
    (c.isAo = true → Gives (.aoDemandRead t n) s t (readDemand (seen s t) n)) ∧
    (c.isAo = true → c.shadow = none →
      Makes (.aoReadback t n a b) s (fun m => (chanOf m n).currentMa = formCurrent s.m c.coeffs c.coeffs.rbGain c.coeffs.rbOffset a ∧
        (chanOf m n).vt = add32 (mul32 c.coeffs.vtGain b) c.coeffs.vtOffset ∧ (chanOf m n).setMa = c.setMa)) ∧
    (∀ x, c.isAo = true → c.naSince = some x → bitOf c.status.toNat 8 = true → c.complianceRaised = false → x + 1000000 * c.rcd.persistMs ≤ max s.m.clk t →
      Makes (.compliancePersist t n) s (fun m => (chanOf m n).complianceRaised = true ∧ bitOf m.fio.anEvents.toNat 1 = true ∧ bitOf m.flt.active.toNat 0x0D = true)) ∧
    (c.isAo = true → bitOf c.status.toNat 10 = false →
      Makes (.miswireLatch t n) s (fun m => bitOf (chanOf m n).status.toNat 10 = true ∧ (chanOf m n).setMa = 0x40600000 ∧ bitOf m.fio.anEvents.toNat 2 = true))

/-- The calibration commands (R204, R320): for an enabled channel LOCKED; a start takes the function, a point waits for its average, a commit makes
the record in one write and needs CAL_EN and both points; the background pass puts a channel without a valid record on nominal coefficients (R203).
-/
def Calibration : Prop :=
  ∀ (s : State) (t ch n : Nat) (q : Req) (a b : F32) (g x : W32), ch < 256 →
    (Served s t 0x0010 q → (chanOf s.m ch).used = true → Gives (.calStart t q ch n) s t (post (seen s t) q .locked)) ∧
    (Served s t 0x0010 q → (chanOf s.m ch).used = false → (n = 6 ∨ n = 7) →
      Gives (.calStart t q ch n) s t (post (putChan (seen s t) ch { chanOf s.m ch with calFn := n, calPts := [], calWait := none }) q .ok)) ∧
    (Served s t 0x0011 q → (chanOf s.m ch).used = false → n ≤ 1 → (chanOf s.m ch).calFn ≠ 0 → (chanOf s.m ch).calWait = none →
      Makes (.calPoint t q ch n a b) s (fun m => (chanOf m ch).calWait = some (n, q, a, b) ∧
        (chanOf m ch).setMa = (if (chanOf s.m ch).calFn = 7 then (if n = 0 then 0x40800000 else 0x41A00000) else (chanOf s.m ch).setMa))) ∧
    (∀ p y z, On s → (chanOf s.m ch).calWait = some (p, q, y, z) →
      Makes (.calPointAveraged t ch a b) s (fun m => tget (chanOf m ch).calPts p = some (y, z, a, b) ∧ (chanOf m ch).calWait = none)) ∧
    (∀ p0 p1, Served s t 0x0012 q → (chanOf s.m ch).used = false → s.m.fio.calEn = true →
      tget (chanOf s.m ch).calPts 0 = some p0 → tget (chanOf s.m ch).calPts 1 = some p1 → (fitRecord s.m ch (chanOf s.m ch).calFn p0 p1 g x).inRange = true →
      Makes (.calCommit t q ch g x) s (fun m => tget m.nv.cal ch = some (fitRecord s.m ch (chanOf s.m ch).calFn p0 p1 g x) ∧
        (∀ k, k ≠ ch → tget m.nv.cal k = tget s.m.nv.cal k) ∧ bitOf m.fio.anEvents.toNat 3 = true)) ∧
    (Served s t 0x0012 q → (chanOf s.m ch).used = false → s.m.fio.calEn = false → Gives (.calCommit t q ch g x) s t (post (seen s t) q .calDisabled)) ∧
    (Served s t 0x0013 q → (chanOf s.m ch).used = false → Makes (.calAbort t q ch) s (fun m => (chanOf m ch).calFn = 0 ∧ (chanOf m ch).calPts = [] ∧
      (chanOf m ch).calWait = none ∧ m.nv.cal = s.m.nv.cal)) ∧
    (Served s t 0x0014 q → (chanOf s.m ch).used = false → Gives (.calRead t q ch) s t (post (seen s t) q .ok { data := calBytes (calOf s.m ch) })) ∧
    (On s → anyTrial s.m = false → (calOf s.m ch).valid ch = false → Makes (.calCheckPass t) s (fun m => (chanOf m ch).nominal = true ∧ m.nv.cal = s.m.nv.cal))

/-- The switch (R22, R23, R337 to R342, R347): a frame for a learned address waits at that port alone, behind those before it, in its tag with a
foreign PCP 7 or 6 made 5; a port sends C0 before C1 before C2, C3 in every eighth grant; a frame of another length, or at a port without link, is
not forwarded. -/
def SwitchFrames : Prop :=
  ∀ (s : State) (t p q v pcp : Nat) (f : EthFrame) (x : Nat × Time × EthFrame), On s →
    (1 ≤ p → p ≤ 8 → (portOf s.m p).up = true → 64 ≤ f.len → f.len ≤ 1522 → isFeluno f.etherType = false → isGroup f.dst = false → f.dst ≠ s.m.nv.mac → f.src ≠ f.dst →
      fdbFind (seen s t) f.dst = some q → q ≠ p → (portOf s.m q).up = true →
      Makes (.frameIngress t p f) s (fun m => (portOf m q).queue = (portOf s.m q).queue ++ [(p, max s.m.clk t, (retag s.m f).1)] ∧ ∀ k, k ≠ q → portOf m k = portOf s.m k)) ∧
    (p < 1 ∨ 8 < p ∨ (portOf s.m p).up = false ∨ f.len < 64 ∨ 1522 < f.len → Gives (.frameIngress t p f) s t (seen s t)) ∧
    (f.tag = none → (retag s.m f).1.tag = some (0, s.m.net.defVid)) ∧
    (f.tag = some (pcp, v) → (retag s.m f).1 = { f with tag := some (if (pcp = 7 ∧ f.etherType ≠ 0x88B5) ∨ (pcp = 6 ∧ f.etherType ≠ 0x88B4 ∧ f.etherType ≠ 0x88B6) then 5 else pcp, v) }) ∧
    (∀ (e : EPort) y, nextFrame e = some x → y ∈ e.queue → pcpClass (pcpOf y.2.2) < 2 → pcpClass (pcpOf x.2.2) ≤ pcpClass (pcpOf y.2.2)) ∧
    (1 ≤ p → p ≤ 8 → nextFrame (portOf s.m p) = some x → x.2.2.ptp = none →
      Makes (.frameEgress t p) s (fun m => (portOf m p).lastTx = some x.2.2 ∧ (portOf m p).queue = (portOf s.m p).queue.erase x ∧ ∀ k, k ≠ p → portOf m k = portOf s.m k))

/-- Navigation sentences (R351 to R353): one without a valid checksum is rejected and counted; a valid one writes SCALE × value + OFFSET, GOOD, into
the signal of each entry it meets; an entry not met for its time goes BAD, STALE; a load replaces the map. -/
def NavigationData : Prop :=
  ∀ (s : State) (t n count : Nat) (text body buf : List Byte) (e : NavEnt) (v : F32) (r : SigRec) (q : Req), On s →
    (sentenceBody text = none → Gives (.nmeaSentence t n text) s t { seen s t with net := { s.m.net with
      events := setBit32 s.m.net.events 4, rejected := satInc s.m.net.rejected } }) ∧
    (∀ k, sentenceBody text = some body → notLead s.m = false → s.m.net.navs = [(k, e)] → navFits e n (commaFields body) = true → ((commaFields body)[e.field]?).bind numberOf = some v →
      s.m.tri.mode = 0 → e.signal ≠ 0 → sigAt s.m (hIdx e.signal) = some r → r.forced = false → r.isConst = false →
      Makes (.nmeaSentence t n text) s (fun m => ∃ r', sigAt m (hIdx e.signal) = some r' ∧ r'.qual = 0xC000 ∧ r'.val = realVal (add32 (mul32 v e.scale) e.offset) ∧
        ∀ j, j ≠ hIdx e.signal → sigAt m j = sigAt s.m j)) ∧
    (tget s.m.net.navs n = some e → notLead s.m = false → e.last + 1000000 * e.timeoutMs ≤ max s.m.clk t → s.m.tri.mode = 0 → e.signal ≠ 0 → sigAt s.m (hIdx e.signal) = some r →
      Makes (.navTimeout t n) s (fun m => ∃ r', sigAt m (hIdx e.signal) = some r' ∧ r'.qual = 0x0001 ∧ r'.stale = true ∧ r'.val = r.val)) ∧
    (∀ m, Served s t 0x0282 q → anyTrial s.m = false → loadNav (seen s t) count buf = .ok m → Gives (.navLoad t q count buf) s t (post (storeAdd m 13 0 count buf) q .ok)) ∧
    (∀ x, Served s t 0x0282 q → anyTrial s.m = false → loadNav (seen s t) count buf = .error x → Gives (.navLoad t q count buf) s t (refuse (seen s t) q x))

/-- Discovery and cyclic exchange of remote stations (R356 to R358): a beacon with a record is answered, the cycle instant sends the outputs, a
complete cycle of segments joins the station and writes its inputs, and one that fails WD_CYCLES cycles in a row is dropped with its inputs BAD,
STALE. -/
def StationExchange : Prop :=
  ∀ (s : State) (t n : Nat) (id : W32) (mac : BitVec 48) (frame : List Byte) (r : Station), On s →
    (s.m.pwr.svcStopped = false → s.m.pwr.st ≠ .fail →
      (s.m.net.stations.find? (fun e => e.2.stationId == id) = none → Gives (.stationBeacon t id mac) s t { seen s t with net := { s.m.net with
        unmatched := satInc s.m.net.unmatched, events := setBit32 s.m.net.events 2 } }) ∧
      (s.m.net.stations.find? (fun e => e.2.stationId == id) = some (n, r) → r.joined = false →
        Makes (.stationBeacon t id mac) s (fun m => tget m.net.stations n = some { r with assigned := true, mac := mac }))) ∧
    (tget s.m.net.stations n = some r →
      (r.assigned || r.joined → s.m.pwr.st ≠ .fail → s.m.flt.f3 = false → onInstant (seen s t) r.cycleUs 0 = true →
        Makes (.stationCycle t n) s (fun m => tget m.net.stations n = some { r with
          cycle := r.cycle + 1, cycleAt := some (max s.m.clk t), got := [], segs := 0, sent := outSegs (seen s t) n { r with cycle := r.cycle + 1, cycleAt := some (max s.m.clk t), got := [], segs := 0 } })) ∧
      (r.assigned || r.joined → r.cycleAt.isSome = true → r.got = [] → segOk s.m n r frame = true →
        Gives (.inSeg t n frame) s t (setStation (seen s t) n { r with segs := u8 frame 21, got := [(u8 frame 20, slice frame 24 (10 * u16 frame 18))] })) ∧
      (segOk s.m n r frame = false → Gives (.inSeg t n frame) s t (seen s t)) ∧
      (∀ x, r.cycleAt = some x → x + 1000 * r.respUs ≤ max s.m.clk t → r.got.length = segsOf r.ins.length r.gmac → r.joined = true →
        Gives (.stationInputInstant t n) s t (writeInputs (setStation (seen s t) n { r with cycleAt := none, got := [], missed := 0 }) r)) ∧
      (∀ x, r.cycleAt = some x → x + 1000 * r.respUs ≤ max s.m.clk t → r.got.length = segsOf r.ins.length r.gmac → r.joined = false →
        Makes (.stationInputInstant t n) s (fun m => (∃ y, tget m.net.stations n = some y ∧ y.joined = true ∧ y.missed = 0) ∧ (unitAt m (n + 1)).isSome = true ∧ bitOf m.net.events.toNat 1 = true)) ∧
      (∀ x, r.cycleAt = some x → x + 1000 * r.respUs ≤ max s.m.clk t → r.got.length ≠ segsOf r.ins.length r.gmac → r.joined = true →
        (r.missed + 1 < r.wdCycles → Gives (.stationInputInstant t n) s t (setStation (seen s t) n { r with cycleAt := none, got := [], missed := r.missed + 1 })) ∧
        (r.wdCycles ≤ r.missed + 1 → Makes (.stationInputInstant t n) s (fun m => (∃ y, tget m.net.stations n = some y ∧ y.joined = false) ∧ bitOf m.net.events.toNat 0 = true ∧
          (s.m.tri.mode = 0 → ∀ h ∈ r.ins, h ≠ 0 → ∀ g, sigAt s.m (hIdx h) = some g → ∃ g', sigAt m (hIdx h) = some g' ∧ g'.qual = 0x0001 ∧ g'.stale = true)))))

/-- Requests to stations and their records (R354, R359, R360): a request waits for its response, 100 ms at most, and completes with it; STATION_LOAD
and STATION_DELETE answer as they judge. -/
def StationRequests : Prop :=
  ∀ (s : State) (t n : Nat) (obj : W32) (data buf : List Byte) (q c : Req) (r : Station),
    (Served s t 0x0284 q → tget s.m.net.stations n = some r → r.joined = true → r.acyc = none → n < 64 →
      Gives (.stationRead t q n obj) s t (sendAcyclic (startOp (seen s t) q) n r q true [])) ∧
    (Served s t 0x0285 q → data.length ≤ 1024 → tget s.m.net.stations n = some r → r.joined = true → n < 64 → r.acyc.isSome = true →
      Gives (.stationWrite t q n obj data) s t (setStation (startOp (seen s t) q) n { r with waiting := r.waiting ++ [(q, false, obj, data)] })) ∧
    (Served s t 0x0284 q → n < 64 → tget s.m.net.stations n = none → Gives (.stationRead t q n obj) s t (refuse (seen s t) q .stationAbsent)) ∧
    (∀ x, On s → tget s.m.net.stations n = some r → r.acyc = some (c, true, x) → r.waiting = [] → s.m.pwr.svcStopped = false →
      Gives (.acycResp t n false data) s t (post (setStation (seen s t) n { r with acyc := none }) c .ok { r0 := BitVec.ofNat 32 (min 1024 data.length), data := data.take 1024 }) ∧
      Gives (.acycResp t n true data) s t (post (setStation (seen s t) n { r with acyc := none }) c .stationRefused) ∧
      (x + 100000000 ≤ max s.m.clk t → Gives (.stationTimeout t n) s t (post (setStation (seen s t) n { r with acyc := none }) c .stationTimeout))) ∧
    (∀ m, Served s t 0x0280 q → loadHeld s.m = none → loadStation (seen s t) n buf = .ok m → admitTest m = none →
      Gives (.stationLoad t q n buf) s t (post (storeAdd (settleAdmission m) 12 n 0 buf) q .ok)) ∧
    (∀ m a, Served s t 0x0280 q → loadHeld s.m = none → loadStation (seen s t) n buf = .ok m → admitTest m = some a →
      Makes (.stationLoad t q n buf) s (fun m => m.net.stations = s.m.net.stations ∧ m.sig = s.m.sig ∧ bitOf m.adm.events.toNat 0 = true)) ∧
    (Served s t 0x0281 q → anyTrial s.m = false → tget s.m.net.stations n = some r → r.joined = true → Gives (.stationDelete t q n) s t (refuse (seen s t) q .locked)) ∧
    (Served s t 0x0281 q → anyTrial s.m = false → tget s.m.net.stations n = some r → r.joined = false →
      Makes (.stationDelete t q n) s (fun m => tget m.net.stations n = none ∧ ∃ e, m.nv.store = s.m.nv.store ++ [e] ∧ e.kind = 112 ∧ e.num = n))

/-- What a CAN port is asked to send and what is read of it (R366, R371 to R374, R376, R379, R385): a send, a period and a reference cycle make a
transmit buffer pending; reads give the frames stored; a record is taken or refused. -/
def CanRequests : Prop :=
  ∀ (s : State) (t p b : Nat) (data buf : List Byte) (q : Req) (x : CanBuf) (f : CanFrame) (y : CanStored) (rest : List CanStored) (e : Status), On s →
    (Served s t 0x0301 q → canSendRefusal s.m p b data = none → tget (canOf s.m p).bufs b = some x → x.blocked = false →
      Makes (.canSend t q p b data) s (fun m => (∃ z, tget (canOf m p).bufs b = some z ∧ z.pending = true ∧ z.content = encodeBuf s.m (canOf s.m p) b data ∧ z.id = x.id) ∧
        ∀ k, k ≠ p → canOf m k = canOf s.m k)) ∧
    (Served s t 0x0301 q → canSendRefusal s.m p b data = some e → Gives (.canSend t q p b data) s t (refuse (seen s t) q e)) ∧
    (canDrives s.m (canOf s.m p) = true → tget (canOf s.m p).bufs b = some x → x.dir = 2 → x.arg ≠ 0 → (canOf s.m p).timeMaster = false →
      (onInstant (seen s t) x.arg 0 = true → Makes (.canPeriodRequest t p b) s (fun m => ∃ z, tget (canOf m p).bufs b = some z ∧ z.pending = true)) ∧
      (onInstant (seen s t) x.arg 0 = false → Gives (.canPeriodRequest t p b) s t (seen s t))) ∧
    (canDrives s.m (canOf s.m p) = true → tget (canOf s.m p).bufs 0 = some x → (canOf s.m p).timeMaster = true → onInstant (seen s t) (canOf s.m p).refCycleUs 0 = true →
      Makes (.referenceCycleStart t p) s (fun m => (canOf m p).refCount = (canOf s.m p).refCount + 1 ∧ (x.pending = true → bitOf (canOf m p).events.toNat 5 = true) ∧
        ∃ z, tget (canOf m p).bufs 0 = some z ∧ z.pending = true ∧ z.content = bytes32 (canOf s.m p).refTime ++ bytes16 (canOf s.m p).refWrap.toNat ++
          [(canOf s.m p).refCount + 1, if s.m.tim.traceable then 1 else 0])) ∧
    (opReady (seen s t) 0x0302 q = true → 1 ≤ p → p ≤ 8 → (canOf s.m p).mode ≠ 0 →
      ((canOf s.m p).fifo0 = y :: rest → Gives (.canRead t q p 64 0) s t (post (setCan (seen s t) p { canOf s.m p with fifo0 := rest }) q .ok { data := canRecord y.frame false false 0 y.time y.wrap })) ∧
      (b < 64 → tget (canOf s.m p).bufs b = some x → x.dir = 1 → x.frame = some f →
        Gives (.canRead t q p b 0) s t (post (setCan (seen s t) p { canOf s.m p with bufs := tset (canOf s.m p).bufs b { x with newData := false, overrun := false } }) q .ok
          { data := canRecord f x.newData x.overrun x.stores.toNat x.stampTime x.stampWrap }))) ∧
    (∀ m, Served s t 0x0300 q → anyTrial s.m = false → loadCan (seen s t) p buf = .ok m → Gives (.canPortLoad t q p buf) s t (post (storeAdd m 14 p 0 buf) q .ok)) ∧
    (Served s t 0x0300 q → anyTrial s.m = false → loadCan (seen s t) p buf = .error e → Gives (.canPortLoad t q p buf) s t (refuse (seen s t) q e)) ∧
    (Served s t 0x0303 q → 1 ≤ p → p ≤ 8 → (canOf s.m p).st = .busOff → tget s.m.can.ports p = some (canOf s.m p) →
      Makes (.canRecover t q p) s (fun m => canOf m p = { canOf s.m p with recovering := true }))

/-- Transmission on a CAN port (R375, R376, R378): a frame sent satisfies its request and lowers the counter, an error raises it by 8, above 255 the
port goes bus-off, its pending buffers blocked and an F1 raised; 16 acknowledge errors in a row set NO_PARTNER; recovery begins by its delay and
ends with the counters zero. -/
def CanTransmission : Prop :=
  ∀ (s : State) (t p b : Nat) (c : CanPort) (x : CanBuf), On s → tget s.m.can.ports p = some c → c.partner = 0 →
    (canDrives s.m c = true → (c.st = .errorActive ∨ c.st = .errorPassive) → tget c.bufs b = some x → x.dir = 2 → x.pending = true →
      (c.mode = 1 → c.tdcEn = false → Makes (.canTxEnd t p b (.sent none)) s (fun m => (canOf m p).tec = c.tec - 1 ∧ (canOf m p).noPartner = false ∧
        tget (canOf m p).bufs b = some { x with pending := false, blocked := false, noAck := false })) ∧
      (c.tdcEn = false → c.tec ≤ 247 → Makes (.canTxEnd t p b (.error none)) s (fun m => (canOf m p).tec = c.tec + 8 ∧ (canOf m p).bufs = c.bufs ∧
        (canOf m p).st = if 128 ≤ c.tec + 8 ∨ 128 ≤ c.rxc then .errorPassive else .errorActive)) ∧
      (c.tdcEn = false → 247 < c.tec → Makes (.canTxEnd t p b (.error none)) s (fun m => (canOf m p).st = .busOff ∧ bitOf (canOf m p).events.toNat 0 = true ∧
        (∃ y, tget (canOf m p).bufs b = some y ∧ y.pending = true ∧ y.blocked = true) ∧ bitOf m.flt.active.toNat 0x15 = true)) ∧
      (c.st = .errorPassive → c.singleShot = false → c.tec ≤ 255 → Makes (.canTxEnd t p b (.ackError false)) s (fun m => (canOf m p).tec = c.tec ∧ (canOf m p).ackErrors = c.ackErrors + 1))) ∧
    (16 ≤ c.ackErrors → c.noPartner = false → c.st ≠ .off → Makes (.canNoPartner t p) s (fun m => (canOf m p).noPartner = true ∧ (canOf m p).singleShot = c.loneSingleShot ∧
      bitOf (canOf m p).events.toNat 2 = true)) ∧
    (c.st = .busOff → c.autoRecover = true → c.busOffAt + 1000000 * c.recoverDelayMs ≤ max s.m.clk t →
      Gives (.recoverDelayExpiry t p) s t (setCan (seen s t) p { c with recovering := true })) ∧
    (c.st = .busOff → c.recovering = true → Makes (.canRecovered t p) s (fun m => (canOf m p).st = .errorActive ∧ (canOf m p).tec = 0 ∧ (canOf m p).rxc = 0 ∧
      bitOf (canOf m p).events.toNat 1 = true ∧ ∀ k y, tget c.bufs k = some y → tget (canOf m p).bufs k = some { y with blocked := false }))

/-- Reception on a CAN port (R370 to R372, R380, R382): a frame goes to the first buffer that takes it, else to the FIFO of the first filter that
does, else nowhere; a node that sends heartbeats is present until it has sent none for the timeout; a receive entry without a store goes BAD, STALE.
-/
def CanReception : Prop :=
  ∀ (s : State) (t p n : Nat) (f : CanFrame) (c : CanPort) (x : CanBuf) (e : W32 × W32), On s → tget s.m.can.ports p = some c → c.partner = 0 →
    (c.mode ≠ 0 → (c.st = .errorActive ∨ c.st = .errorPassive) →
      (c.bufs.find? (fun e => bufTakes e.2 f) = some (n, x) → c.maps.any (fun e => e.buffer == n) = false →
        Makes (.canFrameReceive t p f) s (fun m => (∃ y, tget (canOf m p).bufs n = some y ∧ y.frame = some f ∧ y.stores = x.stores + 1 ∧ y.newData = true ∧ y.overrun = (x.overrun || x.newData) ∧
          y.stampTime = BitVec.ofNat 32 (nowNs (seen s t))) ∧ (canOf m p).fifo0 = c.fifo0 ∧ (canOf m p).fifo1 = c.fifo1 ∧ m.sig = s.m.sig)) ∧
      (c.bufs.find? (fun e => bufTakes e.2 f) = none → c.filters.find? (fun e => filterTakes e f) = some e → bitOf e.2.toNat 31 = false → c.fifo0.length < 32 →
        Makes (.canFrameReceive t p f) s (fun m => (canOf m p).bufs = c.bufs ∧ (canOf m p).fifo1 = c.fifo1 ∧
          (canOf m p).fifo0 = c.fifo0 ++ [{ frame := f, time := BitVec.ofNat 32 (nowNs (seen s t)), wrap := wrap16 (seen s t) }])) ∧
      (c.bufs.find? (fun e => bufTakes e.2 f) = none → c.filters.find? (fun e => filterTakes e f) = none →
        Makes (.canFrameReceive t p f) s (fun m => (canOf m p).bufs = c.bufs ∧ (canOf m p).fifo0 = c.fifo0 ∧ (canOf m p).fifo1 = c.fifo1)) ∧
      (c.hbTimeoutMs ≠ 0 → s.m.pwr.svcStopped = false → f.ext = c.hbExt → c.hbBase < f.id → f.id ≤ c.hbBase + 127 →
        Makes (.canFrameReceive t p f) s (fun m => tget (canOf m p).nodes (f.id - c.hbBase) = some (max s.m.clk t)))) ∧
    (∀ y, tget c.nodes n = some y → c.hbTimeoutMs ≠ 0 → s.m.pwr.svcStopped = false → y + 1000000 * c.hbTimeoutMs ≤ max s.m.clk t →
      Makes (.heartbeatTimeout t p n) s (fun m => tget (canOf m p).nodes n = none ∧ bitOf (canOf m p).events.toNat 7 = true)) ∧
    (∀ g r, c.maps[n]? = some g → g.timeoutMs ≠ 0 → g.last + 1000000 * g.timeoutMs ≤ max s.m.clk t → s.m.tri.mode = 0 → g.signal ≠ 0 → sigAt s.m (hIdx g.signal) = some r →
      Makes (.canMapTimeout t p n) s (fun m => ∃ r', sigAt m (hIdx g.signal) = some r' ∧ r'.qual = 0x0001 ∧ r'.stale = true ∧ r'.val = r.val))

/-- The recorder's samples and intervals (R404, R405, R407 to R410, R415 to R418): a sample enters its bin and the extremes unless it is BAD; one
beyond the queue is lost and counted; an ended interval is closed with the next SEQ; a flush takes the closed intervals to the archive, or loses
them where its retry failed. -/
def RecorderSamples : Prop :=
  (∀ (m : Mod) (a : Accum) (es : List F32) (v : F64) (q : Qual) (fo st : Bool),
    (isBad q = true → (addSample m a (some es) v q fo st).bins = a.bins ∧ (addSample m a (some es) v q fo st).min = a.min ∧ (addSample m a (some es) v q fo st).max = a.max ∧
      (addSample m a (some es) v q fo st).qsum.getLsbD 0 = true) ∧
    (isBad q = false → (addSample m a (some es) v q fo st).bins = a.bins.modify (es.countP (fun e => le64 (widen e) v)) (fun c => min 0xFFFFFFFF (c + 1)) ∧
      (addSample m a (some es) v q fo st).seen = true ∧ (a.seen = false → (addSample m a (some es) v q fo st).min = v ∧ (addSample m a (some es) v q fo st).max = v) ∧
      (a.seen = true → lt64 v a.min = true → (addSample m a (some es) v q fo st).min = v ∧ (addSample m a (some es) v q fo st).minAt = nowNs m))) ∧
  ∀ (s : State) (t n k : Nat) (r : SigRec) (i : Interval) (rest : List Interval), On s →
    (sigAt s.m k = none → Gives (.recorderSample t k) s t (seen s t)) ∧
    (sigAt s.m k = some r → r.ty ≠ 7 → (s.m.rcr.tier1.running = true ∨ s.m.rcr.tier2.running = true ∨ s.m.rcr.tier3.running = true) →
      s.m.rcr.queuedAt = max s.m.clk t → 65536 ≤ s.m.rcr.queued →
      Makes (.recorderSample t k) s (fun m => m.rcr.lost = satInc s.m.rcr.lost ∧ bitOf m.rcr.events.toNat 1 = true ∧ bitOf m.flt.active.toNat 0x21 = true)) ∧
    (∀ c, sigAt s.m k = some r → r.ty ≠ 7 → s.m.rcr.tier1.running = true → s.m.rcr.tier2.running = false → s.m.rcr.tier3.running = false → s.m.rcr.queuedAt ≠ max s.m.clk t →
      s.m.rcr.tier1.cur = tierInterval (seen s t) 1 → listAt s.m.rcr.tier1 s.m.rcr.tier1.cur = [(sigHandle k r.gen, c)] → s.m.rcr.tier1.accums = [] →
      Makes (.recorderSample t k) s (fun m => m.rcr.tier1.accums = [(0, addSample (seen s t) (newAccum s.m.rcr.tier1.cur (sigHandle k r.gen)) (classAt s.m 1 s.m.rcr.tier1.cur c)
        (convert r.ty 5 { v := r.val, q := r.qual }).v (convert r.ty 5 { v := r.val, q := r.qual }).q r.forced r.stale)])) ∧
    (1 ≤ n → n ≤ 3 → Makes (.accumulatorSweep t n) s (fun m => (tierOf m n).accums = (tierOf s.m n).accums.filter (fun e => decide (tierInterval (seen s t) n ≤ e.2.interval)) ∧
      (tierOf m n).kept = (tierOf s.m n).kept)) ∧
    (1 ≤ n → n ≤ 3 → s.m.pwr.st ≠ .fail → s.m.nv.recSeq.length = 3 → (tierOf s.m n).ended = i :: rest → (n ≠ 1 ∨ s.m.rcr.frozen.isSome = true) →
      Makes (.intervalClose t n) s (fun m => (tierOf m n).ended = rest ∧ (tierOf m n).kept = (tierOf s.m n).kept ++ [{ i with seq := seqOf s.m n + 1 }] ∧ seqOf m n = seqOf s.m n + 1)) ∧
    (n = 2 ∨ n = 3 → s.m.pwr.st ≠ .fail → flushDue (seen s t) n = true → holds s.m (whoFlush n) = true →
      Makes (.archiveFlush t n .failed) s (fun m => (tierOf m n).kept = [] ∧ bitOf m.rcr.events.toNat 2 = true ∧ bitOf m.flt.active.toNat 0x20 = true ∧ m.nv.archive2 = s.m.nv.archive2 ∧ m.nv.archive3 = s.m.nv.archive3) ∧
      Makes (.archiveFlush t n .ok) s (fun m => (tierOf m n).kept = [] ∧ (n = 2 → m.nv.archive2 = archived s.m 2 s.m.nv.archive2 s.m.rcr.tier2.kept) ∧
        (n = 3 → m.nv.archive3 = archived s.m 3 s.m.nv.archive3 s.m.rcr.tier3.kept)))

/-- The recorder's commands (R405, R406, R412, R414, R415, R419, R422): loads, reads, and the freeze that ends every interval as PARTIAL and lasts
until it is released or its time has passed. -/
def RecorderCommands : Prop :=
  ∀ (s : State) (t a n : Nat) (seq : W32) (buf : List Byte) (q : Req) (e : Status) (i : Interval) (fl : Bool),
    (∀ m, Served s t 0x0100 q → anyTrial s.m = false → loadClasses (seen s t) a n buf = .ok m → Gives (.recClassLoad t q a n buf) s t (post (storeAdd m 15 a n buf) q .ok)) ∧
    (Served s t 0x0100 q → anyTrial s.m = false → loadClasses (seen s t) a n buf = .error e → Gives (.recClassLoad t q a n buf) s t (refuse (seen s t) q e)) ∧
    (∀ m, Served s t 0x0101 q → anyTrial s.m = false → loadList (seen s t) a n buf = .ok m → Gives (.recListLoad t q a n buf) s t (post (storeAdd m 16 a n buf) q .ok)) ∧
    (Served s t 0x0101 q → anyTrial s.m = false → loadList (seen s t) a n buf = .error e → Gives (.recListLoad t q a n buf) s t (refuse (seen s t) q e)) ∧
    (opReady (seen s t) 0x0102 q = true → freezeAllowed s.m = false → Gives (.recFreeze t q) s t (refuse (seen s t) q .freezeNotAllowed)) ∧
    (opReady (seen s t) 0x0102 q = true → freezeAllowed s.m = true → s.m.rcr.frozen = none →
      Makes (.recFreeze t q) s (fun m => m.rcr.frozen = some (max s.m.clk t) ∧ ∀ k, 1 ≤ k → k ≤ 3 → (tierOf m k).running = false ∧
        ((tierOf s.m k).running = true → ∃ x, (tierOf m k).ended.getLast? = some x ∧ x.part = true))) ∧
    (opReady (seen s t) 0x0102 q = true → s.m.rcr.frozen.isSome = true → Makes (.recFreezeRelease t q) s (fun m => m.rcr.frozen = none ∧ bitOf m.rcr.events.toNat 0 = true)) ∧
    (∀ x, On s → s.m.rcr.frozen = some x → x + 60000000000 * s.m.rcr.freezeMax ≤ max s.m.clk t → Makes (.freezeMaxExpiry t) s (fun m => m.rcr.frozen = none ∧ bitOf m.rcr.events.toNat 0 = true)) ∧
    (opReady (seen s t) 0x0103 q = true → 1 ≤ a → a ≤ 3 → 1 ≤ n → n ≤ 65536 →
      ((presentIntervals s.m a).find? (fun x => x.2.seq == seq) = some (false, i) → 
        Gives (.recRead t q a seq 0 n) s t (post (seen s t) q .ok { r0 := BitVec.ofNat 32 (min n i.count), r1 := (((presentIntervals s.m a).head?).map (fun x => x.2.seq)).getD 0, r2 := seqOf s.m a, data := headerBytes a i ++ (List.range (min n i.count)).flatMap (recBytes a i) })) ∧
      ((fl, i) ∈ presentIntervals s.m a → (presentIntervals s.m a).find? (fun x => x.2.seq == seq) = none →
        ∃ r, Gives (.recRead t q a seq 0 n) s t (refuse (seen s t) q (if serialLater (seqOf s.m a) seq then .recOpen else .recGone) r) ∧ r.r2 = seqOf s.m a)) ∧
    (On s → bootHeld s.m = false → s.m.gen.softLock = false →
      Makes (.recEnWrite t false) s (fun m => m.rcr.en = false ∧ ∀ k, (tierOf m k).running = false) ∧ Makes (.recEnWrite t true) s (fun m => m.rcr.en = true))

/-- Serial numbers (R507): of two wrapping numbers of 32 bits the later one is at a distance of 1 to 2³¹ − 1, so that neither is later than itself,
two are never each the later one, and a number and the next less than 2³¹ on are in that order at every wrap. -/
def SerialNumbers : Prop :=
  ∀ (a b : W32) (n : Nat), (serialLater a b = true ↔ 1 ≤ (b.toNat + 2 ^ 32 - a.toNat) % 2 ^ 32 ∧ (b.toNat + 2 ^ 32 - a.toNat) % 2 ^ 32 ≤ 2 ^ 31 - 1) ∧
    serialLater a a = false ∧ (serialLater a b = true → serialLater b a = false) ∧ (1 ≤ n → n < 2 ^ 31 → serialLater a (a + BitVec.ofNat 32 n) = true)

/-- The domino relay's receiver (R431, R432): an OFFER is answered with HAVE, REFUSE or ACCEPT, DATA in order is held, a gap is answered with what
is held, the whole payload is acknowledged and verified, and ABORT drops it. -/
def RelayReceiver : Prop :=
  ∀ (s : State) (t n k : Nat) (src pkg : W32) (su : Bool) (hdr bytes : List Byte) (w : Workspace), On s → s.m.pwr.st ≠ .fail → s.m.pwr.svcStopped = false → s.m.nv.regions.length = 3 →
    (bootHeld s.m = false →
      (s.m.upd.receiveEn = true → pkFieldsOk hdr = true → hasPackage s.m hdr = true → Makes (.relayOffer t src su hdr) s (fun m => m.upd.sent = (src, 3, 0) :: s.m.upd.sent ∧ m.nv = s.m.nv ∧ m.upd.ws = s.m.upd.ws)) ∧
      (hasPackage s.m hdr = false → (regionOf s.m (pkRegion hdr)).st = .idle → Makes (.relayOffer t src su hdr) s (fun m => match headerCheck s.m hdr su with
        | some e => m.upd.sent = (src, 4, e.code) :: s.m.upd.sent ∧ m.nv = s.m.nv ∧ bitOf m.upd.events.toNat 3 = true
        | none => m.upd.sent = (src, 2, 0) :: s.m.upd.sent ∧ (regionOf m (pkRegion hdr)).st = .receiving ∧ m.upd.incoming = some (src, pkId hdr, 0)))) ∧
    (s.m.upd.ws = some w → s.m.upd.incoming = some (src, pkg, k) → w.region = n → 1 ≤ n → n ≤ 3 → (regionOf s.m n).st = .receiving →
      (k + 1 ≠ 32 → w.payload.length + min 1024 bytes.length < pkPayload w.header →
        Makes (.relayData t src pkg w.payload.length bytes) s (fun m => m.upd.ws = some { w with payload := w.payload ++ bytes.take 1024 } ∧ m.upd.sent = s.m.upd.sent ∧ m.nv = s.m.nv)) ∧
      (w.payload.length ≤ pkPayload w.header → pkPayload w.header ≤ w.payload.length + min 1024 bytes.length →
        Makes (.relayData t src pkg w.payload.length bytes) s (fun m => (regionOf m n).st = .verifying ∧ m.upd.sent = (src, 6, pkPayload w.header) :: s.m.upd.sent)) ∧
      (∀ off, w.payload.length < off → Makes (.relayData t src pkg off bytes) s (fun m => m.upd.ws = some w ∧ m.upd.sent = (src, 6, w.payload.length) :: s.m.upd.sent)) ∧
      Makes (.relayAbort t src pkg) s (fun m => (regionOf m n).st = .idle ∧ m.upd.ws = none ∧ m.upd.sent = s.m.upd.sent))

/-- The domino relay's sender (R431 to R433): DATA goes out from ACCEPT on, at most 256 frames ahead of ACK, again from the acknowledged byte after
20 ms without one; HAVE or DONE with OK delivers, REFUSE, another DONE or 10 s without progress fails a neighbour. -/
def RelaySender : Prop :=
  ∀ (s : State) (t k off : Nat) (pkg : W32) (hdr pay : List Byte) (su : Bool) (n : Neighbour), On s → s.m.upd.fwd = some (hdr, pay, su) → tget s.m.upd.nbrs k = some n → (s.m.upd.nbrs.map Prod.fst).Nodup → n.offered = true → n.done = false →
    (pkId hdr = pkg → s.m.pwr.svcStopped = false →
      Makes (.relayAccept t k pkg) s (fun m => ∃ x, tget m.upd.nbrs k = some x ∧ x.sending = true ∧ x.acked = 0 ∧ x.sentTo = min pay.length 262144 ∧ (pay ≠ [] → (n.nid, 5, 0) ∈ m.upd.sent)) ∧
      Makes (.relayHave t k pkg) s (fun m => ∃ x, tget m.upd.nbrs k = some x ∧ x.delivered = true) ∧
      Makes (.relayDone t k pkg 0) s (fun m => ∃ x, tget m.upd.nbrs k = some x ∧ x.delivered = true) ∧
      (off ≠ 0 → Makes (.relayDone t k pkg off) s (fun m => ∃ x, tget m.upd.nbrs k = some x ∧ x.failed = true)) ∧
      Makes (.relayRefuse t k pkg off) s (fun m => (∃ x, tget m.upd.nbrs k = some x ∧ x.failed = true) ∧ bitOf m.upd.events.toNat 4 = true ∧ bitOf m.flt.active.toNat 0x25 = true) ∧
      (n.sending = true → Makes (.relayAck t k pkg off) s (fun m => ∃ x, tget m.upd.nbrs k = some x ∧ x.acked = max n.acked (min off pay.length) ∧ x.ackAt = max s.m.clk t ∧
        x.movedAt = if n.acked < off then max s.m.clk t else n.movedAt)) ∧
      (n.sending = false → Gives (.relayAck t k pkg off) s t (seen s t))) ∧
    (n.sending = true → n.acked < n.sentTo → n.acked < pay.length → n.ackAt + 20000000 ≤ max s.m.clk t →
      Makes (.relayResendTimeout t k) s (fun m => (n.nid, 5, n.acked) ∈ m.upd.sent ∧ ∃ x, tget m.upd.nbrs k = some x ∧ x.ackAt = max s.m.clk t)) ∧
    (n.movedAt + 10000000000 ≤ max s.m.clk t → Makes (.relayProgressTimeout t k) s (fun m => ∃ x, tget m.upd.nbrs k = some x ∧ x.failed = true))

/-- Frames of the local panel (R468 to R476): an image of its CRC waits and is copied whole at the next frame start, where a new band table takes
effect; a frame whose bytes do not give the CRC expected raises an F1 and the pattern; no other instant changes the frame memory. -/
def PanelFrames : Prop :=
  ∀ (s : State) (t : Nat) (crc : W32) (img buf : List Byte) (q : Req),
    (On s → frameDue (seen s t) = true → ∃ u, exec (.panelFrameStart t) s = .next u ∧ u.image = [] ∧ u.dbg = s.dbg ∧ u.pending = s.pending ∧
      u.frame = (if s.m.pnl.crcNew.isSome then s.image else s.frame) ∧ u.m.pnl.crcExp = s.m.pnl.crcNew.getD s.m.pnl.crcExp ∧ u.m.pnl.crcNew = none ∧
      u.m.pnl.bands = s.m.pnl.bandsNew.getD s.m.pnl.bands ∧ u.m.pnl.band = s.m.pnl.bandNew ∧ u.m.pnl.frameAt = max s.m.clk t ∧ u.m.pnl.pattern = s.m.pnl.patternDue) ∧
    (frameDue (seen s t) = false → Gives (.panelFrameStart t) s t (seen s t)) ∧
    (On s → s.m.pnl.scanning = true → s.m.pnl.checked = false → s.m.pnl.frameAt + 8333333 ≤ max s.m.clk t →
      (crc = s.m.pnl.crcExp → Makes (.panelFrameEnd t crc) s (fun m => m.pnl.checked = true ∧ m.flt = s.m.flt ∧ m.pnl.events = s.m.pnl.events)) ∧
      (crc ≠ s.m.pnl.crcExp → Makes (.panelFrameEnd t crc) s (fun m => m.pnl.patternDue = true ∧ bitOf m.pnl.events.toNat 2 = true ∧ bitOf m.flt.active.toNat 0x2C = true))) ∧
    (On s → opReady (seen s t) 0x0380 q = true → panelUp s.m.pnl = true → img.length = 16384 → ∃ u, exec (.pnlFrame t q crc img) s = .next u ∧ u.frame = s.frame ∧ u.dbg = s.dbg ∧
      if crc32c img = crc then u.image = Memory.ofBytes 0 img ∧ u.m.pnl.crcNew = some crc ∧ u.m.pnl.crcExp = s.m.pnl.crcExp else u.image = s.image ∧ u.m.pnl = s.m.pnl) ∧
    (opReady (seen s t) 0x0380 q = true → img.length ≠ 16384 → Gives (.pnlFrame t q crc img) s t (refuse (seen s t) q .badField)) ∧
    (opReady (seen s t) 0x0381 q = true → buf.length = 48 → bandsOk ((pieces buf 8 6).map bandRec) = true →
      Gives (.pnlBands t q buf) s t (post { seen s t with pnl := { s.m.pnl with bandsNew := some ((pieces buf 8 6).map bandRec) } } q .ok))

/-- The panel's upkeep (R467, R472 to R475, R477, R478, R480): EN starts it and stops it, the identification and then the rail bring it up, a failed
rail or read is tried again, 100 °C switches the drive off, two readings move the band, and full brightness is a permit. -/
def PanelUpkeep : Prop :=
  ∀ (s : State) (t d : Nat) (x : Nat) (temp : Int) (ident : List Byte) (q : Req), On s →
    (bootHeld s.m = false → s.m.gen.softLock = false → s.m.pwr.st ≠ .fail → s.m.pnl.en = false →
      ∃ u, exec (.pnlEnWriteOn t) s = .next u ∧ u.m.pnl.en = true ∧ u.m.pnl.st = .ident ∧ u.m.pnl.logic = true ∧ u.m.pnl.startAt = max s.m.clk t ∧ u.frame = [] ∧ u.image = s.image) ∧
    (bootHeld s.m = false → s.m.gen.softLock = false → s.m.pnl.en = true →
      Makes (.pnlEnWriteOff t) s (fun m => m.pnl.en = false ∧ m.pnl.st = .off ∧ m.pnl.logic = false ∧ m.pnl.railOk = false ∧ m.pnl.drive = false)) ∧
    (s.m.pnl.retryAt = some x → x ≤ max s.m.clk t → s.m.pnl.en = true → s.m.pwr.st ≠ .fail → ∃ u, exec (.panelRetry t) s = .next u ∧ u.m.pnl.st = .ident ∧ u.frame = []) ∧
    (s.m.pnl.st = .ident → s.m.pnl.startAt + 10000000 ≤ max s.m.clk t →
      (identOk ident = true → Makes (.panelIdentRead t ident) s (fun m => m.pnl.st = .rail ∧ m.pnl.cols = u16 ident 0 ∧ m.pnl.rows = u16 ident 2 ∧ m.pnl.ident = ident)) ∧
      (identOk ident = false → Makes (.panelIdentRead t ident) s (fun m => m.pnl.st = .off ∧ m.pnl.logic = false ∧ m.pnl.retryAt = some (max s.m.clk t + 1000000000)))) ∧
    (s.m.pnl.railOn = some x → x ≤ max s.m.clk t →
      (11000 < d → s.m.pnl.st = .rail → Gives (.panelRailCheck t d) s t { seen s t with pnl := { s.m.pnl with st := .clear, railOk := true } }) ∧
      (d ≤ 11000 → x + 5000000 ≤ max s.m.clk t → Makes (.panelRailCheck t d) s (fun m => m.pnl.st = .off ∧ m.pnl.railOk = false ∧ m.pnl.retryAt = some (max s.m.clk t + 10000000000) ∧
        bitOf m.pnl.events.toNat 3 = true ∧ bitOf m.flt.active.toNat 0x2D = true))) ∧
    (100 ≤ temp → s.m.pnl.st = .lit → Makes (.panelTempRead t temp) s (fun m => m.pnl.st = .hot ∧ m.pnl.tempC = temp ∧ bitOf m.pnl.events.toNat 4 = true ∧ bitOf m.flt.active.toNat 0x2E = true)) ∧
    (∀ b, temp < 100 → s.m.pnl.st ≠ .off → s.m.pnl.bands[s.m.pnl.bandNew + 1]? = some b → s.m.pnl.bandNew < 5 → b.edgeLow ≤ temp →
      (s.m.pnl.upRun = 1 → Makes (.panelTempRead t temp) s (fun m => m.pnl.bandNew = s.m.pnl.bandNew + 1 ∧ m.pnl.upRun = 0 ∧ m.pnl.band = s.m.pnl.band)) ∧
      (s.m.pnl.upRun = 0 → s.m.pnl.downRun = 0 → Makes (.panelTempRead t temp) s (fun m => m.pnl.bandNew = s.m.pnl.bandNew ∧ m.pnl.upRun = 1))) ∧
    (opReady (seen s t) 0x0382 q = true → 1 ≤ d → d ≤ 1000 → panelUp s.m.pnl = true → s.m.pnl.fullReq = none → s.m.adm.waiting = [] → (∀ g ∈ s.m.adm.grants, g.who ≠ 40) → s.m.adm.holdBack = false →
      s.m.lpe.waiting = [] → granted s.m + 4 ≤ pool s.m → Makes (.pnlFull t q d) s (fun m => m.pnl.fullReq = none ∧ ∃ g ∈ m.adm.grants, g.who = 40 ∧ g.units = 4 ∧ g.stop = max s.m.clk t + 1000000 * d)) ∧
    (opReady (seen s t) 0x0382 q = true → panelUp s.m.pnl = true → Makes (.pnlFullRelease t q) s (fun m => m.pnl.fullReq = none ∧ ∀ g ∈ m.adm.grants, g.who ≠ 40)) ∧
    (opReady (seen s t) 0x0383 q = true → panelUp s.m.pnl = true → Gives (.pnlIdRead t q) s t (post (seen s t) q .ok { data := s.m.pnl.ident })) ∧
    (opReady (seen s t) 0x0383 q = true → panelUp s.m.pnl = false → Gives (.pnlIdRead t q) s t (refuse (seen s t) q .pnlAbsent))

end Sys2Proof.Claims

/-- One step carries out the command at the front of the queue on the state with the queue's rest. -/
def Obligations.StepTakesFirst : Prop :=
  ∀ (s : State) (c : Instr) (rest : List Instr), s.pending = c :: rest → step s = exec c { s with pending := rest }

/-- From the release of reset the module is in HOLD, STARTING, with step 2 of its start done (R291, R295), every channel inert (R296), no task, no
host, ALIVE still and the OK contact open, nothing waiting, its memories list nothing, and every register of BAR0 reads the reset value the manual
gives it (R505); on an empty queue the block idles (the model's choice, log 30). A point the rules leave open follows the model's choice or reading
in log entries 120, 121. -/
def Obligations.ResetHolds : Prop :=
  State.reset.m.pwr.st = .hold ∧ State.reset.m.pwr.starting = true ∧ State.reset.m.pwr.startStep = 2 ∧ State.reset.m.fio.chans = [] ∧ State.reset.m.fio.closed = 0 ∧ State.reset.m.pge.tasks = [] ∧
    State.reset.m.hif.attached = false ∧ State.reset.m.flt.okContact = false ∧ State.reset.m.flt.alive = false ∧
    State.reset.pending = [] ∧ MemoryForm State.reset ∧
    (∀ e ∈ resetRegisters, registerRead State.reset.m e.1 &&& e.2.1 = e.2.2) ∧ ∀ s : State, s.pending = [] → step s = .next s

/-- Every command completes, and reaches only the memories it names: EveryCommandCompletes and MemoriesKept. -/
def Obligations.CommandsComplete : Prop :=
  Claims.EveryCommandCompletes ∧ Claims.MemoriesKept

/-- The invariant of the three memories is kept by every step (the frame memory of R468, the waiting image of R469, the cells of R458). -/
def Obligations.StepKeepsInv : Prop :=
  ∀ s u : State, MemoryForm s → step s = .next u → MemoryForm u ∧ s.m.clk ≤ u.m.clk

/-- In OFF the module is unpowered (R290): no command but those of its supply and start changes anything but the clock. -/
def Obligations.OffIsStill : Prop :=
  ∀ (c : Instr) (s u : State), s.m.pwr.st = .off → coreOf? c = none → actsInOff c = false → exec c s = .next u → u = { s with m := { s.m with clk := u.m.clk } }

/-- The frame of a DIC instruction, a function block and a service request (R78, R79, R94, R108): it changes the task that runs on its core and
nothing else; on a core where none runs it changes nothing. A point the rules leave open follows the model's choice or reading in log entry 34. -/
def Obligations.ProgramFrame : Prop :=
  ∀ (c : Instr) (core : Nat) (s u : State), coreOf? c = some core → exec c s = .next u →
    { u with m := { u.m with pge := s.m.pge } } = s ∧
    (∀ k, tget s.m.pge.running core ≠ some k → taskAt u.m k = taskAt s.m k) ∧
    (runningOn s.m core = none → u = s)

/-- Qualities combine to the worst (R42): BAD before UNCERTAIN before GOOD by the major code, and of two with the same major code the lower subcode.
-/
def Obligations.QualityOrder : Prop :=
  ∀ (p q : Qual), isCode p = true → isCode q = true →
    (worse p q = p ∨ worse p q = q) ∧ worse p q = worse q p ∧ (isBad p = true → isBad (worse p q) = true) ∧ (isGood (worse p q) = true ↔ isGood p = true ∧ isGood q = true) ∧
    (major p < major q → worse p q = p) ∧ (major p = major q → (worse p q).toNat = min p.toNat q.toNat)

/-- Every reader obtains a forced signal's FORCE_VALUE with GOOD and any other signal's written value, with the TIME of the owner's last write,
which goes on below a force with WRITTEN_WHILE_FORCED noted (R51, R53, R55); a new force is refused for a constant, a SAFETY signal without its
permit, while FORCE_EN is 0, beyond 4,096 forces and for another type (R54); one that replaces a standing force is not counted again (R55). -/
def Obligations.ForcesStand : Prop :=
  ∀ (m : Mod) (r : SigRec) (ty : Nat) (v w : Val) (q : Qual) (x : W32) (y : BitVec 16),
    r.view = (if r.forced then { val := r.forceVal, qual := 0xC000, time := r.time, wrap := r.wrap } else { val := r.val, qual := r.qual, time := r.time, wrap := r.wrap }) ∧
    ((r.force v).view.val = encodeVal r.ty v ∧ (r.force v).view.qual = 0xC000) ∧
    (((r.force v).write w q x y).view = { val := encodeVal r.ty v, qual := 0xC000, time := x, wrap := y } ∧ ((r.force v).write w q x y).wwf = true ∧
      ((r.force v).write w q x y).unforce.view = { val := w, qual := q, time := x, wrap := y } ∧ ((r.force v).write w q x y).unforce.wwf = false) ∧
    (r.isConst = true → forceCheck m r ty = some .constant) ∧
    (r.isConst = false → r.safety = true → m.sig.safetyForce = false → forceCheck m r ty = some .isProtected) ∧
    (r.isConst = false → (r.safety = false ∨ m.sig.safetyForce = true) →
      (m.sig.forceEn = false → forceCheck m r ty = some .forceDisabled) ∧
      (m.sig.forceEn = true → r.forced = false → 4096 ≤ forceCount m → forceCheck m r ty = some .forceFull) ∧
      (m.sig.forceEn = true → (r.forced = true ∨ forceCount m < 4096) → forceCheck m r ty = if r.ty = ty then none else some .typeMismatch))

/-- A new signal holds VALUE, TIME and WRAP_TAG zero and BAD, NO_SOURCE, a constant its value and GOOD, under the generation the directory has for
the index; a second record of the index is refused (R43, R44, R323). Deletion is refused while anything refers to the signal, and raises the
generation (R44, R46). -/
def Obligations.SignalsComeAndGo : Prop :=
  ∀ (m : Mod) (b : List Byte) (h : W32),
    (∀ m' b', loadSignal m b = .ok (m', b') →
      sigAt m (hIdx (w32 b 0)) = none ∧
      (∃ r, sigAt m' (hIdx (w32 b 0)) = some r ∧ r.gen = genAt m (hIdx (w32 b 0)) ∧ r.ty = u8 b 4 ∧ r.time = 0 ∧ r.wrap = 0 ∧
        r.forced = false ∧ r.refs = 0 ∧ (r.isConst = bitOf (u8 b 5) 0) ∧
        (r.isConst = false → r.val = 0 ∧ r.qual = 0x0005) ∧ (r.isConst = true → r.qual = 0xC000 ∧ r.val = encodeVal (u8 b 4) (w64 b 8))) ∧
      (∀ j, j ≠ hIdx (w32 b 0) → sigAt m' j = sigAt m j)) ∧
    (∀ i r, judgeSig m h = .ok i → sigAt m i = some r → 0 < r.refs → deleteSignal m h = .error .inUse) ∧
    (∀ i r, judgeSig m h = .ok i → sigAt m i = some r → r.refs = 0 → ∃ m', deleteSignal m h = .ok m' ∧
      genAt m' i = (if r.gen ≥ 127 then 1 else r.gen + 1) ∧
      m'.nv.store = m.nv.store ++ [{ kind := 101, num := h.toNat, count := 0, buf := [] }])

/-- Owner writes, the host's operations on signals, and the judgement of handles: OwnerWritesOneRecord, SignalCommands and HandlesAreJudged. A point
the rules leave open follows the model's choice or reading in log entry 125. -/
def Obligations.SignalOperations : Prop :=
  Claims.OwnerWritesOneRecord ∧ Claims.SignalCommands ∧ Claims.HandlesAreJudged

/-- The start of the module, step by step: StartBringsHold and StartStepsInOrder. A point the rules leave open follows the model's choice or reading
in log entries 118, 132. -/
def Obligations.PowerStart : Prop :=
  Claims.StartBringsHold ∧ Claims.StartStepsInOrder

/-- Entry to RUN and the stops of HOLD: FirstEntryToRun and HoldStopsTasks. A point the rules leave open follows the model's choice or reading in
log entry 170. -/
def Obligations.RunAndHold : Prop :=
  Claims.FirstEntryToRun ∧ Claims.HoldStopsTasks

/-- Loss of supply and the safe state of FAIL: SupplyFailure and FailMakesSafe. -/
def Obligations.PowerFailure : Prop :=
  Claims.SupplyFailure ∧ Claims.FailMakesSafe

/-- POWER, RESTART and the upkeep of the power states: PowerCommands, ServiceRestart and PowerUpkeep. -/
def Obligations.PowerCommandSet : Prop :=
  Claims.PowerCommands ∧ Claims.ServiceRestart ∧ Claims.PowerUpkeep

/-- Table loads, deletions and the reads of the tables: TableCommands and ReadsCopyRecords. A point the rules leave open follows the model's choice
or reading in log entries 9, 44, 103, 112. -/
def Obligations.TablesAndReads : Prop :=
  Claims.TableCommands ∧ Claims.ReadsCopyRecords

/-- On-line changes and their records: ChangesAreNumbered and ChangeCommands. A point the rules leave open follows the model's choice or reading in
log entry 106. -/
def Obligations.OnLineChange : Prop :=
  Claims.ChangesAreNumbered ∧ Claims.ChangeCommands

/-- Self-test, mismatch, split and join of the pairs: PairsPassSelftest, MismatchLosesPair and SplitAndJoin. -/
def Obligations.LockstepPairs : Prop :=
  Claims.PairsPassSelftest ∧ Claims.MismatchLosesPair ∧ Claims.SplitAndJoin

/-- Votes and the comparison of outputs: VotedValues and OutputsCompared. -/
def Obligations.TriadVotes : Prop :=
  Claims.VotedValues ∧ Claims.OutputsCompared

/-- The rounds of a triad and exclusion from them: RoundsRun and SeatsAreExcluded. A point the rules leave open follows the model's choice or
reading in log entry 176. -/
def Obligations.TriadRounds : Prop :=
  Claims.RoundsRun ∧ Claims.SeatsAreExcluded

/-- How a triad forms and a seat resynchronises: TriadForms and ResyncSteps. A point the rules leave open follows the model's choice or reading in
log entry 71. -/
def Obligations.TriadMembership : Prop :=
  Claims.TriadForms ∧ Claims.ResyncSteps

/-- Modes of units, their commands and the roll-up: ModesAreJudged, ModeCommandsWalk, UnitCommands and RollUpComputes. A point the rules leave open
follows the model's choice or reading in log entries 157, 164. -/
def Obligations.UnitModes : Prop :=
  Claims.ModesAreJudged ∧ Claims.ModeCommandsWalk ∧ Claims.UnitCommands ∧ Claims.RollUpComputes

/-- The host's plan commands are refused by R156 or accepted for the next tick; the tick applies them in order (R150), counts, and takes START_EN
over; the slot of a plan waiting in a timed step is refreshed every 1,000 ticks (R158). A point the rules leave open follows the model's choice or
reading in log entry 166. -/
def Obligations.PlanCommands : Prop :=
  ∀ (s : State) (t n k : Nat) (q : Req),
    (Served s t 0x0022 q → planRefusal s.m n 0 k = none → Gives (.planStart t q n k) s t
      (startOp { seen s t with pln := { s.m.pln with cmds := s.m.pln.cmds ++ [{ plan := n, op := 0, step := k, source := 1, req := some q }] } } q)) ∧
    (Served s t 0x0022 q → planRefusal s.m n 1 0 = none → Gives (.planPause t q n) s t
      (startOp { seen s t with pln := { s.m.pln with cmds := s.m.pln.cmds ++ [{ plan := n, op := 1, step := 0, source := 1, req := some q }] } } q)) ∧
    (Served s t 0x0022 q → planRefusal s.m n 2 0 = none → Gives (.planResume t q n) s t
      (startOp { seen s t with pln := { s.m.pln with cmds := s.m.pln.cmds ++ [{ plan := n, op := 2, step := 0, source := 1, req := some q }] } } q)) ∧
    (Served s t 0x0022 q → planRefusal s.m n 3 0 = none → Gives (.planAbort t q n) s t
      (startOp { seen s t with pln := { s.m.pln with cmds := s.m.pln.cmds ++ [{ plan := n, op := 3, step := 0, source := 1, req := some q }] } } q)) ∧
    (∀ e, Served s t 0x0022 q → planRefusal s.m n 0 k = some e → Gives (.planStart t q n k) s t (post (seen s t) q e)) ∧
    (On s → ctlRuns s.m = true → onInstant (seen s t) 100 0 = true →
      Gives (.planTick t) s t (planTick (pumpLoops (powerAtTick (seen s t)))) ∧
      Makes (.planTick t) s (fun m => m.pln.ticks = s.m.pln.ticks + 1 ∧ m.pln.startEn = s.m.pln.startEnNew)) ∧
    (∀ p j, On s → tget s.m.pln.plans n = some p → (p.st = .running ∨ p.st = .aborting) → p.now.ticks ≠ 0 → p.inStep ≠ 0 → p.inStep % 1000 = 0 →

      (if ((tget s.m.nv.slots n).getD {}).nextB then ((tget s.m.nv.slots n).getD {}).copyA else ((tget s.m.nv.slots n).getD {}).copyB) = some j →
      Makes (.resumeSlotRefresh t n) s (fun m => tget m.nv.slots n = some (((tget s.m.nv.slots n).getD {}).put { j with inStep := p.inStep, remain := p.remain }) ∧
        m.nv.journal = s.m.nv.journal))

/-- The steps of a plan and the waits of an action: PlanTransitions and WaitKinds. A point the rules leave open follows the model's choice or
reading in log entry 166. -/
def Obligations.PlanSteps : Prop :=
  Claims.PlanTransitions ∧ Claims.WaitKinds

/-- Task commands and the releases of tasks: TaskCommands, CyclicReleases and EventReleases. A point the rules leave open follows the model's choice
or reading in log entries 45, 46, 48, 165. -/
def Obligations.TaskReleases : Prop :=
  Claims.TaskCommands ∧ Claims.CyclicReleases ∧ Claims.EventReleases

/-- The phases of an instance and the order of ready tasks: InstancePhases and ReadyOrder. A point the rules leave open follows the model's choice
or reading in log entry 47. -/
def Obligations.TaskOrder : Prop :=
  Claims.InstancePhases ∧ Claims.ReadyOrder

/-- Commit, skip and overrun of instances: CommitsWrite and OverrunsAbort. -/
def Obligations.TaskEnds : Prop :=
  Claims.CommitsWrite ∧ Claims.OverrunsAbort

/-- The loop commands (R120, R126, R142): a bank swap is requested where the source is allowed and the bank passes, the bank that is active or about
to be takes no write, and an enable acts on all the loops named or on none. A point the rules leave open follows the model's choice or reading in
log entry 42. -/
def Obligations.LoopCommands : Prop :=
  ∀ (s : State) (t n b : Nat) (q : Req) (l : Loop) (buf : List Byte) (v : Bool), tget s.m.lpe.loops n = some l →
    (Served s t 0x0023 q → b ≤ 1 → bitOf s.m.lpe.bankSwap.toNat 0 = true → bankOk (l.bank b) = true → (b ≠ l.active ∨ l.swap.isSome = true) →
      Gives (.loopBank t q n b) s t (post (setLoop (seen s t) n { l with swap := some b }) q .ok)) ∧
    (Served s t 0x0023 q → b ≤ 1 → bitOf s.m.lpe.bankSwap.toNat 0 = false →
      Gives (.loopBank t q n b) s t (post { seen s t with lpe := { s.m.lpe with events := setBit32 s.m.lpe.events 2 } } q .swapDisabled)) ∧
    (Served s t 0x0025 q → b ≤ 1 → b ≠ l.active → l.swap ≠ some b → buf.length = 64 →
      Makes (.bankWrite t q n b buf) s (fun m => ∃ x, tget m.lpe.loops n = some x ∧ x.bank b = bankOf buf ∧ x.bank (1 - b) = l.bank (1 - b) ∧
        x.active = l.active ∧ ∀ k, k ≠ n → tget m.lpe.loops k = tget s.m.lpe.loops k)) ∧
    (Served s t 0x0025 q → b ≤ 1 → b = l.active → buf.length = 64 → Gives (.bankWrite t q n b buf) s t (post (seen s t) q .bankActive)) ∧
    (Served s t 0x0024 q → buf.length = 128 → (∀ k ∈ loopsNamed buf, (tget s.m.lpe.loops k).isSome = true) →
      (Gives (.loopEnable t q false buf) s t (post (enableLoops (seen s t) (loopsNamed buf) false) q .ok { r0 := BitVec.ofNat 32 (loopsNamed buf).length })) ∧
      ((loopsNamed buf).length ≤ 128 → densityOk (countedLoops (enableLoops s.m (loopsNamed buf) true)) = true →
        Gives (.loopEnable t q true buf) s t (post (enableLoops (seen s t) (loopsNamed buf) true) q .ok { r0 := BitVec.ofNat 32 (loopsNamed buf).length })) ∧
      ((loopsNamed buf).length ≤ 128 → densityOk (countedLoops (enableLoops s.m (loopsNamed buf) true)) = false →
        Makes (.loopEnable t q true buf) s (fun m => m.lpe = s.m.lpe))) ∧
    (On s → bootHeld s.m = false → s.m.gen.softLock = false →
      Gives (.plausEnWrite t v) s t { seen s t with lpe := { s.m.lpe with plausEn := v } })

/-- Loop samples, outputs and reactions: LoopInstants and ReactionsDrive. A point the rules leave open follows the model's choice or reading in log
entries 21, 43, 160. -/
def Obligations.LoopEvaluation : Prop :=
  Claims.LoopInstants ∧ Claims.ReactionsDrive

/-- Loads, stores, immediates and moves (R94 to R96, R100, R103): the entry or the immediate under its TYPE with its quality, a store with the
register's quality, and an index out of LENGTH loads zero, BAD, stores nothing and counts in RANGE. A point the rules leave open follows the model's
choice or reading in log entries 34, 149. -/
def Obligations.DicMoves : Prop :=
  ∀ (s : State) (core ty d a sp ix base len : Nat) (x16 : BitVec 16) (x32 : W32) (x64 : Val),
    Executes (.dicNop core) s core 1 1 (fun _ i => i) ∧
    Executes (.dicLd core ty d sp ix) s core 1 2 (fun t i => i.setReg d (if sp = 5 then loadEntry s.m t i sp ix else { v := encodeVal ty (loadEntry s.m t i sp ix).v, q := (loadEntry s.m t i sp ix).q })) ∧
    Executes (.dicSt core ty d 1 ix) s core 1 2 (fun _ i => { i with wbuf := lset i.wbuf ix (some { v := encodeVal ty (i.reg d).v, q := (i.reg d).q }) }) ∧
    Executes (.dicSt core ty d 2 ix) s core 1 2 (fun _ i => { i with retain := lset i.retain ix { v := encodeVal ty (i.reg d).v, q := (i.reg d).q } }) ∧
    Executes (.dicSt core ty d 4 ix) s core 1 2 (fun _ i => { i with scratch := lset i.scratch ix { v := encodeVal ty (i.reg d).v, q := (i.reg d).q } }) ∧
    (∀ k t i, runningOn s.m core = some (k, t, i) → (i.reg a).v.toNat % 2 ^ 32 < len →
      exec (.dicLdx core ty d a sp base len) s = .next { s with m := { s.m with pge := { s.m.pge with tasks := tset s.m.pge.tasks k { t with
        inst := some (loopEnd 9 ({ i with pc := i.pc + 2, steps := i.steps + 3 }.setReg d
          (if sp = 5 then loadEntry s.m t i sp (base + (i.reg a).v.toNat % 2 ^ 32) else (loadEntry s.m t i sp (base + (i.reg a).v.toNat % 2 ^ 32)).typed ty))) } } } }) ∧
    (∀ k t i, runningOn s.m core = some (k, t, i) → len ≤ (i.reg a).v.toNat % 2 ^ 32 →
      exec (.dicLdx core ty d a sp base len) s = .next { s with m := { s.m with pge := { s.m.pge with tasks := tset s.m.pge.tasks k { t with
        range := satInc t.range, inst := some (loopEnd 9 ({ i with pc := i.pc + 2, steps := i.steps + 3 }.setReg d { v := 0, q := 0x0000 })) } } } } ∧
      exec (.dicStx core ty d a sp base len) s = .next { s with m := { s.m with pge := { s.m.pge with tasks := tset s.m.pge.tasks k { t with
        range := satInc t.range, inst := some (loopEnd 9 { i with pc := i.pc + 2, steps := i.steps + 3 }) } } } }) ∧
    (∀ k t i, runningOn s.m core = some (k, t, i) → (i.reg a).v.toNat % 2 ^ 32 < len →
      exec (.dicStx core ty d a sp base len) s = .next { s with m := { s.m with pge := { s.m.pge with tasks := tset s.m.pge.tasks k { t with
        inst := some (loopEnd 9 (storeEntry { i with pc := i.pc + 2, steps := i.steps + 3 } sp (base + (i.reg a).v.toNat % 2 ^ 32) ((i.reg d).typed ty))) } } } }) ∧
    ((ty = 1 ∨ ty = 3) → Executes (.dicLdi16 core ty d x16) s core 1 1 (fun _ i => i.setReg d { v := encodeVal ty (x16.signExtend 64), q := 0xC000 })) ∧
    (ty ≠ 1 → ty ≠ 3 → Executes (.dicLdi16 core ty d x16) s core 1 1 (fun _ i => i.setReg d { v := encodeVal ty (x16.zeroExtend 64), q := 0xC000 })) ∧
    Executes (.dicLdi32 core ty d x32) s core 2 1 (fun _ i => i.setReg d { v := encodeVal ty (x32.zeroExtend 64), q := 0xC000 }) ∧
    Executes (.dicLdi64 core ty d x64) s core 3 1 (fun _ i => i.setReg d { v := encodeVal ty x64, q := 0xC000 }) ∧
    Executes (.dicMov core ty d a) s core 1 1 (fun _ i => i.setReg d { v := encodeVal ty (i.reg a).v, q := (i.reg a).q }) ∧
    (∀ k t i e, runningOn s.m core = some (k, t, i) → i.snap[ix]? = some e →
      exec (.dicTget core d ix) s = .next { s with m := { s.m with pge := { s.m.pge with tasks := tset s.m.pge.tasks k { t with
        inst := some (loopEnd 9 ({ i with pc := i.pc + 1, steps := i.steps + 2 }.setReg d
          { v := extendTime (BitVec.ofNat 32 (i.release / 2 ^ 32)) e.time e.wrap, q := e.qual })) } } } })

/-- Integer arithmetic of the DIC: IntegersSaturate and DicIntegers. -/
def Obligations.DicIntegers : Prop :=
  Claims.IntegersSaturate ∧ Claims.DicIntegers

/-- Real arithmetic and bitwise instructions of the DIC: DicReals and DicBits. A point the rules leave open follows the model's choice or reading in
log entries 4, 33. -/
def Obligations.DicRealsAndBits : Prop :=
  Claims.DicReals ∧ Claims.DicBits

/-- Compare, select, convert and quality instructions (R96, R98 to R100): a comparison with a NaN is FALSE, for NE TRUE, and BAD; SEL takes D's bit
0; a conversion truncates, saturates and keeps quality; QSET takes only the codes of R41. -/
def Obligations.DicSelects : Prop :=
  ∀ (s : State) (core ty d a b c : Nat),
    (tyReal ty = false → Executes (.dicCmp core ty d a b c) s core 1 1 (fun _ i => i.setReg d (boolVQ (condOf c (decide (asInt ty (i.reg a).v < asInt ty (i.reg b).v))
      (asInt ty (i.reg a).v == asInt ty (i.reg b).v)) (worse (i.reg a).q (i.reg b).q)))) ∧
    (tyReal ty = true → Executes (.dicCmp core ty d a b c) s core 1 2 (fun _ i => i.setReg d (cmpVQ ty c (i.reg a) (i.reg b))) ∧
      ∀ x y : VQ, (fIsNan (tyFmt ty) (asPat ty x.v) = true ∨ fIsNan (tyFmt ty) (asPat ty y.v) = true) → cmpVQ ty c x y = boolVQ (c == 1) 0x0000) ∧
    Executes (.dicSel core ty d a b) s core 1 1 (fun _ i => i.setReg d (if bitOf (i.reg d).v.toNat 0
      then { v := encodeVal ty (i.reg a).v, q := worse (i.reg d).q (i.reg a).q } else { v := encodeVal ty (i.reg b).v, q := worse (i.reg d).q (i.reg b).q })) ∧
    Executes (.dicCvt core ty d a c) s core 1 2 (fun _ i => i.setReg d (convert c ty (i.reg a))) ∧
    (∀ x : VQ, tyReal ty = false → tyReal c = false → ty ≠ 0 → ty ≠ 7 → c ≠ 7 → convert c ty x = satVal ty (asInt c x.v) x.q) ∧
    Executes (.dicQget core ty d a) s core 1 1 (fun _ i => i.setReg d { v := (i.reg a).q.zeroExtend 64, q := 0xC000 }) ∧
    Executes (.dicQset core ty d a) s core 1 1 (fun _ i => i.setReg d { v := (i.reg d).v, q := if isCode ((i.reg a).v.truncate 16) then (i.reg a).v.truncate 16 else 0x0000 }) ∧
    Executes (.dicQsel core ty d a b) s core 1 1 (fun _ i => i.setReg d (if major (i.reg a).q = 3 then { v := encodeVal ty (i.reg a).v, q := (i.reg a).q }
      else { v := encodeVal ty (i.reg b).v, q := (i.reg b).q }))

/-- Control flow and service requests of the DIC: DicControl and ServiceRequests. -/
def Obligations.DicControl : Prop :=
  Claims.DicControl ∧ Claims.ServiceRequests

/-- The function blocks: FunctionBlocks and BlocksBehave. A point the rules leave open follows the model's choice or reading in log entries 31, 32.
-/
def Obligations.FunctionBlocks : Prop :=
  Claims.FunctionBlocks ∧ Claims.BlocksBehave

/-- Attachment, rings and doorbells: HostAttachment, RingsInService and Doorbells. A point the rules leave open follows the model's choice or
reading in log entries 20, 154, 156. -/
def Obligations.HostRings : Prop :=
  Claims.HostAttachment ∧ Claims.RingsInService ∧ Claims.Doorbells

/-- Descriptors fetched and the indices of rings: DescriptorsAreFetched and RingIndicesWrap. -/
def Obligations.DescriptorFlow : Prop :=
  Claims.DescriptorsAreFetched ∧ Claims.RingIndicesWrap

/-- Completions and events written to the host: EntriesAreWritten, CompletionLayout and EventQueuesBounded. -/
def Obligations.CompletionsAndEvents : Prop :=
  Claims.EntriesAreWritten ∧ Claims.CompletionLayout ∧ Claims.EventQueuesBounded

/-- Register writes and what refuses them: RegisterWriteRules and RegisterWrites. -/
def Obligations.RegisterWrites : Prop :=
  Claims.RegisterWriteRules ∧ Claims.RegisterWrites

/-- The yo-yo filter and the instants of digital channels: YoyoFilter and DigitalInstants. A point the rules leave open follows the model's choice
or reading in log entry 61. -/
def Obligations.DigitalInputs : Prop :=
  Claims.YoyoFilter ∧ Claims.DigitalInstants

/-- Safe values and test pulses: SafeValuesDrive and TestPulses. A point the rules leave open follows the model's choice or reading in log entries
60, 169. -/
def Obligations.OutputSafety : Prop :=
  Claims.SafeValuesDrive ∧ Claims.TestPulses

/-- Diagnostics of channels, supplies and switches: DigitalDiagnostics and SuppliesAndSwitches. A point the rules leave open follows the model's
choice or reading in log entries 62, 155. -/
def Obligations.DigitalHealth : Prop :=
  Claims.DigitalDiagnostics ∧ Claims.SuppliesAndSwitches

/-- Analogue channels and their calibration: AnalogueInstants and Calibration. A point the rules leave open follows the model's choice or reading in
log entry 5. -/
def Obligations.AnalogueChannels : Prop :=
  Claims.AnalogueInstants ∧ Claims.Calibration

/-- One evaluation of a safety function (R211 to R214, R216, R218): INIT goes to TRIPPED, FAULT stays, a fault condition that stands takes any other
state to FAULT with its cause; otherwise a demand takes ENABLED to STOPPING under stop category 1 and to TRIPPED under 0, STOPPING ends after
STOP_DELAY_MS, TRIPPED is left with no demand and no expired degraded cause, and READY needs a valid reset or AUTO_RESTART; a TWO_HAND needs both
hands within SYNC_MS. -/
def Obligations.SafetyStates : Prop :=
  ∀ (m : Mod) (n : Nat) (f g : Func), tget m.saf.funcs n = some f → g = lockStep m (trackTimers m f) →
    (f.st = .init → ∃ h, tget (evaluate m n).saf.funcs n = some h ∧ h.st = .tripped) ∧
    (f.st = .fault → ∃ h, tget (evaluate m n).saf.funcs n = some h ∧ h.st = .fault ∧ h.cause = f.cause) ∧
    (f.st ≠ .init → f.st ≠ .fault → faultCond m g ≠ .none →
      ∃ h, tget (evaluate m n).saf.funcs n = some h ∧ h.st = .fault ∧ h.cause = faultCond m g ∧ bitOf (evaluate m n).saf.events.toNat 1 = true) ∧
    (faultCond m g = .none → ∃ h, tget (evaluate m n).saf.funcs n = some h ∧
      (f.st = .tripped → h.st = if demands m f = false ∧ f.degBy = [] then .ready else .tripped) ∧
      (f.st = .ready → f.kind ≠ 4 → h.st = if demands m f then .tripped else if f.autoRestart || validReset m f then .enabled else .ready) ∧
      (f.st = .enabled → f.kind ≠ 4 → h.st = if demands m f then (if f.stopCat1 then .stopping else .tripped) else .enabled) ∧
      (∀ x, f.st = .stopping → f.stopSince = some x → h.st = if x + 1000000 * f.stopDelayMs ≤ m.clk then .tripped else .stopping) ∧
      (f.st = .ready → f.kind = 4 → f.syncSince = none → bothPressed m f = true → h.st = .enabled) ∧
      (∀ x, f.st = .ready → f.kind = 4 → f.syncSince = some x → bothReleased m f = false → x + 1000000 * f.syncMs < m.clk → h.st = .tripped) ∧
      (f.st = .enabled → f.kind = 4 → bothPressed m f = false → h.st = .tripped ∧ bitOf (evaluate m n).saf.events.toNat 0 = true))

/-- When functions are evaluated (R213): after a write to what they read, at every 100 µs tick, and at the instant a timer of theirs ends (R212,
R216 to R219); and a one written to SAF_FAULT takes a function whose cause is gone from FAULT to TRIPPED (R212). -/
def Obligations.SafetyEvaluations : Prop :=
  ∀ (s : State) (t n : Nat) (b : Bool) (f : Func), On s → evaluatorsRun s.m = true → tget s.m.saf.funcs n = some f →
    Gives (.safetyEvaluation t n) s t (evaluate (seen s t) n) ∧
    ((max s.m.clk t - s.m.tim.zero) % 100000 = 0 → Gives (.safetyTick t) s t ((s.m.saf.funcs.map Prod.fst).foldl evaluate (seen s t))) ∧
    (∀ x, differ s.m f = true → f.discSince = some x → x + 1000000 * f.discMs ≤ max s.m.clk t → f.st ≠ .init → f.st ≠ .fault →
      Makes (.discrepancyExpiry t n) s (fun m => ∃ h, tget m.saf.funcs n = some h ∧ h.st = .fault ∧ h.cause = .discrepancy)) ∧
    (∀ x, f.st = .stopping → f.stopSince = some x → x + 1000000 * f.stopDelayMs ≤ max s.m.clk t → Gives (.stopDelayExpiry t n) s t (evaluate (seen s t) n)) ∧
    (∀ x, f.kind = 4 → f.st = .ready → f.syncSince = some x → x + 1000000 * f.syncMs ≤ max s.m.clk t → Gives (.syncExpiry t n) s t (evaluate (seen s t) n)) ∧
    (faultCond (seen s t) f = .contact → f.st ≠ .init → f.st ≠ .fault →
      Makes (.handContact t n) s (fun m => ∃ h, tget m.saf.funcs n = some h ∧ h.st = .fault ∧ h.cause = .contact)) ∧
    (f.kind = 5 → ossdLate (seen s t) f (f.inSig (if b then 1 else 0)) = true → Gives (.ossdTestExpiry t n b) s t (evaluate (seen s t) n)) ∧
    (∀ x, f.kind = 3 → f.lockReleased = false → counts s.m f.unlockReq = true → counts s.m f.unlockPermit = true → f.runs = false → f.outsLowSince = some x →
      x + 10000000 ≤ max s.m.clk t → Gives (.lockReleaseReady t n) s t (evaluate (seen s t) n) ∧ (lockStep (seen s t) f).lockReleased = true) ∧
    (bootHeld s.m = false → n < 256 → f.st = .fault → faultCond (seen s t) (trackTimers (seen s t) f) = .none →
      Makes (.safFaultClear t (n / 32) (BitVec.ofNat 32 (2 ^ (n % 32)))) s (fun m => (∃ h, tget m.saf.funcs n = some h ∧ h.st = .tripped ∧ h.cause = .none)))

/-- Safe telegrams (R222 to R226): 64 bytes that a peer with the same SEED accepts; a copy not valid is discarded and counted, three consecutive
ones make a connection ACTIVE, a newer one is taken, the second copy of one must agree with the first, and a connection without one for its
watchdog's time is FAILED, its signals BAD, STALE. -/
def Obligations.SafeTelegrams : Prop :=
  ∀ (s : State) (t n net : Nat) (b : Bool) (pdu p : List Byte) (c : Conn), On s → tget s.m.saf.conns n = some c →
    (∀ d : Conn, ∀ x : Nat, p.length = 36 → n < 65536 → x < 65536 → c.gmac = false → d.gmac = false → s.m.saf.gmacReq = false → d.seed = c.seed → d.peerConn = n → d.peerId = speakId s.m →
      (buildPdu s.m n c p x net).length = 64 ∧ copyValid s.m d (buildPdu s.m n c p x net) = true ∧ u16 (buildPdu s.m n c p x net) 8 = x ∧
        slice (buildPdu s.m n c p x net) 16 36 = p) ∧
    (c.send = true → (aPort s.m ≠ 0 ∨ bPort s.m ≠ 0) → s.m.saf.degNet.expired = false → sendPayload (seen s t) n c = some p → sendDue (seen s t) c p = true →
      Gives (.telegramSend t n) s t (sendTelegram (seen s t) n c p) ∧
      tget (sendTelegram (seen s t) n c p).saf.conns n = some { c with seq := (c.seq + 1) % 65536, lastSend := some (max s.m.clk t), sentBytes := buildPdu (seen s t) n c p c.seq 0 }) ∧
    (c.send = false → evaluatorsRun s.m = true →
      (copyValid s.m c pdu = false → Gives (.telegramReceive t n b pdu) s t { seen s t with saf := { s.m.saf with discards := satInc s.m.saf.discards } }) ∧
      (copyValid s.m c pdu = true → c.st = .failed → Gives (.telegramReceive t n b pdu) s t (setConn (seen s t) n { c with st := .starting, good := 0, lastAccept := max s.m.clk t })) ∧
      (copyValid s.m c pdu = true → c.st = .starting → 2 ≤ c.good → u16 pdu 8 = (c.lastSeq + 1) % 65536 →
        Makes (.telegramReceive t n b pdu) s (fun m => ∃ d, tget m.saf.conns n = some d ∧ d.st = .active ∧ d.lastSeq = u16 pdu 8 ∧ m.sig = s.m.sig)) ∧
      (copyValid s.m c pdu = true → c.st = .active → (u16 pdu 8 + 65536 - c.lastSeq) % 65536 ∈ List.range' 1 32 → c.lastSeq < 65536 →
        Makes (.telegramReceive t n b pdu) s (fun m => ∃ d, tget m.saf.conns n = some d ∧ d.st = .active ∧ d.lastSeq = u16 pdu 8 ∧ d.lastAccept = max s.m.clk t)) ∧
      (copyValid s.m c pdu = true → c.st = .active → u16 pdu 8 = c.lastSeq → b ≠ c.lastNet → slice pdu 11 41 ≠ slice c.lastCopy 11 41 → anyTrial s.m = false →
        Makes (.telegramReceive t n b pdu) s (fun m => (∃ d, tget m.saf.conns n = some d ∧ d.st = .failed) ∧ bitOf m.saf.events.toNat 4 = true ∧ bitOf m.flt.active.toNat 0x10 = true)) ∧
      (copyValid s.m c pdu = true → c.st = .active → 32 < (u16 pdu 8 + 65536 - c.lastSeq) % 65536 →
        Gives (.telegramReceive t n b pdu) s t { seen s t with saf := { s.m.saf with discards := satInc s.m.saf.discards } }) ∧
      (c.st ≠ .failed → c.lastAccept + 1000 * c.watchdogUs ≤ max s.m.clk t →
        Makes (.connectionWatchdogExpiry t n) s (fun m => (∃ d, tget m.saf.conns n = some d ∧ d.st = .failed ∧ d.good = 0) ∧ bitOf m.saf.events.toNat 5 = true ∧
          (s.m.tri.mode = 0 → ∀ e ∈ c.map, e.1 ≠ 0 → ∀ r, sigAt s.m (hIdx e.1) = some r → ∃ r', sigAt m (hIdx e.1) = some r' ∧ r'.qual = 0x0001 ∧ r'.stale = true))))

/-- Degraded mode (R227 to R229): the loss of a network, at a port or at a connection, starts its cause with the time allowed and an F1; at the end
of that time the functions it affects enter TRIPPED and it is EXPIRED; 10 s with nothing standing end it; the remainders are saved. A point the
rules leave open follows the model's choice or reading in log entries 135, 155, 167. -/
def Obligations.DegradedMode : Prop :=
  ∀ (s : State) (t n : Nat) (b u g : Bool) (c : DegCause), On s →
    (aPort s.m ≠ 0 → aPort s.m ≤ 8 → s.m.saf.degNet.active = false →
      Makes (.portLinkChange t (aPort s.m) false b) s (fun m => (portOf m (aPort s.m)).up = false ∧ m.saf.degNet.active = true ∧ m.saf.degNet.since = max s.m.clk t ∧
        m.saf.degNet.left = degAllowance s.m .net ∧ bitOf m.saf.events.toNat 2 = true ∧ bitOf m.flt.active.toNat 0x11 = true)) ∧
    (1 ≤ n → n ≤ 8 → Makes (.portLinkChange t n u g) s (fun m => (portOf m n).up = u ∧ (portOf m n).giga = (u && g) ∧ ∀ k, k ≠ n → tget m.net.ports k = tget s.m.net.ports k)) ∧
    (∀ (d : Conn) x, tget s.m.saf.conns n = some d → d.send = false → d.st = .active → d.seenA = some x → d.seenB = none → max s.m.clk t < x + 1000000 * d.netlossMs →
      s.m.saf.netLost.contains (n, true) = false → Makes (.netlossExpiry t n true) s (fun m => (n, true) ∈ m.saf.netLost ∧ m.saf.degNet.active = true)) ∧
    ((degOf s.m c).active = true → (degOf s.m c).expired = false → (degOf s.m c).remain (max s.m.clk t) = 0 →
      Makes (.degradedExpiry t c) s (fun m => (degOf m c).expired = true ∧ bitOf m.saf.events.toNat 3 = true ∧
        ∀ k f, s.m.saf.funcs = [(k, f)] → affects s.m f c = true → f.st ≠ .fault → ∃ h, tget m.saf.funcs k = some h ∧ h.st = .tripped ∧ c ∈ h.degBy)) ∧
    (∀ x, degStands s.m c = false → (degOf s.m c).active = true → (degOf s.m c).clearSince = some x → x + 10000000000 ≤ max s.m.clk t →
      Makes (.degradedCauseEnd t c) s (fun m => degOf m c = {} ∧ ∀ k f, tget s.m.saf.funcs k = some f → ∃ h, tget m.saf.funcs k = some h ∧ h.st = f.st ∧ c ∉ h.degBy)) ∧
    Gives (.degradedSave t) s t { seen s t with nv := { s.m.nv with
      degLeft := [s.m.saf.degNet, s.m.saf.degPair, s.m.saf.degSeat].map (fun d => if d.active then d.remain (max s.m.clk t) else 0)
      degSaved := [s.m.saf.degNet.active, s.m.saf.degPair.active, s.m.saf.degSeat.active] } }

/-- The winding permits (R244 to R249): what is granted never exceeds the pool; a request that fits is granted for its units and time, one that does
not waits; a release ends the grant, a renewal for no more units runs anew, and a grant not ended in its time is suspended with GRANT_EXPIRED. A
point the rules leave open follows the model's choice or reading in log entry 102. -/
def Obligations.WindingPermits : Prop :=
  (∀ m : Mod, granted m ≤ pool m → granted (decide_ m) ≤ pool (decide_ m) ∧ { decide_ m with adm := m.adm } = m) ∧
  ∀ (s : State) (t who units d : Nat) (op : HeavyOp) (c1 : Bool), On s → s.m.lpe.waiting = [] → s.m.pnl.fullReq = none →
    (s.m.pwr.st ≠ .fail → s.m.adm.waiting = [] → (∀ g ∈ s.m.adm.grants, g.who ≠ who) → s.m.adm.holdBack = false → 1 ≤ d → d ≤ opMaxMs op →
      (granted s.m + opUnits op ≤ pool s.m → Makes (.permitRequest t who op c1 d) s (fun m => m.adm.waiting = [] ∧
        ∃ g ∈ m.adm.grants, g.who = who ∧ g.units = opUnits op ∧ g.c1 = c1 ∧ g.stop = max s.m.clk t + 1000000 * d)) ∧
      (pool s.m < granted s.m + opUnits op → Makes (.permitRequest t who op c1 d) s (fun m => m.adm.grants = s.m.adm.grants ∧ ∃ g, m.adm.waiting = [g] ∧ g.who = who))) ∧
    ((∀ w ∈ s.m.adm.waiting, w.who ≠ who) → Makes (.permitRelease t who) s (fun m => ∀ g ∈ m.adm.grants, g.who ≠ who)) ∧
    (∀ g, s.m.adm.grants.find? (fun x => x.who == who) = some g → s.m.adm.waiting = [] → s.m.adm.holdBack = false → units ≤ g.units → 1 ≤ d → d ≤ opMaxMs g.op →
      Makes (.permitRenew t who units d) s (fun m => ∃ x ∈ m.adm.grants, x.who = who ∧ x.units = units ∧ x.stop = max s.m.clk t + 1000000 * d)) ∧
    (∀ g, s.m.adm.grants.find? (fun x => x.who == who) = some g → g.stop ≤ max s.m.clk t → who ≠ 40 →
      Makes (.grantExpiry t who) s (fun m => bitOf m.adm.events.toNat 2 = true))

/-- Frames of the switch and navigation sentences: SwitchFrames and NavigationData. A point the rules leave open follows the model's choice or
reading in log entry 63. -/
def Obligations.NetworkTraffic : Prop :=
  Claims.SwitchFrames ∧ Claims.NavigationData

/-- Module time and PTP (R343 to R350): the first offset of a start steps module time, one within the threshold slews it, any other is refused and
counted; a new master is noted and a lost one dropped; wraps and pulses are counted and stamped. A point the rules leave open follows the model's
choice or reading in log entry 6. -/
def Obligations.ModuleTime : Prop :=
  ∀ (s : State) (t p : Nat) (off : Int) (a : Announce) (msg : PtpMsg) (q : Req) (en : Bool), On s →
    (servoRuns s.m = true → s.m.tim.master.isSome = true →
      (s.m.tim.first = false → s.m.pwr.starting = true → s.m.tri.mode = 0 →
        Makes (.ptpOffset t s.m.tim.masterPort off) s (fun m => m.tim.off = s.m.tim.off - off ∧ m.tim.stepped = true ∧ m.tim.rate = s.m.tim.rate)) ∧
      (s.m.tim.first = true → off.natAbs ≤ s.m.tim.jump →
        Makes (.ptpOffset t s.m.tim.masterPort off) s (fun m => m.tim.off = s.m.tim.off ∧ m.tim.refusedRun = 0 ∧ m.tim.rate = clampRate (Config.servoRate s.m.tim.rate off))) ∧
      (s.m.tim.first = true → s.m.tim.jump < off.natAbs →
        Makes (.ptpOffset t s.m.tim.masterPort off) s (fun m => m.tim.off = s.m.tim.off ∧ m.tim.rate = s.m.tim.rate ∧ m.tim.refusedRun = s.m.tim.refusedRun + 1 ∧
          bitOf m.tim.events.toNat 1 = true ∧ bitOf m.flt.active.toNat 0x14 = true))) ∧
    (servoRuns s.m = true → 1 ≤ p → p ≤ 8 → (portOf s.m p).ptp = true →
      (chooses s.m p a = true → Makes (.ptpAnnounce t p a) s (fun m => m.tim.master = some a ∧ m.tim.masterPort = p ∧ m.tim.announceAt = max s.m.clk t)) ∧
      (chooses s.m p a = false → Gives (.ptpAnnounce t p a) s t (seen s t)) ∧
      (sends s.m msg = true → (portOf s.m p).up = true →
        Makes (.ptpMessageSend t p msg) s (fun m => (portOf m p).queue = (portOf s.m p).queue ++ [(0, max s.m.clk t, ptpFrame (seen s t) msg)]))) ∧
    (s.m.tim.master.isSome = true → s.m.tim.announceAt < max s.m.clk t →
      Makes (.masterLost t) s (fun m => m.tim.master = none ∧ m.tim.locked = false ∧ m.tim.traceable = false ∧ m.tim.rate = s.m.tim.rate)) ∧
    (Served s t 0x0283 q → 1 ≤ p → p ≤ 8 → Gives (.ptpPort t q p en off) s t (post (setPort (seen s t) p { portOf s.m p with ptp := en, asym := max (-2147483648) (min 2147483647 off) }) q .ok)) ∧
    (s.m.tim.wraps < wrapNo (seen s t) → Makes (.timWrap t) s (fun m => m.tim.wraps = nowNs (seen s t) / 2 ^ 32 ∧ bitOf m.tim.events.toNat 0 = true)) ∧
    (nowNs (seen s t) % 1000000000 = 0 → Gives (.ppsOutEdge t) s t { seen s t with tim := { s.m.tim with ppsOut := s.m.tim.ppsOut + 1 } }) ∧
    Gives (.ppsInEdge t) s t { seen s t with tim := { s.m.tim with ppsIn := BitVec.ofNat 32 (nowNs (seen s t)) } }

/-- Remote stations: StationExchange and StationRequests. A point the rules leave open follows the model's choice or reading in log entry 141. -/
def Obligations.RemoteStations : Prop :=
  Claims.StationExchange ∧ Claims.StationRequests

/-- The CAN FD ports: CanRequests, CanTransmission and CanReception. A point the rules leave open follows the model's choice or reading in log
entries 90, 91, 92, 142. -/
def Obligations.CanPorts : Prop :=
  Claims.CanRequests ∧ Claims.CanTransmission ∧ Claims.CanReception

/-- The fault collector (R388 to R395, R398): a report counts in its class and sets its source's active bit; one of class F2 or F3 opens the
capture, or merges into the one that stands; an F2 waits for acknowledgement and starts the jack-in-the-box timer; an F3 takes the F3 reaction at
once, and a failed transfer of a joined pair halts the task that made it. A point the rules leave open follows the model's choice or reading in log
entry 23. -/
def Obligations.FaultsCollected : Prop :=
  ∀ (s : State) (t : Nat) (f : FaultInfo), On s → f.src < 64 → f.cls < 4 → anyTrial s.m = false →
    (f.src ≠ 0x07 → f.src ≠ 0x08 →
      Makes (.faultReport t f) s (fun m => bitOf m.flt.active.toNat f.src = true ∧ m.flt.counts[f.cls]? = (s.m.flt.counts[f.cls]?).map satInc16 ∧
        (f.cls < 2 → s.m.nv.capture = none → m.nv.capture = none) ∧ (f.cls ≠ 2 → m.flt.awaiting = s.m.flt.awaiting) ∧
        (2 ≤ f.cls → s.m.nv.capture = none → ∃ c, m.nv.capture = some c ∧ c.src = f.src ∧ c.cls = f.cls ∧ c.addr = f.addr ∧ c.master = f.master ∧ c.level = f.cls ∧ c.mergeCount = 0) ∧
        (∀ c, f.cls < 3 → s.m.nv.capture = some c → ∃ d, m.nv.capture = some d ∧ d.src = c.src ∧ d.addr = c.addr ∧ d.level = max c.level f.cls ∧ d.mergeCount = min (c.mergeCount + 1) 65535) ∧
        (f.cls = 2 → m.flt.awaiting = s.m.flt.awaiting ++ [{ src := f.src, addr := f.addr, contained := containedAtOnce f }] ∧
          (s.m.flt.awaiting = [] → s.m.flt.f3 = false → m.flt.jib = some (1000000 * s.m.flt.jibMs, max s.m.clk t))) ∧
        (f.cls = 3 → m.flt.f3 = true ∧ (s.m.flt.f3 = false → m.fio.closed = 0 ∧ m.flt.jib = none ∧ m.flt.alive = false ∧ (∀ p, p < 6 → (pairOf m p).st = .down) ∧
          (∀ k x, taskAt m k = some x → x.busy = false) ∧ ∃ c, m.nv.capture = some c ∧ c.level = 3 ∧ c.f3Taken = true)))) ∧
    (∀ p k v, (f.src = 0x07 ∨ f.src = 0x08) → p < 6 → f.master = BitVec.ofNat 16 (0x0100 + p) → (pairOf s.m p).st ≠ .split → tget s.m.pge.running (2 * p) = some k → taskAt s.m k = some v →
      Makes (.faultReport t f) s (fun m => ∃ x, taskAt m k = some x ∧ x.st = .halted ∧ x.inst = none))

/-- Acknowledgement, clearing and escalation (R257, R393, R395 to R397, R400, R401): what is contained is acknowledged and the timer stops, the
firmware's restarts LOST pairs; a capture or an active bit clears unless its cause persists; the timer's end is an F3 reaction; ALIVE changes level
every 500 µs while its conditions hold. -/
def Obligations.FaultsSettled : Prop :=
  ∀ (s : State) (t n : Nat) (d : Int), On s →
    (bootHeld s.m = false → (∀ a ∈ s.m.flt.awaiting, a.contained = true) → Makes (.fltAck t) s (fun m => m.flt.awaiting = [] ∧ m.flt.jib = none ∧ m.flt.active = s.m.flt.active)) ∧
    (bootHeld s.m = false → (∃ a ∈ s.m.flt.awaiting, a.contained = false) →
      Gives (.fltAck t) s t { seen s t with flt := { s.m.flt with events := setBit32 s.m.flt.events 1 } }) ∧
    (s.m.pwr.svcStopped = false → (∀ a ∈ s.m.flt.awaiting, a.contained = true) →
      Makes (.firmwareAck t) s (fun m => (s.m.flt.hostAck = false → m.flt.awaiting = []) ∧ (s.m.flt.hostAck = true → m.flt.awaiting = s.m.flt.awaiting.filter (fun a => a.src != 0x02)) ∧
        (s.m.flt.f3 = false → s.m.pwr.st ≠ .fail → ∀ p, p < 6 → (pairOf s.m p).st = .lost → (pairOf s.m p).restarted = false → (pairOf m p).st = .selftest ∧ (pairOf m p).restarted = true))) ∧
    (∀ c, bootHeld s.m = false → s.m.nv.capture = some c →
      (causePersists (seen s t) c.src c.addr c.cls = true → Gives (.capturedClear t) s t { seen s t with flt := { s.m.flt with events := setBit32 s.m.flt.events 2 } }) ∧
      (causePersists (seen s t) c.src c.addr c.cls = false → (s.m.flt.awaiting = [] ∨ s.m.flt.f3 = true) → Gives (.capturedClear t) s t { seen s t with nv := { s.m.nv with capture := none } })) ∧
    (bootHeld s.m = false → Gives (.priorClear t) s t { seen s t with nv := { s.m.nv with prior := none }, flt := { s.m.flt with priorSet := false } }) ∧
    (bootHeld s.m = false → n < 64 → Makes (.activeClear t (n / 32) (BitVec.ofNat 32 (2 ^ (n % 32)))) s (fun m =>
      (sourceStands (seen s t) n = false → m.flt.active = s.m.flt.active &&& ~~~(BitVec.ofNat 64 (2 ^ n))) ∧ (sourceStands (seen s t) n = true → m.flt = s.m.flt))) ∧
    (∀ l x, s.m.flt.jib = some (l, x) → s.m.pwr.svcRestart = none →
      (l ≤ max s.m.clk t - x → Makes (.jibExpiry t) s (fun m => m.flt.f3 = true ∧ m.flt.jib = none ∧ bitOf m.flt.events.toNat 0 = true ∧
        ∀ c, s.m.nv.capture = some c → ∃ e, m.nv.capture = some e ∧ e.level = 3 ∧ e.escalated = true)) ∧
      (max s.m.clk t - x < l → Gives (.jibExpiry t) s t (seen s t))) ∧
    ((max s.m.clk t - s.m.tim.zero) % 500000 = 0 →
      (aliveOk s.m = true → Makes (.aliveToggle t) s (fun m => m.flt.aliveLevel = !s.m.flt.aliveLevel ∧ m.flt.alive = true ∧
        (∀ x, s.m.flt.aliveAt = some x → max s.m.clk t ≤ x + 1500000 → m.flt.okContact = true))) ∧
      (aliveOk s.m = false → s.m.flt.alive = true → Makes (.aliveToggle t) s (fun m => m.flt.alive = false ∧ m.flt.aliveLevel = false ∧ bitOf m.flt.events.toNat 4 = true))) ∧
    (d < 125 → Gives (.thermalTrip t d) s t { seen s t with gen := { s.m.gen with dieC := d } }) ∧
    (125 ≤ d → Makes (.thermalTrip t d) s (fun m => m.gen.dieC = d ∧ m.flt.f3 = true ∧ bitOf m.flt.active.toNat 0x18 = true))

/-- The recorder, and the order of wrapping numbers: RecorderSamples, RecorderCommands and SerialNumbers. A point the rules leave open follows the
model's choice or reading in log entries 93, 94, 95, 143. -/
def Obligations.Recorder : Prop :=
  Claims.RecorderSamples ∧ Claims.RecorderCommands ∧ Claims.SerialNumbers

/-- The reception of an update (R425 to R430, R446): a package that the header checks accept is RECEIVING in its workspace, its whole payload
VERIFYING, a payload of its hash APPLYING and an image of its hash READY in its slot; any check that fails is answered and leaves the region IDLE;
UPD_CANCEL drops what is before its commit point. A point the rules leave open follows the model's choice or reading in log entries 99, 100, 146. -/
def Obligations.UpdateReception : Prop :=
  ∀ (s : State) (t n : Nat) (b su : Bool) (hdr pay : List Byte) (q : Req) (e : Status) (w : Workspace) (r : Region), s.m.nv.regions.length = 3 → 1 ≤ n → n ≤ 3 → regionOf s.m n = r →
    (opReady (seen s t) 0x0180 q true = true → notLead s.m = false → bootTakes s.m hdr = true →
      (pkRegion hdr = n → r.st = .idle → Makes (.updReceive t q su b hdr) s (fun m => match headerCheck s.m hdr su with
        | none => (regionOf m n).st = .receiving ∧ (regionOf m n).pkgId = pkId hdr ∧ ∃ v, m.upd.ws = some v ∧ v.header = hdr.take 256 ∧ v.region = n ∧ v.noRelay = b
        | some _ => regionOf m n = r ∧ m.upd.ws = s.m.upd.ws ∧ bitOf m.upd.events.toNat 3 = true)) ∧
      (headerCheck s.m hdr su = some e → Gives (.updReceive t q su b hdr) s t (refuse (noteUpdRefused (seen s t)) q e))) ∧
    (On s → s.m.upd.ws = some w → w.region = n →
      (r.st = .receiving → w.fromId = 0 → pkPayload w.header ≤ pay.length → Makes (.payloadReceived t pay) s (fun m => (regionOf m n).st = .verifying ∧
        m.upd.ws = some { w with payload := pay.take (pkPayload w.header) })) ∧
      (r.st = .verifying → holds s.m 20 = true → pkDelta w.header = false → Makes (.verifyDone t n) s (fun m => if sha384 w.payload = slice w.header 96 48
        then (regionOf m n).st = .applying ∧ m.upd.ws = some { w with output := w.payload } else (regionOf m n).st = .idle ∧ m.upd.ws = none ∧ bitOf m.upd.events.toNat 3 = true)) ∧
      (r.st = .applying → holds s.m 21 = true → s.m.sec.bootFail = none → pkDelta w.header = false → Makes (.applyDone t n) s (fun m => m.upd.ws = none ∧ if sha384 w.output = slice w.header 48 48
        then (regionOf m n).st = .ready ∧ (regionOf m n).staged = true ∧ m.nv.slotS = some (n, { header := w.header, bytes := w.output }) ∧ bitOf m.upd.events.toNat 0 = true
        else (regionOf m n).st = .idle ∧ bitOf m.upd.events.toNat 3 = true))) ∧
    (Served s t 0x0182 q → (r.st = .idle → Gives (.updCancel t q n) s t (refuse (seen s t) q .updState)) ∧
      ((r.st = .activating ∨ r.st = .trial) → Gives (.updCancel t q n) s t (refuse (seen s t) q .tooLate)) ∧
      (inWorkspace r = true ∨ r.st = .ready → Makes (.updCancel t q n) s (fun m => (regionOf m n).st = .idle ∧ (regionOf m n).forwarding = false ∧ (regionOf m n).version = r.version)))

/-- Activation, trial and fall-back (R423, R434 to R437, R439): the commit point names the section TRIAL and the region restarts; a trial confirms
after its minutes in RUN; a rejection, 24 h, or a capture opened at F2 or F3 makes the region fall back to its ACTIVE section, the other REJECTED. A
point the rules leave open follows the model's choice or reading in log entries 98, 101, 148. -/
def Obligations.UpdateTrial : Prop :=
  ∀ (s : State) (t n : Nat) (b : Bool) (q : Req) (e : Status) (r : Region) (f : FaultInfo), s.m.nv.regions.length = 3 → 1 ≤ n → n ≤ 3 → regionOf s.m n = r →
    (Served s t 0x0181 q → activateRefusal s.m n b false = some e → Gives (.updActivate t q n b) s t (refuse (seen s t) q e)) ∧
    (Served s t 0x0181 q → activateRefusal s.m n false false = none → r.staged = true → Makes (.updActivate t q n false) s (fun m => (regionOf m n).st = .activating ∧ (regionOf m n).trial = true ∧
      (regionOf m n).activatedAt = max s.m.clk t ∧ m.pwr.st = .fail ∧ m.pwr.failCause = .restart ∧ m.pwr.nextCause = .activation)) ∧
    (Served s t 0x0181 q → activateRefusal s.m 3 false false = none → n = 3 → r.staged = false → s.m.tri.seat = 0 → s.m.pwr.starting = false →
      Makes (.updActivate t q 3 false) s (fun m => (regionOf m 3).st = .activating ∧ m.pwr.program = true)) ∧
    (Served s t 0x0183 q → r.st = .trial → Makes (.updReject t q n) s (fun m => (regionOf m n).st = .idle ∧ (regionOf m n).trial = false ∧ (regionOf m n).inactive.rejected = true ∧
      (regionOf m n).version = r.activeVersion ∧ bitOf m.upd.events.toNat 2 = true ∧ bitOf m.flt.active.toNat 0x24 = true)) ∧
    (Served s t 0x0183 q → r.st ≠ .trial → Gives (.updReject t q n) s t (refuse (seen s t) q .updState)) ∧
    (On s → s.m.pwr.st ≠ .fail → r.st = .trial →
      (60000000000 * r.confirmMin ≤ trialRun (seen s t) r → s.m.upd.triad = none → Makes (.trialConfirm t n) s (fun m => (regionOf m n).st = .idle ∧ (regionOf m n).activeB = !r.activeB ∧
        (regionOf m n).activeVersion = r.version ∧ (regionOf m n).floor = r.version ∧ (regionOf m n).trial = false ∧ bitOf m.upd.events.toNat 1 = true ∧ m.nv.epoch = max s.m.nv.epoch (u8 r.inactive.header 18))) ∧
      (trialRun (seen s t) r < 60000000000 * r.confirmMin → Gives (.trialConfirm t n) s t (seen s t)) ∧
      (r.activatedAt + 86400000000000 ≤ max s.m.clk t → Makes (.trialTimeout t n) s (fun m => (regionOf m n).st = .idle ∧ (regionOf m n).inactive.rejected = true ∧ (regionOf m n).version = r.activeVersion)) ∧
      (s.m.nv.capture = none → 2 ≤ f.cls → (regionOf (reportFault s.m f) n).st = .idle ∧ (regionOf (reportFault s.m f) n).inactive.rejected = true))

/-- The domino relay: RelayReceiver and RelaySender. A point the rules leave open follows the model's choice or reading in log entry 146. -/
def Obligations.DominoRelay : Prop :=
  Claims.RelayReceiver ∧ Claims.RelaySender

/-- Two-party protection (R450 to R457): a proposal that its checks and the dry run accept is pending with the next PROT_SEQ, and one refused
changes nothing; a confirmation in 600 s takes it to the protection instant, where every item takes effect or none does; a withdrawal and the expiry
discard it. A point the rules leave open follows the model's choice or reading in log entries 113, 114, 128, 129. -/
def Obligations.ProtectionChanges : Prop :=
  ∀ (s : State) (t key : Nat) (buf sig : List Byte) (seq : W32) (q c : Req) (p : Proposal),
    (Served s t 0x0200 q → Makes (.secPropose t q buf) s (fun m => match proposalRefusal (seen s t) buf with
      | some _ => m.sec.pending = s.m.sec.pending ∧ m.nv = s.m.nv ∧ bitOf m.sec.events.toNat 1 = true
      | none => match applyItems { seen s t with nv := { s.m.nv with protSeq := w32 buf 12 } } buf with
        | .error _ => m.sec.pending = s.m.sec.pending ∧ m.nv = s.m.nv ∧ bitOf m.sec.events.toNat 1 = true
        | .ok _ => m.nv = { s.m.nv with protSeq := w32 buf 12 } ∧ m.sec.pending = some { pkg := buf.take (192 + u32 buf 16), seq := w32 buf 12, target := w32 buf 8, acceptedAt := max s.m.clk t })) ∧
    (Served s t 0x0201 q → s.m.sec.pending = some p →
      (p.seq = seq → p.late (max s.m.clk t) = false → Makes (.secConfirm t q seq key sig) s (fun m => m.sec.pending = none ∧ m.nv = s.m.nv ∧ match confirmRefusal (seen s t) p key sig with
        | some _ => m.sec.confirmed = s.m.sec.confirmed ∧ bitOf m.sec.events.toNat 1 = true
        | none => m.sec.confirmed = some (p, q))) ∧
      (p.seq = seq → p.late (max s.m.clk t) = true → Makes (.secConfirm t q seq key sig) s (fun m => m.sec.pending = none ∧ m.sec.confirmed = s.m.sec.confirmed ∧ m.nv.protExpired = some seq)) ∧
      (p.seq ≠ seq → Makes (.secConfirm t q seq key sig) s (fun m => m.sec.pending = some p ∧ m.nv = s.m.nv))) ∧
    (On s → s.m.sec.confirmed = some (p, c) →
      (∀ a b, applyItems { seen s t with sec := { s.m.sec with confirmed := none } } p.pkg = .ok a →
        applyItems (post (protEvent (secEvent { seen s t with sec := { s.m.sec with confirmed := none } } 0) 1 p.seq p.target .ok) c .ok) p.pkg = .ok b → Gives (.protectionInstant t) s t b) ∧
      (∀ e, applyItems { seen s t with sec := { s.m.sec with confirmed := none } } p.pkg = .error e →
        Makes (.protectionInstant t) s (fun m => m.sec.confirmed = none ∧ m.nv = s.m.nv ∧ m.sig = s.m.sig ∧ m.pge = s.m.pge ∧ m.lpe = s.m.lpe ∧ m.fio = s.m.fio ∧ m.saf = s.m.saf))) ∧
    (Served s t 0x0202 q → s.m.sec.pending = some p → p.seq = seq → Makes (.secWithdraw t q seq) s (fun m => m.sec = { s.m.sec with pending := none } ∧ m.nv = s.m.nv)) ∧
    (Served s t 0x0202 q → s.m.sec.pending = none → Gives (.secWithdraw t q seq) s t (refuse (seen s t) q .protNone)) ∧
    (On s → s.m.sec.pending = some p → p.acceptedAt + 600000000000 ≤ max s.m.clk t →
      Makes (.proposalExpiry t) s (fun m => m.sec.pending = none ∧ m.nv = { s.m.nv with protExpired := some p.seq } ∧ bitOf m.sec.events.toNat 2 = true)) ∧
    (Served s t 0x0203 q → s.m.sec.pending = some p → Gives (.secProposalRead t q) s t (post (seen s t) q .ok { r0 := BitVec.ofNat 32 p.pkg.length, data := p.pkg })) ∧
    (Served s t 0x0204 q → Gives (.secIdentityRead t q) s t (post (seen s t) q .ok { data := bytes32 s.m.nv.moduleId ++ devicePub s.m ++ [0, 0, 0] })) ∧
    (Served s t 0x0205 q → s.m.nv.lifecycle = .provisioned → s.m.nv.roleKeys = [] → 208 ≤ buf.length → (pointOf (slice buf 0 97)).isSome = true → (pointOf (slice buf 104 97)).isSome = true →
      slice buf 0 97 ≠ slice buf 104 97 → Gives (.secRoleInit t q buf) s t (post { seen s t with nv := { s.m.nv with roleKeys := [(0, slice buf 0 97), (4, slice buf 104 97)] } } q .ok))

/-- Debug access (R458 to R461): a token opens a level where its signature verifies under a key that may; FULL makes the outputs safe and holds the
module; eight failures in a row lock debug for 60 s; an access reads, writes or halts only at a level that permits it, and the end of a grant closes
OBSERVE. A point the rules leave open follows the model's choice or reading in log entries 8, 115, 116. -/
def Obligations.DebugLevels : Prop :=
  ∀ (s : State) (t a c x : Nat) (full : Bool) (sig : List Byte) (v : Byte), On s →
    (g1Up s.m = true → s.m.sec.lockout = none → Makes (.debugToken t full sig) s (fun m => m.sec.attempts = s.m.sec.attempts + 1 ∧
      if (debugKeys s.m full).any (fun k => ecdsaOk k (sha384 (challengeNow s.m ++ leBytes 1 (if full then 2 else 1))) sig) = true
      then m.sec.failures = 0 ∧ bitOf m.sec.events.toNat 4 = true ∧ m.sec.debug = (if full || s.m.sec.debug == .full then .full else .observe) ∧
        (full = true → s.m.sec.debug ≠ .full → m.fio.closed = 0 ∧ m.pwr.st = .hold)
      else m.sec.debug = s.m.sec.debug ∧ m.sec.failures = (if s.m.sec.failures = 7 then 0 else s.m.sec.failures + 1) ∧
        m.sec.lockout = (if s.m.sec.failures = 7 then some (max s.m.clk t) else none) ∧ bitOf m.flt.active.toNat 0x28 = true)) ∧
    (g1Up s.m = true → s.m.sec.lockout.isSome = true → Gives (.debugToken t full sig) s t (seen s t)) ∧
    (g1Up s.m = true → s.m.sec.debug = .full →
      (∃ u, exec (.debugAccess t (.write a v)) s = .next u ∧ u.dbg = tset s.dbg a v ∧ u.frame = s.frame ∧ u.image = s.image ∧ u.m.pge = s.m.pge) ∧
      (tget s.dbg a = some v → Makes (.debugAccess t (.read a)) s (fun m => m.sec.g1 = [v])) ∧
      (c < 16 → c ∉ s.m.sec.halted → Makes (.debugAccess t (.halt c)) s (fun m => m.sec.halted = s.m.sec.halted ++ [c]))) ∧
    (g1Up s.m = true → s.m.sec.debug = .closed → Gives (.debugAccess t (.read a)) s t { seen s t with sec := { s.m.sec with g1 := [] } } ∧
      Gives (.debugAccess t (.write a v)) s t { seen s t with sec := { s.m.sec with g1 := [] } }) ∧
    (s.m.sec.lockout = some x → x + 60000000000 ≤ max s.m.clk t → Gives (.debugLockoutEnd t) s t { seen s t with sec := { s.m.sec with lockout := none } }) ∧
    (s.m.sec.grantEnd = some x → x ≤ max s.m.clk t → Makes (.debugGrantEnd t) s (fun m => m.sec.grantEnd = none ∧ m.sec.debug = if s.m.sec.debug = .full then .full else .closed))

/-- The local panel: PanelFrames and PanelUpkeep. A point the rules leave open follows the model's choice or reading in log entry 140. -/
def Obligations.LocalPanel : Prop :=
  Claims.PanelFrames ∧ Claims.PanelUpkeep
end

