-- ==== Sys2Proof/Laws/State.lean ====
section
/-! SUPPORT. What each named update of the module leaves as it was: one lemma for each field of `Mod` the update does not
name, so that no proof unfolds a record update. -/

namespace Sys2Proof.Machine

@[simp] theorem tick_clk (m : Mod) : (m.tick).clk = m.clk := rfl
@[simp] theorem tick_nv (m : Mod) : (m.tick).nv = m.nv := rfl
@[simp] theorem tick_gen (m : Mod) : (m.tick).gen = m.gen := rfl
@[simp] theorem tick_pwr (m : Mod) : (m.tick).pwr = m.pwr := rfl
@[simp] theorem tick_hif (m : Mod) : (m.tick).hif = m.hif := rfl
@[simp] theorem tick_adm (m : Mod) : (m.tick).adm = m.adm := rfl
@[simp] theorem tick_sig (m : Mod) : (m.tick).sig = m.sig := rfl
@[simp] theorem tick_pge (m : Mod) : (m.tick).pge = m.pge := rfl
@[simp] theorem tick_lpe (m : Mod) : (m.tick).lpe = m.lpe := rfl
@[simp] theorem tick_pln (m : Mod) : (m.tick).pln = m.pln := rfl
@[simp] theorem tick_fio (m : Mod) : (m.tick).fio = m.fio := rfl
@[simp] theorem tick_saf (m : Mod) : (m.tick).saf = m.saf := rfl
@[simp] theorem tick_lks (m : Mod) : (m.tick).lks = m.lks := rfl
@[simp] theorem tick_tri (m : Mod) : (m.tick).tri = m.tri := rfl
@[simp] theorem tick_net (m : Mod) : (m.tick).net = m.net := rfl
@[simp] theorem tick_tim (m : Mod) : (m.tick).tim = m.tim := rfl
@[simp] theorem tick_can (m : Mod) : (m.tick).can = m.can := rfl
@[simp] theorem tick_flt (m : Mod) : (m.tick).flt = m.flt := rfl
@[simp] theorem tick_rcr (m : Mod) : (m.tick).rcr = m.rcr := rfl
@[simp] theorem tick_upd (m : Mod) : (m.tick).upd = m.upd := rfl
@[simp] theorem tick_sec (m : Mod) : (m.tick).sec = m.sec := rfl
@[simp] theorem tick_pnl (m : Mod) : (m.tick).pnl = m.pnl := rfl

@[simp] theorem advance_free (m : Mod) (t : Nat) : (m.advance t).free = m.free := rfl
@[simp] theorem advance_nv (m : Mod) (t : Nat) : (m.advance t).nv = m.nv := rfl
@[simp] theorem advance_gen (m : Mod) (t : Nat) : (m.advance t).gen = m.gen := rfl
@[simp] theorem advance_hif (m : Mod) (t : Nat) : (m.advance t).hif = m.hif := rfl
@[simp] theorem advance_adm (m : Mod) (t : Nat) : (m.advance t).adm = m.adm := rfl
@[simp] theorem advance_sig (m : Mod) (t : Nat) : (m.advance t).sig = m.sig := rfl
@[simp] theorem advance_pge (m : Mod) (t : Nat) : (m.advance t).pge = m.pge := rfl
@[simp] theorem advance_lpe (m : Mod) (t : Nat) : (m.advance t).lpe = m.lpe := rfl
@[simp] theorem advance_pln (m : Mod) (t : Nat) : (m.advance t).pln = m.pln := rfl
@[simp] theorem advance_fio (m : Mod) (t : Nat) : (m.advance t).fio = m.fio := rfl
@[simp] theorem advance_saf (m : Mod) (t : Nat) : (m.advance t).saf = m.saf := rfl
@[simp] theorem advance_lks (m : Mod) (t : Nat) : (m.advance t).lks = m.lks := rfl
@[simp] theorem advance_tri (m : Mod) (t : Nat) : (m.advance t).tri = m.tri := rfl
@[simp] theorem advance_net (m : Mod) (t : Nat) : (m.advance t).net = m.net := rfl
@[simp] theorem advance_tim (m : Mod) (t : Nat) : (m.advance t).tim = m.tim := rfl
@[simp] theorem advance_can (m : Mod) (t : Nat) : (m.advance t).can = m.can := rfl
@[simp] theorem advance_flt (m : Mod) (t : Nat) : (m.advance t).flt = m.flt := rfl
@[simp] theorem advance_rcr (m : Mod) (t : Nat) : (m.advance t).rcr = m.rcr := rfl
@[simp] theorem advance_upd (m : Mod) (t : Nat) : (m.advance t).upd = m.upd := rfl
@[simp] theorem advance_sec (m : Mod) (t : Nat) : (m.advance t).sec = m.sec := rfl
@[simp] theorem advance_pnl (m : Mod) (t : Nat) : (m.advance t).pnl = m.pnl := rfl

@[simp] theorem setRing_clk (m : Mod) (n : Nat) (r : Ring) : (setRing m n r).clk = m.clk := rfl
@[simp] theorem setRing_free (m : Mod) (n : Nat) (r : Ring) : (setRing m n r).free = m.free := rfl
@[simp] theorem setRing_nv (m : Mod) (n : Nat) (r : Ring) : (setRing m n r).nv = m.nv := rfl
@[simp] theorem setRing_gen (m : Mod) (n : Nat) (r : Ring) : (setRing m n r).gen = m.gen := rfl
@[simp] theorem setRing_pwr (m : Mod) (n : Nat) (r : Ring) : (setRing m n r).pwr = m.pwr := rfl
@[simp] theorem setRing_adm (m : Mod) (n : Nat) (r : Ring) : (setRing m n r).adm = m.adm := rfl
@[simp] theorem setRing_sig (m : Mod) (n : Nat) (r : Ring) : (setRing m n r).sig = m.sig := rfl
@[simp] theorem setRing_pge (m : Mod) (n : Nat) (r : Ring) : (setRing m n r).pge = m.pge := rfl
@[simp] theorem setRing_lpe (m : Mod) (n : Nat) (r : Ring) : (setRing m n r).lpe = m.lpe := rfl
@[simp] theorem setRing_pln (m : Mod) (n : Nat) (r : Ring) : (setRing m n r).pln = m.pln := rfl
@[simp] theorem setRing_fio (m : Mod) (n : Nat) (r : Ring) : (setRing m n r).fio = m.fio := rfl
@[simp] theorem setRing_saf (m : Mod) (n : Nat) (r : Ring) : (setRing m n r).saf = m.saf := rfl
@[simp] theorem setRing_lks (m : Mod) (n : Nat) (r : Ring) : (setRing m n r).lks = m.lks := rfl
@[simp] theorem setRing_tri (m : Mod) (n : Nat) (r : Ring) : (setRing m n r).tri = m.tri := rfl
@[simp] theorem setRing_net (m : Mod) (n : Nat) (r : Ring) : (setRing m n r).net = m.net := rfl
@[simp] theorem setRing_tim (m : Mod) (n : Nat) (r : Ring) : (setRing m n r).tim = m.tim := rfl
@[simp] theorem setRing_can (m : Mod) (n : Nat) (r : Ring) : (setRing m n r).can = m.can := rfl
@[simp] theorem setRing_flt (m : Mod) (n : Nat) (r : Ring) : (setRing m n r).flt = m.flt := rfl
@[simp] theorem setRing_rcr (m : Mod) (n : Nat) (r : Ring) : (setRing m n r).rcr = m.rcr := rfl
@[simp] theorem setRing_upd (m : Mod) (n : Nat) (r : Ring) : (setRing m n r).upd = m.upd := rfl
@[simp] theorem setRing_sec (m : Mod) (n : Nat) (r : Ring) : (setRing m n r).sec = m.sec := rfl
@[simp] theorem setRing_pnl (m : Mod) (n : Nat) (r : Ring) : (setRing m n r).pnl = m.pnl := rfl

@[simp] theorem startOp_clk (m : Mod) (q : Req) : (startOp m q).clk = m.clk := rfl
@[simp] theorem startOp_free (m : Mod) (q : Req) : (startOp m q).free = m.free := rfl
@[simp] theorem startOp_nv (m : Mod) (q : Req) : (startOp m q).nv = m.nv := rfl
@[simp] theorem startOp_gen (m : Mod) (q : Req) : (startOp m q).gen = m.gen := rfl
@[simp] theorem startOp_pwr (m : Mod) (q : Req) : (startOp m q).pwr = m.pwr := rfl
@[simp] theorem startOp_adm (m : Mod) (q : Req) : (startOp m q).adm = m.adm := rfl
@[simp] theorem startOp_sig (m : Mod) (q : Req) : (startOp m q).sig = m.sig := rfl
@[simp] theorem startOp_pge (m : Mod) (q : Req) : (startOp m q).pge = m.pge := rfl
@[simp] theorem startOp_lpe (m : Mod) (q : Req) : (startOp m q).lpe = m.lpe := rfl
@[simp] theorem startOp_pln (m : Mod) (q : Req) : (startOp m q).pln = m.pln := rfl
@[simp] theorem startOp_fio (m : Mod) (q : Req) : (startOp m q).fio = m.fio := rfl
@[simp] theorem startOp_saf (m : Mod) (q : Req) : (startOp m q).saf = m.saf := rfl
@[simp] theorem startOp_lks (m : Mod) (q : Req) : (startOp m q).lks = m.lks := rfl
@[simp] theorem startOp_tri (m : Mod) (q : Req) : (startOp m q).tri = m.tri := rfl
@[simp] theorem startOp_net (m : Mod) (q : Req) : (startOp m q).net = m.net := rfl
@[simp] theorem startOp_tim (m : Mod) (q : Req) : (startOp m q).tim = m.tim := rfl
@[simp] theorem startOp_can (m : Mod) (q : Req) : (startOp m q).can = m.can := rfl
@[simp] theorem startOp_flt (m : Mod) (q : Req) : (startOp m q).flt = m.flt := rfl
@[simp] theorem startOp_rcr (m : Mod) (q : Req) : (startOp m q).rcr = m.rcr := rfl
@[simp] theorem startOp_upd (m : Mod) (q : Req) : (startOp m q).upd = m.upd := rfl
@[simp] theorem startOp_sec (m : Mod) (q : Req) : (startOp m q).sec = m.sec := rfl
@[simp] theorem startOp_pnl (m : Mod) (q : Req) : (startOp m q).pnl = m.pnl := rfl

@[simp] theorem setSig_clk (m : Mod) (i : Nat) (r : SigRec) : (setSig m i r).clk = m.clk := rfl
@[simp] theorem setSig_free (m : Mod) (i : Nat) (r : SigRec) : (setSig m i r).free = m.free := rfl
@[simp] theorem setSig_nv (m : Mod) (i : Nat) (r : SigRec) : (setSig m i r).nv = m.nv := rfl
@[simp] theorem setSig_gen (m : Mod) (i : Nat) (r : SigRec) : (setSig m i r).gen = m.gen := rfl
@[simp] theorem setSig_pwr (m : Mod) (i : Nat) (r : SigRec) : (setSig m i r).pwr = m.pwr := rfl
@[simp] theorem setSig_hif (m : Mod) (i : Nat) (r : SigRec) : (setSig m i r).hif = m.hif := rfl
@[simp] theorem setSig_adm (m : Mod) (i : Nat) (r : SigRec) : (setSig m i r).adm = m.adm := rfl
@[simp] theorem setSig_pge (m : Mod) (i : Nat) (r : SigRec) : (setSig m i r).pge = m.pge := rfl
@[simp] theorem setSig_lpe (m : Mod) (i : Nat) (r : SigRec) : (setSig m i r).lpe = m.lpe := rfl
@[simp] theorem setSig_pln (m : Mod) (i : Nat) (r : SigRec) : (setSig m i r).pln = m.pln := rfl
@[simp] theorem setSig_fio (m : Mod) (i : Nat) (r : SigRec) : (setSig m i r).fio = m.fio := rfl
@[simp] theorem setSig_saf (m : Mod) (i : Nat) (r : SigRec) : (setSig m i r).saf = m.saf := rfl
@[simp] theorem setSig_lks (m : Mod) (i : Nat) (r : SigRec) : (setSig m i r).lks = m.lks := rfl
@[simp] theorem setSig_tri (m : Mod) (i : Nat) (r : SigRec) : (setSig m i r).tri = m.tri := rfl
@[simp] theorem setSig_net (m : Mod) (i : Nat) (r : SigRec) : (setSig m i r).net = m.net := rfl
@[simp] theorem setSig_tim (m : Mod) (i : Nat) (r : SigRec) : (setSig m i r).tim = m.tim := rfl
@[simp] theorem setSig_can (m : Mod) (i : Nat) (r : SigRec) : (setSig m i r).can = m.can := rfl
@[simp] theorem setSig_flt (m : Mod) (i : Nat) (r : SigRec) : (setSig m i r).flt = m.flt := rfl
@[simp] theorem setSig_rcr (m : Mod) (i : Nat) (r : SigRec) : (setSig m i r).rcr = m.rcr := rfl
@[simp] theorem setSig_upd (m : Mod) (i : Nat) (r : SigRec) : (setSig m i r).upd = m.upd := rfl
@[simp] theorem setSig_sec (m : Mod) (i : Nat) (r : SigRec) : (setSig m i r).sec = m.sec := rfl
@[simp] theorem setSig_pnl (m : Mod) (i : Nat) (r : SigRec) : (setSig m i r).pnl = m.pnl := rfl

@[simp] theorem modSig_clk (m : Mod) (i : Nat) (f : SigRec → SigRec) : (modSig m i f).clk = m.clk := rfl
@[simp] theorem modSig_free (m : Mod) (i : Nat) (f : SigRec → SigRec) : (modSig m i f).free = m.free := rfl
@[simp] theorem modSig_nv (m : Mod) (i : Nat) (f : SigRec → SigRec) : (modSig m i f).nv = m.nv := rfl
@[simp] theorem modSig_gen (m : Mod) (i : Nat) (f : SigRec → SigRec) : (modSig m i f).gen = m.gen := rfl
@[simp] theorem modSig_pwr (m : Mod) (i : Nat) (f : SigRec → SigRec) : (modSig m i f).pwr = m.pwr := rfl
@[simp] theorem modSig_hif (m : Mod) (i : Nat) (f : SigRec → SigRec) : (modSig m i f).hif = m.hif := rfl
@[simp] theorem modSig_adm (m : Mod) (i : Nat) (f : SigRec → SigRec) : (modSig m i f).adm = m.adm := rfl
@[simp] theorem modSig_pge (m : Mod) (i : Nat) (f : SigRec → SigRec) : (modSig m i f).pge = m.pge := rfl
@[simp] theorem modSig_lpe (m : Mod) (i : Nat) (f : SigRec → SigRec) : (modSig m i f).lpe = m.lpe := rfl
@[simp] theorem modSig_pln (m : Mod) (i : Nat) (f : SigRec → SigRec) : (modSig m i f).pln = m.pln := rfl
@[simp] theorem modSig_fio (m : Mod) (i : Nat) (f : SigRec → SigRec) : (modSig m i f).fio = m.fio := rfl
@[simp] theorem modSig_saf (m : Mod) (i : Nat) (f : SigRec → SigRec) : (modSig m i f).saf = m.saf := rfl
@[simp] theorem modSig_lks (m : Mod) (i : Nat) (f : SigRec → SigRec) : (modSig m i f).lks = m.lks := rfl
@[simp] theorem modSig_tri (m : Mod) (i : Nat) (f : SigRec → SigRec) : (modSig m i f).tri = m.tri := rfl
@[simp] theorem modSig_net (m : Mod) (i : Nat) (f : SigRec → SigRec) : (modSig m i f).net = m.net := rfl
@[simp] theorem modSig_tim (m : Mod) (i : Nat) (f : SigRec → SigRec) : (modSig m i f).tim = m.tim := rfl
@[simp] theorem modSig_can (m : Mod) (i : Nat) (f : SigRec → SigRec) : (modSig m i f).can = m.can := rfl
@[simp] theorem modSig_flt (m : Mod) (i : Nat) (f : SigRec → SigRec) : (modSig m i f).flt = m.flt := rfl
@[simp] theorem modSig_rcr (m : Mod) (i : Nat) (f : SigRec → SigRec) : (modSig m i f).rcr = m.rcr := rfl
@[simp] theorem modSig_upd (m : Mod) (i : Nat) (f : SigRec → SigRec) : (modSig m i f).upd = m.upd := rfl
@[simp] theorem modSig_sec (m : Mod) (i : Nat) (f : SigRec → SigRec) : (modSig m i f).sec = m.sec := rfl
@[simp] theorem modSig_pnl (m : Mod) (i : Nat) (f : SigRec → SigRec) : (modSig m i f).pnl = m.pnl := rfl

@[simp] theorem sigRefused_clk (m : Mod) (i : Nat) : (sigRefused m i).clk = m.clk := rfl
@[simp] theorem sigRefused_free (m : Mod) (i : Nat) : (sigRefused m i).free = m.free := rfl
@[simp] theorem sigRefused_nv (m : Mod) (i : Nat) : (sigRefused m i).nv = m.nv := rfl
@[simp] theorem sigRefused_gen (m : Mod) (i : Nat) : (sigRefused m i).gen = m.gen := rfl
@[simp] theorem sigRefused_pwr (m : Mod) (i : Nat) : (sigRefused m i).pwr = m.pwr := rfl
@[simp] theorem sigRefused_hif (m : Mod) (i : Nat) : (sigRefused m i).hif = m.hif := rfl
@[simp] theorem sigRefused_adm (m : Mod) (i : Nat) : (sigRefused m i).adm = m.adm := rfl
@[simp] theorem sigRefused_pge (m : Mod) (i : Nat) : (sigRefused m i).pge = m.pge := rfl
@[simp] theorem sigRefused_lpe (m : Mod) (i : Nat) : (sigRefused m i).lpe = m.lpe := rfl
@[simp] theorem sigRefused_pln (m : Mod) (i : Nat) : (sigRefused m i).pln = m.pln := rfl
@[simp] theorem sigRefused_fio (m : Mod) (i : Nat) : (sigRefused m i).fio = m.fio := rfl
@[simp] theorem sigRefused_saf (m : Mod) (i : Nat) : (sigRefused m i).saf = m.saf := rfl
@[simp] theorem sigRefused_lks (m : Mod) (i : Nat) : (sigRefused m i).lks = m.lks := rfl
@[simp] theorem sigRefused_tri (m : Mod) (i : Nat) : (sigRefused m i).tri = m.tri := rfl
@[simp] theorem sigRefused_net (m : Mod) (i : Nat) : (sigRefused m i).net = m.net := rfl
@[simp] theorem sigRefused_tim (m : Mod) (i : Nat) : (sigRefused m i).tim = m.tim := rfl
@[simp] theorem sigRefused_can (m : Mod) (i : Nat) : (sigRefused m i).can = m.can := rfl
@[simp] theorem sigRefused_flt (m : Mod) (i : Nat) : (sigRefused m i).flt = m.flt := rfl
@[simp] theorem sigRefused_rcr (m : Mod) (i : Nat) : (sigRefused m i).rcr = m.rcr := rfl
@[simp] theorem sigRefused_upd (m : Mod) (i : Nat) : (sigRefused m i).upd = m.upd := rfl
@[simp] theorem sigRefused_sec (m : Mod) (i : Nat) : (sigRefused m i).sec = m.sec := rfl
@[simp] theorem sigRefused_pnl (m : Mod) (i : Nat) : (sigRefused m i).pnl = m.pnl := rfl

@[simp] theorem localCopy_clk (m : Mod) (i : Nat) (v : View) : (localCopy m i v).clk = m.clk := rfl
@[simp] theorem localCopy_free (m : Mod) (i : Nat) (v : View) : (localCopy m i v).free = m.free := rfl
@[simp] theorem localCopy_nv (m : Mod) (i : Nat) (v : View) : (localCopy m i v).nv = m.nv := rfl
@[simp] theorem localCopy_gen (m : Mod) (i : Nat) (v : View) : (localCopy m i v).gen = m.gen := rfl
@[simp] theorem localCopy_pwr (m : Mod) (i : Nat) (v : View) : (localCopy m i v).pwr = m.pwr := rfl
@[simp] theorem localCopy_hif (m : Mod) (i : Nat) (v : View) : (localCopy m i v).hif = m.hif := rfl
@[simp] theorem localCopy_adm (m : Mod) (i : Nat) (v : View) : (localCopy m i v).adm = m.adm := rfl
@[simp] theorem localCopy_sig (m : Mod) (i : Nat) (v : View) : (localCopy m i v).sig = m.sig := rfl
@[simp] theorem localCopy_pge (m : Mod) (i : Nat) (v : View) : (localCopy m i v).pge = m.pge := rfl
@[simp] theorem localCopy_lpe (m : Mod) (i : Nat) (v : View) : (localCopy m i v).lpe = m.lpe := rfl
@[simp] theorem localCopy_pln (m : Mod) (i : Nat) (v : View) : (localCopy m i v).pln = m.pln := rfl
@[simp] theorem localCopy_fio (m : Mod) (i : Nat) (v : View) : (localCopy m i v).fio = m.fio := rfl
@[simp] theorem localCopy_saf (m : Mod) (i : Nat) (v : View) : (localCopy m i v).saf = m.saf := rfl
@[simp] theorem localCopy_lks (m : Mod) (i : Nat) (v : View) : (localCopy m i v).lks = m.lks := rfl
@[simp] theorem localCopy_net (m : Mod) (i : Nat) (v : View) : (localCopy m i v).net = m.net := rfl
@[simp] theorem localCopy_tim (m : Mod) (i : Nat) (v : View) : (localCopy m i v).tim = m.tim := rfl
@[simp] theorem localCopy_can (m : Mod) (i : Nat) (v : View) : (localCopy m i v).can = m.can := rfl
@[simp] theorem localCopy_flt (m : Mod) (i : Nat) (v : View) : (localCopy m i v).flt = m.flt := rfl
@[simp] theorem localCopy_rcr (m : Mod) (i : Nat) (v : View) : (localCopy m i v).rcr = m.rcr := rfl
@[simp] theorem localCopy_upd (m : Mod) (i : Nat) (v : View) : (localCopy m i v).upd = m.upd := rfl
@[simp] theorem localCopy_sec (m : Mod) (i : Nat) (v : View) : (localCopy m i v).sec = m.sec := rfl
@[simp] theorem localCopy_pnl (m : Mod) (i : Nat) (v : View) : (localCopy m i v).pnl = m.pnl := rfl

@[simp] theorem staleOwned_clk (m : Mod) (k i : Nat) : (staleOwned m k i).clk = m.clk := rfl
@[simp] theorem staleOwned_free (m : Mod) (k i : Nat) : (staleOwned m k i).free = m.free := rfl
@[simp] theorem staleOwned_nv (m : Mod) (k i : Nat) : (staleOwned m k i).nv = m.nv := rfl
@[simp] theorem staleOwned_gen (m : Mod) (k i : Nat) : (staleOwned m k i).gen = m.gen := rfl
@[simp] theorem staleOwned_pwr (m : Mod) (k i : Nat) : (staleOwned m k i).pwr = m.pwr := rfl
@[simp] theorem staleOwned_hif (m : Mod) (k i : Nat) : (staleOwned m k i).hif = m.hif := rfl
@[simp] theorem staleOwned_adm (m : Mod) (k i : Nat) : (staleOwned m k i).adm = m.adm := rfl
@[simp] theorem staleOwned_pge (m : Mod) (k i : Nat) : (staleOwned m k i).pge = m.pge := rfl
@[simp] theorem staleOwned_lpe (m : Mod) (k i : Nat) : (staleOwned m k i).lpe = m.lpe := rfl
@[simp] theorem staleOwned_pln (m : Mod) (k i : Nat) : (staleOwned m k i).pln = m.pln := rfl
@[simp] theorem staleOwned_fio (m : Mod) (k i : Nat) : (staleOwned m k i).fio = m.fio := rfl
@[simp] theorem staleOwned_saf (m : Mod) (k i : Nat) : (staleOwned m k i).saf = m.saf := rfl
@[simp] theorem staleOwned_lks (m : Mod) (k i : Nat) : (staleOwned m k i).lks = m.lks := rfl
@[simp] theorem staleOwned_tri (m : Mod) (k i : Nat) : (staleOwned m k i).tri = m.tri := rfl
@[simp] theorem staleOwned_net (m : Mod) (k i : Nat) : (staleOwned m k i).net = m.net := rfl
@[simp] theorem staleOwned_tim (m : Mod) (k i : Nat) : (staleOwned m k i).tim = m.tim := rfl
@[simp] theorem staleOwned_can (m : Mod) (k i : Nat) : (staleOwned m k i).can = m.can := rfl
@[simp] theorem staleOwned_flt (m : Mod) (k i : Nat) : (staleOwned m k i).flt = m.flt := rfl
@[simp] theorem staleOwned_rcr (m : Mod) (k i : Nat) : (staleOwned m k i).rcr = m.rcr := rfl
@[simp] theorem staleOwned_upd (m : Mod) (k i : Nat) : (staleOwned m k i).upd = m.upd := rfl
@[simp] theorem staleOwned_sec (m : Mod) (k i : Nat) : (staleOwned m k i).sec = m.sec := rfl
@[simp] theorem staleOwned_pnl (m : Mod) (k i : Nat) : (staleOwned m k i).pnl = m.pnl := rfl

@[simp] theorem orphan_clk (m : Mod) (k i : Nat) (l : List Nat) : (orphan m k i l).clk = m.clk := rfl
@[simp] theorem orphan_free (m : Mod) (k i : Nat) (l : List Nat) : (orphan m k i l).free = m.free := rfl
@[simp] theorem orphan_nv (m : Mod) (k i : Nat) (l : List Nat) : (orphan m k i l).nv = m.nv := rfl
@[simp] theorem orphan_gen (m : Mod) (k i : Nat) (l : List Nat) : (orphan m k i l).gen = m.gen := rfl
@[simp] theorem orphan_pwr (m : Mod) (k i : Nat) (l : List Nat) : (orphan m k i l).pwr = m.pwr := rfl
@[simp] theorem orphan_hif (m : Mod) (k i : Nat) (l : List Nat) : (orphan m k i l).hif = m.hif := rfl
@[simp] theorem orphan_adm (m : Mod) (k i : Nat) (l : List Nat) : (orphan m k i l).adm = m.adm := rfl
@[simp] theorem orphan_pge (m : Mod) (k i : Nat) (l : List Nat) : (orphan m k i l).pge = m.pge := rfl
@[simp] theorem orphan_lpe (m : Mod) (k i : Nat) (l : List Nat) : (orphan m k i l).lpe = m.lpe := rfl
@[simp] theorem orphan_pln (m : Mod) (k i : Nat) (l : List Nat) : (orphan m k i l).pln = m.pln := rfl
@[simp] theorem orphan_fio (m : Mod) (k i : Nat) (l : List Nat) : (orphan m k i l).fio = m.fio := rfl
@[simp] theorem orphan_saf (m : Mod) (k i : Nat) (l : List Nat) : (orphan m k i l).saf = m.saf := rfl
@[simp] theorem orphan_lks (m : Mod) (k i : Nat) (l : List Nat) : (orphan m k i l).lks = m.lks := rfl
@[simp] theorem orphan_tri (m : Mod) (k i : Nat) (l : List Nat) : (orphan m k i l).tri = m.tri := rfl
@[simp] theorem orphan_net (m : Mod) (k i : Nat) (l : List Nat) : (orphan m k i l).net = m.net := rfl
@[simp] theorem orphan_tim (m : Mod) (k i : Nat) (l : List Nat) : (orphan m k i l).tim = m.tim := rfl
@[simp] theorem orphan_can (m : Mod) (k i : Nat) (l : List Nat) : (orphan m k i l).can = m.can := rfl
@[simp] theorem orphan_flt (m : Mod) (k i : Nat) (l : List Nat) : (orphan m k i l).flt = m.flt := rfl
@[simp] theorem orphan_rcr (m : Mod) (k i : Nat) (l : List Nat) : (orphan m k i l).rcr = m.rcr := rfl
@[simp] theorem orphan_upd (m : Mod) (k i : Nat) (l : List Nat) : (orphan m k i l).upd = m.upd := rfl
@[simp] theorem orphan_sec (m : Mod) (k i : Nat) (l : List Nat) : (orphan m k i l).sec = m.sec := rfl
@[simp] theorem orphan_pnl (m : Mod) (k i : Nat) (l : List Nat) : (orphan m k i l).pnl = m.pnl := rfl

@[simp] theorem setPair_clk (m : Mod) (p : Nat) (v : Pair) : (setPair m p v).clk = m.clk := rfl
@[simp] theorem setPair_free (m : Mod) (p : Nat) (v : Pair) : (setPair m p v).free = m.free := rfl
@[simp] theorem setPair_nv (m : Mod) (p : Nat) (v : Pair) : (setPair m p v).nv = m.nv := rfl
@[simp] theorem setPair_gen (m : Mod) (p : Nat) (v : Pair) : (setPair m p v).gen = m.gen := rfl
@[simp] theorem setPair_pwr (m : Mod) (p : Nat) (v : Pair) : (setPair m p v).pwr = m.pwr := rfl
@[simp] theorem setPair_hif (m : Mod) (p : Nat) (v : Pair) : (setPair m p v).hif = m.hif := rfl
@[simp] theorem setPair_adm (m : Mod) (p : Nat) (v : Pair) : (setPair m p v).adm = m.adm := rfl
@[simp] theorem setPair_sig (m : Mod) (p : Nat) (v : Pair) : (setPair m p v).sig = m.sig := rfl
@[simp] theorem setPair_pge (m : Mod) (p : Nat) (v : Pair) : (setPair m p v).pge = m.pge := rfl
@[simp] theorem setPair_lpe (m : Mod) (p : Nat) (v : Pair) : (setPair m p v).lpe = m.lpe := rfl
@[simp] theorem setPair_pln (m : Mod) (p : Nat) (v : Pair) : (setPair m p v).pln = m.pln := rfl
@[simp] theorem setPair_fio (m : Mod) (p : Nat) (v : Pair) : (setPair m p v).fio = m.fio := rfl
@[simp] theorem setPair_saf (m : Mod) (p : Nat) (v : Pair) : (setPair m p v).saf = m.saf := rfl
@[simp] theorem setPair_tri (m : Mod) (p : Nat) (v : Pair) : (setPair m p v).tri = m.tri := rfl
@[simp] theorem setPair_net (m : Mod) (p : Nat) (v : Pair) : (setPair m p v).net = m.net := rfl
@[simp] theorem setPair_tim (m : Mod) (p : Nat) (v : Pair) : (setPair m p v).tim = m.tim := rfl
@[simp] theorem setPair_can (m : Mod) (p : Nat) (v : Pair) : (setPair m p v).can = m.can := rfl
@[simp] theorem setPair_flt (m : Mod) (p : Nat) (v : Pair) : (setPair m p v).flt = m.flt := rfl
@[simp] theorem setPair_rcr (m : Mod) (p : Nat) (v : Pair) : (setPair m p v).rcr = m.rcr := rfl
@[simp] theorem setPair_upd (m : Mod) (p : Nat) (v : Pair) : (setPair m p v).upd = m.upd := rfl
@[simp] theorem setPair_sec (m : Mod) (p : Nat) (v : Pair) : (setPair m p v).sec = m.sec := rfl
@[simp] theorem setPair_pnl (m : Mod) (p : Nat) (v : Pair) : (setPair m p v).pnl = m.pnl := rfl

@[simp] theorem setTask_clk (m : Mod) (k : Nat) (t : Task) : (setTask m k t).clk = m.clk := rfl
@[simp] theorem setTask_free (m : Mod) (k : Nat) (t : Task) : (setTask m k t).free = m.free := rfl
@[simp] theorem setTask_nv (m : Mod) (k : Nat) (t : Task) : (setTask m k t).nv = m.nv := rfl
@[simp] theorem setTask_gen (m : Mod) (k : Nat) (t : Task) : (setTask m k t).gen = m.gen := rfl
@[simp] theorem setTask_pwr (m : Mod) (k : Nat) (t : Task) : (setTask m k t).pwr = m.pwr := rfl
@[simp] theorem setTask_hif (m : Mod) (k : Nat) (t : Task) : (setTask m k t).hif = m.hif := rfl
@[simp] theorem setTask_adm (m : Mod) (k : Nat) (t : Task) : (setTask m k t).adm = m.adm := rfl
@[simp] theorem setTask_sig (m : Mod) (k : Nat) (t : Task) : (setTask m k t).sig = m.sig := rfl
@[simp] theorem setTask_lpe (m : Mod) (k : Nat) (t : Task) : (setTask m k t).lpe = m.lpe := rfl
@[simp] theorem setTask_pln (m : Mod) (k : Nat) (t : Task) : (setTask m k t).pln = m.pln := rfl
@[simp] theorem setTask_fio (m : Mod) (k : Nat) (t : Task) : (setTask m k t).fio = m.fio := rfl
@[simp] theorem setTask_saf (m : Mod) (k : Nat) (t : Task) : (setTask m k t).saf = m.saf := rfl
@[simp] theorem setTask_lks (m : Mod) (k : Nat) (t : Task) : (setTask m k t).lks = m.lks := rfl
@[simp] theorem setTask_tri (m : Mod) (k : Nat) (t : Task) : (setTask m k t).tri = m.tri := rfl
@[simp] theorem setTask_net (m : Mod) (k : Nat) (t : Task) : (setTask m k t).net = m.net := rfl
@[simp] theorem setTask_tim (m : Mod) (k : Nat) (t : Task) : (setTask m k t).tim = m.tim := rfl
@[simp] theorem setTask_can (m : Mod) (k : Nat) (t : Task) : (setTask m k t).can = m.can := rfl
@[simp] theorem setTask_flt (m : Mod) (k : Nat) (t : Task) : (setTask m k t).flt = m.flt := rfl
@[simp] theorem setTask_rcr (m : Mod) (k : Nat) (t : Task) : (setTask m k t).rcr = m.rcr := rfl
@[simp] theorem setTask_upd (m : Mod) (k : Nat) (t : Task) : (setTask m k t).upd = m.upd := rfl
@[simp] theorem setTask_sec (m : Mod) (k : Nat) (t : Task) : (setTask m k t).sec = m.sec := rfl
@[simp] theorem setTask_pnl (m : Mod) (k : Nat) (t : Task) : (setTask m k t).pnl = m.pnl := rfl

@[simp] theorem unrun_clk (m : Mod) (k : Nat) : (unrun m k).clk = m.clk := rfl
@[simp] theorem unrun_free (m : Mod) (k : Nat) : (unrun m k).free = m.free := rfl
@[simp] theorem unrun_nv (m : Mod) (k : Nat) : (unrun m k).nv = m.nv := rfl
@[simp] theorem unrun_gen (m : Mod) (k : Nat) : (unrun m k).gen = m.gen := rfl
@[simp] theorem unrun_pwr (m : Mod) (k : Nat) : (unrun m k).pwr = m.pwr := rfl
@[simp] theorem unrun_hif (m : Mod) (k : Nat) : (unrun m k).hif = m.hif := rfl
@[simp] theorem unrun_adm (m : Mod) (k : Nat) : (unrun m k).adm = m.adm := rfl
@[simp] theorem unrun_sig (m : Mod) (k : Nat) : (unrun m k).sig = m.sig := rfl
@[simp] theorem unrun_lpe (m : Mod) (k : Nat) : (unrun m k).lpe = m.lpe := rfl
@[simp] theorem unrun_pln (m : Mod) (k : Nat) : (unrun m k).pln = m.pln := rfl
@[simp] theorem unrun_fio (m : Mod) (k : Nat) : (unrun m k).fio = m.fio := rfl
@[simp] theorem unrun_saf (m : Mod) (k : Nat) : (unrun m k).saf = m.saf := rfl
@[simp] theorem unrun_lks (m : Mod) (k : Nat) : (unrun m k).lks = m.lks := rfl
@[simp] theorem unrun_tri (m : Mod) (k : Nat) : (unrun m k).tri = m.tri := rfl
@[simp] theorem unrun_net (m : Mod) (k : Nat) : (unrun m k).net = m.net := rfl
@[simp] theorem unrun_tim (m : Mod) (k : Nat) : (unrun m k).tim = m.tim := rfl
@[simp] theorem unrun_can (m : Mod) (k : Nat) : (unrun m k).can = m.can := rfl
@[simp] theorem unrun_flt (m : Mod) (k : Nat) : (unrun m k).flt = m.flt := rfl
@[simp] theorem unrun_rcr (m : Mod) (k : Nat) : (unrun m k).rcr = m.rcr := rfl
@[simp] theorem unrun_upd (m : Mod) (k : Nat) : (unrun m k).upd = m.upd := rfl
@[simp] theorem unrun_sec (m : Mod) (k : Nat) : (unrun m k).sec = m.sec := rfl
@[simp] theorem unrun_pnl (m : Mod) (k : Nat) : (unrun m k).pnl = m.pnl := rfl

@[simp] theorem abortAll_clk (m : Mod) : (abortAll m).clk = m.clk := rfl
@[simp] theorem abortAll_free (m : Mod) : (abortAll m).free = m.free := rfl
@[simp] theorem abortAll_nv (m : Mod) : (abortAll m).nv = m.nv := rfl
@[simp] theorem abortAll_gen (m : Mod) : (abortAll m).gen = m.gen := rfl
@[simp] theorem abortAll_pwr (m : Mod) : (abortAll m).pwr = m.pwr := rfl
@[simp] theorem abortAll_hif (m : Mod) : (abortAll m).hif = m.hif := rfl
@[simp] theorem abortAll_adm (m : Mod) : (abortAll m).adm = m.adm := rfl
@[simp] theorem abortAll_sig (m : Mod) : (abortAll m).sig = m.sig := rfl
@[simp] theorem abortAll_lpe (m : Mod) : (abortAll m).lpe = m.lpe := rfl
@[simp] theorem abortAll_pln (m : Mod) : (abortAll m).pln = m.pln := rfl
@[simp] theorem abortAll_fio (m : Mod) : (abortAll m).fio = m.fio := rfl
@[simp] theorem abortAll_saf (m : Mod) : (abortAll m).saf = m.saf := rfl
@[simp] theorem abortAll_lks (m : Mod) : (abortAll m).lks = m.lks := rfl
@[simp] theorem abortAll_tri (m : Mod) : (abortAll m).tri = m.tri := rfl
@[simp] theorem abortAll_net (m : Mod) : (abortAll m).net = m.net := rfl
@[simp] theorem abortAll_tim (m : Mod) : (abortAll m).tim = m.tim := rfl
@[simp] theorem abortAll_can (m : Mod) : (abortAll m).can = m.can := rfl
@[simp] theorem abortAll_flt (m : Mod) : (abortAll m).flt = m.flt := rfl
@[simp] theorem abortAll_rcr (m : Mod) : (abortAll m).rcr = m.rcr := rfl
@[simp] theorem abortAll_upd (m : Mod) : (abortAll m).upd = m.upd := rfl
@[simp] theorem abortAll_sec (m : Mod) : (abortAll m).sec = m.sec := rfl
@[simp] theorem abortAll_pnl (m : Mod) : (abortAll m).pnl = m.pnl := rfl

@[simp] theorem setChan_clk (m : Mod) (n : Nat) (c : Chan) : (setChan m n c).clk = m.clk := rfl
@[simp] theorem setChan_free (m : Mod) (n : Nat) (c : Chan) : (setChan m n c).free = m.free := rfl
@[simp] theorem setChan_nv (m : Mod) (n : Nat) (c : Chan) : (setChan m n c).nv = m.nv := rfl
@[simp] theorem setChan_gen (m : Mod) (n : Nat) (c : Chan) : (setChan m n c).gen = m.gen := rfl
@[simp] theorem setChan_pwr (m : Mod) (n : Nat) (c : Chan) : (setChan m n c).pwr = m.pwr := rfl
@[simp] theorem setChan_hif (m : Mod) (n : Nat) (c : Chan) : (setChan m n c).hif = m.hif := rfl
@[simp] theorem setChan_adm (m : Mod) (n : Nat) (c : Chan) : (setChan m n c).adm = m.adm := rfl
@[simp] theorem setChan_sig (m : Mod) (n : Nat) (c : Chan) : (setChan m n c).sig = m.sig := rfl
@[simp] theorem setChan_pge (m : Mod) (n : Nat) (c : Chan) : (setChan m n c).pge = m.pge := rfl
@[simp] theorem setChan_lpe (m : Mod) (n : Nat) (c : Chan) : (setChan m n c).lpe = m.lpe := rfl
@[simp] theorem setChan_pln (m : Mod) (n : Nat) (c : Chan) : (setChan m n c).pln = m.pln := rfl
@[simp] theorem setChan_saf (m : Mod) (n : Nat) (c : Chan) : (setChan m n c).saf = m.saf := rfl
@[simp] theorem setChan_lks (m : Mod) (n : Nat) (c : Chan) : (setChan m n c).lks = m.lks := rfl
@[simp] theorem setChan_tri (m : Mod) (n : Nat) (c : Chan) : (setChan m n c).tri = m.tri := rfl
@[simp] theorem setChan_net (m : Mod) (n : Nat) (c : Chan) : (setChan m n c).net = m.net := rfl
@[simp] theorem setChan_tim (m : Mod) (n : Nat) (c : Chan) : (setChan m n c).tim = m.tim := rfl
@[simp] theorem setChan_can (m : Mod) (n : Nat) (c : Chan) : (setChan m n c).can = m.can := rfl
@[simp] theorem setChan_flt (m : Mod) (n : Nat) (c : Chan) : (setChan m n c).flt = m.flt := rfl
@[simp] theorem setChan_rcr (m : Mod) (n : Nat) (c : Chan) : (setChan m n c).rcr = m.rcr := rfl
@[simp] theorem setChan_upd (m : Mod) (n : Nat) (c : Chan) : (setChan m n c).upd = m.upd := rfl
@[simp] theorem setChan_sec (m : Mod) (n : Nat) (c : Chan) : (setChan m n c).sec = m.sec := rfl
@[simp] theorem setChan_pnl (m : Mod) (n : Nat) (c : Chan) : (setChan m n c).pnl = m.pnl := rfl

@[simp] theorem putChan_clk (m : Mod) (n : Nat) (c : Chan) : (putChan m n c).clk = m.clk := rfl
@[simp] theorem putChan_free (m : Mod) (n : Nat) (c : Chan) : (putChan m n c).free = m.free := rfl
@[simp] theorem putChan_nv (m : Mod) (n : Nat) (c : Chan) : (putChan m n c).nv = m.nv := rfl
@[simp] theorem putChan_gen (m : Mod) (n : Nat) (c : Chan) : (putChan m n c).gen = m.gen := rfl
@[simp] theorem putChan_pwr (m : Mod) (n : Nat) (c : Chan) : (putChan m n c).pwr = m.pwr := rfl
@[simp] theorem putChan_hif (m : Mod) (n : Nat) (c : Chan) : (putChan m n c).hif = m.hif := rfl
@[simp] theorem putChan_adm (m : Mod) (n : Nat) (c : Chan) : (putChan m n c).adm = m.adm := rfl
@[simp] theorem putChan_sig (m : Mod) (n : Nat) (c : Chan) : (putChan m n c).sig = m.sig := rfl
@[simp] theorem putChan_pge (m : Mod) (n : Nat) (c : Chan) : (putChan m n c).pge = m.pge := rfl
@[simp] theorem putChan_lpe (m : Mod) (n : Nat) (c : Chan) : (putChan m n c).lpe = m.lpe := rfl
@[simp] theorem putChan_pln (m : Mod) (n : Nat) (c : Chan) : (putChan m n c).pln = m.pln := rfl
@[simp] theorem putChan_saf (m : Mod) (n : Nat) (c : Chan) : (putChan m n c).saf = m.saf := rfl
@[simp] theorem putChan_lks (m : Mod) (n : Nat) (c : Chan) : (putChan m n c).lks = m.lks := rfl
@[simp] theorem putChan_tri (m : Mod) (n : Nat) (c : Chan) : (putChan m n c).tri = m.tri := rfl
@[simp] theorem putChan_net (m : Mod) (n : Nat) (c : Chan) : (putChan m n c).net = m.net := rfl
@[simp] theorem putChan_tim (m : Mod) (n : Nat) (c : Chan) : (putChan m n c).tim = m.tim := rfl
@[simp] theorem putChan_can (m : Mod) (n : Nat) (c : Chan) : (putChan m n c).can = m.can := rfl
@[simp] theorem putChan_flt (m : Mod) (n : Nat) (c : Chan) : (putChan m n c).flt = m.flt := rfl
@[simp] theorem putChan_rcr (m : Mod) (n : Nat) (c : Chan) : (putChan m n c).rcr = m.rcr := rfl
@[simp] theorem putChan_upd (m : Mod) (n : Nat) (c : Chan) : (putChan m n c).upd = m.upd := rfl
@[simp] theorem putChan_sec (m : Mod) (n : Nat) (c : Chan) : (putChan m n c).sec = m.sec := rfl
@[simp] theorem putChan_pnl (m : Mod) (n : Nat) (c : Chan) : (putChan m n c).pnl = m.pnl := rfl

@[simp] theorem allSafe_clk (m : Mod) : (allSafe m).clk = m.clk := rfl
@[simp] theorem allSafe_free (m : Mod) : (allSafe m).free = m.free := rfl
@[simp] theorem allSafe_nv (m : Mod) : (allSafe m).nv = m.nv := rfl
@[simp] theorem allSafe_gen (m : Mod) : (allSafe m).gen = m.gen := rfl
@[simp] theorem allSafe_pwr (m : Mod) : (allSafe m).pwr = m.pwr := rfl
@[simp] theorem allSafe_hif (m : Mod) : (allSafe m).hif = m.hif := rfl
@[simp] theorem allSafe_adm (m : Mod) : (allSafe m).adm = m.adm := rfl
@[simp] theorem allSafe_sig (m : Mod) : (allSafe m).sig = m.sig := rfl
@[simp] theorem allSafe_pge (m : Mod) : (allSafe m).pge = m.pge := rfl
@[simp] theorem allSafe_lpe (m : Mod) : (allSafe m).lpe = m.lpe := rfl
@[simp] theorem allSafe_pln (m : Mod) : (allSafe m).pln = m.pln := rfl
@[simp] theorem allSafe_saf (m : Mod) : (allSafe m).saf = m.saf := rfl
@[simp] theorem allSafe_lks (m : Mod) : (allSafe m).lks = m.lks := rfl
@[simp] theorem allSafe_tri (m : Mod) : (allSafe m).tri = m.tri := rfl
@[simp] theorem allSafe_net (m : Mod) : (allSafe m).net = m.net := rfl
@[simp] theorem allSafe_tim (m : Mod) : (allSafe m).tim = m.tim := rfl
@[simp] theorem allSafe_can (m : Mod) : (allSafe m).can = m.can := rfl
@[simp] theorem allSafe_flt (m : Mod) : (allSafe m).flt = m.flt := rfl
@[simp] theorem allSafe_rcr (m : Mod) : (allSafe m).rcr = m.rcr := rfl
@[simp] theorem allSafe_upd (m : Mod) : (allSafe m).upd = m.upd := rfl
@[simp] theorem allSafe_sec (m : Mod) : (allSafe m).sec = m.sec := rfl
@[simp] theorem allSafe_pnl (m : Mod) : (allSafe m).pnl = m.pnl := rfl

@[simp] theorem grant_clk (m : Mod) (p : Permit) : (grant m p).clk = m.clk := rfl
@[simp] theorem grant_free (m : Mod) (p : Permit) : (grant m p).free = m.free := rfl
@[simp] theorem grant_nv (m : Mod) (p : Permit) : (grant m p).nv = m.nv := rfl
@[simp] theorem grant_gen (m : Mod) (p : Permit) : (grant m p).gen = m.gen := rfl
@[simp] theorem grant_pwr (m : Mod) (p : Permit) : (grant m p).pwr = m.pwr := rfl
@[simp] theorem grant_hif (m : Mod) (p : Permit) : (grant m p).hif = m.hif := rfl
@[simp] theorem grant_sig (m : Mod) (p : Permit) : (grant m p).sig = m.sig := rfl
@[simp] theorem grant_pge (m : Mod) (p : Permit) : (grant m p).pge = m.pge := rfl
@[simp] theorem grant_lpe (m : Mod) (p : Permit) : (grant m p).lpe = m.lpe := rfl
@[simp] theorem grant_pln (m : Mod) (p : Permit) : (grant m p).pln = m.pln := rfl
@[simp] theorem grant_fio (m : Mod) (p : Permit) : (grant m p).fio = m.fio := rfl
@[simp] theorem grant_saf (m : Mod) (p : Permit) : (grant m p).saf = m.saf := rfl
@[simp] theorem grant_lks (m : Mod) (p : Permit) : (grant m p).lks = m.lks := rfl
@[simp] theorem grant_tri (m : Mod) (p : Permit) : (grant m p).tri = m.tri := rfl
@[simp] theorem grant_net (m : Mod) (p : Permit) : (grant m p).net = m.net := rfl
@[simp] theorem grant_tim (m : Mod) (p : Permit) : (grant m p).tim = m.tim := rfl
@[simp] theorem grant_can (m : Mod) (p : Permit) : (grant m p).can = m.can := rfl
@[simp] theorem grant_flt (m : Mod) (p : Permit) : (grant m p).flt = m.flt := rfl
@[simp] theorem grant_rcr (m : Mod) (p : Permit) : (grant m p).rcr = m.rcr := rfl
@[simp] theorem grant_upd (m : Mod) (p : Permit) : (grant m p).upd = m.upd := rfl
@[simp] theorem grant_sec (m : Mod) (p : Permit) : (grant m p).sec = m.sec := rfl
@[simp] theorem grant_pnl (m : Mod) (p : Permit) : (grant m p).pnl = m.pnl := rfl

@[simp] theorem closeDebug_clk (m : Mod) : (closeDebug m).clk = m.clk := rfl
@[simp] theorem closeDebug_free (m : Mod) : (closeDebug m).free = m.free := rfl
@[simp] theorem closeDebug_nv (m : Mod) : (closeDebug m).nv = m.nv := rfl
@[simp] theorem closeDebug_gen (m : Mod) : (closeDebug m).gen = m.gen := rfl
@[simp] theorem closeDebug_pwr (m : Mod) : (closeDebug m).pwr = m.pwr := rfl
@[simp] theorem closeDebug_hif (m : Mod) : (closeDebug m).hif = m.hif := rfl
@[simp] theorem closeDebug_adm (m : Mod) : (closeDebug m).adm = m.adm := rfl
@[simp] theorem closeDebug_sig (m : Mod) : (closeDebug m).sig = m.sig := rfl
@[simp] theorem closeDebug_pge (m : Mod) : (closeDebug m).pge = m.pge := rfl
@[simp] theorem closeDebug_lpe (m : Mod) : (closeDebug m).lpe = m.lpe := rfl
@[simp] theorem closeDebug_pln (m : Mod) : (closeDebug m).pln = m.pln := rfl
@[simp] theorem closeDebug_fio (m : Mod) : (closeDebug m).fio = m.fio := rfl
@[simp] theorem closeDebug_saf (m : Mod) : (closeDebug m).saf = m.saf := rfl
@[simp] theorem closeDebug_lks (m : Mod) : (closeDebug m).lks = m.lks := rfl
@[simp] theorem closeDebug_tri (m : Mod) : (closeDebug m).tri = m.tri := rfl
@[simp] theorem closeDebug_net (m : Mod) : (closeDebug m).net = m.net := rfl
@[simp] theorem closeDebug_tim (m : Mod) : (closeDebug m).tim = m.tim := rfl
@[simp] theorem closeDebug_can (m : Mod) : (closeDebug m).can = m.can := rfl
@[simp] theorem closeDebug_flt (m : Mod) : (closeDebug m).flt = m.flt := rfl
@[simp] theorem closeDebug_rcr (m : Mod) : (closeDebug m).rcr = m.rcr := rfl
@[simp] theorem closeDebug_upd (m : Mod) : (closeDebug m).upd = m.upd := rfl
@[simp] theorem closeDebug_pnl (m : Mod) : (closeDebug m).pnl = m.pnl := rfl

@[simp] theorem saveDegraded_clk (m : Mod) : (saveDegraded m).clk = m.clk := rfl
@[simp] theorem saveDegraded_free (m : Mod) : (saveDegraded m).free = m.free := rfl
@[simp] theorem saveDegraded_gen (m : Mod) : (saveDegraded m).gen = m.gen := rfl
@[simp] theorem saveDegraded_pwr (m : Mod) : (saveDegraded m).pwr = m.pwr := rfl
@[simp] theorem saveDegraded_hif (m : Mod) : (saveDegraded m).hif = m.hif := rfl
@[simp] theorem saveDegraded_adm (m : Mod) : (saveDegraded m).adm = m.adm := rfl
@[simp] theorem saveDegraded_sig (m : Mod) : (saveDegraded m).sig = m.sig := rfl
@[simp] theorem saveDegraded_pge (m : Mod) : (saveDegraded m).pge = m.pge := rfl
@[simp] theorem saveDegraded_lpe (m : Mod) : (saveDegraded m).lpe = m.lpe := rfl
@[simp] theorem saveDegraded_pln (m : Mod) : (saveDegraded m).pln = m.pln := rfl
@[simp] theorem saveDegraded_fio (m : Mod) : (saveDegraded m).fio = m.fio := rfl
@[simp] theorem saveDegraded_saf (m : Mod) : (saveDegraded m).saf = m.saf := rfl
@[simp] theorem saveDegraded_lks (m : Mod) : (saveDegraded m).lks = m.lks := rfl
@[simp] theorem saveDegraded_tri (m : Mod) : (saveDegraded m).tri = m.tri := rfl
@[simp] theorem saveDegraded_net (m : Mod) : (saveDegraded m).net = m.net := rfl
@[simp] theorem saveDegraded_tim (m : Mod) : (saveDegraded m).tim = m.tim := rfl
@[simp] theorem saveDegraded_can (m : Mod) : (saveDegraded m).can = m.can := rfl
@[simp] theorem saveDegraded_flt (m : Mod) : (saveDegraded m).flt = m.flt := rfl
@[simp] theorem saveDegraded_rcr (m : Mod) : (saveDegraded m).rcr = m.rcr := rfl
@[simp] theorem saveDegraded_upd (m : Mod) : (saveDegraded m).upd = m.upd := rfl
@[simp] theorem saveDegraded_sec (m : Mod) : (saveDegraded m).sec = m.sec := rfl
@[simp] theorem saveDegraded_pnl (m : Mod) : (saveDegraded m).pnl = m.pnl := rfl

@[simp] theorem setRegion_clk (m : Mod) (n : Nat) (r : Region) : (setRegion m n r).clk = m.clk := rfl
@[simp] theorem setRegion_free (m : Mod) (n : Nat) (r : Region) : (setRegion m n r).free = m.free := rfl
@[simp] theorem setRegion_gen (m : Mod) (n : Nat) (r : Region) : (setRegion m n r).gen = m.gen := rfl
@[simp] theorem setRegion_pwr (m : Mod) (n : Nat) (r : Region) : (setRegion m n r).pwr = m.pwr := rfl
@[simp] theorem setRegion_hif (m : Mod) (n : Nat) (r : Region) : (setRegion m n r).hif = m.hif := rfl
@[simp] theorem setRegion_adm (m : Mod) (n : Nat) (r : Region) : (setRegion m n r).adm = m.adm := rfl
@[simp] theorem setRegion_sig (m : Mod) (n : Nat) (r : Region) : (setRegion m n r).sig = m.sig := rfl
@[simp] theorem setRegion_pge (m : Mod) (n : Nat) (r : Region) : (setRegion m n r).pge = m.pge := rfl
@[simp] theorem setRegion_lpe (m : Mod) (n : Nat) (r : Region) : (setRegion m n r).lpe = m.lpe := rfl
@[simp] theorem setRegion_pln (m : Mod) (n : Nat) (r : Region) : (setRegion m n r).pln = m.pln := rfl
@[simp] theorem setRegion_fio (m : Mod) (n : Nat) (r : Region) : (setRegion m n r).fio = m.fio := rfl
@[simp] theorem setRegion_saf (m : Mod) (n : Nat) (r : Region) : (setRegion m n r).saf = m.saf := rfl
@[simp] theorem setRegion_lks (m : Mod) (n : Nat) (r : Region) : (setRegion m n r).lks = m.lks := rfl
@[simp] theorem setRegion_tri (m : Mod) (n : Nat) (r : Region) : (setRegion m n r).tri = m.tri := rfl
@[simp] theorem setRegion_net (m : Mod) (n : Nat) (r : Region) : (setRegion m n r).net = m.net := rfl
@[simp] theorem setRegion_tim (m : Mod) (n : Nat) (r : Region) : (setRegion m n r).tim = m.tim := rfl
@[simp] theorem setRegion_can (m : Mod) (n : Nat) (r : Region) : (setRegion m n r).can = m.can := rfl
@[simp] theorem setRegion_flt (m : Mod) (n : Nat) (r : Region) : (setRegion m n r).flt = m.flt := rfl
@[simp] theorem setRegion_rcr (m : Mod) (n : Nat) (r : Region) : (setRegion m n r).rcr = m.rcr := rfl
@[simp] theorem setRegion_upd (m : Mod) (n : Nat) (r : Region) : (setRegion m n r).upd = m.upd := rfl
@[simp] theorem setRegion_sec (m : Mod) (n : Nat) (r : Region) : (setRegion m n r).sec = m.sec := rfl
@[simp] theorem setRegion_pnl (m : Mod) (n : Nat) (r : Region) : (setRegion m n r).pnl = m.pnl := rfl

@[simp] theorem detach_clk (m : Mod) (b : Bool) : (detach m b).clk = m.clk := rfl
@[simp] theorem detach_free (m : Mod) (b : Bool) : (detach m b).free = m.free := rfl
@[simp] theorem detach_nv (m : Mod) (b : Bool) : (detach m b).nv = m.nv := rfl
@[simp] theorem detach_gen (m : Mod) (b : Bool) : (detach m b).gen = m.gen := rfl
@[simp] theorem detach_pwr (m : Mod) (b : Bool) : (detach m b).pwr = m.pwr := rfl
@[simp] theorem detach_adm (m : Mod) (b : Bool) : (detach m b).adm = m.adm := rfl
@[simp] theorem detach_sig (m : Mod) (b : Bool) : (detach m b).sig = m.sig := rfl
@[simp] theorem detach_pge (m : Mod) (b : Bool) : (detach m b).pge = m.pge := rfl
@[simp] theorem detach_lpe (m : Mod) (b : Bool) : (detach m b).lpe = m.lpe := rfl
@[simp] theorem detach_pln (m : Mod) (b : Bool) : (detach m b).pln = m.pln := rfl
@[simp] theorem detach_fio (m : Mod) (b : Bool) : (detach m b).fio = m.fio := rfl
@[simp] theorem detach_saf (m : Mod) (b : Bool) : (detach m b).saf = m.saf := rfl
@[simp] theorem detach_lks (m : Mod) (b : Bool) : (detach m b).lks = m.lks := rfl
@[simp] theorem detach_tri (m : Mod) (b : Bool) : (detach m b).tri = m.tri := rfl
@[simp] theorem detach_net (m : Mod) (b : Bool) : (detach m b).net = m.net := rfl
@[simp] theorem detach_tim (m : Mod) (b : Bool) : (detach m b).tim = m.tim := rfl
@[simp] theorem detach_can (m : Mod) (b : Bool) : (detach m b).can = m.can := rfl
@[simp] theorem detach_flt (m : Mod) (b : Bool) : (detach m b).flt = m.flt := rfl
@[simp] theorem detach_rcr (m : Mod) (b : Bool) : (detach m b).rcr = m.rcr := rfl
@[simp] theorem detach_upd (m : Mod) (b : Bool) : (detach m b).upd = m.upd := rfl
@[simp] theorem detach_sec (m : Mod) (b : Bool) : (detach m b).sec = m.sec := rfl
@[simp] theorem detach_pnl (m : Mod) (b : Bool) : (detach m b).pnl = m.pnl := rfl

@[simp] theorem setTier_clk (m : Mod) (n : Nat) (t : Tier) : (setTier m n t).clk = m.clk := rfl
@[simp] theorem setTier_free (m : Mod) (n : Nat) (t : Tier) : (setTier m n t).free = m.free := rfl
@[simp] theorem setTier_nv (m : Mod) (n : Nat) (t : Tier) : (setTier m n t).nv = m.nv := rfl
@[simp] theorem setTier_gen (m : Mod) (n : Nat) (t : Tier) : (setTier m n t).gen = m.gen := rfl
@[simp] theorem setTier_pwr (m : Mod) (n : Nat) (t : Tier) : (setTier m n t).pwr = m.pwr := rfl
@[simp] theorem setTier_hif (m : Mod) (n : Nat) (t : Tier) : (setTier m n t).hif = m.hif := rfl
@[simp] theorem setTier_adm (m : Mod) (n : Nat) (t : Tier) : (setTier m n t).adm = m.adm := rfl
@[simp] theorem setTier_sig (m : Mod) (n : Nat) (t : Tier) : (setTier m n t).sig = m.sig := rfl
@[simp] theorem setTier_pge (m : Mod) (n : Nat) (t : Tier) : (setTier m n t).pge = m.pge := rfl
@[simp] theorem setTier_lpe (m : Mod) (n : Nat) (t : Tier) : (setTier m n t).lpe = m.lpe := rfl
@[simp] theorem setTier_pln (m : Mod) (n : Nat) (t : Tier) : (setTier m n t).pln = m.pln := rfl
@[simp] theorem setTier_fio (m : Mod) (n : Nat) (t : Tier) : (setTier m n t).fio = m.fio := rfl
@[simp] theorem setTier_saf (m : Mod) (n : Nat) (t : Tier) : (setTier m n t).saf = m.saf := rfl
@[simp] theorem setTier_lks (m : Mod) (n : Nat) (t : Tier) : (setTier m n t).lks = m.lks := rfl
@[simp] theorem setTier_tri (m : Mod) (n : Nat) (t : Tier) : (setTier m n t).tri = m.tri := rfl
@[simp] theorem setTier_net (m : Mod) (n : Nat) (t : Tier) : (setTier m n t).net = m.net := rfl
@[simp] theorem setTier_tim (m : Mod) (n : Nat) (t : Tier) : (setTier m n t).tim = m.tim := rfl
@[simp] theorem setTier_can (m : Mod) (n : Nat) (t : Tier) : (setTier m n t).can = m.can := rfl
@[simp] theorem setTier_flt (m : Mod) (n : Nat) (t : Tier) : (setTier m n t).flt = m.flt := rfl
@[simp] theorem setTier_upd (m : Mod) (n : Nat) (t : Tier) : (setTier m n t).upd = m.upd := rfl
@[simp] theorem setTier_sec (m : Mod) (n : Nat) (t : Tier) : (setTier m n t).sec = m.sec := rfl
@[simp] theorem setTier_pnl (m : Mod) (n : Nat) (t : Tier) : (setTier m n t).pnl = m.pnl := rfl

/-! ### What the updates write -/

@[simp] theorem tick_free (m : Mod) : m.tick.free = m.free + 1 := rfl
@[simp] theorem advance_clk (m : Mod) (t : Nat) : (m.advance t).clk = max m.clk t := rfl
@[simp] theorem advance_pwr_st (m : Mod) (t : Nat) : (m.advance t).pwr.st = m.pwr.st := rfl
@[simp] theorem advance_pwr_starting (m : Mod) (t : Nat) : (m.advance t).pwr.starting = m.pwr.starting := rfl
@[simp] theorem setSig_sigs (m : Mod) (i : Nat) (r : SigRec) : (setSig m i r).sig.sigs = tset m.sig.sigs i r := rfl
@[simp] theorem modSig_sigs (m : Mod) (i : Nat) (f : SigRec → SigRec) : (modSig m i f).sig.sigs = tmod m.sig.sigs i f := rfl
@[simp] theorem setPair_pairs (m : Mod) (p : Nat) (v : Pair) : (setPair m p v).lks.pairs = tset m.lks.pairs p v := rfl
@[simp] theorem setTask_tasks (m : Mod) (k : Nat) (t : Task) : (setTask m k t).pge.tasks = tset m.pge.tasks k t := rfl
@[simp] theorem setRing_rings (m : Mod) (n : Nat) (r : Ring) : (setRing m n r).hif.rings = tset m.hif.rings n r := rfl
@[simp] theorem putChan_chans (m : Mod) (n : Nat) (c : Chan) : (putChan m n c).fio.chans = tset m.fio.chans n c := rfl
@[simp] theorem setChan_chans (m : Mod) (n : Nat) (c : Chan) : (setChan m n c).fio.chans = tmod m.fio.chans n (fun _ => c) := rfl

end Sys2Proof.Machine
end

