-- ==== Sys2Proof/Laws/Ops.lean ====
section
/-! SUPPORT. What each shared operation leaves as it was: one lemma for each field of `Mod` it does not write. -/

namespace Sys2Proof.Machine

/-- A channel's drive changes the field channels alone. -/
theorem drive_only (m : Mod) (n : Nat) : drive m n = { m with fio := (drive m n).fio } := by
  unfold drive; dsimp only; (repeat' split) <;> rfl

/-- A field that one step of a fold keeps, the fold keeps. -/
theorem foldl_field {α β γ : Type} (g : β → γ) (f : β → α → β) (h : ∀ b a, g (f b a) = g b) (b : β) (l : List α) :
    g (l.foldl f b) = g b := by
  induction l generalizing b with
  | nil => rfl
  | cons a l ih => rw [List.foldl_cons, ih, h]

/-- What neither a grant nor a choice of heads changes, the arbiter keeps. -/
theorem arbitrate_field {γ : Type} (g : Mod → γ) (h : ∀ (m : Mod) (a : AdmBlk), g { m with adm := a } = g m) (n : Nat) (m : Mod) :
    g (arbitrate m n) = g m := by
  induction n generalizing m with
  | zero => rfl
  | succ k ih =>
    unfold arbitrate
    dsimp only
    repeat' split
    all_goals first
      | rfl
      | exact h _ _
      | (rw [ih]; exact h _ _)
      | (rw [ih]; exact (h _ _).trans (h _ _))

@[simp] theorem postEvent_clk (m : Mod) (e : Event) : (postEvent m e).clk = m.clk := foldl_field Mod.clk _ (by intro m n; dsimp only; split <;> rfl) _ _
@[simp] theorem postEvent_free (m : Mod) (e : Event) : (postEvent m e).free = m.free := foldl_field Mod.free _ (by intro m n; dsimp only; split <;> rfl) _ _
@[simp] theorem postEvent_nv (m : Mod) (e : Event) : (postEvent m e).nv = m.nv := foldl_field Mod.nv _ (by intro m n; dsimp only; split <;> rfl) _ _
@[simp] theorem postEvent_gen (m : Mod) (e : Event) : (postEvent m e).gen = m.gen := foldl_field Mod.gen _ (by intro m n; dsimp only; split <;> rfl) _ _
@[simp] theorem postEvent_pwr (m : Mod) (e : Event) : (postEvent m e).pwr = m.pwr := foldl_field Mod.pwr _ (by intro m n; dsimp only; split <;> rfl) _ _
@[simp] theorem postEvent_adm (m : Mod) (e : Event) : (postEvent m e).adm = m.adm := foldl_field Mod.adm _ (by intro m n; dsimp only; split <;> rfl) _ _
@[simp] theorem postEvent_sig (m : Mod) (e : Event) : (postEvent m e).sig = m.sig := foldl_field Mod.sig _ (by intro m n; dsimp only; split <;> rfl) _ _
@[simp] theorem postEvent_pge (m : Mod) (e : Event) : (postEvent m e).pge = m.pge := foldl_field Mod.pge _ (by intro m n; dsimp only; split <;> rfl) _ _
@[simp] theorem postEvent_lpe (m : Mod) (e : Event) : (postEvent m e).lpe = m.lpe := foldl_field Mod.lpe _ (by intro m n; dsimp only; split <;> rfl) _ _
@[simp] theorem postEvent_pln (m : Mod) (e : Event) : (postEvent m e).pln = m.pln := foldl_field Mod.pln _ (by intro m n; dsimp only; split <;> rfl) _ _
@[simp] theorem postEvent_fio (m : Mod) (e : Event) : (postEvent m e).fio = m.fio := foldl_field Mod.fio _ (by intro m n; dsimp only; split <;> rfl) _ _
@[simp] theorem postEvent_saf (m : Mod) (e : Event) : (postEvent m e).saf = m.saf := foldl_field Mod.saf _ (by intro m n; dsimp only; split <;> rfl) _ _
@[simp] theorem postEvent_lks (m : Mod) (e : Event) : (postEvent m e).lks = m.lks := foldl_field Mod.lks _ (by intro m n; dsimp only; split <;> rfl) _ _
@[simp] theorem postEvent_tri (m : Mod) (e : Event) : (postEvent m e).tri = m.tri := foldl_field Mod.tri _ (by intro m n; dsimp only; split <;> rfl) _ _
@[simp] theorem postEvent_net (m : Mod) (e : Event) : (postEvent m e).net = m.net := foldl_field Mod.net _ (by intro m n; dsimp only; split <;> rfl) _ _
@[simp] theorem postEvent_tim (m : Mod) (e : Event) : (postEvent m e).tim = m.tim := foldl_field Mod.tim _ (by intro m n; dsimp only; split <;> rfl) _ _
@[simp] theorem postEvent_can (m : Mod) (e : Event) : (postEvent m e).can = m.can := foldl_field Mod.can _ (by intro m n; dsimp only; split <;> rfl) _ _
@[simp] theorem postEvent_flt (m : Mod) (e : Event) : (postEvent m e).flt = m.flt := foldl_field Mod.flt _ (by intro m n; dsimp only; split <;> rfl) _ _
@[simp] theorem postEvent_rcr (m : Mod) (e : Event) : (postEvent m e).rcr = m.rcr := foldl_field Mod.rcr _ (by intro m n; dsimp only; split <;> rfl) _ _
@[simp] theorem postEvent_upd (m : Mod) (e : Event) : (postEvent m e).upd = m.upd := foldl_field Mod.upd _ (by intro m n; dsimp only; split <;> rfl) _ _
@[simp] theorem postEvent_sec (m : Mod) (e : Event) : (postEvent m e).sec = m.sec := foldl_field Mod.sec _ (by intro m n; dsimp only; split <;> rfl) _ _
@[simp] theorem postEvent_pnl (m : Mod) (e : Event) : (postEvent m e).pnl = m.pnl := foldl_field Mod.pnl _ (by intro m n; dsimp only; split <;> rfl) _ _

@[simp] theorem event_clk (m : Mod) (k d : Nat) (s : W32) (a : Val) (c : W32) : (event m k d s a c).clk = m.clk := postEvent_clk _ _
@[simp] theorem event_free (m : Mod) (k d : Nat) (s : W32) (a : Val) (c : W32) : (event m k d s a c).free = m.free := postEvent_free _ _
@[simp] theorem event_nv (m : Mod) (k d : Nat) (s : W32) (a : Val) (c : W32) : (event m k d s a c).nv = m.nv := postEvent_nv _ _
@[simp] theorem event_gen (m : Mod) (k d : Nat) (s : W32) (a : Val) (c : W32) : (event m k d s a c).gen = m.gen := postEvent_gen _ _
@[simp] theorem event_pwr (m : Mod) (k d : Nat) (s : W32) (a : Val) (c : W32) : (event m k d s a c).pwr = m.pwr := postEvent_pwr _ _
@[simp] theorem event_adm (m : Mod) (k d : Nat) (s : W32) (a : Val) (c : W32) : (event m k d s a c).adm = m.adm := postEvent_adm _ _
@[simp] theorem event_sig (m : Mod) (k d : Nat) (s : W32) (a : Val) (c : W32) : (event m k d s a c).sig = m.sig := postEvent_sig _ _
@[simp] theorem event_pge (m : Mod) (k d : Nat) (s : W32) (a : Val) (c : W32) : (event m k d s a c).pge = m.pge := postEvent_pge _ _
@[simp] theorem event_lpe (m : Mod) (k d : Nat) (s : W32) (a : Val) (c : W32) : (event m k d s a c).lpe = m.lpe := postEvent_lpe _ _
@[simp] theorem event_pln (m : Mod) (k d : Nat) (s : W32) (a : Val) (c : W32) : (event m k d s a c).pln = m.pln := postEvent_pln _ _
@[simp] theorem event_fio (m : Mod) (k d : Nat) (s : W32) (a : Val) (c : W32) : (event m k d s a c).fio = m.fio := postEvent_fio _ _
@[simp] theorem event_saf (m : Mod) (k d : Nat) (s : W32) (a : Val) (c : W32) : (event m k d s a c).saf = m.saf := postEvent_saf _ _
@[simp] theorem event_lks (m : Mod) (k d : Nat) (s : W32) (a : Val) (c : W32) : (event m k d s a c).lks = m.lks := postEvent_lks _ _
@[simp] theorem event_tri (m : Mod) (k d : Nat) (s : W32) (a : Val) (c : W32) : (event m k d s a c).tri = m.tri := postEvent_tri _ _
@[simp] theorem event_net (m : Mod) (k d : Nat) (s : W32) (a : Val) (c : W32) : (event m k d s a c).net = m.net := postEvent_net _ _
@[simp] theorem event_tim (m : Mod) (k d : Nat) (s : W32) (a : Val) (c : W32) : (event m k d s a c).tim = m.tim := postEvent_tim _ _
@[simp] theorem event_can (m : Mod) (k d : Nat) (s : W32) (a : Val) (c : W32) : (event m k d s a c).can = m.can := postEvent_can _ _
@[simp] theorem event_flt (m : Mod) (k d : Nat) (s : W32) (a : Val) (c : W32) : (event m k d s a c).flt = m.flt := postEvent_flt _ _
@[simp] theorem event_rcr (m : Mod) (k d : Nat) (s : W32) (a : Val) (c : W32) : (event m k d s a c).rcr = m.rcr := postEvent_rcr _ _
@[simp] theorem event_upd (m : Mod) (k d : Nat) (s : W32) (a : Val) (c : W32) : (event m k d s a c).upd = m.upd := postEvent_upd _ _
@[simp] theorem event_sec (m : Mod) (k d : Nat) (s : W32) (a : Val) (c : W32) : (event m k d s a c).sec = m.sec := postEvent_sec _ _
@[simp] theorem event_pnl (m : Mod) (k d : Nat) (s : W32) (a : Val) (c : W32) : (event m k d s a c).pnl = m.pnl := postEvent_pnl _ _

@[simp] theorem leadEvent_clk (m : Mod) (k d : Nat) (s : W32) (a : Val) (c : W32) : (leadEvent m k d s a c).clk = m.clk := by unfold leadEvent; split <;> simp
@[simp] theorem leadEvent_free (m : Mod) (k d : Nat) (s : W32) (a : Val) (c : W32) : (leadEvent m k d s a c).free = m.free := by unfold leadEvent; split <;> simp
@[simp] theorem leadEvent_nv (m : Mod) (k d : Nat) (s : W32) (a : Val) (c : W32) : (leadEvent m k d s a c).nv = m.nv := by unfold leadEvent; split <;> simp
@[simp] theorem leadEvent_gen (m : Mod) (k d : Nat) (s : W32) (a : Val) (c : W32) : (leadEvent m k d s a c).gen = m.gen := by unfold leadEvent; split <;> simp
@[simp] theorem leadEvent_pwr (m : Mod) (k d : Nat) (s : W32) (a : Val) (c : W32) : (leadEvent m k d s a c).pwr = m.pwr := by unfold leadEvent; split <;> simp
@[simp] theorem leadEvent_adm (m : Mod) (k d : Nat) (s : W32) (a : Val) (c : W32) : (leadEvent m k d s a c).adm = m.adm := by unfold leadEvent; split <;> simp
@[simp] theorem leadEvent_sig (m : Mod) (k d : Nat) (s : W32) (a : Val) (c : W32) : (leadEvent m k d s a c).sig = m.sig := by unfold leadEvent; split <;> simp
@[simp] theorem leadEvent_pge (m : Mod) (k d : Nat) (s : W32) (a : Val) (c : W32) : (leadEvent m k d s a c).pge = m.pge := by unfold leadEvent; split <;> simp
@[simp] theorem leadEvent_lpe (m : Mod) (k d : Nat) (s : W32) (a : Val) (c : W32) : (leadEvent m k d s a c).lpe = m.lpe := by unfold leadEvent; split <;> simp
@[simp] theorem leadEvent_pln (m : Mod) (k d : Nat) (s : W32) (a : Val) (c : W32) : (leadEvent m k d s a c).pln = m.pln := by unfold leadEvent; split <;> simp
@[simp] theorem leadEvent_fio (m : Mod) (k d : Nat) (s : W32) (a : Val) (c : W32) : (leadEvent m k d s a c).fio = m.fio := by unfold leadEvent; split <;> simp
@[simp] theorem leadEvent_saf (m : Mod) (k d : Nat) (s : W32) (a : Val) (c : W32) : (leadEvent m k d s a c).saf = m.saf := by unfold leadEvent; split <;> simp
@[simp] theorem leadEvent_lks (m : Mod) (k d : Nat) (s : W32) (a : Val) (c : W32) : (leadEvent m k d s a c).lks = m.lks := by unfold leadEvent; split <;> simp
@[simp] theorem leadEvent_tri (m : Mod) (k d : Nat) (s : W32) (a : Val) (c : W32) : (leadEvent m k d s a c).tri = m.tri := by unfold leadEvent; split <;> simp
@[simp] theorem leadEvent_net (m : Mod) (k d : Nat) (s : W32) (a : Val) (c : W32) : (leadEvent m k d s a c).net = m.net := by unfold leadEvent; split <;> simp
@[simp] theorem leadEvent_tim (m : Mod) (k d : Nat) (s : W32) (a : Val) (c : W32) : (leadEvent m k d s a c).tim = m.tim := by unfold leadEvent; split <;> simp
@[simp] theorem leadEvent_can (m : Mod) (k d : Nat) (s : W32) (a : Val) (c : W32) : (leadEvent m k d s a c).can = m.can := by unfold leadEvent; split <;> simp
@[simp] theorem leadEvent_flt (m : Mod) (k d : Nat) (s : W32) (a : Val) (c : W32) : (leadEvent m k d s a c).flt = m.flt := by unfold leadEvent; split <;> simp
@[simp] theorem leadEvent_rcr (m : Mod) (k d : Nat) (s : W32) (a : Val) (c : W32) : (leadEvent m k d s a c).rcr = m.rcr := by unfold leadEvent; split <;> simp
@[simp] theorem leadEvent_upd (m : Mod) (k d : Nat) (s : W32) (a : Val) (c : W32) : (leadEvent m k d s a c).upd = m.upd := by unfold leadEvent; split <;> simp
@[simp] theorem leadEvent_sec (m : Mod) (k d : Nat) (s : W32) (a : Val) (c : W32) : (leadEvent m k d s a c).sec = m.sec := by unfold leadEvent; split <;> simp
@[simp] theorem leadEvent_pnl (m : Mod) (k d : Nat) (s : W32) (a : Val) (c : W32) : (leadEvent m k d s a c).pnl = m.pnl := by unfold leadEvent; split <;> simp

@[simp] theorem discovery_clk (m : Mod) (w : Nat) (p : W32) (b : Bool) : (discovery m w p b).clk = m.clk := event_clk _ _ _ _ _ _
@[simp] theorem discovery_free (m : Mod) (w : Nat) (p : W32) (b : Bool) : (discovery m w p b).free = m.free := event_free _ _ _ _ _ _
@[simp] theorem discovery_nv (m : Mod) (w : Nat) (p : W32) (b : Bool) : (discovery m w p b).nv = m.nv := event_nv _ _ _ _ _ _
@[simp] theorem discovery_gen (m : Mod) (w : Nat) (p : W32) (b : Bool) : (discovery m w p b).gen = m.gen := event_gen _ _ _ _ _ _
@[simp] theorem discovery_pwr (m : Mod) (w : Nat) (p : W32) (b : Bool) : (discovery m w p b).pwr = m.pwr := event_pwr _ _ _ _ _ _
@[simp] theorem discovery_adm (m : Mod) (w : Nat) (p : W32) (b : Bool) : (discovery m w p b).adm = m.adm := event_adm _ _ _ _ _ _
@[simp] theorem discovery_sig (m : Mod) (w : Nat) (p : W32) (b : Bool) : (discovery m w p b).sig = m.sig := event_sig _ _ _ _ _ _
@[simp] theorem discovery_pge (m : Mod) (w : Nat) (p : W32) (b : Bool) : (discovery m w p b).pge = m.pge := event_pge _ _ _ _ _ _
@[simp] theorem discovery_lpe (m : Mod) (w : Nat) (p : W32) (b : Bool) : (discovery m w p b).lpe = m.lpe := event_lpe _ _ _ _ _ _
@[simp] theorem discovery_pln (m : Mod) (w : Nat) (p : W32) (b : Bool) : (discovery m w p b).pln = m.pln := event_pln _ _ _ _ _ _
@[simp] theorem discovery_fio (m : Mod) (w : Nat) (p : W32) (b : Bool) : (discovery m w p b).fio = m.fio := event_fio _ _ _ _ _ _
@[simp] theorem discovery_saf (m : Mod) (w : Nat) (p : W32) (b : Bool) : (discovery m w p b).saf = m.saf := event_saf _ _ _ _ _ _
@[simp] theorem discovery_lks (m : Mod) (w : Nat) (p : W32) (b : Bool) : (discovery m w p b).lks = m.lks := event_lks _ _ _ _ _ _
@[simp] theorem discovery_tri (m : Mod) (w : Nat) (p : W32) (b : Bool) : (discovery m w p b).tri = m.tri := event_tri _ _ _ _ _ _
@[simp] theorem discovery_net (m : Mod) (w : Nat) (p : W32) (b : Bool) : (discovery m w p b).net = m.net := event_net _ _ _ _ _ _
@[simp] theorem discovery_tim (m : Mod) (w : Nat) (p : W32) (b : Bool) : (discovery m w p b).tim = m.tim := event_tim _ _ _ _ _ _
@[simp] theorem discovery_can (m : Mod) (w : Nat) (p : W32) (b : Bool) : (discovery m w p b).can = m.can := event_can _ _ _ _ _ _
@[simp] theorem discovery_flt (m : Mod) (w : Nat) (p : W32) (b : Bool) : (discovery m w p b).flt = m.flt := event_flt _ _ _ _ _ _
@[simp] theorem discovery_rcr (m : Mod) (w : Nat) (p : W32) (b : Bool) : (discovery m w p b).rcr = m.rcr := event_rcr _ _ _ _ _ _
@[simp] theorem discovery_upd (m : Mod) (w : Nat) (p : W32) (b : Bool) : (discovery m w p b).upd = m.upd := event_upd _ _ _ _ _ _
@[simp] theorem discovery_sec (m : Mod) (w : Nat) (p : W32) (b : Bool) : (discovery m w p b).sec = m.sec := event_sec _ _ _ _ _ _
@[simp] theorem discovery_pnl (m : Mod) (w : Nat) (p : W32) (b : Bool) : (discovery m w p b).pnl = m.pnl := event_pnl _ _ _ _ _ _

@[simp] theorem startOpt_clk (m : Mod) (q : Option Req) : (startOpt m q).clk = m.clk := by unfold startOpt; split <;> rfl
@[simp] theorem startOpt_free (m : Mod) (q : Option Req) : (startOpt m q).free = m.free := by unfold startOpt; split <;> rfl
@[simp] theorem startOpt_nv (m : Mod) (q : Option Req) : (startOpt m q).nv = m.nv := by unfold startOpt; split <;> rfl
@[simp] theorem startOpt_gen (m : Mod) (q : Option Req) : (startOpt m q).gen = m.gen := by unfold startOpt; split <;> rfl
@[simp] theorem startOpt_pwr (m : Mod) (q : Option Req) : (startOpt m q).pwr = m.pwr := by unfold startOpt; split <;> rfl
@[simp] theorem startOpt_adm (m : Mod) (q : Option Req) : (startOpt m q).adm = m.adm := by unfold startOpt; split <;> rfl
@[simp] theorem startOpt_sig (m : Mod) (q : Option Req) : (startOpt m q).sig = m.sig := by unfold startOpt; split <;> rfl
@[simp] theorem startOpt_pge (m : Mod) (q : Option Req) : (startOpt m q).pge = m.pge := by unfold startOpt; split <;> rfl
@[simp] theorem startOpt_lpe (m : Mod) (q : Option Req) : (startOpt m q).lpe = m.lpe := by unfold startOpt; split <;> rfl
@[simp] theorem startOpt_pln (m : Mod) (q : Option Req) : (startOpt m q).pln = m.pln := by unfold startOpt; split <;> rfl
@[simp] theorem startOpt_fio (m : Mod) (q : Option Req) : (startOpt m q).fio = m.fio := by unfold startOpt; split <;> rfl
@[simp] theorem startOpt_saf (m : Mod) (q : Option Req) : (startOpt m q).saf = m.saf := by unfold startOpt; split <;> rfl
@[simp] theorem startOpt_lks (m : Mod) (q : Option Req) : (startOpt m q).lks = m.lks := by unfold startOpt; split <;> rfl
@[simp] theorem startOpt_tri (m : Mod) (q : Option Req) : (startOpt m q).tri = m.tri := by unfold startOpt; split <;> rfl
@[simp] theorem startOpt_net (m : Mod) (q : Option Req) : (startOpt m q).net = m.net := by unfold startOpt; split <;> rfl
@[simp] theorem startOpt_tim (m : Mod) (q : Option Req) : (startOpt m q).tim = m.tim := by unfold startOpt; split <;> rfl
@[simp] theorem startOpt_can (m : Mod) (q : Option Req) : (startOpt m q).can = m.can := by unfold startOpt; split <;> rfl
@[simp] theorem startOpt_flt (m : Mod) (q : Option Req) : (startOpt m q).flt = m.flt := by unfold startOpt; split <;> rfl
@[simp] theorem startOpt_rcr (m : Mod) (q : Option Req) : (startOpt m q).rcr = m.rcr := by unfold startOpt; split <;> rfl
@[simp] theorem startOpt_upd (m : Mod) (q : Option Req) : (startOpt m q).upd = m.upd := by unfold startOpt; split <;> rfl
@[simp] theorem startOpt_sec (m : Mod) (q : Option Req) : (startOpt m q).sec = m.sec := by unfold startOpt; split <;> rfl
@[simp] theorem startOpt_pnl (m : Mod) (q : Option Req) : (startOpt m q).pnl = m.pnl := by unfold startOpt; split <;> rfl

@[simp] theorem post_clk (m : Mod) (q : Req) (st : Status) (r : Res) : (post m q st r).clk = m.clk := by unfold post; dsimp only; split_ifs <;> rfl
@[simp] theorem post_free (m : Mod) (q : Req) (st : Status) (r : Res) : (post m q st r).free = m.free := by unfold post; dsimp only; split_ifs <;> rfl
@[simp] theorem post_nv (m : Mod) (q : Req) (st : Status) (r : Res) : (post m q st r).nv = m.nv := by unfold post; dsimp only; split_ifs <;> rfl
@[simp] theorem post_gen (m : Mod) (q : Req) (st : Status) (r : Res) : (post m q st r).gen = m.gen := by unfold post; dsimp only; split_ifs <;> rfl
@[simp] theorem post_pwr (m : Mod) (q : Req) (st : Status) (r : Res) : (post m q st r).pwr = m.pwr := by unfold post; dsimp only; split_ifs <;> rfl
@[simp] theorem post_adm (m : Mod) (q : Req) (st : Status) (r : Res) : (post m q st r).adm = m.adm := by unfold post; dsimp only; split_ifs <;> rfl
@[simp] theorem post_sig (m : Mod) (q : Req) (st : Status) (r : Res) : (post m q st r).sig = m.sig := by unfold post; dsimp only; split_ifs <;> rfl
@[simp] theorem post_pge (m : Mod) (q : Req) (st : Status) (r : Res) : (post m q st r).pge = m.pge := by unfold post; dsimp only; split_ifs <;> rfl
@[simp] theorem post_lpe (m : Mod) (q : Req) (st : Status) (r : Res) : (post m q st r).lpe = m.lpe := by unfold post; dsimp only; split_ifs <;> rfl
@[simp] theorem post_pln (m : Mod) (q : Req) (st : Status) (r : Res) : (post m q st r).pln = m.pln := by unfold post; dsimp only; split_ifs <;> rfl
@[simp] theorem post_fio (m : Mod) (q : Req) (st : Status) (r : Res) : (post m q st r).fio = m.fio := by unfold post; dsimp only; split_ifs <;> rfl
@[simp] theorem post_saf (m : Mod) (q : Req) (st : Status) (r : Res) : (post m q st r).saf = m.saf := by unfold post; dsimp only; split_ifs <;> rfl
@[simp] theorem post_lks (m : Mod) (q : Req) (st : Status) (r : Res) : (post m q st r).lks = m.lks := by unfold post; dsimp only; split_ifs <;> rfl
@[simp] theorem post_tri (m : Mod) (q : Req) (st : Status) (r : Res) : (post m q st r).tri = m.tri := by unfold post; dsimp only; split_ifs <;> rfl
@[simp] theorem post_net (m : Mod) (q : Req) (st : Status) (r : Res) : (post m q st r).net = m.net := by unfold post; dsimp only; split_ifs <;> rfl
@[simp] theorem post_tim (m : Mod) (q : Req) (st : Status) (r : Res) : (post m q st r).tim = m.tim := by unfold post; dsimp only; split_ifs <;> rfl
@[simp] theorem post_can (m : Mod) (q : Req) (st : Status) (r : Res) : (post m q st r).can = m.can := by unfold post; dsimp only; split_ifs <;> rfl
@[simp] theorem post_flt (m : Mod) (q : Req) (st : Status) (r : Res) : (post m q st r).flt = m.flt := by unfold post; dsimp only; split_ifs <;> rfl
@[simp] theorem post_rcr (m : Mod) (q : Req) (st : Status) (r : Res) : (post m q st r).rcr = m.rcr := by unfold post; dsimp only; split_ifs <;> rfl
@[simp] theorem post_upd (m : Mod) (q : Req) (st : Status) (r : Res) : (post m q st r).upd = m.upd := by unfold post; dsimp only; split_ifs <;> rfl
@[simp] theorem post_sec (m : Mod) (q : Req) (st : Status) (r : Res) : (post m q st r).sec = m.sec := by unfold post; dsimp only; split_ifs <;> rfl
@[simp] theorem post_pnl (m : Mod) (q : Req) (st : Status) (r : Res) : (post m q st r).pnl = m.pnl := by unfold post; dsimp only; split_ifs <;> rfl

@[simp] theorem postOpt_clk (m : Mod) (q : Option Req) (st : Status) (r : Res) : (postOpt m q st r).clk = m.clk := by unfold postOpt; split <;> simp
@[simp] theorem postOpt_free (m : Mod) (q : Option Req) (st : Status) (r : Res) : (postOpt m q st r).free = m.free := by unfold postOpt; split <;> simp
@[simp] theorem postOpt_nv (m : Mod) (q : Option Req) (st : Status) (r : Res) : (postOpt m q st r).nv = m.nv := by unfold postOpt; split <;> simp
@[simp] theorem postOpt_gen (m : Mod) (q : Option Req) (st : Status) (r : Res) : (postOpt m q st r).gen = m.gen := by unfold postOpt; split <;> simp
@[simp] theorem postOpt_pwr (m : Mod) (q : Option Req) (st : Status) (r : Res) : (postOpt m q st r).pwr = m.pwr := by unfold postOpt; split <;> simp
@[simp] theorem postOpt_adm (m : Mod) (q : Option Req) (st : Status) (r : Res) : (postOpt m q st r).adm = m.adm := by unfold postOpt; split <;> simp
@[simp] theorem postOpt_sig (m : Mod) (q : Option Req) (st : Status) (r : Res) : (postOpt m q st r).sig = m.sig := by unfold postOpt; split <;> simp
@[simp] theorem postOpt_pge (m : Mod) (q : Option Req) (st : Status) (r : Res) : (postOpt m q st r).pge = m.pge := by unfold postOpt; split <;> simp
@[simp] theorem postOpt_lpe (m : Mod) (q : Option Req) (st : Status) (r : Res) : (postOpt m q st r).lpe = m.lpe := by unfold postOpt; split <;> simp
@[simp] theorem postOpt_pln (m : Mod) (q : Option Req) (st : Status) (r : Res) : (postOpt m q st r).pln = m.pln := by unfold postOpt; split <;> simp
@[simp] theorem postOpt_fio (m : Mod) (q : Option Req) (st : Status) (r : Res) : (postOpt m q st r).fio = m.fio := by unfold postOpt; split <;> simp
@[simp] theorem postOpt_saf (m : Mod) (q : Option Req) (st : Status) (r : Res) : (postOpt m q st r).saf = m.saf := by unfold postOpt; split <;> simp
@[simp] theorem postOpt_lks (m : Mod) (q : Option Req) (st : Status) (r : Res) : (postOpt m q st r).lks = m.lks := by unfold postOpt; split <;> simp
@[simp] theorem postOpt_tri (m : Mod) (q : Option Req) (st : Status) (r : Res) : (postOpt m q st r).tri = m.tri := by unfold postOpt; split <;> simp
@[simp] theorem postOpt_net (m : Mod) (q : Option Req) (st : Status) (r : Res) : (postOpt m q st r).net = m.net := by unfold postOpt; split <;> simp
@[simp] theorem postOpt_tim (m : Mod) (q : Option Req) (st : Status) (r : Res) : (postOpt m q st r).tim = m.tim := by unfold postOpt; split <;> simp
@[simp] theorem postOpt_can (m : Mod) (q : Option Req) (st : Status) (r : Res) : (postOpt m q st r).can = m.can := by unfold postOpt; split <;> simp
@[simp] theorem postOpt_flt (m : Mod) (q : Option Req) (st : Status) (r : Res) : (postOpt m q st r).flt = m.flt := by unfold postOpt; split <;> simp
@[simp] theorem postOpt_rcr (m : Mod) (q : Option Req) (st : Status) (r : Res) : (postOpt m q st r).rcr = m.rcr := by unfold postOpt; split <;> simp
@[simp] theorem postOpt_upd (m : Mod) (q : Option Req) (st : Status) (r : Res) : (postOpt m q st r).upd = m.upd := by unfold postOpt; split <;> simp
@[simp] theorem postOpt_sec (m : Mod) (q : Option Req) (st : Status) (r : Res) : (postOpt m q st r).sec = m.sec := by unfold postOpt; split <;> simp
@[simp] theorem postOpt_pnl (m : Mod) (q : Option Req) (st : Status) (r : Res) : (postOpt m q st r).pnl = m.pnl := by unfold postOpt; split <;> simp

@[simp] theorem regRefuse_clk (m : Mod) (st : Status) (o : Nat) (v : W32) : (regRefuse m st o v).clk = m.clk := by unfold regRefuse; dsimp only; split_ifs <;> rfl
@[simp] theorem regRefuse_free (m : Mod) (st : Status) (o : Nat) (v : W32) : (regRefuse m st o v).free = m.free := by unfold regRefuse; dsimp only; split_ifs <;> rfl
@[simp] theorem regRefuse_nv (m : Mod) (st : Status) (o : Nat) (v : W32) : (regRefuse m st o v).nv = m.nv := by unfold regRefuse; dsimp only; split_ifs <;> rfl
@[simp] theorem regRefuse_gen (m : Mod) (st : Status) (o : Nat) (v : W32) : (regRefuse m st o v).gen = m.gen := by unfold regRefuse; dsimp only; split_ifs <;> rfl
@[simp] theorem regRefuse_pwr (m : Mod) (st : Status) (o : Nat) (v : W32) : (regRefuse m st o v).pwr = m.pwr := by unfold regRefuse; dsimp only; split_ifs <;> rfl
@[simp] theorem regRefuse_adm (m : Mod) (st : Status) (o : Nat) (v : W32) : (regRefuse m st o v).adm = m.adm := by unfold regRefuse; dsimp only; split_ifs <;> rfl
@[simp] theorem regRefuse_sig (m : Mod) (st : Status) (o : Nat) (v : W32) : (regRefuse m st o v).sig = m.sig := by unfold regRefuse; dsimp only; split_ifs <;> rfl
@[simp] theorem regRefuse_pge (m : Mod) (st : Status) (o : Nat) (v : W32) : (regRefuse m st o v).pge = m.pge := by unfold regRefuse; dsimp only; split_ifs <;> rfl
@[simp] theorem regRefuse_lpe (m : Mod) (st : Status) (o : Nat) (v : W32) : (regRefuse m st o v).lpe = m.lpe := by unfold regRefuse; dsimp only; split_ifs <;> rfl
@[simp] theorem regRefuse_pln (m : Mod) (st : Status) (o : Nat) (v : W32) : (regRefuse m st o v).pln = m.pln := by unfold regRefuse; dsimp only; split_ifs <;> rfl
@[simp] theorem regRefuse_fio (m : Mod) (st : Status) (o : Nat) (v : W32) : (regRefuse m st o v).fio = m.fio := by unfold regRefuse; dsimp only; split_ifs <;> rfl
@[simp] theorem regRefuse_saf (m : Mod) (st : Status) (o : Nat) (v : W32) : (regRefuse m st o v).saf = m.saf := by unfold regRefuse; dsimp only; split_ifs <;> rfl
@[simp] theorem regRefuse_lks (m : Mod) (st : Status) (o : Nat) (v : W32) : (regRefuse m st o v).lks = m.lks := by unfold regRefuse; dsimp only; split_ifs <;> rfl
@[simp] theorem regRefuse_tri (m : Mod) (st : Status) (o : Nat) (v : W32) : (regRefuse m st o v).tri = m.tri := by unfold regRefuse; dsimp only; split_ifs <;> rfl
@[simp] theorem regRefuse_net (m : Mod) (st : Status) (o : Nat) (v : W32) : (regRefuse m st o v).net = m.net := by unfold regRefuse; dsimp only; split_ifs <;> rfl
@[simp] theorem regRefuse_tim (m : Mod) (st : Status) (o : Nat) (v : W32) : (regRefuse m st o v).tim = m.tim := by unfold regRefuse; dsimp only; split_ifs <;> rfl
@[simp] theorem regRefuse_can (m : Mod) (st : Status) (o : Nat) (v : W32) : (regRefuse m st o v).can = m.can := by unfold regRefuse; dsimp only; split_ifs <;> rfl
@[simp] theorem regRefuse_flt (m : Mod) (st : Status) (o : Nat) (v : W32) : (regRefuse m st o v).flt = m.flt := by unfold regRefuse; dsimp only; split_ifs <;> rfl
@[simp] theorem regRefuse_rcr (m : Mod) (st : Status) (o : Nat) (v : W32) : (regRefuse m st o v).rcr = m.rcr := by unfold regRefuse; dsimp only; split_ifs <;> rfl
@[simp] theorem regRefuse_upd (m : Mod) (st : Status) (o : Nat) (v : W32) : (regRefuse m st o v).upd = m.upd := by unfold regRefuse; dsimp only; split_ifs <;> rfl
@[simp] theorem regRefuse_sec (m : Mod) (st : Status) (o : Nat) (v : W32) : (regRefuse m st o v).sec = m.sec := by unfold regRefuse; dsimp only; split_ifs <;> rfl
@[simp] theorem regRefuse_pnl (m : Mod) (st : Status) (o : Nat) (v : W32) : (regRefuse m st o v).pnl = m.pnl := by unfold regRefuse; dsimp only; split_ifs <;> rfl

@[simp] theorem refuse_clk (m : Mod) (q : Req) (st : Status) (r : Res) : (refuse m q st r).clk = m.clk := by unfold refuse; split_ifs <;> simp
@[simp] theorem refuse_free (m : Mod) (q : Req) (st : Status) (r : Res) : (refuse m q st r).free = m.free := by unfold refuse; split_ifs <;> simp
@[simp] theorem refuse_nv (m : Mod) (q : Req) (st : Status) (r : Res) : (refuse m q st r).nv = m.nv := by unfold refuse; split_ifs <;> simp
@[simp] theorem refuse_gen (m : Mod) (q : Req) (st : Status) (r : Res) : (refuse m q st r).gen = m.gen := by unfold refuse; split_ifs <;> simp
@[simp] theorem refuse_pwr (m : Mod) (q : Req) (st : Status) (r : Res) : (refuse m q st r).pwr = m.pwr := by unfold refuse; split_ifs <;> simp
@[simp] theorem refuse_adm (m : Mod) (q : Req) (st : Status) (r : Res) : (refuse m q st r).adm = m.adm := by unfold refuse; split_ifs <;> simp
@[simp] theorem refuse_pge (m : Mod) (q : Req) (st : Status) (r : Res) : (refuse m q st r).pge = m.pge := by unfold refuse; split_ifs <;> simp
@[simp] theorem refuse_lpe (m : Mod) (q : Req) (st : Status) (r : Res) : (refuse m q st r).lpe = m.lpe := by unfold refuse; split_ifs <;> simp
@[simp] theorem refuse_pln (m : Mod) (q : Req) (st : Status) (r : Res) : (refuse m q st r).pln = m.pln := by unfold refuse; split_ifs <;> simp
@[simp] theorem refuse_fio (m : Mod) (q : Req) (st : Status) (r : Res) : (refuse m q st r).fio = m.fio := by unfold refuse; split_ifs <;> simp
@[simp] theorem refuse_saf (m : Mod) (q : Req) (st : Status) (r : Res) : (refuse m q st r).saf = m.saf := by unfold refuse; split_ifs <;> simp
@[simp] theorem refuse_lks (m : Mod) (q : Req) (st : Status) (r : Res) : (refuse m q st r).lks = m.lks := by unfold refuse; split_ifs <;> simp
@[simp] theorem refuse_tri (m : Mod) (q : Req) (st : Status) (r : Res) : (refuse m q st r).tri = m.tri := by unfold refuse; split_ifs <;> simp
@[simp] theorem refuse_net (m : Mod) (q : Req) (st : Status) (r : Res) : (refuse m q st r).net = m.net := by unfold refuse; split_ifs <;> simp
@[simp] theorem refuse_tim (m : Mod) (q : Req) (st : Status) (r : Res) : (refuse m q st r).tim = m.tim := by unfold refuse; split_ifs <;> simp
@[simp] theorem refuse_can (m : Mod) (q : Req) (st : Status) (r : Res) : (refuse m q st r).can = m.can := by unfold refuse; split_ifs <;> simp
@[simp] theorem refuse_flt (m : Mod) (q : Req) (st : Status) (r : Res) : (refuse m q st r).flt = m.flt := by unfold refuse; split_ifs <;> simp
@[simp] theorem refuse_rcr (m : Mod) (q : Req) (st : Status) (r : Res) : (refuse m q st r).rcr = m.rcr := by unfold refuse; split_ifs <;> simp
@[simp] theorem refuse_upd (m : Mod) (q : Req) (st : Status) (r : Res) : (refuse m q st r).upd = m.upd := by unfold refuse; split_ifs <;> simp
@[simp] theorem refuse_sec (m : Mod) (q : Req) (st : Status) (r : Res) : (refuse m q st r).sec = m.sec := by unfold refuse; split_ifs <;> simp
@[simp] theorem refuse_pnl (m : Mod) (q : Req) (st : Status) (r : Res) : (refuse m q st r).pnl = m.pnl := by unfold refuse; split_ifs <;> simp

@[simp] theorem ownerWriteAt_clk (m : Mod) (h : W32) (v : Val) (q : Qual) (t : W32) (w : BitVec 16) (b : Bool) : (ownerWriteAt m h v q t w b).clk = m.clk := by unfold ownerWriteAt; (repeat' split) <;> rfl
@[simp] theorem ownerWriteAt_free (m : Mod) (h : W32) (v : Val) (q : Qual) (t : W32) (w : BitVec 16) (b : Bool) : (ownerWriteAt m h v q t w b).free = m.free := by unfold ownerWriteAt; (repeat' split) <;> rfl
@[simp] theorem ownerWriteAt_nv (m : Mod) (h : W32) (v : Val) (q : Qual) (t : W32) (w : BitVec 16) (b : Bool) : (ownerWriteAt m h v q t w b).nv = m.nv := by unfold ownerWriteAt; (repeat' split) <;> rfl
@[simp] theorem ownerWriteAt_gen (m : Mod) (h : W32) (v : Val) (q : Qual) (t : W32) (w : BitVec 16) (b : Bool) : (ownerWriteAt m h v q t w b).gen = m.gen := by unfold ownerWriteAt; (repeat' split) <;> rfl
@[simp] theorem ownerWriteAt_pwr (m : Mod) (h : W32) (v : Val) (q : Qual) (t : W32) (w : BitVec 16) (b : Bool) : (ownerWriteAt m h v q t w b).pwr = m.pwr := by unfold ownerWriteAt; (repeat' split) <;> rfl
@[simp] theorem ownerWriteAt_hif (m : Mod) (h : W32) (v : Val) (q : Qual) (t : W32) (w : BitVec 16) (b : Bool) : (ownerWriteAt m h v q t w b).hif = m.hif := by unfold ownerWriteAt; (repeat' split) <;> rfl
@[simp] theorem ownerWriteAt_adm (m : Mod) (h : W32) (v : Val) (q : Qual) (t : W32) (w : BitVec 16) (b : Bool) : (ownerWriteAt m h v q t w b).adm = m.adm := by unfold ownerWriteAt; (repeat' split) <;> rfl
@[simp] theorem ownerWriteAt_pge (m : Mod) (h : W32) (v : Val) (q : Qual) (t : W32) (w : BitVec 16) (b : Bool) : (ownerWriteAt m h v q t w b).pge = m.pge := by unfold ownerWriteAt; (repeat' split) <;> rfl
@[simp] theorem ownerWriteAt_lpe (m : Mod) (h : W32) (v : Val) (q : Qual) (t : W32) (w : BitVec 16) (b : Bool) : (ownerWriteAt m h v q t w b).lpe = m.lpe := by unfold ownerWriteAt; (repeat' split) <;> rfl
@[simp] theorem ownerWriteAt_pln (m : Mod) (h : W32) (v : Val) (q : Qual) (t : W32) (w : BitVec 16) (b : Bool) : (ownerWriteAt m h v q t w b).pln = m.pln := by unfold ownerWriteAt; (repeat' split) <;> rfl
@[simp] theorem ownerWriteAt_fio (m : Mod) (h : W32) (v : Val) (q : Qual) (t : W32) (w : BitVec 16) (b : Bool) : (ownerWriteAt m h v q t w b).fio = m.fio := by unfold ownerWriteAt; (repeat' split) <;> rfl
@[simp] theorem ownerWriteAt_saf (m : Mod) (h : W32) (v : Val) (q : Qual) (t : W32) (w : BitVec 16) (b : Bool) : (ownerWriteAt m h v q t w b).saf = m.saf := by unfold ownerWriteAt; (repeat' split) <;> rfl
@[simp] theorem ownerWriteAt_lks (m : Mod) (h : W32) (v : Val) (q : Qual) (t : W32) (w : BitVec 16) (b : Bool) : (ownerWriteAt m h v q t w b).lks = m.lks := by unfold ownerWriteAt; (repeat' split) <;> rfl
@[simp] theorem ownerWriteAt_net (m : Mod) (h : W32) (v : Val) (q : Qual) (t : W32) (w : BitVec 16) (b : Bool) : (ownerWriteAt m h v q t w b).net = m.net := by unfold ownerWriteAt; (repeat' split) <;> rfl
@[simp] theorem ownerWriteAt_tim (m : Mod) (h : W32) (v : Val) (q : Qual) (t : W32) (w : BitVec 16) (b : Bool) : (ownerWriteAt m h v q t w b).tim = m.tim := by unfold ownerWriteAt; (repeat' split) <;> rfl
@[simp] theorem ownerWriteAt_can (m : Mod) (h : W32) (v : Val) (q : Qual) (t : W32) (w : BitVec 16) (b : Bool) : (ownerWriteAt m h v q t w b).can = m.can := by unfold ownerWriteAt; (repeat' split) <;> rfl
@[simp] theorem ownerWriteAt_flt (m : Mod) (h : W32) (v : Val) (q : Qual) (t : W32) (w : BitVec 16) (b : Bool) : (ownerWriteAt m h v q t w b).flt = m.flt := by unfold ownerWriteAt; (repeat' split) <;> rfl
@[simp] theorem ownerWriteAt_rcr (m : Mod) (h : W32) (v : Val) (q : Qual) (t : W32) (w : BitVec 16) (b : Bool) : (ownerWriteAt m h v q t w b).rcr = m.rcr := by unfold ownerWriteAt; (repeat' split) <;> rfl
@[simp] theorem ownerWriteAt_upd (m : Mod) (h : W32) (v : Val) (q : Qual) (t : W32) (w : BitVec 16) (b : Bool) : (ownerWriteAt m h v q t w b).upd = m.upd := by unfold ownerWriteAt; (repeat' split) <;> rfl
@[simp] theorem ownerWriteAt_sec (m : Mod) (h : W32) (v : Val) (q : Qual) (t : W32) (w : BitVec 16) (b : Bool) : (ownerWriteAt m h v q t w b).sec = m.sec := by unfold ownerWriteAt; (repeat' split) <;> rfl
@[simp] theorem ownerWriteAt_pnl (m : Mod) (h : W32) (v : Val) (q : Qual) (t : W32) (w : BitVec 16) (b : Bool) : (ownerWriteAt m h v q t w b).pnl = m.pnl := by unfold ownerWriteAt; (repeat' split) <;> rfl

@[simp] theorem ownerWrite_clk (m : Mod) (h : W32) (v : Val) (q : Qual) (b : Bool) : (ownerWrite m h v q b).clk = m.clk := ownerWriteAt_clk _ _ _ _ _ _ _
@[simp] theorem ownerWrite_free (m : Mod) (h : W32) (v : Val) (q : Qual) (b : Bool) : (ownerWrite m h v q b).free = m.free := ownerWriteAt_free _ _ _ _ _ _ _
@[simp] theorem ownerWrite_nv (m : Mod) (h : W32) (v : Val) (q : Qual) (b : Bool) : (ownerWrite m h v q b).nv = m.nv := ownerWriteAt_nv _ _ _ _ _ _ _
@[simp] theorem ownerWrite_gen (m : Mod) (h : W32) (v : Val) (q : Qual) (b : Bool) : (ownerWrite m h v q b).gen = m.gen := ownerWriteAt_gen _ _ _ _ _ _ _
@[simp] theorem ownerWrite_pwr (m : Mod) (h : W32) (v : Val) (q : Qual) (b : Bool) : (ownerWrite m h v q b).pwr = m.pwr := ownerWriteAt_pwr _ _ _ _ _ _ _
@[simp] theorem ownerWrite_hif (m : Mod) (h : W32) (v : Val) (q : Qual) (b : Bool) : (ownerWrite m h v q b).hif = m.hif := ownerWriteAt_hif _ _ _ _ _ _ _
@[simp] theorem ownerWrite_adm (m : Mod) (h : W32) (v : Val) (q : Qual) (b : Bool) : (ownerWrite m h v q b).adm = m.adm := ownerWriteAt_adm _ _ _ _ _ _ _
@[simp] theorem ownerWrite_pge (m : Mod) (h : W32) (v : Val) (q : Qual) (b : Bool) : (ownerWrite m h v q b).pge = m.pge := ownerWriteAt_pge _ _ _ _ _ _ _
@[simp] theorem ownerWrite_lpe (m : Mod) (h : W32) (v : Val) (q : Qual) (b : Bool) : (ownerWrite m h v q b).lpe = m.lpe := ownerWriteAt_lpe _ _ _ _ _ _ _
@[simp] theorem ownerWrite_pln (m : Mod) (h : W32) (v : Val) (q : Qual) (b : Bool) : (ownerWrite m h v q b).pln = m.pln := ownerWriteAt_pln _ _ _ _ _ _ _
@[simp] theorem ownerWrite_fio (m : Mod) (h : W32) (v : Val) (q : Qual) (b : Bool) : (ownerWrite m h v q b).fio = m.fio := ownerWriteAt_fio _ _ _ _ _ _ _
@[simp] theorem ownerWrite_saf (m : Mod) (h : W32) (v : Val) (q : Qual) (b : Bool) : (ownerWrite m h v q b).saf = m.saf := ownerWriteAt_saf _ _ _ _ _ _ _
@[simp] theorem ownerWrite_lks (m : Mod) (h : W32) (v : Val) (q : Qual) (b : Bool) : (ownerWrite m h v q b).lks = m.lks := ownerWriteAt_lks _ _ _ _ _ _ _
@[simp] theorem ownerWrite_net (m : Mod) (h : W32) (v : Val) (q : Qual) (b : Bool) : (ownerWrite m h v q b).net = m.net := ownerWriteAt_net _ _ _ _ _ _ _
@[simp] theorem ownerWrite_tim (m : Mod) (h : W32) (v : Val) (q : Qual) (b : Bool) : (ownerWrite m h v q b).tim = m.tim := ownerWriteAt_tim _ _ _ _ _ _ _
@[simp] theorem ownerWrite_can (m : Mod) (h : W32) (v : Val) (q : Qual) (b : Bool) : (ownerWrite m h v q b).can = m.can := ownerWriteAt_can _ _ _ _ _ _ _
@[simp] theorem ownerWrite_flt (m : Mod) (h : W32) (v : Val) (q : Qual) (b : Bool) : (ownerWrite m h v q b).flt = m.flt := ownerWriteAt_flt _ _ _ _ _ _ _
@[simp] theorem ownerWrite_rcr (m : Mod) (h : W32) (v : Val) (q : Qual) (b : Bool) : (ownerWrite m h v q b).rcr = m.rcr := ownerWriteAt_rcr _ _ _ _ _ _ _
@[simp] theorem ownerWrite_upd (m : Mod) (h : W32) (v : Val) (q : Qual) (b : Bool) : (ownerWrite m h v q b).upd = m.upd := ownerWriteAt_upd _ _ _ _ _ _ _
@[simp] theorem ownerWrite_sec (m : Mod) (h : W32) (v : Val) (q : Qual) (b : Bool) : (ownerWrite m h v q b).sec = m.sec := ownerWriteAt_sec _ _ _ _ _ _ _
@[simp] theorem ownerWrite_pnl (m : Mod) (h : W32) (v : Val) (q : Qual) (b : Bool) : (ownerWrite m h v q b).pnl = m.pnl := ownerWriteAt_pnl _ _ _ _ _ _ _

@[simp] theorem staleSig_clk (m : Mod) (h : W32) : (staleSig m h).clk = m.clk := by unfold staleSig; (repeat' split) <;> simp
@[simp] theorem staleSig_free (m : Mod) (h : W32) : (staleSig m h).free = m.free := by unfold staleSig; (repeat' split) <;> simp
@[simp] theorem staleSig_nv (m : Mod) (h : W32) : (staleSig m h).nv = m.nv := by unfold staleSig; (repeat' split) <;> simp
@[simp] theorem staleSig_gen (m : Mod) (h : W32) : (staleSig m h).gen = m.gen := by unfold staleSig; (repeat' split) <;> simp
@[simp] theorem staleSig_pwr (m : Mod) (h : W32) : (staleSig m h).pwr = m.pwr := by unfold staleSig; (repeat' split) <;> simp
@[simp] theorem staleSig_hif (m : Mod) (h : W32) : (staleSig m h).hif = m.hif := by unfold staleSig; (repeat' split) <;> simp
@[simp] theorem staleSig_adm (m : Mod) (h : W32) : (staleSig m h).adm = m.adm := by unfold staleSig; (repeat' split) <;> simp
@[simp] theorem staleSig_pge (m : Mod) (h : W32) : (staleSig m h).pge = m.pge := by unfold staleSig; (repeat' split) <;> simp
@[simp] theorem staleSig_lpe (m : Mod) (h : W32) : (staleSig m h).lpe = m.lpe := by unfold staleSig; (repeat' split) <;> simp
@[simp] theorem staleSig_pln (m : Mod) (h : W32) : (staleSig m h).pln = m.pln := by unfold staleSig; (repeat' split) <;> simp
@[simp] theorem staleSig_fio (m : Mod) (h : W32) : (staleSig m h).fio = m.fio := by unfold staleSig; (repeat' split) <;> simp
@[simp] theorem staleSig_saf (m : Mod) (h : W32) : (staleSig m h).saf = m.saf := by unfold staleSig; (repeat' split) <;> simp
@[simp] theorem staleSig_lks (m : Mod) (h : W32) : (staleSig m h).lks = m.lks := by unfold staleSig; (repeat' split) <;> simp
@[simp] theorem staleSig_net (m : Mod) (h : W32) : (staleSig m h).net = m.net := by unfold staleSig; (repeat' split) <;> simp
@[simp] theorem staleSig_tim (m : Mod) (h : W32) : (staleSig m h).tim = m.tim := by unfold staleSig; (repeat' split) <;> simp
@[simp] theorem staleSig_can (m : Mod) (h : W32) : (staleSig m h).can = m.can := by unfold staleSig; (repeat' split) <;> simp
@[simp] theorem staleSig_flt (m : Mod) (h : W32) : (staleSig m h).flt = m.flt := by unfold staleSig; (repeat' split) <;> simp
@[simp] theorem staleSig_rcr (m : Mod) (h : W32) : (staleSig m h).rcr = m.rcr := by unfold staleSig; (repeat' split) <;> simp
@[simp] theorem staleSig_upd (m : Mod) (h : W32) : (staleSig m h).upd = m.upd := by unfold staleSig; (repeat' split) <;> simp
@[simp] theorem staleSig_sec (m : Mod) (h : W32) : (staleSig m h).sec = m.sec := by unfold staleSig; (repeat' split) <;> simp
@[simp] theorem staleSig_pnl (m : Mod) (h : W32) : (staleSig m h).pnl = m.pnl := by unfold staleSig; (repeat' split) <;> simp

@[simp] theorem ownSig_clk (m : Mod) (h : W32) (k i c : Nat) : (ownSig m h k i c).clk = m.clk := by unfold ownSig; split <;> rfl
@[simp] theorem ownSig_free (m : Mod) (h : W32) (k i c : Nat) : (ownSig m h k i c).free = m.free := by unfold ownSig; split <;> rfl
@[simp] theorem ownSig_nv (m : Mod) (h : W32) (k i c : Nat) : (ownSig m h k i c).nv = m.nv := by unfold ownSig; split <;> rfl
@[simp] theorem ownSig_gen (m : Mod) (h : W32) (k i c : Nat) : (ownSig m h k i c).gen = m.gen := by unfold ownSig; split <;> rfl
@[simp] theorem ownSig_pwr (m : Mod) (h : W32) (k i c : Nat) : (ownSig m h k i c).pwr = m.pwr := by unfold ownSig; split <;> rfl
@[simp] theorem ownSig_hif (m : Mod) (h : W32) (k i c : Nat) : (ownSig m h k i c).hif = m.hif := by unfold ownSig; split <;> rfl
@[simp] theorem ownSig_adm (m : Mod) (h : W32) (k i c : Nat) : (ownSig m h k i c).adm = m.adm := by unfold ownSig; split <;> rfl
@[simp] theorem ownSig_pge (m : Mod) (h : W32) (k i c : Nat) : (ownSig m h k i c).pge = m.pge := by unfold ownSig; split <;> rfl
@[simp] theorem ownSig_lpe (m : Mod) (h : W32) (k i c : Nat) : (ownSig m h k i c).lpe = m.lpe := by unfold ownSig; split <;> rfl
@[simp] theorem ownSig_pln (m : Mod) (h : W32) (k i c : Nat) : (ownSig m h k i c).pln = m.pln := by unfold ownSig; split <;> rfl
@[simp] theorem ownSig_fio (m : Mod) (h : W32) (k i c : Nat) : (ownSig m h k i c).fio = m.fio := by unfold ownSig; split <;> rfl
@[simp] theorem ownSig_saf (m : Mod) (h : W32) (k i c : Nat) : (ownSig m h k i c).saf = m.saf := by unfold ownSig; split <;> rfl
@[simp] theorem ownSig_lks (m : Mod) (h : W32) (k i c : Nat) : (ownSig m h k i c).lks = m.lks := by unfold ownSig; split <;> rfl
@[simp] theorem ownSig_tri (m : Mod) (h : W32) (k i c : Nat) : (ownSig m h k i c).tri = m.tri := by unfold ownSig; split <;> rfl
@[simp] theorem ownSig_net (m : Mod) (h : W32) (k i c : Nat) : (ownSig m h k i c).net = m.net := by unfold ownSig; split <;> rfl
@[simp] theorem ownSig_tim (m : Mod) (h : W32) (k i c : Nat) : (ownSig m h k i c).tim = m.tim := by unfold ownSig; split <;> rfl
@[simp] theorem ownSig_can (m : Mod) (h : W32) (k i c : Nat) : (ownSig m h k i c).can = m.can := by unfold ownSig; split <;> rfl
@[simp] theorem ownSig_flt (m : Mod) (h : W32) (k i c : Nat) : (ownSig m h k i c).flt = m.flt := by unfold ownSig; split <;> rfl
@[simp] theorem ownSig_rcr (m : Mod) (h : W32) (k i c : Nat) : (ownSig m h k i c).rcr = m.rcr := by unfold ownSig; split <;> rfl
@[simp] theorem ownSig_upd (m : Mod) (h : W32) (k i c : Nat) : (ownSig m h k i c).upd = m.upd := by unfold ownSig; split <;> rfl
@[simp] theorem ownSig_sec (m : Mod) (h : W32) (k i c : Nat) : (ownSig m h k i c).sec = m.sec := by unfold ownSig; split <;> rfl
@[simp] theorem ownSig_pnl (m : Mod) (h : W32) (k i c : Nat) : (ownSig m h k i c).pnl = m.pnl := by unfold ownSig; split <;> rfl

@[simp] theorem addRefs_clk (m : Mod) (l : List W32) : (addRefs m l).clk = m.clk := foldl_field Mod.clk _ (by intro m n; split <;> rfl) _ _
@[simp] theorem addRefs_free (m : Mod) (l : List W32) : (addRefs m l).free = m.free := foldl_field Mod.free _ (by intro m n; split <;> rfl) _ _
@[simp] theorem addRefs_nv (m : Mod) (l : List W32) : (addRefs m l).nv = m.nv := foldl_field Mod.nv _ (by intro m n; split <;> rfl) _ _
@[simp] theorem addRefs_gen (m : Mod) (l : List W32) : (addRefs m l).gen = m.gen := foldl_field Mod.gen _ (by intro m n; split <;> rfl) _ _
@[simp] theorem addRefs_pwr (m : Mod) (l : List W32) : (addRefs m l).pwr = m.pwr := foldl_field Mod.pwr _ (by intro m n; split <;> rfl) _ _
@[simp] theorem addRefs_hif (m : Mod) (l : List W32) : (addRefs m l).hif = m.hif := foldl_field Mod.hif _ (by intro m n; split <;> rfl) _ _
@[simp] theorem addRefs_adm (m : Mod) (l : List W32) : (addRefs m l).adm = m.adm := foldl_field Mod.adm _ (by intro m n; split <;> rfl) _ _
@[simp] theorem addRefs_pge (m : Mod) (l : List W32) : (addRefs m l).pge = m.pge := foldl_field Mod.pge _ (by intro m n; split <;> rfl) _ _
@[simp] theorem addRefs_lpe (m : Mod) (l : List W32) : (addRefs m l).lpe = m.lpe := foldl_field Mod.lpe _ (by intro m n; split <;> rfl) _ _
@[simp] theorem addRefs_pln (m : Mod) (l : List W32) : (addRefs m l).pln = m.pln := foldl_field Mod.pln _ (by intro m n; split <;> rfl) _ _
@[simp] theorem addRefs_fio (m : Mod) (l : List W32) : (addRefs m l).fio = m.fio := foldl_field Mod.fio _ (by intro m n; split <;> rfl) _ _
@[simp] theorem addRefs_saf (m : Mod) (l : List W32) : (addRefs m l).saf = m.saf := foldl_field Mod.saf _ (by intro m n; split <;> rfl) _ _
@[simp] theorem addRefs_lks (m : Mod) (l : List W32) : (addRefs m l).lks = m.lks := foldl_field Mod.lks _ (by intro m n; split <;> rfl) _ _
@[simp] theorem addRefs_tri (m : Mod) (l : List W32) : (addRefs m l).tri = m.tri := foldl_field Mod.tri _ (by intro m n; split <;> rfl) _ _
@[simp] theorem addRefs_net (m : Mod) (l : List W32) : (addRefs m l).net = m.net := foldl_field Mod.net _ (by intro m n; split <;> rfl) _ _
@[simp] theorem addRefs_tim (m : Mod) (l : List W32) : (addRefs m l).tim = m.tim := foldl_field Mod.tim _ (by intro m n; split <;> rfl) _ _
@[simp] theorem addRefs_can (m : Mod) (l : List W32) : (addRefs m l).can = m.can := foldl_field Mod.can _ (by intro m n; split <;> rfl) _ _
@[simp] theorem addRefs_flt (m : Mod) (l : List W32) : (addRefs m l).flt = m.flt := foldl_field Mod.flt _ (by intro m n; split <;> rfl) _ _
@[simp] theorem addRefs_rcr (m : Mod) (l : List W32) : (addRefs m l).rcr = m.rcr := foldl_field Mod.rcr _ (by intro m n; split <;> rfl) _ _
@[simp] theorem addRefs_upd (m : Mod) (l : List W32) : (addRefs m l).upd = m.upd := foldl_field Mod.upd _ (by intro m n; split <;> rfl) _ _
@[simp] theorem addRefs_sec (m : Mod) (l : List W32) : (addRefs m l).sec = m.sec := foldl_field Mod.sec _ (by intro m n; split <;> rfl) _ _
@[simp] theorem addRefs_pnl (m : Mod) (l : List W32) : (addRefs m l).pnl = m.pnl := foldl_field Mod.pnl _ (by intro m n; split <;> rfl) _ _

@[simp] theorem dropRefs_clk (m : Mod) (l : List W32) : (dropRefs m l).clk = m.clk := foldl_field Mod.clk _ (by intro m n; split <;> rfl) _ _
@[simp] theorem dropRefs_free (m : Mod) (l : List W32) : (dropRefs m l).free = m.free := foldl_field Mod.free _ (by intro m n; split <;> rfl) _ _
@[simp] theorem dropRefs_nv (m : Mod) (l : List W32) : (dropRefs m l).nv = m.nv := foldl_field Mod.nv _ (by intro m n; split <;> rfl) _ _
@[simp] theorem dropRefs_gen (m : Mod) (l : List W32) : (dropRefs m l).gen = m.gen := foldl_field Mod.gen _ (by intro m n; split <;> rfl) _ _
@[simp] theorem dropRefs_pwr (m : Mod) (l : List W32) : (dropRefs m l).pwr = m.pwr := foldl_field Mod.pwr _ (by intro m n; split <;> rfl) _ _
@[simp] theorem dropRefs_hif (m : Mod) (l : List W32) : (dropRefs m l).hif = m.hif := foldl_field Mod.hif _ (by intro m n; split <;> rfl) _ _
@[simp] theorem dropRefs_adm (m : Mod) (l : List W32) : (dropRefs m l).adm = m.adm := foldl_field Mod.adm _ (by intro m n; split <;> rfl) _ _
@[simp] theorem dropRefs_pge (m : Mod) (l : List W32) : (dropRefs m l).pge = m.pge := foldl_field Mod.pge _ (by intro m n; split <;> rfl) _ _
@[simp] theorem dropRefs_lpe (m : Mod) (l : List W32) : (dropRefs m l).lpe = m.lpe := foldl_field Mod.lpe _ (by intro m n; split <;> rfl) _ _
@[simp] theorem dropRefs_pln (m : Mod) (l : List W32) : (dropRefs m l).pln = m.pln := foldl_field Mod.pln _ (by intro m n; split <;> rfl) _ _
@[simp] theorem dropRefs_fio (m : Mod) (l : List W32) : (dropRefs m l).fio = m.fio := foldl_field Mod.fio _ (by intro m n; split <;> rfl) _ _
@[simp] theorem dropRefs_saf (m : Mod) (l : List W32) : (dropRefs m l).saf = m.saf := foldl_field Mod.saf _ (by intro m n; split <;> rfl) _ _
@[simp] theorem dropRefs_lks (m : Mod) (l : List W32) : (dropRefs m l).lks = m.lks := foldl_field Mod.lks _ (by intro m n; split <;> rfl) _ _
@[simp] theorem dropRefs_tri (m : Mod) (l : List W32) : (dropRefs m l).tri = m.tri := foldl_field Mod.tri _ (by intro m n; split <;> rfl) _ _
@[simp] theorem dropRefs_net (m : Mod) (l : List W32) : (dropRefs m l).net = m.net := foldl_field Mod.net _ (by intro m n; split <;> rfl) _ _
@[simp] theorem dropRefs_tim (m : Mod) (l : List W32) : (dropRefs m l).tim = m.tim := foldl_field Mod.tim _ (by intro m n; split <;> rfl) _ _
@[simp] theorem dropRefs_can (m : Mod) (l : List W32) : (dropRefs m l).can = m.can := foldl_field Mod.can _ (by intro m n; split <;> rfl) _ _
@[simp] theorem dropRefs_flt (m : Mod) (l : List W32) : (dropRefs m l).flt = m.flt := foldl_field Mod.flt _ (by intro m n; split <;> rfl) _ _
@[simp] theorem dropRefs_rcr (m : Mod) (l : List W32) : (dropRefs m l).rcr = m.rcr := foldl_field Mod.rcr _ (by intro m n; split <;> rfl) _ _
@[simp] theorem dropRefs_upd (m : Mod) (l : List W32) : (dropRefs m l).upd = m.upd := foldl_field Mod.upd _ (by intro m n; split <;> rfl) _ _
@[simp] theorem dropRefs_sec (m : Mod) (l : List W32) : (dropRefs m l).sec = m.sec := foldl_field Mod.sec _ (by intro m n; split <;> rfl) _ _
@[simp] theorem dropRefs_pnl (m : Mod) (l : List W32) : (dropRefs m l).pnl = m.pnl := foldl_field Mod.pnl _ (by intro m n; split <;> rfl) _ _

@[simp] theorem stopInstant_clk (m : Mod) (k : Nat) : (stopInstant m k).clk = m.clk := by unfold stopInstant; split <;> (try split) <;> rfl
@[simp] theorem stopInstant_free (m : Mod) (k : Nat) : (stopInstant m k).free = m.free := by unfold stopInstant; split <;> (try split) <;> rfl
@[simp] theorem stopInstant_nv (m : Mod) (k : Nat) : (stopInstant m k).nv = m.nv := by unfold stopInstant; split <;> (try split) <;> rfl
@[simp] theorem stopInstant_gen (m : Mod) (k : Nat) : (stopInstant m k).gen = m.gen := by unfold stopInstant; split <;> (try split) <;> rfl
@[simp] theorem stopInstant_pwr (m : Mod) (k : Nat) : (stopInstant m k).pwr = m.pwr := by unfold stopInstant; split <;> (try split) <;> rfl
@[simp] theorem stopInstant_hif (m : Mod) (k : Nat) : (stopInstant m k).hif = m.hif := by unfold stopInstant; split <;> (try split) <;> rfl
@[simp] theorem stopInstant_adm (m : Mod) (k : Nat) : (stopInstant m k).adm = m.adm := by unfold stopInstant; split <;> (try split) <;> rfl
@[simp] theorem stopInstant_lpe (m : Mod) (k : Nat) : (stopInstant m k).lpe = m.lpe := by unfold stopInstant; split <;> (try split) <;> rfl
@[simp] theorem stopInstant_pln (m : Mod) (k : Nat) : (stopInstant m k).pln = m.pln := by unfold stopInstant; split <;> (try split) <;> rfl
@[simp] theorem stopInstant_fio (m : Mod) (k : Nat) : (stopInstant m k).fio = m.fio := by unfold stopInstant; split <;> (try split) <;> rfl
@[simp] theorem stopInstant_saf (m : Mod) (k : Nat) : (stopInstant m k).saf = m.saf := by unfold stopInstant; split <;> (try split) <;> rfl
@[simp] theorem stopInstant_lks (m : Mod) (k : Nat) : (stopInstant m k).lks = m.lks := by unfold stopInstant; split <;> (try split) <;> rfl
@[simp] theorem stopInstant_tri (m : Mod) (k : Nat) : (stopInstant m k).tri = m.tri := by unfold stopInstant; split <;> (try split) <;> rfl
@[simp] theorem stopInstant_net (m : Mod) (k : Nat) : (stopInstant m k).net = m.net := by unfold stopInstant; split <;> (try split) <;> rfl
@[simp] theorem stopInstant_tim (m : Mod) (k : Nat) : (stopInstant m k).tim = m.tim := by unfold stopInstant; split <;> (try split) <;> rfl
@[simp] theorem stopInstant_can (m : Mod) (k : Nat) : (stopInstant m k).can = m.can := by unfold stopInstant; split <;> (try split) <;> rfl
@[simp] theorem stopInstant_flt (m : Mod) (k : Nat) : (stopInstant m k).flt = m.flt := by unfold stopInstant; split <;> (try split) <;> rfl
@[simp] theorem stopInstant_rcr (m : Mod) (k : Nat) : (stopInstant m k).rcr = m.rcr := by unfold stopInstant; split <;> (try split) <;> rfl
@[simp] theorem stopInstant_upd (m : Mod) (k : Nat) : (stopInstant m k).upd = m.upd := by unfold stopInstant; split <;> (try split) <;> rfl
@[simp] theorem stopInstant_sec (m : Mod) (k : Nat) : (stopInstant m k).sec = m.sec := by unfold stopInstant; split <;> (try split) <;> rfl
@[simp] theorem stopInstant_pnl (m : Mod) (k : Nat) : (stopInstant m k).pnl = m.pnl := by unfold stopInstant; split <;> (try split) <;> rfl

@[simp] theorem openSwitch_clk (m : Mod) (b : Nat) : (openSwitch m b).clk = m.clk := by unfold openSwitch; split <;> rfl
@[simp] theorem openSwitch_free (m : Mod) (b : Nat) : (openSwitch m b).free = m.free := by unfold openSwitch; split <;> rfl
@[simp] theorem openSwitch_nv (m : Mod) (b : Nat) : (openSwitch m b).nv = m.nv := by unfold openSwitch; split <;> rfl
@[simp] theorem openSwitch_gen (m : Mod) (b : Nat) : (openSwitch m b).gen = m.gen := by unfold openSwitch; split <;> rfl
@[simp] theorem openSwitch_pwr (m : Mod) (b : Nat) : (openSwitch m b).pwr = m.pwr := by unfold openSwitch; split <;> rfl
@[simp] theorem openSwitch_hif (m : Mod) (b : Nat) : (openSwitch m b).hif = m.hif := by unfold openSwitch; split <;> rfl
@[simp] theorem openSwitch_adm (m : Mod) (b : Nat) : (openSwitch m b).adm = m.adm := by unfold openSwitch; split <;> rfl
@[simp] theorem openSwitch_sig (m : Mod) (b : Nat) : (openSwitch m b).sig = m.sig := by unfold openSwitch; split <;> rfl
@[simp] theorem openSwitch_pge (m : Mod) (b : Nat) : (openSwitch m b).pge = m.pge := by unfold openSwitch; split <;> rfl
@[simp] theorem openSwitch_lpe (m : Mod) (b : Nat) : (openSwitch m b).lpe = m.lpe := by unfold openSwitch; split <;> rfl
@[simp] theorem openSwitch_pln (m : Mod) (b : Nat) : (openSwitch m b).pln = m.pln := by unfold openSwitch; split <;> rfl
@[simp] theorem openSwitch_saf (m : Mod) (b : Nat) : (openSwitch m b).saf = m.saf := by unfold openSwitch; split <;> rfl
@[simp] theorem openSwitch_lks (m : Mod) (b : Nat) : (openSwitch m b).lks = m.lks := by unfold openSwitch; split <;> rfl
@[simp] theorem openSwitch_tri (m : Mod) (b : Nat) : (openSwitch m b).tri = m.tri := by unfold openSwitch; split <;> rfl
@[simp] theorem openSwitch_net (m : Mod) (b : Nat) : (openSwitch m b).net = m.net := by unfold openSwitch; split <;> rfl
@[simp] theorem openSwitch_tim (m : Mod) (b : Nat) : (openSwitch m b).tim = m.tim := by unfold openSwitch; split <;> rfl
@[simp] theorem openSwitch_can (m : Mod) (b : Nat) : (openSwitch m b).can = m.can := by unfold openSwitch; split <;> rfl
@[simp] theorem openSwitch_flt (m : Mod) (b : Nat) : (openSwitch m b).flt = m.flt := by unfold openSwitch; split <;> rfl
@[simp] theorem openSwitch_rcr (m : Mod) (b : Nat) : (openSwitch m b).rcr = m.rcr := by unfold openSwitch; split <;> rfl
@[simp] theorem openSwitch_upd (m : Mod) (b : Nat) : (openSwitch m b).upd = m.upd := by unfold openSwitch; split <;> rfl
@[simp] theorem openSwitch_sec (m : Mod) (b : Nat) : (openSwitch m b).sec = m.sec := by unfold openSwitch; split <;> rfl
@[simp] theorem openSwitch_pnl (m : Mod) (b : Nat) : (openSwitch m b).pnl = m.pnl := by unfold openSwitch; split <;> rfl

@[simp] theorem openAll_clk (m : Mod) : (openAll m).clk = m.clk := foldl_field Mod.clk _ (fun m b => openSwitch_clk m b) _ _
@[simp] theorem openAll_free (m : Mod) : (openAll m).free = m.free := foldl_field Mod.free _ (fun m b => openSwitch_free m b) _ _
@[simp] theorem openAll_nv (m : Mod) : (openAll m).nv = m.nv := foldl_field Mod.nv _ (fun m b => openSwitch_nv m b) _ _
@[simp] theorem openAll_gen (m : Mod) : (openAll m).gen = m.gen := foldl_field Mod.gen _ (fun m b => openSwitch_gen m b) _ _
@[simp] theorem openAll_pwr (m : Mod) : (openAll m).pwr = m.pwr := foldl_field Mod.pwr _ (fun m b => openSwitch_pwr m b) _ _
@[simp] theorem openAll_hif (m : Mod) : (openAll m).hif = m.hif := foldl_field Mod.hif _ (fun m b => openSwitch_hif m b) _ _
@[simp] theorem openAll_adm (m : Mod) : (openAll m).adm = m.adm := foldl_field Mod.adm _ (fun m b => openSwitch_adm m b) _ _
@[simp] theorem openAll_sig (m : Mod) : (openAll m).sig = m.sig := foldl_field Mod.sig _ (fun m b => openSwitch_sig m b) _ _
@[simp] theorem openAll_pge (m : Mod) : (openAll m).pge = m.pge := foldl_field Mod.pge _ (fun m b => openSwitch_pge m b) _ _
@[simp] theorem openAll_lpe (m : Mod) : (openAll m).lpe = m.lpe := foldl_field Mod.lpe _ (fun m b => openSwitch_lpe m b) _ _
@[simp] theorem openAll_pln (m : Mod) : (openAll m).pln = m.pln := foldl_field Mod.pln _ (fun m b => openSwitch_pln m b) _ _
@[simp] theorem openAll_saf (m : Mod) : (openAll m).saf = m.saf := foldl_field Mod.saf _ (fun m b => openSwitch_saf m b) _ _
@[simp] theorem openAll_lks (m : Mod) : (openAll m).lks = m.lks := foldl_field Mod.lks _ (fun m b => openSwitch_lks m b) _ _
@[simp] theorem openAll_tri (m : Mod) : (openAll m).tri = m.tri := foldl_field Mod.tri _ (fun m b => openSwitch_tri m b) _ _
@[simp] theorem openAll_net (m : Mod) : (openAll m).net = m.net := foldl_field Mod.net _ (fun m b => openSwitch_net m b) _ _
@[simp] theorem openAll_tim (m : Mod) : (openAll m).tim = m.tim := foldl_field Mod.tim _ (fun m b => openSwitch_tim m b) _ _
@[simp] theorem openAll_can (m : Mod) : (openAll m).can = m.can := foldl_field Mod.can _ (fun m b => openSwitch_can m b) _ _
@[simp] theorem openAll_flt (m : Mod) : (openAll m).flt = m.flt := foldl_field Mod.flt _ (fun m b => openSwitch_flt m b) _ _
@[simp] theorem openAll_rcr (m : Mod) : (openAll m).rcr = m.rcr := foldl_field Mod.rcr _ (fun m b => openSwitch_rcr m b) _ _
@[simp] theorem openAll_upd (m : Mod) : (openAll m).upd = m.upd := foldl_field Mod.upd _ (fun m b => openSwitch_upd m b) _ _
@[simp] theorem openAll_sec (m : Mod) : (openAll m).sec = m.sec := foldl_field Mod.sec _ (fun m b => openSwitch_sec m b) _ _
@[simp] theorem openAll_pnl (m : Mod) : (openAll m).pnl = m.pnl := foldl_field Mod.pnl _ (fun m b => openSwitch_pnl m b) _ _

@[simp] theorem arbitrate_clk (m : Mod) (n : Nat) : (arbitrate m n).clk = m.clk := arbitrate_field Mod.clk (fun _ _ => rfl) n m
@[simp] theorem arbitrate_free (m : Mod) (n : Nat) : (arbitrate m n).free = m.free := arbitrate_field Mod.free (fun _ _ => rfl) n m
@[simp] theorem arbitrate_nv (m : Mod) (n : Nat) : (arbitrate m n).nv = m.nv := arbitrate_field Mod.nv (fun _ _ => rfl) n m
@[simp] theorem arbitrate_gen (m : Mod) (n : Nat) : (arbitrate m n).gen = m.gen := arbitrate_field Mod.gen (fun _ _ => rfl) n m
@[simp] theorem arbitrate_pwr (m : Mod) (n : Nat) : (arbitrate m n).pwr = m.pwr := arbitrate_field Mod.pwr (fun _ _ => rfl) n m
@[simp] theorem arbitrate_hif (m : Mod) (n : Nat) : (arbitrate m n).hif = m.hif := arbitrate_field Mod.hif (fun _ _ => rfl) n m
@[simp] theorem arbitrate_sig (m : Mod) (n : Nat) : (arbitrate m n).sig = m.sig := arbitrate_field Mod.sig (fun _ _ => rfl) n m
@[simp] theorem arbitrate_pge (m : Mod) (n : Nat) : (arbitrate m n).pge = m.pge := arbitrate_field Mod.pge (fun _ _ => rfl) n m
@[simp] theorem arbitrate_lpe (m : Mod) (n : Nat) : (arbitrate m n).lpe = m.lpe := arbitrate_field Mod.lpe (fun _ _ => rfl) n m
@[simp] theorem arbitrate_pln (m : Mod) (n : Nat) : (arbitrate m n).pln = m.pln := arbitrate_field Mod.pln (fun _ _ => rfl) n m
@[simp] theorem arbitrate_fio (m : Mod) (n : Nat) : (arbitrate m n).fio = m.fio := arbitrate_field Mod.fio (fun _ _ => rfl) n m
@[simp] theorem arbitrate_saf (m : Mod) (n : Nat) : (arbitrate m n).saf = m.saf := arbitrate_field Mod.saf (fun _ _ => rfl) n m
@[simp] theorem arbitrate_lks (m : Mod) (n : Nat) : (arbitrate m n).lks = m.lks := arbitrate_field Mod.lks (fun _ _ => rfl) n m
@[simp] theorem arbitrate_tri (m : Mod) (n : Nat) : (arbitrate m n).tri = m.tri := arbitrate_field Mod.tri (fun _ _ => rfl) n m
@[simp] theorem arbitrate_net (m : Mod) (n : Nat) : (arbitrate m n).net = m.net := arbitrate_field Mod.net (fun _ _ => rfl) n m
@[simp] theorem arbitrate_tim (m : Mod) (n : Nat) : (arbitrate m n).tim = m.tim := arbitrate_field Mod.tim (fun _ _ => rfl) n m
@[simp] theorem arbitrate_can (m : Mod) (n : Nat) : (arbitrate m n).can = m.can := arbitrate_field Mod.can (fun _ _ => rfl) n m
@[simp] theorem arbitrate_flt (m : Mod) (n : Nat) : (arbitrate m n).flt = m.flt := arbitrate_field Mod.flt (fun _ _ => rfl) n m
@[simp] theorem arbitrate_rcr (m : Mod) (n : Nat) : (arbitrate m n).rcr = m.rcr := arbitrate_field Mod.rcr (fun _ _ => rfl) n m
@[simp] theorem arbitrate_upd (m : Mod) (n : Nat) : (arbitrate m n).upd = m.upd := arbitrate_field Mod.upd (fun _ _ => rfl) n m
@[simp] theorem arbitrate_sec (m : Mod) (n : Nat) : (arbitrate m n).sec = m.sec := arbitrate_field Mod.sec (fun _ _ => rfl) n m
@[simp] theorem arbitrate_pnl (m : Mod) (n : Nat) : (arbitrate m n).pnl = m.pnl := arbitrate_field Mod.pnl (fun _ _ => rfl) n m

@[simp] theorem decide_clk (m : Mod) : (decide_ m).clk = m.clk := arbitrate_clk _ _
@[simp] theorem decide_free (m : Mod) : (decide_ m).free = m.free := arbitrate_free _ _
@[simp] theorem decide_nv (m : Mod) : (decide_ m).nv = m.nv := arbitrate_nv _ _
@[simp] theorem decide_gen (m : Mod) : (decide_ m).gen = m.gen := arbitrate_gen _ _
@[simp] theorem decide_pwr (m : Mod) : (decide_ m).pwr = m.pwr := arbitrate_pwr _ _
@[simp] theorem decide_hif (m : Mod) : (decide_ m).hif = m.hif := arbitrate_hif _ _
@[simp] theorem decide_sig (m : Mod) : (decide_ m).sig = m.sig := arbitrate_sig _ _
@[simp] theorem decide_pge (m : Mod) : (decide_ m).pge = m.pge := arbitrate_pge _ _
@[simp] theorem decide_lpe (m : Mod) : (decide_ m).lpe = m.lpe := arbitrate_lpe _ _
@[simp] theorem decide_pln (m : Mod) : (decide_ m).pln = m.pln := arbitrate_pln _ _
@[simp] theorem decide_fio (m : Mod) : (decide_ m).fio = m.fio := arbitrate_fio _ _
@[simp] theorem decide_saf (m : Mod) : (decide_ m).saf = m.saf := arbitrate_saf _ _
@[simp] theorem decide_lks (m : Mod) : (decide_ m).lks = m.lks := arbitrate_lks _ _
@[simp] theorem decide_tri (m : Mod) : (decide_ m).tri = m.tri := arbitrate_tri _ _
@[simp] theorem decide_net (m : Mod) : (decide_ m).net = m.net := arbitrate_net _ _
@[simp] theorem decide_tim (m : Mod) : (decide_ m).tim = m.tim := arbitrate_tim _ _
@[simp] theorem decide_can (m : Mod) : (decide_ m).can = m.can := arbitrate_can _ _
@[simp] theorem decide_flt (m : Mod) : (decide_ m).flt = m.flt := arbitrate_flt _ _
@[simp] theorem decide_rcr (m : Mod) : (decide_ m).rcr = m.rcr := arbitrate_rcr _ _
@[simp] theorem decide_upd (m : Mod) : (decide_ m).upd = m.upd := arbitrate_upd _ _
@[simp] theorem decide_sec (m : Mod) : (decide_ m).sec = m.sec := arbitrate_sec _ _
@[simp] theorem decide_pnl (m : Mod) : (decide_ m).pnl = m.pnl := arbitrate_pnl _ _

@[simp] theorem request_clk (m : Mod) (w : Nat) (o : HeavyOp) (c : Bool) (d : Nat) : (request m w o c d).clk = m.clk := by unfold request; dsimp only; split <;> simp
@[simp] theorem request_free (m : Mod) (w : Nat) (o : HeavyOp) (c : Bool) (d : Nat) : (request m w o c d).free = m.free := by unfold request; dsimp only; split <;> simp
@[simp] theorem request_nv (m : Mod) (w : Nat) (o : HeavyOp) (c : Bool) (d : Nat) : (request m w o c d).nv = m.nv := by unfold request; dsimp only; split <;> simp
@[simp] theorem request_gen (m : Mod) (w : Nat) (o : HeavyOp) (c : Bool) (d : Nat) : (request m w o c d).gen = m.gen := by unfold request; dsimp only; split <;> simp
@[simp] theorem request_pwr (m : Mod) (w : Nat) (o : HeavyOp) (c : Bool) (d : Nat) : (request m w o c d).pwr = m.pwr := by unfold request; dsimp only; split <;> simp
@[simp] theorem request_hif (m : Mod) (w : Nat) (o : HeavyOp) (c : Bool) (d : Nat) : (request m w o c d).hif = m.hif := by unfold request; dsimp only; split <;> simp
@[simp] theorem request_sig (m : Mod) (w : Nat) (o : HeavyOp) (c : Bool) (d : Nat) : (request m w o c d).sig = m.sig := by unfold request; dsimp only; split <;> simp
@[simp] theorem request_pge (m : Mod) (w : Nat) (o : HeavyOp) (c : Bool) (d : Nat) : (request m w o c d).pge = m.pge := by unfold request; dsimp only; split <;> simp
@[simp] theorem request_lpe (m : Mod) (w : Nat) (o : HeavyOp) (c : Bool) (d : Nat) : (request m w o c d).lpe = m.lpe := by unfold request; dsimp only; split <;> simp
@[simp] theorem request_pln (m : Mod) (w : Nat) (o : HeavyOp) (c : Bool) (d : Nat) : (request m w o c d).pln = m.pln := by unfold request; dsimp only; split <;> simp
@[simp] theorem request_fio (m : Mod) (w : Nat) (o : HeavyOp) (c : Bool) (d : Nat) : (request m w o c d).fio = m.fio := by unfold request; dsimp only; split <;> simp
@[simp] theorem request_saf (m : Mod) (w : Nat) (o : HeavyOp) (c : Bool) (d : Nat) : (request m w o c d).saf = m.saf := by unfold request; dsimp only; split <;> simp
@[simp] theorem request_lks (m : Mod) (w : Nat) (o : HeavyOp) (c : Bool) (d : Nat) : (request m w o c d).lks = m.lks := by unfold request; dsimp only; split <;> simp
@[simp] theorem request_tri (m : Mod) (w : Nat) (o : HeavyOp) (c : Bool) (d : Nat) : (request m w o c d).tri = m.tri := by unfold request; dsimp only; split <;> simp
@[simp] theorem request_net (m : Mod) (w : Nat) (o : HeavyOp) (c : Bool) (d : Nat) : (request m w o c d).net = m.net := by unfold request; dsimp only; split <;> simp
@[simp] theorem request_tim (m : Mod) (w : Nat) (o : HeavyOp) (c : Bool) (d : Nat) : (request m w o c d).tim = m.tim := by unfold request; dsimp only; split <;> simp
@[simp] theorem request_can (m : Mod) (w : Nat) (o : HeavyOp) (c : Bool) (d : Nat) : (request m w o c d).can = m.can := by unfold request; dsimp only; split <;> simp
@[simp] theorem request_flt (m : Mod) (w : Nat) (o : HeavyOp) (c : Bool) (d : Nat) : (request m w o c d).flt = m.flt := by unfold request; dsimp only; split <;> simp
@[simp] theorem request_rcr (m : Mod) (w : Nat) (o : HeavyOp) (c : Bool) (d : Nat) : (request m w o c d).rcr = m.rcr := by unfold request; dsimp only; split <;> simp
@[simp] theorem request_upd (m : Mod) (w : Nat) (o : HeavyOp) (c : Bool) (d : Nat) : (request m w o c d).upd = m.upd := by unfold request; dsimp only; split <;> simp
@[simp] theorem request_sec (m : Mod) (w : Nat) (o : HeavyOp) (c : Bool) (d : Nat) : (request m w o c d).sec = m.sec := by unfold request; dsimp only; split <;> simp
@[simp] theorem request_pnl (m : Mod) (w : Nat) (o : HeavyOp) (c : Bool) (d : Nat) : (request m w o c d).pnl = m.pnl := by unfold request; dsimp only; split <;> simp

@[simp] theorem releasePermit_clk (m : Mod) (w : Nat) : (releasePermit m w).clk = m.clk := decide_clk _
@[simp] theorem releasePermit_free (m : Mod) (w : Nat) : (releasePermit m w).free = m.free := decide_free _
@[simp] theorem releasePermit_nv (m : Mod) (w : Nat) : (releasePermit m w).nv = m.nv := decide_nv _
@[simp] theorem releasePermit_gen (m : Mod) (w : Nat) : (releasePermit m w).gen = m.gen := decide_gen _
@[simp] theorem releasePermit_pwr (m : Mod) (w : Nat) : (releasePermit m w).pwr = m.pwr := decide_pwr _
@[simp] theorem releasePermit_hif (m : Mod) (w : Nat) : (releasePermit m w).hif = m.hif := decide_hif _
@[simp] theorem releasePermit_sig (m : Mod) (w : Nat) : (releasePermit m w).sig = m.sig := decide_sig _
@[simp] theorem releasePermit_pge (m : Mod) (w : Nat) : (releasePermit m w).pge = m.pge := decide_pge _
@[simp] theorem releasePermit_lpe (m : Mod) (w : Nat) : (releasePermit m w).lpe = m.lpe := decide_lpe _
@[simp] theorem releasePermit_pln (m : Mod) (w : Nat) : (releasePermit m w).pln = m.pln := decide_pln _
@[simp] theorem releasePermit_fio (m : Mod) (w : Nat) : (releasePermit m w).fio = m.fio := decide_fio _
@[simp] theorem releasePermit_saf (m : Mod) (w : Nat) : (releasePermit m w).saf = m.saf := decide_saf _
@[simp] theorem releasePermit_lks (m : Mod) (w : Nat) : (releasePermit m w).lks = m.lks := decide_lks _
@[simp] theorem releasePermit_tri (m : Mod) (w : Nat) : (releasePermit m w).tri = m.tri := decide_tri _
@[simp] theorem releasePermit_net (m : Mod) (w : Nat) : (releasePermit m w).net = m.net := decide_net _
@[simp] theorem releasePermit_tim (m : Mod) (w : Nat) : (releasePermit m w).tim = m.tim := decide_tim _
@[simp] theorem releasePermit_can (m : Mod) (w : Nat) : (releasePermit m w).can = m.can := decide_can _
@[simp] theorem releasePermit_flt (m : Mod) (w : Nat) : (releasePermit m w).flt = m.flt := decide_flt _
@[simp] theorem releasePermit_rcr (m : Mod) (w : Nat) : (releasePermit m w).rcr = m.rcr := decide_rcr _
@[simp] theorem releasePermit_upd (m : Mod) (w : Nat) : (releasePermit m w).upd = m.upd := decide_upd _
@[simp] theorem releasePermit_sec (m : Mod) (w : Nat) : (releasePermit m w).sec = m.sec := decide_sec _
@[simp] theorem releasePermit_pnl (m : Mod) (w : Nat) : (releasePermit m w).pnl = m.pnl := decide_pnl _

@[simp] theorem drive_clk (m : Mod) (n : Nat) : (drive m n).clk = m.clk := by rw [drive_only]
@[simp] theorem drive_free (m : Mod) (n : Nat) : (drive m n).free = m.free := by rw [drive_only]
@[simp] theorem drive_nv (m : Mod) (n : Nat) : (drive m n).nv = m.nv := by rw [drive_only]
@[simp] theorem drive_gen (m : Mod) (n : Nat) : (drive m n).gen = m.gen := by rw [drive_only]
@[simp] theorem drive_pwr (m : Mod) (n : Nat) : (drive m n).pwr = m.pwr := by rw [drive_only]
@[simp] theorem drive_hif (m : Mod) (n : Nat) : (drive m n).hif = m.hif := by rw [drive_only]
@[simp] theorem drive_adm (m : Mod) (n : Nat) : (drive m n).adm = m.adm := by rw [drive_only]
@[simp] theorem drive_sig (m : Mod) (n : Nat) : (drive m n).sig = m.sig := by rw [drive_only]
@[simp] theorem drive_pge (m : Mod) (n : Nat) : (drive m n).pge = m.pge := by rw [drive_only]
@[simp] theorem drive_lpe (m : Mod) (n : Nat) : (drive m n).lpe = m.lpe := by rw [drive_only]
@[simp] theorem drive_pln (m : Mod) (n : Nat) : (drive m n).pln = m.pln := by rw [drive_only]
@[simp] theorem drive_saf (m : Mod) (n : Nat) : (drive m n).saf = m.saf := by rw [drive_only]
@[simp] theorem drive_lks (m : Mod) (n : Nat) : (drive m n).lks = m.lks := by rw [drive_only]
@[simp] theorem drive_tri (m : Mod) (n : Nat) : (drive m n).tri = m.tri := by rw [drive_only]
@[simp] theorem drive_net (m : Mod) (n : Nat) : (drive m n).net = m.net := by rw [drive_only]
@[simp] theorem drive_tim (m : Mod) (n : Nat) : (drive m n).tim = m.tim := by rw [drive_only]
@[simp] theorem drive_can (m : Mod) (n : Nat) : (drive m n).can = m.can := by rw [drive_only]
@[simp] theorem drive_flt (m : Mod) (n : Nat) : (drive m n).flt = m.flt := by rw [drive_only]
@[simp] theorem drive_rcr (m : Mod) (n : Nat) : (drive m n).rcr = m.rcr := by rw [drive_only]
@[simp] theorem drive_upd (m : Mod) (n : Nat) : (drive m n).upd = m.upd := by rw [drive_only]
@[simp] theorem drive_sec (m : Mod) (n : Nat) : (drive m n).sec = m.sec := by rw [drive_only]
@[simp] theorem drive_pnl (m : Mod) (n : Nat) : (drive m n).pnl = m.pnl := by rw [drive_only]

@[simp] theorem driveAll_clk (m : Mod) : (driveAll m).clk = m.clk := foldl_field Mod.clk _ (by intro m e; split <;> simp) _ _
@[simp] theorem driveAll_free (m : Mod) : (driveAll m).free = m.free := foldl_field Mod.free _ (by intro m e; split <;> simp) _ _
@[simp] theorem driveAll_nv (m : Mod) : (driveAll m).nv = m.nv := foldl_field Mod.nv _ (by intro m e; split <;> simp) _ _
@[simp] theorem driveAll_gen (m : Mod) : (driveAll m).gen = m.gen := foldl_field Mod.gen _ (by intro m e; split <;> simp) _ _
@[simp] theorem driveAll_pwr (m : Mod) : (driveAll m).pwr = m.pwr := foldl_field Mod.pwr _ (by intro m e; split <;> simp) _ _
@[simp] theorem driveAll_hif (m : Mod) : (driveAll m).hif = m.hif := foldl_field Mod.hif _ (by intro m e; split <;> simp) _ _
@[simp] theorem driveAll_adm (m : Mod) : (driveAll m).adm = m.adm := foldl_field Mod.adm _ (by intro m e; split <;> simp) _ _
@[simp] theorem driveAll_sig (m : Mod) : (driveAll m).sig = m.sig := foldl_field Mod.sig _ (by intro m e; split <;> simp) _ _
@[simp] theorem driveAll_pge (m : Mod) : (driveAll m).pge = m.pge := foldl_field Mod.pge _ (by intro m e; split <;> simp) _ _
@[simp] theorem driveAll_lpe (m : Mod) : (driveAll m).lpe = m.lpe := foldl_field Mod.lpe _ (by intro m e; split <;> simp) _ _
@[simp] theorem driveAll_pln (m : Mod) : (driveAll m).pln = m.pln := foldl_field Mod.pln _ (by intro m e; split <;> simp) _ _
@[simp] theorem driveAll_saf (m : Mod) : (driveAll m).saf = m.saf := foldl_field Mod.saf _ (by intro m e; split <;> simp) _ _
@[simp] theorem driveAll_lks (m : Mod) : (driveAll m).lks = m.lks := foldl_field Mod.lks _ (by intro m e; split <;> simp) _ _
@[simp] theorem driveAll_tri (m : Mod) : (driveAll m).tri = m.tri := foldl_field Mod.tri _ (by intro m e; split <;> simp) _ _
@[simp] theorem driveAll_net (m : Mod) : (driveAll m).net = m.net := foldl_field Mod.net _ (by intro m e; split <;> simp) _ _
@[simp] theorem driveAll_tim (m : Mod) : (driveAll m).tim = m.tim := foldl_field Mod.tim _ (by intro m e; split <;> simp) _ _
@[simp] theorem driveAll_can (m : Mod) : (driveAll m).can = m.can := foldl_field Mod.can _ (by intro m e; split <;> simp) _ _
@[simp] theorem driveAll_flt (m : Mod) : (driveAll m).flt = m.flt := foldl_field Mod.flt _ (by intro m e; split <;> simp) _ _
@[simp] theorem driveAll_rcr (m : Mod) : (driveAll m).rcr = m.rcr := foldl_field Mod.rcr _ (by intro m e; split <;> simp) _ _
@[simp] theorem driveAll_upd (m : Mod) : (driveAll m).upd = m.upd := foldl_field Mod.upd _ (by intro m e; split <;> simp) _ _
@[simp] theorem driveAll_sec (m : Mod) : (driveAll m).sec = m.sec := foldl_field Mod.sec _ (by intro m e; split <;> simp) _ _
@[simp] theorem driveAll_pnl (m : Mod) : (driveAll m).pnl = m.pnl := foldl_field Mod.pnl _ (by intro m e; split <;> simp) _ _

@[simp] theorem takeCommand_clk (m : Mod) (n : Nat) (v : Val) (q : Qual) : (takeCommand m n v q).clk = m.clk := drive_clk _ _
@[simp] theorem takeCommand_free (m : Mod) (n : Nat) (v : Val) (q : Qual) : (takeCommand m n v q).free = m.free := drive_free _ _
@[simp] theorem takeCommand_nv (m : Mod) (n : Nat) (v : Val) (q : Qual) : (takeCommand m n v q).nv = m.nv := drive_nv _ _
@[simp] theorem takeCommand_gen (m : Mod) (n : Nat) (v : Val) (q : Qual) : (takeCommand m n v q).gen = m.gen := drive_gen _ _
@[simp] theorem takeCommand_pwr (m : Mod) (n : Nat) (v : Val) (q : Qual) : (takeCommand m n v q).pwr = m.pwr := drive_pwr _ _
@[simp] theorem takeCommand_hif (m : Mod) (n : Nat) (v : Val) (q : Qual) : (takeCommand m n v q).hif = m.hif := drive_hif _ _
@[simp] theorem takeCommand_adm (m : Mod) (n : Nat) (v : Val) (q : Qual) : (takeCommand m n v q).adm = m.adm := drive_adm _ _
@[simp] theorem takeCommand_sig (m : Mod) (n : Nat) (v : Val) (q : Qual) : (takeCommand m n v q).sig = m.sig := drive_sig _ _
@[simp] theorem takeCommand_pge (m : Mod) (n : Nat) (v : Val) (q : Qual) : (takeCommand m n v q).pge = m.pge := drive_pge _ _
@[simp] theorem takeCommand_lpe (m : Mod) (n : Nat) (v : Val) (q : Qual) : (takeCommand m n v q).lpe = m.lpe := drive_lpe _ _
@[simp] theorem takeCommand_pln (m : Mod) (n : Nat) (v : Val) (q : Qual) : (takeCommand m n v q).pln = m.pln := drive_pln _ _
@[simp] theorem takeCommand_saf (m : Mod) (n : Nat) (v : Val) (q : Qual) : (takeCommand m n v q).saf = m.saf := drive_saf _ _
@[simp] theorem takeCommand_lks (m : Mod) (n : Nat) (v : Val) (q : Qual) : (takeCommand m n v q).lks = m.lks := drive_lks _ _
@[simp] theorem takeCommand_tri (m : Mod) (n : Nat) (v : Val) (q : Qual) : (takeCommand m n v q).tri = m.tri := drive_tri _ _
@[simp] theorem takeCommand_net (m : Mod) (n : Nat) (v : Val) (q : Qual) : (takeCommand m n v q).net = m.net := drive_net _ _
@[simp] theorem takeCommand_tim (m : Mod) (n : Nat) (v : Val) (q : Qual) : (takeCommand m n v q).tim = m.tim := drive_tim _ _
@[simp] theorem takeCommand_can (m : Mod) (n : Nat) (v : Val) (q : Qual) : (takeCommand m n v q).can = m.can := drive_can _ _
@[simp] theorem takeCommand_flt (m : Mod) (n : Nat) (v : Val) (q : Qual) : (takeCommand m n v q).flt = m.flt := drive_flt _ _
@[simp] theorem takeCommand_rcr (m : Mod) (n : Nat) (v : Val) (q : Qual) : (takeCommand m n v q).rcr = m.rcr := drive_rcr _ _
@[simp] theorem takeCommand_upd (m : Mod) (n : Nat) (v : Val) (q : Qual) : (takeCommand m n v q).upd = m.upd := drive_upd _ _
@[simp] theorem takeCommand_sec (m : Mod) (n : Nat) (v : Val) (q : Qual) : (takeCommand m n v q).sec = m.sec := drive_sec _ _
@[simp] theorem takeCommand_pnl (m : Mod) (n : Nat) (v : Val) (q : Qual) : (takeCommand m n v q).pnl = m.pnl := drive_pnl _ _

@[simp] theorem command_clk (m : Mod) (n : Nat) (v : Val) (q : Qual) : (command m n v q).clk = m.clk := by unfold command; split <;> simp
@[simp] theorem command_free (m : Mod) (n : Nat) (v : Val) (q : Qual) : (command m n v q).free = m.free := by unfold command; split <;> simp
@[simp] theorem command_nv (m : Mod) (n : Nat) (v : Val) (q : Qual) : (command m n v q).nv = m.nv := by unfold command; split <;> simp
@[simp] theorem command_gen (m : Mod) (n : Nat) (v : Val) (q : Qual) : (command m n v q).gen = m.gen := by unfold command; split <;> simp
@[simp] theorem command_pwr (m : Mod) (n : Nat) (v : Val) (q : Qual) : (command m n v q).pwr = m.pwr := by unfold command; split <;> simp
@[simp] theorem command_hif (m : Mod) (n : Nat) (v : Val) (q : Qual) : (command m n v q).hif = m.hif := by unfold command; split <;> simp
@[simp] theorem command_adm (m : Mod) (n : Nat) (v : Val) (q : Qual) : (command m n v q).adm = m.adm := by unfold command; split <;> simp
@[simp] theorem command_sig (m : Mod) (n : Nat) (v : Val) (q : Qual) : (command m n v q).sig = m.sig := by unfold command; split <;> simp
@[simp] theorem command_pge (m : Mod) (n : Nat) (v : Val) (q : Qual) : (command m n v q).pge = m.pge := by unfold command; split <;> simp
@[simp] theorem command_lpe (m : Mod) (n : Nat) (v : Val) (q : Qual) : (command m n v q).lpe = m.lpe := by unfold command; split <;> simp
@[simp] theorem command_pln (m : Mod) (n : Nat) (v : Val) (q : Qual) : (command m n v q).pln = m.pln := by unfold command; split <;> simp
@[simp] theorem command_saf (m : Mod) (n : Nat) (v : Val) (q : Qual) : (command m n v q).saf = m.saf := by unfold command; split <;> simp
@[simp] theorem command_lks (m : Mod) (n : Nat) (v : Val) (q : Qual) : (command m n v q).lks = m.lks := by unfold command; split <;> simp
@[simp] theorem command_net (m : Mod) (n : Nat) (v : Val) (q : Qual) : (command m n v q).net = m.net := by unfold command; split <;> simp
@[simp] theorem command_tim (m : Mod) (n : Nat) (v : Val) (q : Qual) : (command m n v q).tim = m.tim := by unfold command; split <;> simp
@[simp] theorem command_can (m : Mod) (n : Nat) (v : Val) (q : Qual) : (command m n v q).can = m.can := by unfold command; split <;> simp
@[simp] theorem command_flt (m : Mod) (n : Nat) (v : Val) (q : Qual) : (command m n v q).flt = m.flt := by unfold command; split <;> simp
@[simp] theorem command_rcr (m : Mod) (n : Nat) (v : Val) (q : Qual) : (command m n v q).rcr = m.rcr := by unfold command; split <;> simp
@[simp] theorem command_upd (m : Mod) (n : Nat) (v : Val) (q : Qual) : (command m n v q).upd = m.upd := by unfold command; split <;> simp
@[simp] theorem command_sec (m : Mod) (n : Nat) (v : Val) (q : Qual) : (command m n v q).sec = m.sec := by unfold command; split <;> simp
@[simp] theorem command_pnl (m : Mod) (n : Nat) (v : Val) (q : Qual) : (command m n v q).pnl = m.pnl := by unfold command; split <;> simp

@[simp] theorem startTier_clk (m : Mod) (n : Nat) : (startTier m n).clk = m.clk := by unfold startTier; dsimp only; split <;> rfl
@[simp] theorem startTier_free (m : Mod) (n : Nat) : (startTier m n).free = m.free := by unfold startTier; dsimp only; split <;> rfl
@[simp] theorem startTier_nv (m : Mod) (n : Nat) : (startTier m n).nv = m.nv := by unfold startTier; dsimp only; split <;> rfl
@[simp] theorem startTier_gen (m : Mod) (n : Nat) : (startTier m n).gen = m.gen := by unfold startTier; dsimp only; split <;> rfl
@[simp] theorem startTier_pwr (m : Mod) (n : Nat) : (startTier m n).pwr = m.pwr := by unfold startTier; dsimp only; split <;> rfl
@[simp] theorem startTier_hif (m : Mod) (n : Nat) : (startTier m n).hif = m.hif := by unfold startTier; dsimp only; split <;> rfl
@[simp] theorem startTier_adm (m : Mod) (n : Nat) : (startTier m n).adm = m.adm := by unfold startTier; dsimp only; split <;> rfl
@[simp] theorem startTier_sig (m : Mod) (n : Nat) : (startTier m n).sig = m.sig := by unfold startTier; dsimp only; split <;> rfl
@[simp] theorem startTier_pge (m : Mod) (n : Nat) : (startTier m n).pge = m.pge := by unfold startTier; dsimp only; split <;> rfl
@[simp] theorem startTier_lpe (m : Mod) (n : Nat) : (startTier m n).lpe = m.lpe := by unfold startTier; dsimp only; split <;> rfl
@[simp] theorem startTier_pln (m : Mod) (n : Nat) : (startTier m n).pln = m.pln := by unfold startTier; dsimp only; split <;> rfl
@[simp] theorem startTier_fio (m : Mod) (n : Nat) : (startTier m n).fio = m.fio := by unfold startTier; dsimp only; split <;> rfl
@[simp] theorem startTier_saf (m : Mod) (n : Nat) : (startTier m n).saf = m.saf := by unfold startTier; dsimp only; split <;> rfl
@[simp] theorem startTier_lks (m : Mod) (n : Nat) : (startTier m n).lks = m.lks := by unfold startTier; dsimp only; split <;> rfl
@[simp] theorem startTier_tri (m : Mod) (n : Nat) : (startTier m n).tri = m.tri := by unfold startTier; dsimp only; split <;> rfl
@[simp] theorem startTier_net (m : Mod) (n : Nat) : (startTier m n).net = m.net := by unfold startTier; dsimp only; split <;> rfl
@[simp] theorem startTier_tim (m : Mod) (n : Nat) : (startTier m n).tim = m.tim := by unfold startTier; dsimp only; split <;> rfl
@[simp] theorem startTier_can (m : Mod) (n : Nat) : (startTier m n).can = m.can := by unfold startTier; dsimp only; split <;> rfl
@[simp] theorem startTier_flt (m : Mod) (n : Nat) : (startTier m n).flt = m.flt := by unfold startTier; dsimp only; split <;> rfl
@[simp] theorem startTier_upd (m : Mod) (n : Nat) : (startTier m n).upd = m.upd := by unfold startTier; dsimp only; split <;> rfl
@[simp] theorem startTier_sec (m : Mod) (n : Nat) : (startTier m n).sec = m.sec := by unfold startTier; dsimp only; split <;> rfl
@[simp] theorem startTier_pnl (m : Mod) (n : Nat) : (startTier m n).pnl = m.pnl := by unfold startTier; dsimp only; split <;> rfl

@[simp] theorem endTier_clk (m : Mod) (n : Nat) : (endTier m n).clk = m.clk := by unfold endTier; dsimp only; split <;> rfl
@[simp] theorem endTier_free (m : Mod) (n : Nat) : (endTier m n).free = m.free := by unfold endTier; dsimp only; split <;> rfl
@[simp] theorem endTier_nv (m : Mod) (n : Nat) : (endTier m n).nv = m.nv := by unfold endTier; dsimp only; split <;> rfl
@[simp] theorem endTier_gen (m : Mod) (n : Nat) : (endTier m n).gen = m.gen := by unfold endTier; dsimp only; split <;> rfl
@[simp] theorem endTier_pwr (m : Mod) (n : Nat) : (endTier m n).pwr = m.pwr := by unfold endTier; dsimp only; split <;> rfl
@[simp] theorem endTier_hif (m : Mod) (n : Nat) : (endTier m n).hif = m.hif := by unfold endTier; dsimp only; split <;> rfl
@[simp] theorem endTier_adm (m : Mod) (n : Nat) : (endTier m n).adm = m.adm := by unfold endTier; dsimp only; split <;> rfl
@[simp] theorem endTier_sig (m : Mod) (n : Nat) : (endTier m n).sig = m.sig := by unfold endTier; dsimp only; split <;> rfl
@[simp] theorem endTier_pge (m : Mod) (n : Nat) : (endTier m n).pge = m.pge := by unfold endTier; dsimp only; split <;> rfl
@[simp] theorem endTier_lpe (m : Mod) (n : Nat) : (endTier m n).lpe = m.lpe := by unfold endTier; dsimp only; split <;> rfl
@[simp] theorem endTier_pln (m : Mod) (n : Nat) : (endTier m n).pln = m.pln := by unfold endTier; dsimp only; split <;> rfl
@[simp] theorem endTier_fio (m : Mod) (n : Nat) : (endTier m n).fio = m.fio := by unfold endTier; dsimp only; split <;> rfl
@[simp] theorem endTier_saf (m : Mod) (n : Nat) : (endTier m n).saf = m.saf := by unfold endTier; dsimp only; split <;> rfl
@[simp] theorem endTier_lks (m : Mod) (n : Nat) : (endTier m n).lks = m.lks := by unfold endTier; dsimp only; split <;> rfl
@[simp] theorem endTier_tri (m : Mod) (n : Nat) : (endTier m n).tri = m.tri := by unfold endTier; dsimp only; split <;> rfl
@[simp] theorem endTier_net (m : Mod) (n : Nat) : (endTier m n).net = m.net := by unfold endTier; dsimp only; split <;> rfl
@[simp] theorem endTier_tim (m : Mod) (n : Nat) : (endTier m n).tim = m.tim := by unfold endTier; dsimp only; split <;> rfl
@[simp] theorem endTier_can (m : Mod) (n : Nat) : (endTier m n).can = m.can := by unfold endTier; dsimp only; split <;> rfl
@[simp] theorem endTier_flt (m : Mod) (n : Nat) : (endTier m n).flt = m.flt := by unfold endTier; dsimp only; split <;> rfl
@[simp] theorem endTier_upd (m : Mod) (n : Nat) : (endTier m n).upd = m.upd := by unfold endTier; dsimp only; split <;> rfl
@[simp] theorem endTier_sec (m : Mod) (n : Nat) : (endTier m n).sec = m.sec := by unfold endTier; dsimp only; split <;> rfl
@[simp] theorem endTier_pnl (m : Mod) (n : Nat) : (endTier m n).pnl = m.pnl := by unfold endTier; dsimp only; split <;> rfl

@[simp] theorem startTiers_clk (m : Mod) : (startTiers m).clk = m.clk := by simp [startTiers]
@[simp] theorem startTiers_free (m : Mod) : (startTiers m).free = m.free := by simp [startTiers]
@[simp] theorem startTiers_nv (m : Mod) : (startTiers m).nv = m.nv := by simp [startTiers]
@[simp] theorem startTiers_gen (m : Mod) : (startTiers m).gen = m.gen := by simp [startTiers]
@[simp] theorem startTiers_pwr (m : Mod) : (startTiers m).pwr = m.pwr := by simp [startTiers]
@[simp] theorem startTiers_hif (m : Mod) : (startTiers m).hif = m.hif := by simp [startTiers]
@[simp] theorem startTiers_adm (m : Mod) : (startTiers m).adm = m.adm := by simp [startTiers]
@[simp] theorem startTiers_sig (m : Mod) : (startTiers m).sig = m.sig := by simp [startTiers]
@[simp] theorem startTiers_pge (m : Mod) : (startTiers m).pge = m.pge := by simp [startTiers]
@[simp] theorem startTiers_lpe (m : Mod) : (startTiers m).lpe = m.lpe := by simp [startTiers]
@[simp] theorem startTiers_pln (m : Mod) : (startTiers m).pln = m.pln := by simp [startTiers]
@[simp] theorem startTiers_fio (m : Mod) : (startTiers m).fio = m.fio := by simp [startTiers]
@[simp] theorem startTiers_saf (m : Mod) : (startTiers m).saf = m.saf := by simp [startTiers]
@[simp] theorem startTiers_lks (m : Mod) : (startTiers m).lks = m.lks := by simp [startTiers]
@[simp] theorem startTiers_tri (m : Mod) : (startTiers m).tri = m.tri := by simp [startTiers]
@[simp] theorem startTiers_net (m : Mod) : (startTiers m).net = m.net := by simp [startTiers]
@[simp] theorem startTiers_tim (m : Mod) : (startTiers m).tim = m.tim := by simp [startTiers]
@[simp] theorem startTiers_can (m : Mod) : (startTiers m).can = m.can := by simp [startTiers]
@[simp] theorem startTiers_flt (m : Mod) : (startTiers m).flt = m.flt := by simp [startTiers]
@[simp] theorem startTiers_upd (m : Mod) : (startTiers m).upd = m.upd := by simp [startTiers]
@[simp] theorem startTiers_sec (m : Mod) : (startTiers m).sec = m.sec := by simp [startTiers]
@[simp] theorem startTiers_pnl (m : Mod) : (startTiers m).pnl = m.pnl := by simp [startTiers]

@[simp] theorem endTiers_clk (m : Mod) : (endTiers m).clk = m.clk := by simp [endTiers]
@[simp] theorem endTiers_free (m : Mod) : (endTiers m).free = m.free := by simp [endTiers]
@[simp] theorem endTiers_nv (m : Mod) : (endTiers m).nv = m.nv := by simp [endTiers]
@[simp] theorem endTiers_gen (m : Mod) : (endTiers m).gen = m.gen := by simp [endTiers]
@[simp] theorem endTiers_pwr (m : Mod) : (endTiers m).pwr = m.pwr := by simp [endTiers]
@[simp] theorem endTiers_hif (m : Mod) : (endTiers m).hif = m.hif := by simp [endTiers]
@[simp] theorem endTiers_adm (m : Mod) : (endTiers m).adm = m.adm := by simp [endTiers]
@[simp] theorem endTiers_sig (m : Mod) : (endTiers m).sig = m.sig := by simp [endTiers]
@[simp] theorem endTiers_pge (m : Mod) : (endTiers m).pge = m.pge := by simp [endTiers]
@[simp] theorem endTiers_lpe (m : Mod) : (endTiers m).lpe = m.lpe := by simp [endTiers]
@[simp] theorem endTiers_pln (m : Mod) : (endTiers m).pln = m.pln := by simp [endTiers]
@[simp] theorem endTiers_fio (m : Mod) : (endTiers m).fio = m.fio := by simp [endTiers]
@[simp] theorem endTiers_saf (m : Mod) : (endTiers m).saf = m.saf := by simp [endTiers]
@[simp] theorem endTiers_lks (m : Mod) : (endTiers m).lks = m.lks := by simp [endTiers]
@[simp] theorem endTiers_tri (m : Mod) : (endTiers m).tri = m.tri := by simp [endTiers]
@[simp] theorem endTiers_net (m : Mod) : (endTiers m).net = m.net := by simp [endTiers]
@[simp] theorem endTiers_tim (m : Mod) : (endTiers m).tim = m.tim := by simp [endTiers]
@[simp] theorem endTiers_can (m : Mod) : (endTiers m).can = m.can := by simp [endTiers]
@[simp] theorem endTiers_flt (m : Mod) : (endTiers m).flt = m.flt := by simp [endTiers]
@[simp] theorem endTiers_upd (m : Mod) : (endTiers m).upd = m.upd := by simp [endTiers]
@[simp] theorem endTiers_sec (m : Mod) : (endTiers m).sec = m.sec := by simp [endTiers]
@[simp] theorem endTiers_pnl (m : Mod) : (endTiers m).pnl = m.pnl := by simp [endTiers]

@[simp] theorem endFreeze_clk (m : Mod) : (endFreeze m).clk = m.clk := by unfold endFreeze; split <;> simp
@[simp] theorem endFreeze_free (m : Mod) : (endFreeze m).free = m.free := by unfold endFreeze; split <;> simp
@[simp] theorem endFreeze_nv (m : Mod) : (endFreeze m).nv = m.nv := by unfold endFreeze; split <;> simp
@[simp] theorem endFreeze_gen (m : Mod) : (endFreeze m).gen = m.gen := by unfold endFreeze; split <;> simp
@[simp] theorem endFreeze_pwr (m : Mod) : (endFreeze m).pwr = m.pwr := by unfold endFreeze; split <;> simp
@[simp] theorem endFreeze_hif (m : Mod) : (endFreeze m).hif = m.hif := by unfold endFreeze; split <;> simp
@[simp] theorem endFreeze_adm (m : Mod) : (endFreeze m).adm = m.adm := by unfold endFreeze; split <;> simp
@[simp] theorem endFreeze_sig (m : Mod) : (endFreeze m).sig = m.sig := by unfold endFreeze; split <;> simp
@[simp] theorem endFreeze_pge (m : Mod) : (endFreeze m).pge = m.pge := by unfold endFreeze; split <;> simp
@[simp] theorem endFreeze_lpe (m : Mod) : (endFreeze m).lpe = m.lpe := by unfold endFreeze; split <;> simp
@[simp] theorem endFreeze_pln (m : Mod) : (endFreeze m).pln = m.pln := by unfold endFreeze; split <;> simp
@[simp] theorem endFreeze_fio (m : Mod) : (endFreeze m).fio = m.fio := by unfold endFreeze; split <;> simp
@[simp] theorem endFreeze_saf (m : Mod) : (endFreeze m).saf = m.saf := by unfold endFreeze; split <;> simp
@[simp] theorem endFreeze_lks (m : Mod) : (endFreeze m).lks = m.lks := by unfold endFreeze; split <;> simp
@[simp] theorem endFreeze_tri (m : Mod) : (endFreeze m).tri = m.tri := by unfold endFreeze; split <;> simp
@[simp] theorem endFreeze_net (m : Mod) : (endFreeze m).net = m.net := by unfold endFreeze; split <;> simp
@[simp] theorem endFreeze_tim (m : Mod) : (endFreeze m).tim = m.tim := by unfold endFreeze; split <;> simp
@[simp] theorem endFreeze_can (m : Mod) : (endFreeze m).can = m.can := by unfold endFreeze; split <;> simp
@[simp] theorem endFreeze_flt (m : Mod) : (endFreeze m).flt = m.flt := by unfold endFreeze; split <;> simp
@[simp] theorem endFreeze_upd (m : Mod) : (endFreeze m).upd = m.upd := by unfold endFreeze; split <;> simp
@[simp] theorem endFreeze_sec (m : Mod) : (endFreeze m).sec = m.sec := by unfold endFreeze; split <;> simp
@[simp] theorem endFreeze_pnl (m : Mod) : (endFreeze m).pnl = m.pnl := by unfold endFreeze; split <;> simp

@[simp] theorem flushTier_clk (m : Mod) (n : Nat) : (flushTier m n).clk = m.clk := rfl
@[simp] theorem flushTier_gen (m : Mod) (n : Nat) : (flushTier m n).gen = m.gen := rfl
@[simp] theorem flushTier_pwr (m : Mod) (n : Nat) : (flushTier m n).pwr = m.pwr := rfl
@[simp] theorem flushTier_hif (m : Mod) (n : Nat) : (flushTier m n).hif = m.hif := rfl
@[simp] theorem flushTier_adm (m : Mod) (n : Nat) : (flushTier m n).adm = m.adm := rfl
@[simp] theorem flushTier_sig (m : Mod) (n : Nat) : (flushTier m n).sig = m.sig := rfl
@[simp] theorem flushTier_pge (m : Mod) (n : Nat) : (flushTier m n).pge = m.pge := rfl
@[simp] theorem flushTier_lpe (m : Mod) (n : Nat) : (flushTier m n).lpe = m.lpe := rfl
@[simp] theorem flushTier_pln (m : Mod) (n : Nat) : (flushTier m n).pln = m.pln := rfl
@[simp] theorem flushTier_fio (m : Mod) (n : Nat) : (flushTier m n).fio = m.fio := rfl
@[simp] theorem flushTier_saf (m : Mod) (n : Nat) : (flushTier m n).saf = m.saf := rfl
@[simp] theorem flushTier_lks (m : Mod) (n : Nat) : (flushTier m n).lks = m.lks := rfl
@[simp] theorem flushTier_tri (m : Mod) (n : Nat) : (flushTier m n).tri = m.tri := rfl
@[simp] theorem flushTier_net (m : Mod) (n : Nat) : (flushTier m n).net = m.net := rfl
@[simp] theorem flushTier_tim (m : Mod) (n : Nat) : (flushTier m n).tim = m.tim := rfl
@[simp] theorem flushTier_can (m : Mod) (n : Nat) : (flushTier m n).can = m.can := rfl
@[simp] theorem flushTier_flt (m : Mod) (n : Nat) : (flushTier m n).flt = m.flt := rfl
@[simp] theorem flushTier_upd (m : Mod) (n : Nat) : (flushTier m n).upd = m.upd := rfl
@[simp] theorem flushTier_sec (m : Mod) (n : Nat) : (flushTier m n).sec = m.sec := rfl
@[simp] theorem flushTier_pnl (m : Mod) (n : Nat) : (flushTier m n).pnl = m.pnl := rfl

@[simp] theorem flushBuffered_clk (m : Mod) : (flushBuffered m).clk = m.clk := by unfold flushBuffered; dsimp only; split <;> split <;> simp
@[simp] theorem flushBuffered_gen (m : Mod) : (flushBuffered m).gen = m.gen := by unfold flushBuffered; dsimp only; split <;> split <;> simp
@[simp] theorem flushBuffered_pwr (m : Mod) : (flushBuffered m).pwr = m.pwr := by unfold flushBuffered; dsimp only; split <;> split <;> simp
@[simp] theorem flushBuffered_hif (m : Mod) : (flushBuffered m).hif = m.hif := by unfold flushBuffered; dsimp only; split <;> split <;> simp
@[simp] theorem flushBuffered_adm (m : Mod) : (flushBuffered m).adm = m.adm := by unfold flushBuffered; dsimp only; split <;> split <;> simp
@[simp] theorem flushBuffered_sig (m : Mod) : (flushBuffered m).sig = m.sig := by unfold flushBuffered; dsimp only; split <;> split <;> simp
@[simp] theorem flushBuffered_pge (m : Mod) : (flushBuffered m).pge = m.pge := by unfold flushBuffered; dsimp only; split <;> split <;> simp
@[simp] theorem flushBuffered_lpe (m : Mod) : (flushBuffered m).lpe = m.lpe := by unfold flushBuffered; dsimp only; split <;> split <;> simp
@[simp] theorem flushBuffered_pln (m : Mod) : (flushBuffered m).pln = m.pln := by unfold flushBuffered; dsimp only; split <;> split <;> simp
@[simp] theorem flushBuffered_fio (m : Mod) : (flushBuffered m).fio = m.fio := by unfold flushBuffered; dsimp only; split <;> split <;> simp
@[simp] theorem flushBuffered_saf (m : Mod) : (flushBuffered m).saf = m.saf := by unfold flushBuffered; dsimp only; split <;> split <;> simp
@[simp] theorem flushBuffered_lks (m : Mod) : (flushBuffered m).lks = m.lks := by unfold flushBuffered; dsimp only; split <;> split <;> simp
@[simp] theorem flushBuffered_tri (m : Mod) : (flushBuffered m).tri = m.tri := by unfold flushBuffered; dsimp only; split <;> split <;> simp
@[simp] theorem flushBuffered_net (m : Mod) : (flushBuffered m).net = m.net := by unfold flushBuffered; dsimp only; split <;> split <;> simp
@[simp] theorem flushBuffered_tim (m : Mod) : (flushBuffered m).tim = m.tim := by unfold flushBuffered; dsimp only; split <;> split <;> simp
@[simp] theorem flushBuffered_can (m : Mod) : (flushBuffered m).can = m.can := by unfold flushBuffered; dsimp only; split <;> split <;> simp
@[simp] theorem flushBuffered_flt (m : Mod) : (flushBuffered m).flt = m.flt := by unfold flushBuffered; dsimp only; split <;> split <;> simp
@[simp] theorem flushBuffered_upd (m : Mod) : (flushBuffered m).upd = m.upd := by unfold flushBuffered; dsimp only; split <;> split <;> simp
@[simp] theorem flushBuffered_sec (m : Mod) : (flushBuffered m).sec = m.sec := by unfold flushBuffered; dsimp only; split <;> split <;> simp
@[simp] theorem flushBuffered_pnl (m : Mod) : (flushBuffered m).pnl = m.pnl := by unfold flushBuffered; dsimp only; split <;> split <;> simp

@[simp] theorem faultFlush_clk (m : Mod) : (faultFlush m).clk = m.clk := by unfold faultFlush; dsimp only; (repeat' split) <;> simp
@[simp] theorem faultFlush_free (m : Mod) : (faultFlush m).free = m.free := by unfold faultFlush; dsimp only; (repeat' split) <;> simp
@[simp] theorem faultFlush_nv (m : Mod) : (faultFlush m).nv = m.nv := by unfold faultFlush; dsimp only; (repeat' split) <;> simp
@[simp] theorem faultFlush_gen (m : Mod) : (faultFlush m).gen = m.gen := by unfold faultFlush; dsimp only; (repeat' split) <;> simp
@[simp] theorem faultFlush_pwr (m : Mod) : (faultFlush m).pwr = m.pwr := by unfold faultFlush; dsimp only; (repeat' split) <;> simp
@[simp] theorem faultFlush_hif (m : Mod) : (faultFlush m).hif = m.hif := by unfold faultFlush; dsimp only; (repeat' split) <;> simp
@[simp] theorem faultFlush_sig (m : Mod) : (faultFlush m).sig = m.sig := by unfold faultFlush; dsimp only; (repeat' split) <;> simp
@[simp] theorem faultFlush_pge (m : Mod) : (faultFlush m).pge = m.pge := by unfold faultFlush; dsimp only; (repeat' split) <;> simp
@[simp] theorem faultFlush_lpe (m : Mod) : (faultFlush m).lpe = m.lpe := by unfold faultFlush; dsimp only; (repeat' split) <;> simp
@[simp] theorem faultFlush_pln (m : Mod) : (faultFlush m).pln = m.pln := by unfold faultFlush; dsimp only; (repeat' split) <;> simp
@[simp] theorem faultFlush_fio (m : Mod) : (faultFlush m).fio = m.fio := by unfold faultFlush; dsimp only; (repeat' split) <;> simp
@[simp] theorem faultFlush_saf (m : Mod) : (faultFlush m).saf = m.saf := by unfold faultFlush; dsimp only; (repeat' split) <;> simp
@[simp] theorem faultFlush_lks (m : Mod) : (faultFlush m).lks = m.lks := by unfold faultFlush; dsimp only; (repeat' split) <;> simp
@[simp] theorem faultFlush_tri (m : Mod) : (faultFlush m).tri = m.tri := by unfold faultFlush; dsimp only; (repeat' split) <;> simp
@[simp] theorem faultFlush_net (m : Mod) : (faultFlush m).net = m.net := by unfold faultFlush; dsimp only; (repeat' split) <;> simp
@[simp] theorem faultFlush_tim (m : Mod) : (faultFlush m).tim = m.tim := by unfold faultFlush; dsimp only; (repeat' split) <;> simp
@[simp] theorem faultFlush_can (m : Mod) : (faultFlush m).can = m.can := by unfold faultFlush; dsimp only; (repeat' split) <;> simp
@[simp] theorem faultFlush_flt (m : Mod) : (faultFlush m).flt = m.flt := by unfold faultFlush; dsimp only; (repeat' split) <;> simp
@[simp] theorem faultFlush_upd (m : Mod) : (faultFlush m).upd = m.upd := by unfold faultFlush; dsimp only; (repeat' split) <;> simp
@[simp] theorem faultFlush_sec (m : Mod) : (faultFlush m).sec = m.sec := by unfold faultFlush; dsimp only; (repeat' split) <;> simp
@[simp] theorem faultFlush_pnl (m : Mod) : (faultFlush m).pnl = m.pnl := by unfold faultFlush; dsimp only; (repeat' split) <;> simp

@[simp] theorem setAlive_clk (m : Mod) (b : Bool) : (setAlive m b).clk = m.clk := by unfold setAlive; dsimp only; split <;> rfl
@[simp] theorem setAlive_free (m : Mod) (b : Bool) : (setAlive m b).free = m.free := by unfold setAlive; dsimp only; split <;> rfl
@[simp] theorem setAlive_nv (m : Mod) (b : Bool) : (setAlive m b).nv = m.nv := by unfold setAlive; dsimp only; split <;> rfl
@[simp] theorem setAlive_gen (m : Mod) (b : Bool) : (setAlive m b).gen = m.gen := by unfold setAlive; dsimp only; split <;> rfl
@[simp] theorem setAlive_pwr (m : Mod) (b : Bool) : (setAlive m b).pwr = m.pwr := by unfold setAlive; dsimp only; split <;> rfl
@[simp] theorem setAlive_hif (m : Mod) (b : Bool) : (setAlive m b).hif = m.hif := by unfold setAlive; dsimp only; split <;> rfl
@[simp] theorem setAlive_adm (m : Mod) (b : Bool) : (setAlive m b).adm = m.adm := by unfold setAlive; dsimp only; split <;> rfl
@[simp] theorem setAlive_sig (m : Mod) (b : Bool) : (setAlive m b).sig = m.sig := by unfold setAlive; dsimp only; split <;> rfl
@[simp] theorem setAlive_pge (m : Mod) (b : Bool) : (setAlive m b).pge = m.pge := by unfold setAlive; dsimp only; split <;> rfl
@[simp] theorem setAlive_lpe (m : Mod) (b : Bool) : (setAlive m b).lpe = m.lpe := by unfold setAlive; dsimp only; split <;> rfl
@[simp] theorem setAlive_pln (m : Mod) (b : Bool) : (setAlive m b).pln = m.pln := by unfold setAlive; dsimp only; split <;> rfl
@[simp] theorem setAlive_fio (m : Mod) (b : Bool) : (setAlive m b).fio = m.fio := by unfold setAlive; dsimp only; split <;> rfl
@[simp] theorem setAlive_saf (m : Mod) (b : Bool) : (setAlive m b).saf = m.saf := by unfold setAlive; dsimp only; split <;> rfl
@[simp] theorem setAlive_lks (m : Mod) (b : Bool) : (setAlive m b).lks = m.lks := by unfold setAlive; dsimp only; split <;> rfl
@[simp] theorem setAlive_tri (m : Mod) (b : Bool) : (setAlive m b).tri = m.tri := by unfold setAlive; dsimp only; split <;> rfl
@[simp] theorem setAlive_net (m : Mod) (b : Bool) : (setAlive m b).net = m.net := by unfold setAlive; dsimp only; split <;> rfl
@[simp] theorem setAlive_tim (m : Mod) (b : Bool) : (setAlive m b).tim = m.tim := by unfold setAlive; dsimp only; split <;> rfl
@[simp] theorem setAlive_can (m : Mod) (b : Bool) : (setAlive m b).can = m.can := by unfold setAlive; dsimp only; split <;> rfl
@[simp] theorem setAlive_rcr (m : Mod) (b : Bool) : (setAlive m b).rcr = m.rcr := by unfold setAlive; dsimp only; split <;> rfl
@[simp] theorem setAlive_upd (m : Mod) (b : Bool) : (setAlive m b).upd = m.upd := by unfold setAlive; dsimp only; split <;> rfl
@[simp] theorem setAlive_sec (m : Mod) (b : Bool) : (setAlive m b).sec = m.sec := by unfold setAlive; dsimp only; split <;> rfl
@[simp] theorem setAlive_pnl (m : Mod) (b : Bool) : (setAlive m b).pnl = m.pnl := by unfold setAlive; dsimp only; split <;> rfl

@[simp] theorem stopAlive_clk (m : Mod) : (stopAlive m).clk = m.clk := by unfold stopAlive; dsimp only; split <;> simp
@[simp] theorem stopAlive_free (m : Mod) : (stopAlive m).free = m.free := by unfold stopAlive; dsimp only; split <;> simp
@[simp] theorem stopAlive_nv (m : Mod) : (stopAlive m).nv = m.nv := by unfold stopAlive; dsimp only; split <;> simp
@[simp] theorem stopAlive_gen (m : Mod) : (stopAlive m).gen = m.gen := by unfold stopAlive; dsimp only; split <;> simp
@[simp] theorem stopAlive_pwr (m : Mod) : (stopAlive m).pwr = m.pwr := by unfold stopAlive; dsimp only; split <;> simp
@[simp] theorem stopAlive_hif (m : Mod) : (stopAlive m).hif = m.hif := by unfold stopAlive; dsimp only; split <;> simp
@[simp] theorem stopAlive_adm (m : Mod) : (stopAlive m).adm = m.adm := by unfold stopAlive; dsimp only; split <;> simp
@[simp] theorem stopAlive_sig (m : Mod) : (stopAlive m).sig = m.sig := by unfold stopAlive; dsimp only; split <;> simp
@[simp] theorem stopAlive_pge (m : Mod) : (stopAlive m).pge = m.pge := by unfold stopAlive; dsimp only; split <;> simp
@[simp] theorem stopAlive_lpe (m : Mod) : (stopAlive m).lpe = m.lpe := by unfold stopAlive; dsimp only; split <;> simp
@[simp] theorem stopAlive_pln (m : Mod) : (stopAlive m).pln = m.pln := by unfold stopAlive; dsimp only; split <;> simp
@[simp] theorem stopAlive_fio (m : Mod) : (stopAlive m).fio = m.fio := by unfold stopAlive; dsimp only; split <;> simp
@[simp] theorem stopAlive_saf (m : Mod) : (stopAlive m).saf = m.saf := by unfold stopAlive; dsimp only; split <;> simp
@[simp] theorem stopAlive_lks (m : Mod) : (stopAlive m).lks = m.lks := by unfold stopAlive; dsimp only; split <;> simp
@[simp] theorem stopAlive_tri (m : Mod) : (stopAlive m).tri = m.tri := by unfold stopAlive; dsimp only; split <;> simp
@[simp] theorem stopAlive_net (m : Mod) : (stopAlive m).net = m.net := by unfold stopAlive; dsimp only; split <;> simp
@[simp] theorem stopAlive_tim (m : Mod) : (stopAlive m).tim = m.tim := by unfold stopAlive; dsimp only; split <;> simp
@[simp] theorem stopAlive_can (m : Mod) : (stopAlive m).can = m.can := by unfold stopAlive; dsimp only; split <;> simp
@[simp] theorem stopAlive_rcr (m : Mod) : (stopAlive m).rcr = m.rcr := by unfold stopAlive; dsimp only; split <;> simp
@[simp] theorem stopAlive_upd (m : Mod) : (stopAlive m).upd = m.upd := by unfold stopAlive; dsimp only; split <;> simp
@[simp] theorem stopAlive_sec (m : Mod) : (stopAlive m).sec = m.sec := by unfold stopAlive; dsimp only; split <;> simp
@[simp] theorem stopAlive_pnl (m : Mod) : (stopAlive m).pnl = m.pnl := by unfold stopAlive; dsimp only; split <;> simp

@[simp] theorem stopPairs_clk (m : Mod) (st : PairSt) : (stopPairs m st).clk = m.clk := by unfold stopPairs; exact foldl_field Mod.clk _ (by intros; rfl) _ _
@[simp] theorem stopPairs_free (m : Mod) (st : PairSt) : (stopPairs m st).free = m.free := by unfold stopPairs; exact foldl_field Mod.free _ (by intros; rfl) _ _
@[simp] theorem stopPairs_nv (m : Mod) (st : PairSt) : (stopPairs m st).nv = m.nv := by unfold stopPairs; exact foldl_field Mod.nv _ (by intros; rfl) _ _
@[simp] theorem stopPairs_gen (m : Mod) (st : PairSt) : (stopPairs m st).gen = m.gen := by unfold stopPairs; exact foldl_field Mod.gen _ (by intros; rfl) _ _
@[simp] theorem stopPairs_pwr (m : Mod) (st : PairSt) : (stopPairs m st).pwr = m.pwr := by unfold stopPairs; exact foldl_field Mod.pwr _ (by intros; rfl) _ _
@[simp] theorem stopPairs_hif (m : Mod) (st : PairSt) : (stopPairs m st).hif = m.hif := by unfold stopPairs; exact foldl_field Mod.hif _ (by intros; rfl) _ _
@[simp] theorem stopPairs_adm (m : Mod) (st : PairSt) : (stopPairs m st).adm = m.adm := by unfold stopPairs; exact foldl_field Mod.adm _ (by intros; rfl) _ _
@[simp] theorem stopPairs_sig (m : Mod) (st : PairSt) : (stopPairs m st).sig = m.sig := by unfold stopPairs; exact foldl_field Mod.sig _ (by intros; rfl) _ _
@[simp] theorem stopPairs_pge (m : Mod) (st : PairSt) : (stopPairs m st).pge = m.pge := by unfold stopPairs; exact foldl_field Mod.pge _ (by intros; rfl) _ _
@[simp] theorem stopPairs_lpe (m : Mod) (st : PairSt) : (stopPairs m st).lpe = m.lpe := by unfold stopPairs; exact foldl_field Mod.lpe _ (by intros; rfl) _ _
@[simp] theorem stopPairs_pln (m : Mod) (st : PairSt) : (stopPairs m st).pln = m.pln := by unfold stopPairs; exact foldl_field Mod.pln _ (by intros; rfl) _ _
@[simp] theorem stopPairs_fio (m : Mod) (st : PairSt) : (stopPairs m st).fio = m.fio := by unfold stopPairs; exact foldl_field Mod.fio _ (by intros; rfl) _ _
@[simp] theorem stopPairs_saf (m : Mod) (st : PairSt) : (stopPairs m st).saf = m.saf := by unfold stopPairs; exact foldl_field Mod.saf _ (by intros; rfl) _ _
@[simp] theorem stopPairs_tri (m : Mod) (st : PairSt) : (stopPairs m st).tri = m.tri := by unfold stopPairs; exact foldl_field Mod.tri _ (by intros; rfl) _ _
@[simp] theorem stopPairs_net (m : Mod) (st : PairSt) : (stopPairs m st).net = m.net := by unfold stopPairs; exact foldl_field Mod.net _ (by intros; rfl) _ _
@[simp] theorem stopPairs_tim (m : Mod) (st : PairSt) : (stopPairs m st).tim = m.tim := by unfold stopPairs; exact foldl_field Mod.tim _ (by intros; rfl) _ _
@[simp] theorem stopPairs_can (m : Mod) (st : PairSt) : (stopPairs m st).can = m.can := by unfold stopPairs; exact foldl_field Mod.can _ (by intros; rfl) _ _
@[simp] theorem stopPairs_flt (m : Mod) (st : PairSt) : (stopPairs m st).flt = m.flt := by unfold stopPairs; exact foldl_field Mod.flt _ (by intros; rfl) _ _
@[simp] theorem stopPairs_rcr (m : Mod) (st : PairSt) : (stopPairs m st).rcr = m.rcr := by unfold stopPairs; exact foldl_field Mod.rcr _ (by intros; rfl) _ _
@[simp] theorem stopPairs_upd (m : Mod) (st : PairSt) : (stopPairs m st).upd = m.upd := by unfold stopPairs; exact foldl_field Mod.upd _ (by intros; rfl) _ _
@[simp] theorem stopPairs_sec (m : Mod) (st : PairSt) : (stopPairs m st).sec = m.sec := by unfold stopPairs; exact foldl_field Mod.sec _ (by intros; rfl) _ _
@[simp] theorem stopPairs_pnl (m : Mod) (st : PairSt) : (stopPairs m st).pnl = m.pnl := by unfold stopPairs; exact foldl_field Mod.pnl _ (by intros; rfl) _ _

@[simp] theorem haltTask_clk (m : Mod) (k : Nat) : (haltTask m k).clk = m.clk := by unfold haltTask; split <;> simp
@[simp] theorem haltTask_free (m : Mod) (k : Nat) : (haltTask m k).free = m.free := by unfold haltTask; split <;> simp
@[simp] theorem haltTask_nv (m : Mod) (k : Nat) : (haltTask m k).nv = m.nv := by unfold haltTask; split <;> simp
@[simp] theorem haltTask_gen (m : Mod) (k : Nat) : (haltTask m k).gen = m.gen := by unfold haltTask; split <;> simp
@[simp] theorem haltTask_pwr (m : Mod) (k : Nat) : (haltTask m k).pwr = m.pwr := by unfold haltTask; split <;> simp
@[simp] theorem haltTask_hif (m : Mod) (k : Nat) : (haltTask m k).hif = m.hif := by unfold haltTask; split <;> simp
@[simp] theorem haltTask_adm (m : Mod) (k : Nat) : (haltTask m k).adm = m.adm := by unfold haltTask; split <;> simp
@[simp] theorem haltTask_lpe (m : Mod) (k : Nat) : (haltTask m k).lpe = m.lpe := by unfold haltTask; split <;> simp
@[simp] theorem haltTask_pln (m : Mod) (k : Nat) : (haltTask m k).pln = m.pln := by unfold haltTask; split <;> simp
@[simp] theorem haltTask_fio (m : Mod) (k : Nat) : (haltTask m k).fio = m.fio := by unfold haltTask; split <;> simp
@[simp] theorem haltTask_saf (m : Mod) (k : Nat) : (haltTask m k).saf = m.saf := by unfold haltTask; split <;> simp
@[simp] theorem haltTask_lks (m : Mod) (k : Nat) : (haltTask m k).lks = m.lks := by unfold haltTask; split <;> simp
@[simp] theorem haltTask_tri (m : Mod) (k : Nat) : (haltTask m k).tri = m.tri := by unfold haltTask; split <;> simp
@[simp] theorem haltTask_net (m : Mod) (k : Nat) : (haltTask m k).net = m.net := by unfold haltTask; split <;> simp
@[simp] theorem haltTask_tim (m : Mod) (k : Nat) : (haltTask m k).tim = m.tim := by unfold haltTask; split <;> simp
@[simp] theorem haltTask_can (m : Mod) (k : Nat) : (haltTask m k).can = m.can := by unfold haltTask; split <;> simp
@[simp] theorem haltTask_flt (m : Mod) (k : Nat) : (haltTask m k).flt = m.flt := by unfold haltTask; split <;> simp
@[simp] theorem haltTask_rcr (m : Mod) (k : Nat) : (haltTask m k).rcr = m.rcr := by unfold haltTask; split <;> simp
@[simp] theorem haltTask_upd (m : Mod) (k : Nat) : (haltTask m k).upd = m.upd := by unfold haltTask; split <;> simp
@[simp] theorem haltTask_sec (m : Mod) (k : Nat) : (haltTask m k).sec = m.sec := by unfold haltTask; split <;> simp
@[simp] theorem haltTask_pnl (m : Mod) (k : Nat) : (haltTask m k).pnl = m.pnl := by unfold haltTask; split <;> simp

@[simp] theorem enterFail_clk (m : Mod) (c : FailCause) : (enterFail m c).clk = m.clk := by simp [enterFail]
@[simp] theorem enterFail_gen (m : Mod) (c : FailCause) : (enterFail m c).gen = m.gen := by simp [enterFail]
@[simp] theorem enterFail_hif (m : Mod) (c : FailCause) : (enterFail m c).hif = m.hif := by simp [enterFail]
@[simp] theorem enterFail_sig (m : Mod) (c : FailCause) : (enterFail m c).sig = m.sig := by simp [enterFail]
@[simp] theorem enterFail_lpe (m : Mod) (c : FailCause) : (enterFail m c).lpe = m.lpe := by simp [enterFail]
@[simp] theorem enterFail_pln (m : Mod) (c : FailCause) : (enterFail m c).pln = m.pln := by simp [enterFail]
@[simp] theorem enterFail_saf (m : Mod) (c : FailCause) : (enterFail m c).saf = m.saf := by simp [enterFail]
@[simp] theorem enterFail_tim (m : Mod) (c : FailCause) : (enterFail m c).tim = m.tim := by simp [enterFail]
@[simp] theorem enterFail_upd (m : Mod) (c : FailCause) : (enterFail m c).upd = m.upd := by simp [enterFail]

@[simp] theorem enterHold_clk (m : Mod) : (enterHold m).clk = m.clk := by
  unfold enterHold; simp only [startTier_clk]
  exact foldl_field Mod.clk _ (by intro m e; split <;> simp) _ _
@[simp] theorem enterHold_free (m : Mod) : (enterHold m).free = m.free := by
  unfold enterHold; simp only [startTier_free]
  exact foldl_field Mod.free _ (by intro m e; split <;> simp) _ _
@[simp] theorem enterHold_nv (m : Mod) : (enterHold m).nv = m.nv := by
  unfold enterHold; simp only [startTier_nv]
  exact foldl_field Mod.nv _ (by intro m e; split <;> simp) _ _
@[simp] theorem enterHold_gen (m : Mod) : (enterHold m).gen = m.gen := by
  unfold enterHold; simp only [startTier_gen]
  exact foldl_field Mod.gen _ (by intro m e; split <;> simp) _ _
@[simp] theorem enterHold_hif (m : Mod) : (enterHold m).hif = m.hif := by
  unfold enterHold; simp only [startTier_hif]
  exact foldl_field Mod.hif _ (by intro m e; split <;> simp) _ _
@[simp] theorem enterHold_adm (m : Mod) : (enterHold m).adm = m.adm := by
  unfold enterHold; simp only [startTier_adm]
  exact foldl_field Mod.adm _ (by intro m e; split <;> simp) _ _
@[simp] theorem enterHold_lpe (m : Mod) : (enterHold m).lpe = m.lpe := by
  unfold enterHold; simp only [startTier_lpe]
  exact foldl_field Mod.lpe _ (by intro m e; split <;> simp) _ _
@[simp] theorem enterHold_pln (m : Mod) : (enterHold m).pln = m.pln := by
  unfold enterHold; simp only [startTier_pln]
  exact foldl_field Mod.pln _ (by intro m e; split <;> simp) _ _
@[simp] theorem enterHold_fio (m : Mod) : (enterHold m).fio = m.fio := by
  unfold enterHold; simp only [startTier_fio]
  exact foldl_field Mod.fio _ (by intro m e; split <;> simp) _ _
@[simp] theorem enterHold_saf (m : Mod) : (enterHold m).saf = m.saf := by
  unfold enterHold; simp only [startTier_saf]
  exact foldl_field Mod.saf _ (by intro m e; split <;> simp) _ _
@[simp] theorem enterHold_lks (m : Mod) : (enterHold m).lks = m.lks := by
  unfold enterHold; simp only [startTier_lks]
  exact foldl_field Mod.lks _ (by intro m e; split <;> simp) _ _
@[simp] theorem enterHold_tri (m : Mod) : (enterHold m).tri = m.tri := by
  unfold enterHold; simp only [startTier_tri]
  exact foldl_field Mod.tri _ (by intro m e; split <;> simp) _ _
@[simp] theorem enterHold_net (m : Mod) : (enterHold m).net = m.net := by
  unfold enterHold; simp only [startTier_net]
  exact foldl_field Mod.net _ (by intro m e; split <;> simp) _ _
@[simp] theorem enterHold_tim (m : Mod) : (enterHold m).tim = m.tim := by
  unfold enterHold; simp only [startTier_tim]
  exact foldl_field Mod.tim _ (by intro m e; split <;> simp) _ _
@[simp] theorem enterHold_can (m : Mod) : (enterHold m).can = m.can := by
  unfold enterHold; simp only [startTier_can]
  exact foldl_field Mod.can _ (by intro m e; split <;> simp) _ _
@[simp] theorem enterHold_flt (m : Mod) : (enterHold m).flt = m.flt := by
  unfold enterHold; simp only [startTier_flt]
  exact foldl_field Mod.flt _ (by intro m e; split <;> simp) _ _
@[simp] theorem enterHold_upd (m : Mod) : (enterHold m).upd = m.upd := by
  unfold enterHold; simp only [startTier_upd]
  exact foldl_field Mod.upd _ (by intro m e; split <;> simp) _ _
@[simp] theorem enterHold_sec (m : Mod) : (enterHold m).sec = m.sec := by
  unfold enterHold; simp only [startTier_sec]
  exact foldl_field Mod.sec _ (by intro m e; split <;> simp) _ _
@[simp] theorem enterHold_pnl (m : Mod) : (enterHold m).pnl = m.pnl := by
  unfold enterHold; simp only [startTier_pnl]
  exact foldl_field Mod.pnl _ (by intro m e; split <;> simp) _ _

@[simp] theorem collect_clk (m : Mod) (f : FaultInfo) : (collect m f).clk = m.clk := by simp [collect]
@[simp] theorem collect_free (m : Mod) (f : FaultInfo) : (collect m f).free = m.free := by simp [collect]
@[simp] theorem collect_gen (m : Mod) (f : FaultInfo) : (collect m f).gen = m.gen := by simp [collect]
@[simp] theorem collect_pwr (m : Mod) (f : FaultInfo) : (collect m f).pwr = m.pwr := by simp [collect]
@[simp] theorem collect_adm (m : Mod) (f : FaultInfo) : (collect m f).adm = m.adm := by simp [collect]
@[simp] theorem collect_sig (m : Mod) (f : FaultInfo) : (collect m f).sig = m.sig := by simp [collect]
@[simp] theorem collect_pge (m : Mod) (f : FaultInfo) : (collect m f).pge = m.pge := by simp [collect]
@[simp] theorem collect_lpe (m : Mod) (f : FaultInfo) : (collect m f).lpe = m.lpe := by simp [collect]
@[simp] theorem collect_pln (m : Mod) (f : FaultInfo) : (collect m f).pln = m.pln := by simp [collect]
@[simp] theorem collect_fio (m : Mod) (f : FaultInfo) : (collect m f).fio = m.fio := by simp [collect]
@[simp] theorem collect_saf (m : Mod) (f : FaultInfo) : (collect m f).saf = m.saf := by simp [collect]
@[simp] theorem collect_lks (m : Mod) (f : FaultInfo) : (collect m f).lks = m.lks := by simp [collect]
@[simp] theorem collect_tri (m : Mod) (f : FaultInfo) : (collect m f).tri = m.tri := by simp [collect]
@[simp] theorem collect_net (m : Mod) (f : FaultInfo) : (collect m f).net = m.net := by simp [collect]
@[simp] theorem collect_tim (m : Mod) (f : FaultInfo) : (collect m f).tim = m.tim := by simp [collect]
@[simp] theorem collect_can (m : Mod) (f : FaultInfo) : (collect m f).can = m.can := by simp [collect]
@[simp] theorem collect_rcr (m : Mod) (f : FaultInfo) : (collect m f).rcr = m.rcr := by simp [collect]
@[simp] theorem collect_upd (m : Mod) (f : FaultInfo) : (collect m f).upd = m.upd := by simp [collect]
@[simp] theorem collect_sec (m : Mod) (f : FaultInfo) : (collect m f).sec = m.sec := by simp [collect]
@[simp] theorem collect_pnl (m : Mod) (f : FaultInfo) : (collect m f).pnl = m.pnl := by simp [collect]

@[simp] theorem f3Reaction_clk (m : Mod) : (f3Reaction m).clk = m.clk := by unfold f3Reaction; split <;> simp
@[simp] theorem f3Reaction_free (m : Mod) : (f3Reaction m).free = m.free := by unfold f3Reaction; split <;> simp
@[simp] theorem f3Reaction_gen (m : Mod) : (f3Reaction m).gen = m.gen := by unfold f3Reaction; split <;> simp
@[simp] theorem f3Reaction_pwr (m : Mod) : (f3Reaction m).pwr = m.pwr := by unfold f3Reaction; split <;> simp
@[simp] theorem f3Reaction_hif (m : Mod) : (f3Reaction m).hif = m.hif := by unfold f3Reaction; split <;> simp
@[simp] theorem f3Reaction_sig (m : Mod) : (f3Reaction m).sig = m.sig := by unfold f3Reaction; split <;> simp
@[simp] theorem f3Reaction_lpe (m : Mod) : (f3Reaction m).lpe = m.lpe := by unfold f3Reaction; split <;> simp
@[simp] theorem f3Reaction_pln (m : Mod) : (f3Reaction m).pln = m.pln := by unfold f3Reaction; split <;> simp
@[simp] theorem f3Reaction_saf (m : Mod) : (f3Reaction m).saf = m.saf := by unfold f3Reaction; split <;> simp
@[simp] theorem f3Reaction_tri (m : Mod) : (f3Reaction m).tri = m.tri := by unfold f3Reaction; split <;> simp
@[simp] theorem f3Reaction_net (m : Mod) : (f3Reaction m).net = m.net := by unfold f3Reaction; split <;> simp
@[simp] theorem f3Reaction_tim (m : Mod) : (f3Reaction m).tim = m.tim := by unfold f3Reaction; split <;> simp
@[simp] theorem f3Reaction_can (m : Mod) : (f3Reaction m).can = m.can := by unfold f3Reaction; split <;> simp
@[simp] theorem f3Reaction_upd (m : Mod) : (f3Reaction m).upd = m.upd := by unfold f3Reaction; split <;> simp
@[simp] theorem f3Reaction_sec (m : Mod) : (f3Reaction m).sec = m.sec := by unfold f3Reaction; split <;> simp
@[simp] theorem f3Reaction_pnl (m : Mod) : (f3Reaction m).pnl = m.pnl := by unfold f3Reaction; split <;> simp

@[simp] theorem escalate_clk (m : Mod) (b : Bool) : (escalate m b).clk = m.clk := by simp [escalate]
@[simp] theorem escalate_free (m : Mod) (b : Bool) : (escalate m b).free = m.free := by simp [escalate]
@[simp] theorem escalate_gen (m : Mod) (b : Bool) : (escalate m b).gen = m.gen := by simp [escalate]
@[simp] theorem escalate_pwr (m : Mod) (b : Bool) : (escalate m b).pwr = m.pwr := by simp [escalate]
@[simp] theorem escalate_hif (m : Mod) (b : Bool) : (escalate m b).hif = m.hif := by simp [escalate]
@[simp] theorem escalate_sig (m : Mod) (b : Bool) : (escalate m b).sig = m.sig := by simp [escalate]
@[simp] theorem escalate_lpe (m : Mod) (b : Bool) : (escalate m b).lpe = m.lpe := by simp [escalate]
@[simp] theorem escalate_pln (m : Mod) (b : Bool) : (escalate m b).pln = m.pln := by simp [escalate]
@[simp] theorem escalate_saf (m : Mod) (b : Bool) : (escalate m b).saf = m.saf := by simp [escalate]
@[simp] theorem escalate_tri (m : Mod) (b : Bool) : (escalate m b).tri = m.tri := by simp [escalate]
@[simp] theorem escalate_net (m : Mod) (b : Bool) : (escalate m b).net = m.net := by simp [escalate]
@[simp] theorem escalate_tim (m : Mod) (b : Bool) : (escalate m b).tim = m.tim := by simp [escalate]
@[simp] theorem escalate_can (m : Mod) (b : Bool) : (escalate m b).can = m.can := by simp [escalate]
@[simp] theorem escalate_upd (m : Mod) (b : Bool) : (escalate m b).upd = m.upd := by simp [escalate]
@[simp] theorem escalate_sec (m : Mod) (b : Bool) : (escalate m b).sec = m.sec := by simp [escalate]
@[simp] theorem escalate_pnl (m : Mod) (b : Bool) : (escalate m b).pnl = m.pnl := by simp [escalate]

@[simp] theorem fallBackState_clk (m : Mod) (n : Nat) : (fallBackState m n).clk = m.clk := by simp [fallBackState]
@[simp] theorem fallBackState_free (m : Mod) (n : Nat) : (fallBackState m n).free = m.free := by simp [fallBackState]
@[simp] theorem fallBackState_gen (m : Mod) (n : Nat) : (fallBackState m n).gen = m.gen := by simp [fallBackState]
@[simp] theorem fallBackState_pwr (m : Mod) (n : Nat) : (fallBackState m n).pwr = m.pwr := by simp [fallBackState]
@[simp] theorem fallBackState_adm (m : Mod) (n : Nat) : (fallBackState m n).adm = m.adm := by simp [fallBackState]
@[simp] theorem fallBackState_sig (m : Mod) (n : Nat) : (fallBackState m n).sig = m.sig := by simp [fallBackState]
@[simp] theorem fallBackState_pge (m : Mod) (n : Nat) : (fallBackState m n).pge = m.pge := by simp [fallBackState]
@[simp] theorem fallBackState_lpe (m : Mod) (n : Nat) : (fallBackState m n).lpe = m.lpe := by simp [fallBackState]
@[simp] theorem fallBackState_pln (m : Mod) (n : Nat) : (fallBackState m n).pln = m.pln := by simp [fallBackState]
@[simp] theorem fallBackState_fio (m : Mod) (n : Nat) : (fallBackState m n).fio = m.fio := by simp [fallBackState]
@[simp] theorem fallBackState_saf (m : Mod) (n : Nat) : (fallBackState m n).saf = m.saf := by simp [fallBackState]
@[simp] theorem fallBackState_lks (m : Mod) (n : Nat) : (fallBackState m n).lks = m.lks := by simp [fallBackState]
@[simp] theorem fallBackState_tri (m : Mod) (n : Nat) : (fallBackState m n).tri = m.tri := by simp [fallBackState]
@[simp] theorem fallBackState_net (m : Mod) (n : Nat) : (fallBackState m n).net = m.net := by simp [fallBackState]
@[simp] theorem fallBackState_tim (m : Mod) (n : Nat) : (fallBackState m n).tim = m.tim := by simp [fallBackState]
@[simp] theorem fallBackState_can (m : Mod) (n : Nat) : (fallBackState m n).can = m.can := by simp [fallBackState]
@[simp] theorem fallBackState_rcr (m : Mod) (n : Nat) : (fallBackState m n).rcr = m.rcr := by simp [fallBackState]
@[simp] theorem fallBackState_sec (m : Mod) (n : Nat) : (fallBackState m n).sec = m.sec := by simp [fallBackState]
@[simp] theorem fallBackState_pnl (m : Mod) (n : Nat) : (fallBackState m n).pnl = m.pnl := by simp [fallBackState]

end Sys2Proof.Machine
end

