-- ==== Sys2Proof/Laws/Tables.lean ====
section
/-! SUPPORT. Sparse tables and memories: reading after writing, the keys' order, and the canonical form of a memory. -/

namespace Sys2Proof.Machine

variable {α : Type}

@[simp] theorem tget_nil (k : Nat) : tget ([] : Tbl α) k = none := rfl

/-- What was written under a key is read there. -/
@[simp] theorem tget_tset_same (t : Tbl α) (k : Nat) (v : α) : tget (tset t k v) k = some v := by
  induction t with
  | nil => simp [tset, tget]
  | cons e r ih =>
    obtain ⟨a, w⟩ := e
    unfold tset
    split_ifs with h1 h2
    · simp [tget]
    · simp [tget]
    · simpa [tget, h2] using ih

/-- A write under one key leaves every other key's entry. -/
theorem tget_tset_other (t : Tbl α) (k j : Nat) (v : α) (h : j ≠ k) : tget (tset t k v) j = tget t j := by
  induction t with
  | nil => simp [tset, tget, Ne.symm h]
  | cons e r ih =>
    obtain ⟨a, w⟩ := e
    unfold tset
    split_ifs with h1 h2
    · simp [tget, Ne.symm h]
    · subst h2; simp [tget, Ne.symm h]
    · simp [tget, ih]

theorem tget_tset (t : Tbl α) (k j : Nat) (v : α) : tget (tset t k v) j = if j = k then some v else tget t j := by
  split_ifs with h
  · subst h; simp
  · exact tget_tset_other t k j v h

@[simp] theorem tget_tmap (t : Tbl α) (f : Nat → α → α) (k : Nat) : tget (tmap t f) k = (tget t k).map (f k) := by
  induction t with
  | nil => rfl
  | cons e r ih =>
    obtain ⟨a, w⟩ := e
    simp only [tmap, List.map_cons, tget]
    split_ifs with h
    · subst h; rfl
    · exact ih

@[simp] theorem tget_tmod_same (t : Tbl α) (f : α → α) (k : Nat) : tget (tmod t k f) k = (tget t k).map f := by
  induction t with
  | nil => rfl
  | cons e r ih =>
    obtain ⟨a, w⟩ := e
    by_cases h : a = k
    · simp [tmod, tget, h]
    · simpa [tmod, tget, h] using ih

theorem tget_tmod_other (t : Tbl α) (f : α → α) (k j : Nat) (h : j ≠ k) : tget (tmod t k f) j = tget t j := by
  induction t with
  | nil => rfl
  | cons e r ih =>
    obtain ⟨a, w⟩ := e
    by_cases ha : a = k
    · subst ha; simp only [tmod, List.map_cons, tget, if_pos, Ne.symm h, if_false]; simpa [tmod] using ih
    · simp only [tmod, List.map_cons, tget, ha, if_false]
      split_ifs
      · rfl
      · simpa [tmod] using ih

theorem tget_tdel (t : Tbl α) (k j : Nat) : tget (tdel t k) j = if j = k then none else tget t j := by
  induction t with
  | nil => simp [tdel, tget]
  | cons e r ih =>
    obtain ⟨a, w⟩ := e
    by_cases ha : a = k
    · subst ha
      by_cases hj : j = a
      · subst hj; simpa [tdel] using ih
      · simpa [tdel, tget, hj, Ne.symm hj] using ih
    · by_cases haj : a = j
      · subst haj; simp [tdel, tget, ha]
      · simpa [tdel, tget, ha, haj] using ih

/-- The keys after a write are the keys before and the key written. -/
theorem tset_keys (t : Tbl α) (k : Nat) (v : α) (x : Nat) : x ∈ (tset t k v).map Prod.fst ↔ x = k ∨ x ∈ t.map Prod.fst := by
  induction t with
  | nil => simp [tset]
  | cons e r ih =>
    obtain ⟨a, w⟩ := e
    unfold tset
    split_ifs with h1 h2
    · simp
    · subst h2; simp
    · simp only [List.map_cons, List.mem_cons, ih]
      constructor
      · rintro (h | h | h) <;> simp [h]
      · rintro (h | h | h) <;> simp [h]

/-- A write keeps a table's keys rising. -/
theorem tset_sorted (t : Tbl α) (k : Nat) (v : α) (h : tsorted t) : tsorted (tset t k v) := by
  induction t with
  | nil => simp [tset, tsorted]
  | cons e r ih =>
    obtain ⟨a, w⟩ := e
    simp only [tsorted, List.map_cons, List.pairwise_cons] at h
    obtain ⟨ha, hr⟩ := h
    unfold tset
    split_ifs with h1 h2
    · simp only [tsorted, List.map_cons, List.pairwise_cons, List.mem_cons]
      refine ⟨?_, ha, hr⟩
      rintro x (rfl | hx)
      · exact h1
      · exact lt_trans h1 (ha x hx)
    · subst h2
      simp only [tsorted, List.map_cons, List.pairwise_cons]
      exact ⟨ha, hr⟩
    · simp only [tsorted, List.map_cons, List.pairwise_cons]
      refine ⟨?_, ih hr⟩
      intro x hx
      rcases (tset_keys r k v x).1 hx with rfl | hx
      · omega
      · exact ha x hx

theorem tdel_sorted (t : Tbl α) (k : Nat) (h : tsorted t) : tsorted (tdel t k) :=
  h.sublist (List.Sublist.map _ List.filter_sublist)

theorem tmap_keys (t : Tbl α) (f : Nat → α → α) : (tmap t f).map Prod.fst = t.map Prod.fst := by simp [tmap]

theorem tmap_sorted (t : Tbl α) (f : Nat → α → α) (h : tsorted t) : tsorted (tmap t f) := by
  rw [tsorted, tmap_keys]; exact h

/-! ### Memories (R468, R477) -/

/-- Every byte of a memory written stands above the addresses before it. -/
theorem Memory.write_above (mem : List Host.Cell) (a b : Nat) (v : Byte) (h : ∀ c ∈ mem, b < c.1) (hb : b < a) :
    ∀ c ∈ Memory.write mem a v, b < c.1 := by
  induction mem with
  | nil =>
    intro c hc
    unfold Memory.write at hc
    split_ifs at hc
    · simp at hc
    · simp at hc; subst hc; exact hb
  | cons e r ih =>
    obtain ⟨x, w⟩ := e
    have hx : b < x := h _ (List.mem_cons_self ..)
    have hr : ∀ c ∈ r, b < c.1 := fun c hc => h c (List.mem_cons_of_mem _ hc)
    intro c hc
    unfold Memory.write at hc
    split_ifs at hc
    · rcases List.mem_cons.1 hc with rfl | hc
      · exact hx
      · exact hr c hc
    · rcases List.mem_cons.1 hc with rfl | hc
      · exact hb
      · rcases List.mem_cons.1 hc with rfl | hc
        · exact hx
        · exact hr c hc
    · exact hr c hc
    · rcases List.mem_cons.1 hc with rfl | hc
      · exact hb
      · exact hr c hc
    · rcases List.mem_cons.1 hc with rfl | hc
      · exact hx
      · exact ih hr c hc

/-- A write keeps the canonical form. -/
theorem Memory.write_wf (mem : List Host.Cell) (a : Nat) (v : Byte) (h : Memory.wf mem) : Memory.wf (Memory.write mem a v) := by
  induction mem with
  | nil =>
    unfold Memory.write
    split_ifs with hv
    · exact h
    · exact ⟨by simp, by simpa using hv⟩
  | cons e r ih =>
    obtain ⟨x, w⟩ := e
    obtain ⟨hp, hz⟩ := h
    obtain ⟨hx, hr⟩ := List.pairwise_cons.1 hp
    have hw : w ≠ 0 := hz (x, w) (List.mem_cons_self ..)
    have hzr : ∀ c ∈ r, c.2 ≠ 0 := fun c hc => hz c (List.mem_cons_of_mem _ hc)
    unfold Memory.write
    split_ifs with h1 hv h2 hv2
    · exact ⟨hp, hz⟩
    · refine ⟨List.pairwise_cons.2 ⟨?_, hp⟩, ?_⟩
      · intro c hc
        rcases List.mem_cons.1 hc with rfl | hc
        · exact h1
        · exact lt_trans h1 (hx c hc)
      · intro c hc
        rcases List.mem_cons.1 hc with rfl | hc
        · exact hv
        · exact hz c hc
    · exact ⟨hr, hzr⟩
    · subst h2
      refine ⟨List.pairwise_cons.2 ⟨hx, hr⟩, ?_⟩
      intro c hc
      rcases List.mem_cons.1 hc with rfl | hc
      · exact hv2
      · exact hzr c hc
    · obtain ⟨ip, iz⟩ := ih ⟨hr, hzr⟩
      refine ⟨List.pairwise_cons.2 ⟨?_, ip⟩, ?_⟩
      · exact Memory.write_above r a x v hx (by omega)
      · intro c hc
        rcases List.mem_cons.1 hc with rfl | hc
        · exact hw
        · exact iz c hc

/-- Below every listed address memory reads zero. -/
theorem Memory.read_below (l : List Host.Cell) (y : Nat) (hl : ∀ c ∈ l, y < c.1) : Memory.read l y = 0 := by
  induction l with
  | nil => rfl
  | cons c l il =>
    have hc := hl c (List.mem_cons_self ..)
    simp only [Memory.read]
    rw [if_neg (by omega)]
    exact il (fun d hd => hl d (List.mem_cons_of_mem _ hd))

/-- The byte written is read back, and every other address reads as before. -/
theorem Memory.read_write (mem : List Host.Cell) (a b : Nat) (v : Byte) (h : Memory.wf mem) :
    Memory.read (Memory.write mem a v) b = if b = a then v else Memory.read mem b := by
  induction mem with
  | nil =>
    by_cases hv : v = 0
    · subst hv; simp [Memory.write, Memory.read]
    · have hw : Memory.write [] a v = [(a, v)] := by unfold Memory.write; rw [if_neg hv]
      rw [hw]
      by_cases hb : b = a
      · subst hb; simp [Memory.read]
      · simp [Memory.read, hb, Ne.symm hb]
  | cons e r ih =>
    obtain ⟨x, w⟩ := e
    obtain ⟨hp, hz⟩ := h
    obtain ⟨hx, hr⟩ := List.pairwise_cons.1 hp
    have hzr : ∀ c ∈ r, c.2 ≠ 0 := fun c hc => hz c (List.mem_cons_of_mem _ hc)
    by_cases h1 : a < x
    · by_cases hv : v = 0
      · subst hv
        simp only [Memory.write, h1, if_true]
        by_cases hb : b = a
        · subst hb
          rw [if_pos rfl]
          exact Memory.read_below _ b (fun c hc => by
            rcases List.mem_cons.1 hc with rfl | hc
            · exact h1
            · exact lt_trans h1 (hx c hc))
        · rw [if_neg hb]
      · simp only [Memory.write, h1, if_true, hv, if_false, Memory.read]
        by_cases hb : b = a
        · subst hb; simp
        · rw [if_neg (Ne.symm hb), if_neg hb]
    · by_cases h2 : a = x
      · subst h2
        by_cases hv : v = 0
        · subst hv
          simp only [Memory.write, h1, if_true, if_false]
          by_cases hb : b = a
          · subst hb
            rw [if_pos rfl]
            exact Memory.read_below r b hx
          · simp [Memory.read, hb, Ne.symm hb]
        · simp only [Memory.write, h1, if_true, hv, if_false]
          by_cases hb : b = a
          · subst hb; simp [Memory.read]
          · simp [Memory.read, hb, Ne.symm hb]
      · simp only [Memory.write, h1, Ne.symm h2, if_false, Memory.read]
        rw [ih ⟨hr, hzr⟩]
        by_cases hb : b = a
        · subst hb; simp [Ne.symm h2]
        · simp [hb]

/-- A memory made of bytes holds addresses from its start on, in canonical form. -/
theorem Memory.ofBytes_wf (a : Nat) (bs : List Byte) :
    Memory.wf (Memory.ofBytes a bs) ∧ ∀ c ∈ Memory.ofBytes a bs, a ≤ c.1 := by
  induction bs generalizing a with
  | nil => exact ⟨⟨List.Pairwise.nil, by simp [Memory.ofBytes]⟩, by simp [Memory.ofBytes]⟩
  | cons b r ih =>
    obtain ⟨⟨ip, iz⟩, il⟩ := ih (a + 1)
    unfold Memory.ofBytes
    split_ifs with hb
    · exact ⟨⟨ip, iz⟩, fun c hc => by have := il c hc; omega⟩
    · refine ⟨⟨List.pairwise_cons.2 ⟨fun c hc => ?_, ip⟩, ?_⟩, ?_⟩
      · have := il c hc; simp; omega
      · intro c hc
        rcases List.mem_cons.1 hc with rfl | hc
        · exact hb
        · exact iz c hc
      · intro c hc
        rcases List.mem_cons.1 hc with rfl | hc
        · simp
        · have := il c hc; omega

end Sys2Proof.Machine
end

