-- ==== Sys2Proof/Tests/Slice0.lean ====
section
/-! SUPPORT. Tests: ill-formed commands refused, the manual's worked examples and published vectors, and for every statement with
hypotheses a state and operands that meet them all, clause by clause (`witness_` and the name of the statement or of its part). -/

section
set_option Elab.async false

open Sys2Proof Sys2Proof.Machine Sys2Proof.Claims
namespace Sys2Proof.Tests
/-- An ACTIVE ring of a class. -/
def act (c : Nat) : Ring := { st := .active, enable := true, cls := c }
/-- A module in RUN with an attached host, rings of each kind in service and every pair joined. -/
def m0 : Mod := { pwr := { st := .run, starting := false, startStep := 5 }, hif := { attached := true, ready := true, rings := [(0, act 3), (1, act 2), (16, act 3), (32, act 3), (48, act 3)] }, lks := { pairs := [(0, { st := .joined }), (1, { st := .joined }), (2, { st := .joined }), (3, { st := .joined }), (4, { st := .joined }), (5, { st := .joined }), (6, { st := .joined }), (7, { st := .joined })] } }
/-- A state with nothing waiting. -/
def st (m : Mod) : State := { m := m }
/-- A descriptor on a C3 ring, on a C2 ring, and on a bulk ring. -/
def q0 : Req := { ring := 0, index := 0, tag := 7, noCompl := false, cring := 0 }
def q1 : Req := { q0 with ring := 1 }
def q48 : Req := { q0 with ring := 48 }

end Sys2Proof.Tests

namespace Sys2Proof.Tests.W

def qRing : Req := { q0 with ring := 16 }
def qIx : Req := { q0 with index := 32768 }
def qCr : Req := { q0 with cring := 15 }
def gF : FaultInfo := { src := 63, cls := 3, addr := 0, master := 0, access := 6, actClass := 0xFF, detail := 0 }
def gFsrc : FaultInfo := { gF with src := 64 }
def gFcls : FaultInfo := { gF with cls := 4 }
def gFacc : FaultInfo := { gF with access := 7 }
def gFact : FaultInfo := { gF with actClass := 4 }
def gC : CanFrame := { id := 2047, ext := false, fdf := false, brs := false, remote := false, esi := false, dlc := 15, data := [], partner := false }
def gCid : CanFrame := { gC with id := 2048 }
def gCext : CanFrame := { gC with id := 536870912, ext := true }
def gCdlc : CanFrame := { gC with dlc := 16 }
def gR : RoundFrame := { round := 0, inputs := [], outputs := [], navWrites := [], signature := 0 }

/-! One ill-formed command for each check of `Instr.wf` and each end of a range, which the check refuses, and a well-formed one of each shape. -/

theorem test_illformed_refused_1 : ([
  .startSequenceStep 0 2,
  .startSequenceStep 0 6,
  .powerRun 0 qRing,
  .powerRun 0 qIx,
  .powerRun 0 qCr,
  .restartProgram 0 qRing 1,
  .restartProgram 0 q0 4,
  .holdAbandon 0 96,
  .tableLoad 0 qRing 1 1 [],
  .tableLoad 0 q0 256 1 [],
  .pairSplit 0 qRing 1 [],
  .pairSplit 0 q0 8 [],
  .drainComplete 0 8,
  .calStart 0 qRing 1 1,
  .calStart 0 q0 256 1,
  .calStart 0 q0 1 256,
  .calPoint 0 qRing 1 1 1 1,
  .calPoint 0 q0 256 1 1 1,
  .calPoint 0 q0 1 256 1 1,
  .calPointAveraged 0 256 1 1,
  .calCommit 0 qRing 1 1 1,
  .calCommit 0 q0 256 1 1,
  .unitCmd 0 qRing 1 1 false,
  .unitCmd 0 q0 1 5 false,
  .interlockActive 0 65536,
  .planStart 0 qRing 1 1,
  .planStart 0 q0 1024 1,
  .planStart 0 q0 1 4096,
  .planPause 0 qRing 1,
  .planPause 0 q0 1024,
  .loopBank 0 qRing 1 1,
  .loopBank 0 q0 1024 1,
  .loopBank 0 q0 1 2,
  .forceSet 0 qRing 1 1 1,
  .forceSet 0 q0 1 8 1,
  .taskStart 0 qRing 1,
  .taskStart 0 q0 96,
  .doorbellSubmit 0 64 1,
  .registerWrite 0 131072 1,
  .latchedClear 0 8 1,
  .activeClear 0 2 1,
  .taskDispatch 0 12,
  .dicLd 12 1 1 1 1,
  .dicLd 1 8 1 1 1,
  .dicLd 1 1 16 1 1] : List Instr).all (fun i => i.wf == false) = true := by decide +kernel

theorem test_illformed_refused_2 : ([
  .dicLd 1 1 1 8 1,
  .dicLd 1 1 1 1 8192,
  .dicLdx 12 1 1 1 1 1 1,
  .dicLdx 1 8 1 1 1 1 1,
  .dicLdx 1 1 16 1 1 1 1,
  .dicLdx 1 1 1 16 1 1 1,
  .dicLdx 1 1 1 1 8 1 1,
  .dicLdx 1 1 1 1 1 8192 1,
  .dicLdx 1 1 1 1 1 1 65536,
  .dicLdi16 12 1 1 1,
  .dicLdi16 1 8 1 1,
  .dicLdi16 1 1 16 1,
  .dicMov 12 1 1 1,
  .dicMov 1 8 1 1,
  .dicMov 1 1 16 1,
  .dicMov 1 1 1 16,
  .dicTget 12 1 1,
  .dicTget 1 16 1,
  .dicTget 1 1 8192,
  .dicAdd 12 1 1 1 1,
  .dicAdd 1 8 1 1 1,
  .dicAdd 1 1 16 1 1,
  .dicAdd 1 1 1 16 1,
  .dicAdd 1 1 1 1 16,
  .dicCmp 12 1 1 1 1 1,
  .dicCmp 1 8 1 1 1 1,
  .dicCmp 1 1 16 1 1 1,
  .dicCmp 1 1 1 16 1 1,
  .dicCmp 1 1 1 1 16 1,
  .dicCmp 1 1 1 1 1 16,
  .dicCvt 12 1 1 1 1,
  .dicCvt 1 8 1 1 1,
  .dicCvt 1 1 16 1 1,
  .dicCvt 1 1 1 16 1,
  .dicCvt 1 1 1 1 8,
  .dicBr 12 1,
  .dicBr 1 65536,
  .dicBrt 12 1 1,
  .dicBrt 1 16 1,
  .dicBrt 1 1 65536,
  .dicLoop 12 1 1 1,
  .dicLoop 1 16 1 1,
  .dicLoop 1 1 65536 1,
  .dicLoop 1 1 1 65536,
  .dicLidx 12 1] : List Instr).all (fun i => i.wf == false) = true := by decide +kernel

theorem test_illformed_refused_3 : ([
  .dicLidx 1 16,
  .dicCall 12 1,
  .dicCall 1 4194304,
  .fbTon 12 1,
  .fbTon 1 65536,
  .loopSample 0 1024,
  .resumeSlotRefresh 0 1024,
  .supplyLowSet 0 8,
  .safetyEvaluation 0 256,
  .telegramSend 0 128,
  .portLinkChange 0 0 false false,
  .portLinkChange 0 9 false false,
  .roundFrameReceive 0 4 gR,
  .nmeaSentence 0 0 [],
  .nmeaSentence 0 9 [],
  .navTimeout 0 256,
  .stationCycle 0 64,
  .stationLoad 0 qRing 1 [],
  .stationLoad 0 q0 64 [],
  .ptpPort 0 qRing 1 false 1,
  .ptpPort 0 q0 0 false 1,
  .ptpPort 0 q0 9 false 1,
  .canSend 0 qRing 1 1 [],
  .canSend 0 q0 0 1 [],
  .canSend 0 q0 9 1 [],
  .canSend 0 q0 1 64 [],
  .canRead 0 qRing 1 1 1,
  .canRead 0 q0 0 1 1,
  .canRead 0 q0 9 1 1,
  .canRead 0 q0 1 66 1,
  .canFrameReceive 0 0 gC,
  .canFrameReceive 0 9 gC,
  .canFrameReceive 0 1 gCid,
  .canFrameReceive 0 1 gCext,
  .canFrameReceive 0 1 gCdlc,
  .canPeriodRequest 0 0 1,
  .canPeriodRequest 0 9 1,
  .canPeriodRequest 0 1 64,
  .heartbeatTimeout 0 0 1,
  .heartbeatTimeout 0 9 1,
  .heartbeatTimeout 0 1 0,
  .heartbeatTimeout 0 1 128,
  .canMapTimeout 0 0 1,
  .canMapTimeout 0 9 1,
  .canMapTimeout 0 1 256] : List Instr).all (fun i => i.wf == false) = true := by decide +kernel

theorem test_illformed_refused_4 : ([
  .faultReport 0 gFsrc,
  .faultReport 0 gFcls,
  .faultReport 0 gFacc,
  .faultReport 0 gFact,
  .recorderSample 0 2097152,
  .accumulatorSweep 0 0,
  .accumulatorSweep 0 4,
  .recListLoad 0 qRing 1 1 [],
  .recListLoad 0 q0 0 1 [],
  .recListLoad 0 q0 4 1 [],
  .verifyDone 0 0,
  .verifyDone 0 4,
  .updActivate 0 qRing 1 false,
  .updActivate 0 q0 0 false,
  .updActivate 0 q0 4 false,
  .relayAccept 0 10 1,
  .secConfirm 0 qRing 1 1 [],
  .secConfirm 0 q0 1 8 []] : List Instr).all (fun i => i.wf == false) = true := by decide +kernel

theorem test_wellformed_accepted_1 : ([
  .startSequenceStep 0 3,
  .powerRun 0 q0,
  .restartProgram 0 q0 1,
  .holdAbandon 0 1,
  .tableLoad 0 q0 1 1 [],
  .pairSplit 0 q0 1 [],
  .drainComplete 0 1,
  .calStart 0 q0 1 1,
  .calPoint 0 q0 1 1 1 1,
  .calPointAveraged 0 1 1 1,
  .calCommit 0 q0 1 1 1,
  .unitCmd 0 q0 1 1 false,
  .interlockActive 0 1,
  .planStart 0 q0 1 1,
  .planPause 0 q0 1,
  .loopBank 0 q0 1 1,
  .forceSet 0 q0 1 1 1,
  .taskStart 0 q0 1,
  .doorbellSubmit 0 1 1,
  .registerWrite 0 1 1,
  .latchedClear 0 1 1,
  .activeClear 0 1 1,
  .taskDispatch 0 1,
  .dicLd 1 1 1 1 1,
  .dicLdx 1 1 1 1 1 1 1,
  .dicLdi16 1 1 1 1,
  .dicMov 1 1 1 1,
  .dicTget 1 1 1,
  .dicAdd 1 1 1 1 1,
  .dicCmp 1 1 1 1 1 1,
  .dicCvt 1 1 1 1 1,
  .dicBr 1 1,
  .dicBrt 1 1 1,
  .dicLoop 1 1 1 1,
  .dicLidx 1 1,
  .dicCall 1 1,
  .fbTon 1 1,
  .loopSample 0 1,
  .resumeSlotRefresh 0 1,
  .supplyLowSet 0 1,
  .safetyEvaluation 0 1,
  .telegramSend 0 1,
  .portLinkChange 0 1 false false,
  .roundFrameReceive 0 1 gR,
  .nmeaSentence 0 1 []] : List Instr).all (fun i => i.wf == true) = true := by decide +kernel

theorem test_wellformed_accepted_2 : ([
  .navTimeout 0 1,
  .stationCycle 0 1,
  .stationLoad 0 q0 1 [],
  .ptpPort 0 q0 1 false 1,
  .canSend 0 q0 1 1 [],
  .canRead 0 q0 1 1 1,
  .canFrameReceive 0 1 gC,
  .canPeriodRequest 0 1 1,
  .heartbeatTimeout 0 1 1,
  .canMapTimeout 0 1 1,
  .faultReport 0 gF,
  .recorderSample 0 1,
  .accumulatorSweep 0 1,
  .recListLoad 0 q0 1 1 [],
  .verifyDone 0 1,
  .updActivate 0 q0 1 false,
  .relayAccept 0 1 1,
  .secConfirm 0 q0 1 1 []] : List Instr).all (fun i => i.wf == true) = true := by decide +kernel

end Sys2Proof.Tests.W

namespace Sys2Proof.Tests.V

/-! Values that stand outside the model: the manual's worked examples, and the published vectors of the algorithms it names. -/

/-- The handle 0x0541_2A0C of the conventions chapter: generation 42, index 76,300. -/
theorem test_handle_example : hIdx 0x05412A0C = 76300 ∧ fld (0x05412A0C : W32) 27 21 = 42 ∧ fld (0x05412A0C : W32) 31 28 = 0 := by decide +kernel

/-- The ratio ballast program: weighted count 14, 2 slots (R118, R139). -/
def ratio : Micro := { count := 6, curve := [], code := [0x10216800, 0x08017000, 0x30804000, 0x2D020000, 0x34040000, 0], raw := [] }
theorem test_ratio_weight : microWeight ratio = 14 ∧ loopSlots { rcd := { micro := true }, micro := some ratio } = 2 := by decide +kernel

/-- The tasks of pair 1 of the admission chapter: W is 153.004, 607.276 and 5,909.9 µs (R240). -/
def hs (a n : Nat) : List W32 := (List.range n).map (fun i => BitVec.ofNat 32 (a + i))
def t40 : Resp := respOf 40 { cls := 0, event := true, period := 2000, wcSteps := 60000, reads := hs 0 32, writes := hs 5000 4 }
def t5 : Resp := respOf 5 { cls := 1, prio := 4, period := 20000, wcSteps := 180000, reads := hs 1000 120, writes := hs 6000 18 }
def t6 : Resp := respOf 6 { cls := 1, prio := 8, period := 100000, wcSteps := 2000000, reads := hs 2000 600, writes := hs 1119 200 }
theorem test_pair1_response : [t40, t5, t6].map (fun i => responseOf i [t40, t5, t6] [t40, t5, t6]) = [some 306008, some 1214552, some 11819800] := by decide +kernel

/-- The load-port door switch: FILT_THR 10, FILT_CEIL 14 (R163). -/
def door : Chan := { rcd := { filtThr := 10, filtCeil := 14 } }
def runDoor (c : Chan) (l : List Bool) : Chan := l.foldl (fun c h => yoyo c h 0) c
def bounce : List Bool := [true, true, true, false, true, true, true, false, true, true, true, true, true]
theorem test_door_switch :
    ((runDoor door bounce).count, (runDoor door bounce).q) = (9, false) ∧
    ((runDoor door (bounce ++ [true])).count, (runDoor door (bounce ++ [true])).q) = (10, true) ∧
    ((runDoor door (bounce ++ List.replicate 9 true)).count, (runDoor door (bounce ++ List.replicate 9 true ++ List.replicate 4 false)).q) = (14, true) ∧
    (runDoor door (bounce ++ List.replicate 9 true ++ List.replicate 9 false)).q = true ∧
    (runDoor door (bounce ++ List.replicate 9 true ++ List.replicate 10 false)).q = false := by decide +kernel

/-- A seat returns to the T-9: with a pool of 48 units, the release of the archive flush grants the resync's 32 units ahead of the flash burst that has waited longer (R246, R248). -/
def pFlush : Permit := { who := 10, op := .archiveFlush, c1 := false, units := 24, durMs := 1500, resync := false }
def pVerify : Permit := { who := 20, op := .sigVerify, c1 := false, units := 16, durMs := 2000, resync := false }
def pBurst : Permit := { who := 11, op := .flashBurst, c1 := false, units := 16, durMs := 100, resync := false }
def pResync : Permit := { who := 30, op := .resyncBulk, c1 := false, units := 32, durMs := 10000, resync := true }
def mT9 : Mod := { m0 with adm := { base := 340, grants := [pFlush, pVerify], waiting := [pBurst, pResync], holdBack := true } }
theorem test_resync_goes_first : ((releasePermit mT9 10).adm.grants.map Permit.who, (releasePermit mT9 10).adm.waiting.map Permit.who) = ([20, 30], [11]) := by decide +kernel
theorem test_burst_follows : (releasePermit (releasePermit mT9 10) 20).adm.grants.map Permit.who = [30, 11] := by decide +kernel

/-- The completion of the chamber B example, in the first pass of ring 17 (R325). -/
def cB : Compl := { cring := 17, tag := 0x00000A17, status := .partly, ring := 3, index := 0x000A, res0 := 7, res1 := 2, res2 := 0x0001004A, res64 := 0x16 }
theorem test_completion_example : complBytes { st := .active, index := 5 } cB =
    [0x17, 0x0A, 0, 0, 1, 0, 1, 0, 3, 0, 0x0A, 0, 7, 0, 0, 0, 2, 0, 0, 0, 0x4A, 0, 1, 0, 0x16, 0, 0, 0, 0, 0, 0, 0] := by decide +kernel

/-- The unacknowledged fault: the loop engine's F2 opens the capture at LEVEL 2 (R391, R393). -/
def cpFault : FaultInfo := { src := 0x01, cls := 2, addr := 30, master := 0x0400, access := 4, actClass := 1, detail := 0 }
theorem test_fault_opens_capture : (reportFault m0 cpFault).nv.capture.map (fun c => (c.src, c.cls, c.level, c.addr, c.mergeCount)) = some (0x01, 2, 2, 30, 0) := by decide +kernel

/-- CRC-32C of the digits 1 to 9. -/
theorem test_crc32c : crc32c [49, 50, 51, 52, 53, 54, 55, 56, 57] = 0xE3069283 := by decide +kernel
/-- SHA-384 of "abc". -/
theorem test_sha384 : sha384 [97, 98, 99] = [203, 0, 117, 63, 69, 163, 94, 139, 181, 160, 61, 105, 154, 198, 80, 7, 39, 44, 50, 171, 14, 222, 209, 99, 26, 139, 96, 90, 67, 255, 91, 237, 128, 134, 7, 43, 161, 231, 204, 35, 88, 186, 236, 161, 52, 200, 37, 167] := by decide +kernel
/-- AES-256 of FIPS 197. -/
theorem test_aes256 : aesEncrypt (leBytes 32 0x1F1E1D1C1B1A191817161514131211100F0E0D0C0B0A09080706050403020100) (beBytes 16 0x00112233445566778899AABBCCDDEEFF) = beBytes 16 0x8EA2B7CA516745BFEAFC49904B496089 := by decide +kernel
/-- The tag of GCM under a zero key with nothing to authenticate. -/
theorem test_gcm_tag : gcmTag (List.replicate 32 0) (List.replicate 12 0) [] = beBytes 16 0x530F8AFBC74536B9A963B4F1C4CB738B := by decide +kernel
/-- AES-256 back again. -/
theorem test_aes256_back : aesDecrypt ((List.range 32).map (BitVec.ofNat 8)) (beBytes 16 0x8EA2B7CA516745BFEAFC49904B496089) = beBytes 16 0x00112233445566778899AABBCCDDEEFF := by decide +kernel

/-- The queue is taken from its front, and an empty one idles. -/
theorem test_step_takes_front : step { m := m0, pending := [.enterRun 5, .dipTimerExpiry 6] } = exec (.enterRun 5) { m := m0, pending := [.dipTimerExpiry 6] } := rfl
theorem test_step_idles : step State.reset = .next State.reset := rfl
/-- No row of the table has bits, so no word spells a command. -/
theorem test_no_table_word : decodeTableWord 32 0x10216800 = none := rfl

end Sys2Proof.Tests.V

namespace Sys2Proof.Tests.A

/-- An unpowered module, and one whose store charges. -/
def mOff : Mod := { pwr := { st := .off } }
def mCharging : Mod := { pwr := { st := .off, charging := some 5 } }
def mStart (n : Nat) : Mod := { pwr := { startStep := n } }
def mReady : Mod := { m0 with pwr := { startStep := 5 } }
def tk : Task := { rcd := { cls := 2 }, home := 0, pair := 0 }
def in0 : Inst := { release := 0 }
def mHold : Mod := { m0 with pwr := { st := .hold, starting := false, startStep := 5, holdAt := some 5, program := true } }
def tkBusy : Task := { tk with st := .running, inst := some in0 }
def tkStopped : Task := { tk with st := .idle, stopAt := some 5, window := 7 }
def sgT : SigRec := { ownKind := 4, ownId := 2, qual := 0xC000, val := 9 }
def m_a1 : Mod := { mHold with pge := { tasks := [(2, tkBusy)], running := [(0, 2)] } }
def m_a2 : Mod := { mHold with pge := { tasks := [(2, tkStopped)] } }
def m_a3 : Mod := { mHold with pge := { tasks := [(2, tkStopped)] }, sig := { sigs := [(3, sgT)] } }
def mDip : Mod := { m0 with pwr := { m0.pwr with dip := some 5 } }
def mFail : Mod := { m0 with pwr := { m0.pwr with st := .fail, failCause := .shutdown } }
def m_a4 : Mod := { m0 with pge := { tasks := [(2, tkBusy)], running := [(0, 2)] } }
def mQuiet : Mod := { m0 with pwr := { m0.pwr with st := .quiet } }
def m_a5 : Mod := { mHold with pge := { tasks := [(2, tk)] } }
def mSvc : Mod := { m0 with pwr := { m0.pwr with svcStopped := true, svcRestart := some 5 } }
def m_a6 : Mod := { m0 with pwr := { m0.pwr with firstRun := some 5, recovery := true } }
def m_a7 : Mod := { m0 with flt := { okContact := true, alive := true, aliveAt := some 5 } }

theorem witness_StartBringsHold :
  (mOff.pwr.st = PState.off ∧ 18000 < 18001 ∧ mOff.pwr.needRemoval = false ∧ mOff.pwr.charging = none ∧ restarting mOff = false) ∧
  (mCharging.pwr.st = PState.off ∧ (mCharging.pwr.charging.isSome = true ∨ restarting mCharging = true)) ∧
  (mCharging.pwr.st = PState.off ∧ mCharging.pwr.charging = some 5 ∧ 5 + 1000000000 ≤ max mCharging.clk 1000000005) := by
  refine ⟨⟨?_, ?_, ?_, ?_, ?_⟩, ⟨?_, ?_⟩, ⟨?_, ?_, ?_⟩⟩ <;> decide +kernel

theorem witness_StartStepsInOrder :
  ((mStart 2).pwr.st = PState.hold ∧ (mStart 2).pwr.starting = true ∧ (mStart 2).sec.bootFail = none ∧ (mStart 2).pwr.startStep = 2) ∧
  ((mStart 3).pwr.st = PState.hold ∧ (mStart 3).pwr.starting = true ∧ (mStart 3).sec.bootFail = none ∧ (mStart 3).pwr.startStep = 3) ∧
  ((mStart 4).pwr.st = PState.hold ∧ (mStart 4).pwr.starting = true ∧ (mStart 4).sec.bootFail = none ∧ (mStart 4).pwr.startStep = 4) := by
  refine ⟨⟨?_, ?_, ?_, ?_⟩, ⟨?_, ?_, ?_, ?_⟩, ⟨?_, ?_, ?_, ?_⟩⟩ <;> decide +kernel

theorem witness_FirstEntryToRun :
  (mReady.pwr.st = PState.hold ∧ mReady.pwr.starting = true ∧ runConditions (seen (st mReady) 0) = true ∧ cmdHeld (seen (st mReady) 0) = false ∧ (mReady.nv.autoRun = true ∨ mReady.pwr.runAsked = true) ∧ entryInstant (seen (st mReady) 0) = true ∧ bitOf (BitVec.toNat (resumePlans (seen (st mReady) 0)).pln.events) 2 = false) := by
  refine ⟨?_, ?_, ?_, ?_, ?_, ?_, ?_⟩ <;> decide +kernel

theorem witness_HoldStopsTasks :
  (m_a1.pwr.st = PState.hold ∧ taskAt m_a1 2 = some tkBusy ∧ m_a1.pwr.holdAt = some 5 ∧ 5 + 100000000 ≤ max m_a1.clk 100000005 ∧ 2 ≤ tkBusy.rcd.cls ∧ tkBusy.busy = true) ∧
  (m_a2.pwr.st = PState.hold ∧ taskAt m_a2 2 = some tkStopped ∧ m_a2.pwr.starting = false ∧ m_a2.pwr.holdAt = some 5 ∧ allStopped m_a2 = true) ∧
  (m_a3.pwr.st = PState.hold ∧ taskAt m_a3 2 = some tkStopped ∧ tkStopped.stopAt = some 5 ∧ tkStopped.rcd.cls ≠ 0 ∧ tkStopped.rideDone = false ∧ 5 + tkStopped.window ≤ max m_a3.clk 12) := by
  refine ⟨⟨?_, ?_, ?_, ?_, ?_, ?_⟩, ⟨?_, ?_, ?_, ?_, ?_⟩, ⟨?_, ?_, ?_, ?_, ?_, ?_⟩⟩ <;> decide +kernel

theorem witness_SupplyFailure :
  (m0.pwr.st ≠ PState.off ∧ 15999 < 16000 ∧ m0.pwr.st ≠ PState.fail ∧ m0.pwr.dip = none ∧ 600000 < 600001) ∧
  (m0.pwr.st ≠ PState.off ∧ 15999 < 16000 ∧ m0.pwr.st ≠ PState.fail ∧ m0.pwr.dip = none ∧ 600000 ≤ 600000) ∧
  (mDip.pwr.st ≠ PState.off ∧ mDip.pwr.dip = some 5 ∧ 16500 < 16501 ∧ max mDip.clk 10000004 < 5 + min 10000000 ((mDip.pwr.storeUj - 600000) * 50)) ∧
  (mDip.pwr.st ≠ PState.off ∧ mDip.pwr.dip = some 5 ∧ 5 + min 10000000 ((mDip.pwr.storeUj - 600000) * 50) ≤ max mDip.clk 10000005) ∧
  (mFail.pwr.st ≠ PState.off ∧ mFail.pwr.st = PState.fail) ∧
  (m0.pwr.st ≠ PState.off ∧ opReady (seen (st m0) 9) 5 q0 = true ∧ notLead (seen (st m0) 9) = false) := by
  refine ⟨⟨?_, ?_, ?_, ?_, ?_⟩, ⟨?_, ?_, ?_, ?_, ?_⟩, ⟨?_, ?_, ?_, ?_⟩, ⟨?_, ?_, ?_⟩, ⟨?_, ?_⟩, ⟨?_, ?_⟩⟩ <;> decide +kernel

theorem witness_PowerCommands :
  (cmdHeld mQuiet = false ∧ opReady (seen (st mQuiet) 9) 5 q0 = true ∧ notLead (seen (st mQuiet) 9) = false ∧ mQuiet.pwr.st = PState.quiet) ∧
  (cmdHeld m_a5 = false ∧ opReady (seen (st m_a5) 9) 5 q0 = true ∧ notLead (seen (st m_a5) 9) = false ∧ m_a5.pwr.st = PState.hold ∧ m_a5.pwr.starting = false ∧ allJoined m_a5 = true) ∧
  (cmdHeld m_a4 = false ∧ opReady (seen (st m_a4) 9) 5 q0 = true ∧ notLead (seen (st m_a4) 9) = false ∧ (m_a4.pwr.st = PState.run ∨ m_a4.pwr.st = PState.quiet) ∧ hasC0 m_a4 = false) ∧
  (cmdHeld mQuiet = false ∧ opReady (seen (st mQuiet) 9) 5 q0 = true ∧ notLead (seen (st mQuiet) 9) = false ∧ (mQuiet.pwr.st = PState.run ∨ mQuiet.pwr.st = PState.quiet) ∧ hasC0 mQuiet = false) ∧
  (cmdHeld m0 = false ∧ opReady (seen (st m0) 9) 5 q0 = true ∧ notLead (seen (st m0) 9) = false ∧ m0.pwr.st = PState.run) ∧
  (cmdHeld m0 = false ∧ opReady (seen (st m0) 9) 6 q0 = true ∧ notLead (seen (st m0) 9) = false) ∧
  (cmdHeld m0 = false ∧ opReady (seen (st m0) 9) 6 q0 = true ∧ notLead (seen (st m0) 9) = false ∧ m0.pwr.starting = false ∧ hasC0 m0 = false ∧ m0.tri.mode = 0) ∧
  (cmdHeld m0 = false ∧ opReady (seen (st m0) 9) 6 q0 = true ∧ notLead (seen (st m0) 9) = false ∧ (m0.tri.mode = 0 ∨ 0 = m0.tri.seat)) := by
  refine ⟨⟨?_, ?_, ?_⟩, ⟨?_, ?_, ?_, ?_, ?_⟩, ⟨?_, ?_, ?_, ?_⟩, ⟨?_, ?_, ?_, ?_⟩, ⟨?_, ?_, ?_⟩, ⟨?_, ?_⟩, ⟨?_, ?_, ?_, ?_, ?_⟩, ⟨?_, ?_, ?_⟩⟩ <;> decide +kernel

theorem witness_ServiceRestart :
  (mSvc.pwr.st ≠ PState.off ∧ mSvc.pwr.svcRestart = some 5) ∧
  (mSvc.pwr.st ≠ PState.off ∧ mSvc.pwr.svcRestart = some 5 ∧ 5 + 2000000000 ≤ max mSvc.clk 2000000005) := by
  refine ⟨⟨?_, ?_⟩, ⟨?_, ?_, ?_⟩⟩ <;> decide +kernel

theorem witness_PowerUpkeep :
  (mOff.pwr.st = PState.off) ∧
  (m0.pwr.st ≠ PState.off) ∧
  (m_a6.pwr.st ≠ PState.off ∧ m_a6.pwr.firstRun = some 5 ∧ 5 + 600000000000 ≤ max m_a6.clk 600000000005) ∧
  (m0.pwr.st ≠ PState.off ∧ bootHeld m0 = false ∧ m0.gen.softLock = false) ∧
  ((m_a7.pwr.st = PState.off ∨ ∀ (x : ℕ), m_a7.flt.aliveAt = some x → x + 1500000 < max m_a7.clk 1500006)) := by
  refine ⟨?_, ?_, ⟨?_, ?_, ?_⟩, ⟨?_, ?_, ?_⟩, ?_⟩ <;> decide +kernel

end Sys2Proof.Tests.A

namespace Sys2Proof.Tests.B

def zeros (n : Nat) : List Byte := List.replicate n 0
def okOr {ε α : Type} (d : α) (x : Except ε α) : α := match x with | .ok a => a | .error _ => d
def erOr {ε α : Type} (d : ε) (x : Except ε α) : ε := match x with | .ok _ => d | .error e => e
def sigBuf : List Byte := zeros 4 ++ [4, 0, 0, 0] ++ zeros 8
def sg : SigRec := { ty := 4, ownKind := 7, ownId := 1, val := 5, qual := 0xC000 }
def sgRef : SigRec := { sg with refs := 1 }
def sgF : SigRec := { sg with forced := true }
def sgC : SigRec := { sg with isConst := true }
def sgS : SigRec := { sg with safety := true }
def mSig : Mod := { m0 with sig := { sigs := [(3, sg)] } }
def ld0 : Loaded := { m := m0, res0 := 0, data := [] }
def tk : Task := { rcd := { cls := 2 }, home := 0, pair := 0 }
def mTask : Mod := { m0 with pge := { tasks := [(2, tk)] } }
def pk0 : ChangePkg := { image := [], tasks := [], values := [], consts := [], removed := [] }
def pk2 : ChangePkg := { pk0 with consts := [(0x00200003, 1)] }
def mConst : Mod := { m0 with sig := { sigs := [(3, { sg with isConst := true })] } }
def pc2 : PendingChange := { no := 1, kind := 2, instant := 20, pkg := pk2, image := none, recs := [], req := none }
def m_b1 : Mod := { mConst with pge := { change := some pc2 } }
def m_b2 : Mod := { mConst with pge := { changeEn := false } }
def cr : ChangeRec := { no := 4, kind := 2, outcome := 0, tasks := [], instant := 3, wrap := 0, forced := [], imageId := 0, prevId := 0, status := .ok }
def m_b3 : Mod := { m0 with nv := { changes := [cr] } }
def m_b4 : Mod := { m0 with sig := { sigs := [(3, { sg with refs := 1 })] } }
def m_b5 : Mod := { m0 with sig := { forceEn := false } }

theorem witness_TableCommands :
  (opReady (seen (st m0) 9) 1 q0 = true ∧ notLead (seen (st m0) 9) = false ∧ kindHeld (seen (st m0) 9) 1 = none ∧ tableLoad (seen (st m0) 9) false false 1 1 sigBuf = Except.ok (okOr ld0 (tableLoad (seen (st m0) 9) false false 1 1 sigBuf))) ∧
  (opReady (seen (st m0) 9) 1 q0 = true ∧ notLead (seen (st m0) 9) = false ∧ kindHeld (seen (st m0) 9) 1 = none ∧ tableLoad (seen (st m0) 9) false false 1 1 (zeros 8) = Except.error ((erOr (m0, Status.ok) (tableLoad (seen (st m0) 9) false false 1 1 (zeros 8))).1, Status.badField)) ∧
  (opReady (seen (st mSig) 9) 2 q0 = true ∧ notLead (seen (st mSig) 9) = false ∧ anyTrial mSig = false ∧ tableDelete (seen (st mSig) 9) false 1 2097155 = Except.ok (okOr m0 (tableDelete (seen (st mSig) 9) false 1 2097155))) ∧
  (opReady (seen (st m0) 9) 2 q0 = true ∧ notLead (seen (st m0) 9) = false ∧ anyTrial m0 = false ∧ tableDelete (seen (st m0) 9) false 1 2097155 = Except.error Status.staleHandle) ∧
  (opReady (seen (st mSig) 9) 69 q48 = true ∧ recordAt mSig 1 2097155 = some (signalRecord 3 sg)) := by
  refine ⟨⟨?_, ?_, ?_⟩, ⟨?_, ?_, ?_⟩, ⟨?_, ?_, ?_⟩, ⟨?_, ?_, ?_⟩, ⟨?_, ?_⟩⟩ <;> decide +kernel

theorem witness_ReadsCopyRecords :
  (opReady (seen (st mSig) 9) 64 q48 = true ∧ 1 ≤ 2 ∧ 2 ≤ 65536 ∧ 2 + 2 ≤ 2097152) ∧
  (opReady (seen (st mSig) 9) 65 q48 = true ∧ 1 ≤ 1 ∧ 1 ≤ 65536 ∧ 2097151 + 1 ≤ 2097152) ∧
  (opReady (seen (st mSig) 9) 66 q48 = true ∧ 1 ≤ 16384 ∧ 16384 ≤ 16384) ∧
  (opReady (seen (st mSig) 9) 67 q48 = true ∧ 1 ≤ 1 ∧ 8191 + 1 ≤ 8192) ∧
  (opReady (seen (st mTask) 9) 43 q1 = true ∧ taskAt mTask 2 = some tk) ∧
  (opReady (seen (st mTask) 9) 44 q1 = true ∧ 255 < 256) := by
  refine ⟨⟨?_, ?_, ?_, ?_⟩, ⟨?_, ?_, ?_, ?_⟩, ⟨?_, ?_, ?_⟩, ⟨?_, ?_, ?_⟩, ⟨?_, ?_⟩, ⟨?_, ?_⟩⟩ <;> decide +kernel

theorem witness_ChangesAreNumbered :
  ((postChange mConst none 2 0 pk0 false).2 ≠ Status.ok) ∧
  ((postChange mConst none 2 0 pk2 false).2 = Status.ok ∧ 2 ≠ 1) ∧
  (m_b1.pge.change.isSome = true ∧ m_b1.pge.changeEn = true) ∧
  (m_b2.pge.changeEn = false) := by
  refine ⟨?_, ⟨?_, ?_⟩, ⟨?_, ?_⟩, ?_⟩ <;> decide +kernel

theorem witness_ChangeCommands :
  (opReady (seen (st mConst) 9) 3 q0 = true ∧ notLead (seen (st mConst) 9) = false) ∧
  (opReady (seen (st m_b1) 19) 4 q0 = true ∧ notLead (seen (st m_b1) 19) = false ∧ m_b1.pge.change = some pc2 ∧ nowNs (seen (st m_b1) 19) < pc2.instant) ∧
  (opReady (seen (st m_b1) 20) 4 q0 = true ∧ notLead (seen (st m_b1) 20) = false ∧ (m_b1.pge.change = none ∨ ∃ c, m_b1.pge.change = some c ∧ c.instant ≤ nowNs (seen (st m_b1) 20))) ∧
  (m_b1.pwr.st ≠ PState.off ∧ m_b1.pge.change = some pc2 ∧ pc2.instant ≤ nowNs (seen (st m_b1) 20)) ∧
  (opReady (seen (st m_b3) 20) 68 q48 = true ∧ (List.filter (fun c => c.no == 4) m_b3.nv.changes).getLast? = some cr) := by
  refine ⟨?_, ⟨?_, ?_, ?_⟩, ⟨?_, ?_⟩, ⟨?_, ?_, ?_⟩, ⟨?_, ?_⟩⟩ <;> decide +kernel

theorem witness_SignalsComeAndGo :
  (loadSignal m0 sigBuf = Except.ok ((okOr (m0, []) (loadSignal m0 sigBuf)).1, (okOr (m0, []) (loadSignal m0 sigBuf)).2)) ∧
  (judgeSig m_b4 2097155 = Except.ok 3 ∧ sigAt m_b4 3 = some sgRef ∧ 0 < sgRef.refs) ∧
  (judgeSig mSig 2097155 = Except.ok 3 ∧ sigAt mSig 3 = some sg ∧ sg.refs = 0) := by
  refine ⟨?_, ⟨?_, ?_, ?_⟩, ⟨?_, ?_, ?_⟩⟩ <;> decide +kernel

theorem witness_HandlesAreJudged :
  ((0 = 0 ∨ fld 0 27 21 = 0 ∨ fld 0 31 28 ≠ 0)) ∧
  (fld 2097155 27 21 ≠ 0 ∧ fld 2097155 31 28 = 0 ∧ sigAt m0 (hIdx 2097155) = none) ∧
  (fld 266338307 27 21 ≠ 0 ∧ fld 266338307 31 28 = 0 ∧ sigAt mSig (hIdx 266338307) = some sg) := by
  refine ⟨?_, ⟨?_, ?_, ?_⟩, ⟨?_, ?_, ?_⟩⟩ <;> decide +kernel

theorem witness_ForcesStand :
  (sgC.isConst = true) ∧
  (sgS.isConst = false ∧ sgS.safety = true ∧ m0.sig.safetyForce = false) ∧
  (sg.isConst = false ∧ (sg.safety = false ∨ m_b5.sig.safetyForce = true) ∧ m_b5.sig.forceEn = false) ∧
  (sg.isConst = false ∧ (sg.safety = false ∨ m0.sig.safetyForce = true) ∧ m0.sig.forceEn = true ∧ (sg.forced = true ∨ forceCount m0 < 4096)) := by
  refine ⟨?_, ⟨?_, ?_, ?_⟩, ⟨?_, ?_, ?_⟩, ⟨?_, ?_, ?_, ?_⟩⟩ <;> decide +kernel

theorem witness_QualityOrder :
  (isCode 49152 = true ∧ isCode 5 = true) := by
  refine ⟨?_, ?_⟩ <;> decide +kernel

end Sys2Proof.Tests.B

namespace Sys2Proof.Tests.C

/-- The module with pair 2 in another state. -/
def mPair (x : PairSt) : Mod := setPair m0 2 { st := x }
def mPair6 (x : PairSt) : Mod := setPair m0 6 { st := x }
def tk : Task := { rcd := { task := 3, cls := 1, pair := 2 }, home := 2, pair := 2, st := .idle }
def tkB : Task := { tk with st := .running, inst := some { release := 0 } }
def m_c1 : Mod := { m0 with pge := { tasks := [(3, tkB)], running := [(4, 3)] } }
def buf6 : List Byte := List.replicate 144 0
def mIdle : Mod := { m0 with pge := { tasks := [(3, tk)] } }

theorem witness_PairsPassSelftest :
  ((mPair PairSt.selftest).pwr.st ≠ PState.off ∧ (pairOf (mPair PairSt.selftest) 2).st = PairSt.selftest) ∧
  ((mPair6 PairSt.selftest).pwr.st ≠ PState.off ∧ (pairOf (mPair6 PairSt.selftest) 6).st = PairSt.selftest) ∧
  ((mPair PairSt.selftest).pwr.st ≠ PState.off ∧ (pairOf (mPair PairSt.selftest) 2).st = PairSt.selftest ∧ anyTrial (mPair PairSt.selftest) = false) ∧
  (opReady (seen (st (mPair PairSt.lost)) 9) 9 q0 = true ∧ notLead (seen (st (mPair PairSt.lost)) 9) = false ∧ 2 < 8 ∧ ((pairOf (mPair PairSt.lost) 2).st = PairSt.lost ∨ (pairOf (mPair PairSt.lost) 2).st = PairSt.down)) ∧
  (opReady (seen (st (mPair PairSt.joined)) 9) 9 q0 = true ∧ notLead (seen (st (mPair PairSt.joined)) 9) = false ∧ 2 < 8 ∧ (pairOf (mPair PairSt.joined) 2).st ≠ PairSt.lost ∧ (pairOf (mPair PairSt.joined) 2).st ≠ PairSt.down) := by
  refine ⟨⟨?_, ?_⟩, ⟨?_, ?_⟩, ⟨?_, ?_, ?_⟩, ⟨?_, ?_, ?_⟩, ⟨?_, ?_, ?_, ?_⟩⟩ <;> decide +kernel

theorem witness_MismatchLosesPair :
  (m_c1.pwr.st ≠ PState.off ∧ anyTrial m_c1 = false ∧ 2 < 6 ∧ (pairOf m_c1 2).st = PairSt.joined ∧ m_c1.flt.f3 = false ∧ m_c1.pwr.st ≠ PState.fail ∧ (∀ e ∈ m_c1.pge.tasks, e.2.pair = 2 → e.2.rcd.cls ≠ 0)) ∧
  (m0.pwr.st ≠ PState.off ∧ anyTrial m0 = false ∧ (7 = 6 ∨ 7 = 7) ∧ (pairOf m0 7).st = PairSt.joined) := by
  refine ⟨⟨?_, ?_, ?_, ?_, ?_, ?_, ?_⟩, ⟨?_, ?_, ?_, ?_⟩⟩ <;> decide +kernel

/-- Of the pairs of this state only pair 2 drains. -/
theorem draining_alone : ∀ o : Nat, o ≠ 2 → (pairOf (mPair .draining) o).st ≠ .draining := by
  intro o ho
  rcases o with _ | _ | _ | _ | _ | _ | _ | _ | n <;>
    first | exact absurd rfl ho | decide +kernel | simp [pairOf, mPair, setPair, m0, tset, tget]

theorem witness_SplitAndJoin :
  (opReady (seen (st mIdle) 9) 7 q0 = true ∧ notLead (seen (st mIdle) 9) = false ∧ splitRefusal (seen (st mIdle) 9) 2 buf6 = none) ∧
  (opReady (seen (st mIdle) 9) 7 q0 = true ∧ notLead (seen (st mIdle) 9) = false ∧ splitRefusal (seen (st mIdle) 9) 2 [] = some Status.badField) ∧
  ((mPair PairSt.draining).pwr.st ≠ PState.off ∧ (pairOf (mPair PairSt.draining) 2).st = PairSt.draining ∧ (∀ (o : ℕ), o ≠ 2 → (pairOf (mPair PairSt.draining) o).st ≠ PairSt.draining) ∧ (∀ e ∈ (mPair PairSt.draining).pge.tasks, e.2.pair = 2 → e.2.rcd.cls ≠ 1)) ∧
  (opReady (seen (st (mPair PairSt.split)) 9) 8 q0 = true ∧ notLead (seen (st (mPair PairSt.split)) 9) = false ∧ 2 < 6 ∧ (pairOf (mPair PairSt.split) 2).st = PairSt.split) ∧
  ((mPair PairSt.joining).pwr.st ≠ PState.off ∧ (pairOf (mPair PairSt.joining) 2).st = PairSt.joining ∧ ((∀ e ∈ (mPair PairSt.joining).pge.tasks, e.2.pair = 2 → e.2.coreB = true → e.2.busy = false) ∨ (pairOf (mPair PairSt.joining) 2).joinAt + 100000000 ≤ max (mPair PairSt.joining).clk 100000000)) := by
  refine ⟨⟨?_, ?_⟩, ⟨?_, ?_⟩, ⟨?_, ?_, ?_, ?_⟩, ⟨?_, ?_, ?_⟩, ⟨?_, ?_, ?_⟩⟩ <;> first | decide +kernel | exact draining_alone

end Sys2Proof.Tests.C

namespace Sys2Proof.Tests.D

def vw (v : Val) : View := { val := v, qual := 0xC000, time := 0, wrap := 0 }
def sgB : SigRec := { ty := 0 }
def sgI : SigRec := { ty := 1 }
def sgR : SigRec := { ty := 4, val := 9 }
def mDuo : Mod := { m0 with tri := { seat := 1, mode := 2, role := .lead, inStep := 3, st := .inStep, roles := [(1, .lead), (2, .second)] } }
def mTri : Mod := { m0 with tri := { seat := 1, mode := 3, role := .lead, inStep := 7, st := .inStep, roles := [(1, .lead), (2, .second), (3, .standby)] } }
def fr (v : Val) : RoundFrame := { round := 5, inputs := [], outputs := [{ out := 3, val := v, qual := 0xC000 }], navWrites := [], signature := 0 }
def rd : Round := { no := 0, began := 0, own := fr 0 }
def mRnd : Mod := { mTri with tri := { mTri.tri with rounds := [rd] } }
def rdS : Round := { rd with own := { fr 0 with signature := 1 }, frames := [(2, { fr 0 with signature := 1 }), (3, { fr 0 with signature := 2 })] }
def rdM : Round := { rd with own := { fr 0 with signature := 2 }, frames := [(2, { fr 0 with signature := 1 }), (3, { fr 0 with signature := 1 })] }
def mSigA : Mod := { mTri with tri := { mTri.tri with rounds := [rdS] } }
def mSigB : Mod := { mTri with tri := { mTri.tri with rounds := [rdM] } }
def mMiss : Mod := { mDuo with tri := { mDuo.tri with missing := [(2, 3)] } }
def mMissB : Mod := { mDuo with tri := { mDuo.tri with missing := [(2, 3)], beats := [(2, 5)] } }
def mMissL : Mod := { mMissB with tri := { mMissB.tri with roles := [(1, .second), (2, .lead)], role := .second } }
def m_d1 : Mod := { mDuo with tri := { mDuo.tri with t1 := true } }
def mSeat (x : SeatSt) : Mod := { m0 with tri := { seat := 1, st := x, epoch := 4 } }
def cl2 : Claim := { seat := 2, epoch := 4, version := 7, running := false }
def mClaim : Mod := { mSeat .claiming with tri := { (mSeat .claiming).tri with claimAt := some 5, claims := [cl2] } }
def mAlone (b : Bool) : Mod := { mSeat .claiming with tri := { (mSeat .claiming).tri with claimAt := some 5, soloStart := b } }
def m_d2 : Mod := { mSeat .alone with nv := { triRetry := some 5 } }
def m_d3 : Mod := { mDuo with tri := { mDuo.tri with followers := [(1, 8), (2, 8)] } }
def m_d4 : Mod := { mSeat .delta with tri := { (mSeat .delta).tri with passesDone := true } }
def mShadow : Mod := { mSeat .shadow with tri := { (mSeat .shadow).tri with resyncAt := some 5, resyncSeat := 1, compared := true, matching := 1000, inStep := 6 } }
def m_d5 : Mod := { mDuo with tri := { mDuo.tri with resyncAt := some 5, resyncSeat := 3 } }

theorem witness_VotedValues :
  (isGood (vw 5).qual = true ∧ isGood (vw 5).qual = true ∧ isGood (vw 6).qual = true ∧ mTri.tri.mode ≠ 1 ∧ sgI.ty ≠ 4 ∧ sgI.ty ≠ 5 ∧ (vw 5).val = (vw 5).val) ∧
  (isGood (vw 5).qual = true ∧ isGood (vw 6).qual = true ∧ isGood (vw 7).qual = true ∧ mTri.tri.mode ≠ 1 ∧ sgI.ty ≠ 4 ∧ sgI.ty ≠ 5 ∧ (vw 5).val ≠ (vw 6).val) ∧
  (isGood (vw 5).qual = true ∧ isGood (vw 5).qual = true ∧ isGood (vw 6).qual = true ∧ mTri.tri.mode ≠ 1 ∧ sgI.ty ≠ 4 ∧ sgI.ty ≠ 5) ∧
  (isGood (vw 1065353216).qual = true ∧ isGood (vw 1073741824).qual = true ∧ isGood (vw 1077936128).qual = true ∧ mTri.tri.mode ≠ 1 ∧ sgR.ty = 4 ∧ eq32 (valReal (vw 1065353216).val) (valReal (vw 1073741824).val) = false ∧ aiOwner mTri sgR = none) ∧
  (isGood (vw 1065353216).qual = true ∧ isGood (vw 1073741824).qual = true ∧ isGood (vw 1077936128).qual = true ∧ mTri.tri.mode ≠ 1 ∧ sgR.ty = 4 ∧ le32 (valReal (vw 1065353216).val) (valReal (vw 1073741824).val) = true ∧ le32 (valReal (vw 1073741824).val) (valReal (vw 1077936128).val) = true ∧ isNan32 (valReal (vw 1065353216).val) = false ∧ isNan32 (valReal (vw 1073741824).val) = false ∧ isNan32 (valReal (vw 1077936128).val) = false) ∧
  (isGood (vw 1065353216).qual = true ∧ isGood (vw 1073741824).qual = true ∧ isGood (vw 1077936128).qual = true ∧ mTri.tri.mode ≠ 1 ∧ sgR.ty = 4) ∧
  (isGood (vw 1065353216).qual = true ∧ isGood (vw 1073741824).qual = true ∧ isGood (vw 1077936128).qual = true ∧ mTri.tri.mode ≠ 1) := by
  refine ⟨⟨?_, ?_, ?_, ?_, ?_, ?_, ?_⟩, ⟨?_, ?_, ?_, ?_, ?_, ?_, ?_⟩, ⟨?_, ?_, ?_, ?_, ?_, ?_⟩, ⟨?_, ?_, ?_, ?_, ?_, ?_, ?_⟩, ⟨?_, ?_, ?_, ?_, ?_, ?_, ?_, ?_, ?_, ?_⟩, ⟨?_, ?_, ?_, ?_, ?_⟩, ⟨?_, ?_, ?_, ?_⟩⟩ <;> decide +kernel

theorem witness_OutputsCompared :
  (cmdOf (fr 1) 3 = cmdOf (fr 1) 3) ∧
  (cmdOf (fr 1) 3 ≠ cmdOf (fr 2) 3) := by
  refine ⟨?_, ?_⟩ <;> decide +kernel

theorem witness_RoundsRun :
  (mTri.pwr.st ≠ PState.off ∧ mTri.tri.mode ≠ 0 ∧ mTri.pwr.st ≠ PState.fail ∧ mTri.sec.debug ≠ Debug.full ∧ mTri.pwr.epoch ≤ nowNs (seen (st mTri) 0) ∧ (nowNs (seen (st mTri) 0) - mTri.pwr.epoch) % 100000 = 0 ∧ (∀ x ∈ mTri.tri.rounds, x.no ≠ BitVec.ofNat 32 ((nowNs (seen (st mTri) 0) - mTri.pwr.epoch) / 100000))) ∧
  (mRnd.pwr.st ≠ PState.off ∧ mRnd.tri.seat ≠ 0 ∧ 2 ≠ mRnd.tri.seat ∧ 1 ≤ 2 ∧ 2 ≤ 3) ∧
  (mRnd.pwr.st ≠ PState.off ∧ List.find? (fun x => !x.closed && decide (x.began + 170000 ≤ max mRnd.clk 170000)) mRnd.tri.rounds = some rd) ∧
  (mRnd.pwr.st ≠ PState.off ∧ mRnd.tri.rounds.head? = some rd ∧ rd.began + 200000 ≤ max mRnd.clk 200000) ∧
  (mTri.pwr.st ≠ PState.off ∧ mTri.tri.seat ≠ 0 ∧ mTri.tri.mode ≠ 0 ∧ (∀ (x : ℕ), mTri.tri.beatAt = some x → x + 1000000 ≤ max mTri.clk 9)) ∧
  (mTri.pwr.st ≠ PState.off ∧ mTri.tri.seat ≠ 0 ∧ 3 ≠ mTri.tri.seat ∧ 1 ≤ 3 ∧ 3 ≤ 3) := by
  refine ⟨⟨?_, ?_, ?_, ?_, ?_, ?_, ?_⟩, ⟨?_, ?_, ?_, ?_, ?_⟩, ⟨?_, ?_⟩, ⟨?_, ?_, ?_⟩, ⟨?_, ?_, ?_, ?_⟩, ⟨?_, ?_, ?_, ?_, ?_⟩⟩ <;> decide +kernel

theorem witness_SeatsAreExcluded :
  (mSigA.pwr.st ≠ PState.off ∧ anyTrial mSigA = false ∧ mSigA.tri.rounds.head? = some rdS ∧ BitVec.toNat rdS.no % 1000 = 0 ∧ List.filterMap (fun n => if n = mSigA.tri.seat then some (n, rdS.own.signature) else Option.map (fun f => (n, f.signature)) (tget rdS.frames n)) (voters mSigA) = [(1, 1), (2, 1), (3, 2)] ∧ ([(1, (1 : W32)), (2, (1 : W32)), (3, (2 : W32))] = [(1, (1 : W32)), (2, (1 : W32)), (3, (2 : W32))] ∨ [(1, (1 : W32)), (2, (1 : W32)), (3, (2 : W32))] = [(1, (1 : W32)), (3, (2 : W32)), (2, (1 : W32))] ∨ [(1, (1 : W32)), (2, (1 : W32)), (3, (2 : W32))] = [(3, (2 : W32)), (1, (1 : W32)), (2, (1 : W32))]) ∧ (1, (1 : W32)).2 = (2, (1 : W32)).2 ∧ (3, (2 : W32)).2 ≠ (1, (1 : W32)).2 ∧ (3, 2).1 ≠ mSigA.tri.seat) ∧
  (mSigB.pwr.st ≠ PState.off ∧ anyTrial mSigB = false ∧ mSigB.tri.rounds.head? = some rdM ∧ BitVec.toNat rdM.no % 1000 = 0 ∧ List.filterMap (fun n => if n = mSigB.tri.seat then some (n, rdM.own.signature) else Option.map (fun f => (n, f.signature)) (tget rdM.frames n)) (voters mSigB) = [(1, 2), (2, 1), (3, 1)] ∧ ([(1, (2 : W32)), (2, (1 : W32)), (3, (1 : W32))] = [(2, (1 : W32)), (3, (1 : W32)), (1, (2 : W32))] ∨ [(1, (2 : W32)), (2, (1 : W32)), (3, (1 : W32))] = [(2, (1 : W32)), (1, (2 : W32)), (3, (1 : W32))] ∨ [(1, (2 : W32)), (2, (1 : W32)), (3, (1 : W32))] = [(1, (2 : W32)), (2, (1 : W32)), (3, (1 : W32))]) ∧ (2, (1 : W32)).2 = (3, (1 : W32)).2 ∧ (1, (2 : W32)).2 ≠ (2, (1 : W32)).2 ∧ (1, 2).1 = mSigB.tri.seat) ∧
  (mMiss.pwr.st ≠ PState.off ∧ anyTrial mMiss = false ∧ 2 ≠ mMiss.tri.seat ∧ 2 ∈ voters mMiss ∧ 2 ∉ mMiss.tri.leaving ∧ 3 ≤ (tget mMiss.tri.missing 2).getD 0 ∧ (∀ (x : ℕ), tget mMiss.tri.beats 2 = some x → x + 2000000 ≤ max mMiss.clk 9)) ∧
  (mMissB.pwr.st ≠ PState.off ∧ anyTrial mMissB = false ∧ 2 ≠ mMissB.tri.seat ∧ 2 ∈ voters mMissB ∧ 2 ∉ mMissB.tri.leaving ∧ 3 ≤ (tget mMissB.tri.missing 2).getD 0 ∧ tget mMissB.tri.beats 2 = some 5 ∧ max mMissB.clk 9 < 5 + 2000000 ∧ (ranked mMissB [2, mMissB.tri.seat]).getLastD 2 = 2) ∧
  (mMissL.pwr.st ≠ PState.off ∧ anyTrial mMissL = false ∧ 2 ≠ mMissL.tri.seat ∧ 2 ∈ voters mMissL ∧ 2 ∉ mMissL.tri.leaving ∧ 3 ≤ (tget mMissL.tri.missing 2).getD 0 ∧ tget mMissL.tri.beats 2 = some 5 ∧ max mMissL.clk 9 < 5 + 2000000 ∧ (ranked mMissL [2, mMissL.tri.seat]).getLastD 2 = mMissL.tri.seat) ∧
  (m_d1.pwr.st ≠ PState.off ∧ anyTrial m_d1 = false ∧ m_d1.tri.seat ≠ 0 ∧ (if false = true then m_d1.tri.t2 else m_d1.tri.t1) = true) ∧
  (mDuo.pwr.st ≠ PState.off ∧ anyTrial mDuo = false ∧ mDuo.pwr.st ≠ PState.fail) := by
  refine ⟨⟨?_, ?_, ?_, ?_, ?_, ?_, ?_, ?_, ?_⟩, ⟨?_, ?_, ?_, ?_, ?_, ?_, ?_, ?_, ?_⟩, ⟨?_, ?_, ?_, ?_, ?_, ?_, ?_⟩, ⟨?_, ?_, ?_, ?_, ?_, ?_, ?_, ?_, ?_⟩, ⟨?_, ?_, ?_, ?_, ?_, ?_, ?_, ?_, ?_⟩, ⟨?_, ?_, ?_, ?_⟩, ⟨?_, ?_, ?_⟩⟩ <;> decide +kernel

theorem witness_TriadForms :
  ((mSeat SeatSt.alone).pwr.st ≠ PState.off ∧ (mSeat SeatSt.alone).tri.seat ≠ 0 ∧ 2 ≠ (mSeat SeatSt.alone).tri.seat ∧ 1 ≤ 2 ∧ 2 ≤ 3) ∧
  ((mSeat SeatSt.claiming).pwr.st ≠ PState.off ∧ (mSeat SeatSt.claiming).tri.seat ≠ 0 ∧ 2 ≠ (mSeat SeatSt.claiming).tri.seat ∧ 1 ≤ 2 ∧ 2 ≤ 3 ∧ (mSeat SeatSt.claiming).tri.st = SeatSt.claiming) ∧
  (mDuo.pwr.st ≠ PState.off ∧ mDuo.tri.seat ≠ 0 ∧ 3 ≠ mDuo.tri.seat ∧ 1 ≤ 3 ∧ 3 ≤ 3 ∧ mDuo.tri.st = SeatSt.inStep ∧ mDuo.tri.resyncSeat = 0 ∧ 3 ∉ voters mDuo) ∧
  (mClaim.pwr.st ≠ PState.off ∧ mClaim.tri.st = SeatSt.claiming ∧ mClaim.tri.claimAt = some 5 ∧ max mClaim.clk 9 ≤ 5 + 10000000000 ∧ mClaim.tri.claims = [cl2] ∧ cl2.epoch = mClaim.tri.epoch ∧ cl2.running = false ∧ mClaim.tri.seat ≤ 3 ∧ 1 ≤ cl2.seat ∧ cl2.seat ≤ 3 ∧ 1 ≤ mClaim.tri.seat ∧ cl2.seat ≠ mClaim.tri.seat) ∧
  ((mAlone false).pwr.st ≠ PState.off ∧ (mAlone false).tri.st = SeatSt.claiming ∧ (mAlone false).tri.claimAt = some 5 ∧ 5 + 10000000000 ≤ max (mAlone false).clk 10000000005 ∧ (mAlone false).tri.claims = [] ∧ (mAlone false).tri.soloStart = false) ∧
  ((mAlone true).pwr.st ≠ PState.off ∧ (mAlone true).tri.st = SeatSt.claiming ∧ (mAlone true).tri.claimAt = some 5 ∧ 5 + 10000000000 ≤ max (mAlone true).clk 10000000005 ∧ (mAlone true).tri.claims = [] ∧ (mAlone true).tri.soloStart = true) ∧
  (m_d2.pwr.st ≠ PState.off ∧ m_d2.nv.triRetry = some 5 ∧ 5 + 60000000000 ≤ max m_d2.clk 60000000005 ∧ m_d2.tri.st = SeatSt.alone ∧ 5 ≤ m_d2.pwr.startStep ∧ m_d2.tri.seat ≠ 0 ∧ (recentOuts (seen (st m_d2) 60000000005)).length < 3) ∧
  ((mSeat SeatSt.out).pwr.st ≠ PState.off ∧ opReady (seen (st (mSeat SeatSt.out)) 9) 10 q0 = true ∧ (mSeat SeatSt.out).tri.st = SeatSt.out ∧ (mSeat SeatSt.out).tri.seat ≠ 0) ∧
  (m_d3.pwr.st ≠ PState.off ∧ opReady (seen (st m_d3) 9) 11 q0 = true ∧ notLead (seen (st m_d3) 9) = false ∧ m_d3.tri.seat ≠ 0 ∧ m_d3.tri.mode ≠ 0 ∧ m_d3.tri.switch = none ∧ m_d3.tri.followers ≠ [] ∧ m_d3.tri.epoch < 8 ∧ (∀ f ∈ m_d3.tri.followers, f.2 = 8) ∧ (voters m_d3).length ≤ List.length m_d3.tri.followers) := by
  refine ⟨⟨?_, ?_, ?_, ?_, ?_⟩, ⟨?_, ?_, ?_, ?_, ?_, ?_⟩, ⟨?_, ?_, ?_, ?_, ?_, ?_, ?_, ?_⟩, ⟨?_, ?_, ?_, ?_, ?_, ?_, ?_, ?_, ?_, ?_, ?_, ?_⟩, ⟨?_, ?_, ?_, ?_, ?_, ?_⟩, ⟨?_, ?_, ?_, ?_, ?_, ?_⟩, ⟨?_, ?_, ?_, ?_, ?_, ?_, ?_⟩, ⟨?_, ?_, ?_, ?_⟩, ⟨?_, ?_, ?_, ?_, ?_, ?_, ?_, ?_, ?_⟩⟩ <;> decide +kernel

theorem witness_ResyncSteps :
  ((mSeat SeatSt.bulk).pwr.st ≠ PState.off ∧ (mSeat SeatSt.bulk).tri.st = SeatSt.bulk) ∧
  ((mSeat SeatSt.delta).pwr.st ≠ PState.off ∧ (mSeat SeatSt.delta).tri.st = SeatSt.delta ∧ (mSeat SeatSt.delta).tri.passesDone = false) ∧
  (m_d4.pwr.st ≠ PState.off ∧ m_d4.tri.st = SeatSt.delta ∧ m_d4.tri.passesDone = true) ∧
  ((mSeat SeatSt.shadow).pwr.st ≠ PState.off ∧ (mSeat SeatSt.shadow).tri.st = SeatSt.shadow) ∧
  (mShadow.pwr.st ≠ PState.off ∧ mShadow.tri.resyncAt.isSome = true ∧ mShadow.tri.resyncSeat = mShadow.tri.seat ∧ mShadow.tri.seat ≠ 0 ∧ mShadow.tri.st = SeatSt.shadow ∧ mShadow.tri.compared = true ∧ 1000 ≤ mShadow.tri.matching ∧ (∀ (k : ℕ), triadEpochOf mShadow k = mShadow.tri.epoch)) ∧
  (m_d5.pwr.st ≠ PState.off ∧ m_d5.tri.resyncAt.isSome = true ∧ m_d5.tri.resyncSeat ≠ 0 ∧ m_d5.tri.resyncSeat ≠ m_d5.tri.seat ∧ triadEpochOf m_d5 m_d5.tri.resyncSeat = m_d5.tri.epoch) ∧
  (mShadow.pwr.st ≠ PState.off ∧ mShadow.tri.resyncAt.isSome = true ∧ mShadow.tri.resyncSeat = mShadow.tri.seat) := by
  refine ⟨⟨?_, ?_⟩, ⟨?_, ?_, ?_⟩, ⟨?_, ?_, ?_⟩, ⟨?_, ?_⟩, ⟨?_, ?_, ?_, ?_, ?_, ?_, ?_, ?_⟩, ⟨?_, ?_, ?_, ?_, ?_⟩, ⟨?_, ?_, ?_⟩⟩ <;> first | decide +kernel | exact fun _ => rfl

end Sys2Proof.Tests.D

namespace Sys2Proof.Tests.E

def un (x : Mode) : Machine.Unit := { mode := x, allowed := 0x1F }
/-- Unit 1 below unit 0, and unit 2 below unit 1. -/
def mUnits (a b c : Mode) : Mod := { m0 with sig := { unit0 := un a, units := [(1, un b), (2, { un c with parent := 1 })] } }
def unLow : Machine.Unit := { mode := .auto, allowed := 0x04 }
def mLow : Mod := { m0 with sig := { units := [(1, unLow)] } }
def mCause : Mod := { mUnits .auto .safe .auto with saf := { funcs := [(0, { st := .fault, unit := 0x00010001 })] } }
def unIlk : Machine.Unit := { un .hold with ilk := [0x00200003] }
def mIlk : Mod := { m0 with sig := { units := [(1, unIlk), (2, { un .auto with parent := 1 })], sigs := [(3, { qual := 0xC000, val := 1 })] } }
def wc (b : Bool) : WalkCmd := { unit := 1, mode := some .hold, aon := b, c1 := false, req := none }
def mWalking : Mod := { mUnits .auto .auto .auto with sig := { (mUnits .auto .auto .auto).sig with walking := [wc true] } }
def sp (w tk : Nat) : PStep := { pauseOnRefusal := false, wait := w, actFirst := 0, actCount := 0, condOp := 0, next := 1, alt := 2, ticks := tk, condSig := 0x00200003, condVal := 0, condBand := 0 }
def pl (x : PlState) (w tk : Nat) : Plan := { st := x, steps := [sp w tk, sp 0 0], stateSig := 0 }
def mPlan (p : Plan) : Mod := { m0 with pln := { plans := [(5, p)] } }
def plR : Plan := { pl .running 1 2000 with inStep := 1000, remain := 1000 }
def jr : JRec := { seq := 1, plan := 5, kind := 1, cause := 4, fromStep := 0, toStep := 0, time := 0, wrapCount := 0, starts := 1, version := 1, inStep := 0, remain := 2000, status := .ok, source := 1, slot := 0, trace := false }
def mSlot : Mod := { mPlan plR with nv := { slots := [(5, { copyA := some jr, nextB := true })] } }
def pc (o : Nat) : PlanCmd := { plan := 5, op := o, step := 1, source := 1, req := none }
def plAb : Plan := { pl .running 2 0 with abortStep := 1 }
def mCond : Mod := { m0 with sig := { sigs := [(3, { qual := 0xC000, val := 1 })] } }
def plRamp : Plan := { pl .running 5 0 with ramps := [{ sig := 3, target := 0, rate := 0, every := 1, left := 1, ofStep := true }] }
def m_e1 : Mod := { m0 with fio := { chans := [(3, { enabled := true, rcd := { function := 6 } })] } }
def cCal : Chan := { calFn := 7 }
def ch (c : Chan) : Mod := { m0 with fio := { chans := [(3, c)], calEn := true } }
def cWait : Chan := { calFn := 7, calWait := some (1, q0, 0, 0) }
def cPts : Chan := { calFn := 6, calPts := [(0, (0x40800000, 0, 0x40800000, 0)), (1, (0x41A00000, 0, 0x41A00000, 0))] }
def m_e2 : Mod := { m0 with nv := { cal := [(3, { channel := 4 })] } }

theorem witness_ModesAreJudged :
  (unitAt (mUnits Mode.auto Mode.auto Mode.auto) 1 = some (un Mode.auto) ∧ (un Mode.auto).mode = Mode.auto) ∧
  (unitAt (mUnits Mode.auto Mode.auto Mode.auto) 1 = some (un Mode.auto)) ∧
  (unitAt mLow 1 = some unLow ∧ unLow.mode ≠ Mode.hold ∧ Mode.hold ≠ Mode.safe ∧ bitOf unLow.allowed.toNat (modeNo Mode.hold) = false) ∧
  (unitAt (mUnits Mode.auto Mode.off Mode.auto) 1 = some (un Mode.off) ∧ (un Mode.off).mode = Mode.off) ∧
  (unitAt (mUnits Mode.auto Mode.safe Mode.auto) 1 = some (un Mode.safe) ∧ (un Mode.safe).mode = Mode.safe) ∧
  (unitAt mCause 1 = some (un Mode.safe) ∧ (un Mode.safe).mode = Mode.safe ∧ causeActive mCause 1 = true ∧ Mode.off ≠ Mode.safe) ∧
  (unitAt (mUnits Mode.auto Mode.hold Mode.auto) 1 = some (un Mode.hold) ∧ (un Mode.hold).mode ≠ Mode.manual ∧ (un Mode.hold).mode ≠ Mode.safe ∧ (Mode.manual = Mode.manual ∨ Mode.manual = Mode.auto) ∧ bitOf (un Mode.hold).allowed.toNat (modeNo Mode.manual) = true) ∧
  (unitAt mIlk 1 = some unIlk ∧ unIlk.mode ≠ Mode.manual ∧ unIlk.mode ≠ Mode.safe ∧ (Mode.manual = Mode.manual ∨ Mode.manual = Mode.auto) ∧ bitOf unIlk.allowed.toNat (modeNo Mode.manual) = true) ∧
  (unitAt (mUnits Mode.auto Mode.safe Mode.auto) 1 = some (un Mode.safe) ∧ (un Mode.safe).mode = Mode.safe ∧ causeActive (mUnits Mode.auto Mode.safe Mode.auto) 1 = false ∧ bitOf (un Mode.safe).allowed.toNat 0 = true) := by
  refine ⟨⟨?_, ?_⟩, ?_, ⟨?_, ?_, ?_, ?_⟩, ⟨?_, ?_⟩, ⟨?_, ?_⟩, ⟨?_, ?_, ?_, ?_⟩, ⟨?_, ?_, ?_, ?_, ?_⟩, ⟨?_, ?_, ?_, ?_, ?_⟩, ⟨?_, ?_, ?_, ?_⟩⟩ <;> decide +kernel

theorem witness_ModeCommandsWalk :
  ((wc true).mode = some Mode.hold ∧ (wc true).aon = true ∧ (∃ i ∈ subtree (mUnits Mode.auto Mode.off Mode.auto) (wc true).unit, (judgeMode (mUnits Mode.auto Mode.off Mode.auto) i Mode.hold).isSome = true)) ∧
  ((wc true).mode = some Mode.hold ∧ (∀ i ∈ subtree (mUnits Mode.auto Mode.auto Mode.auto) (wc true).unit, judgeMode (mUnits Mode.auto Mode.auto Mode.auto) i Mode.hold = none)) := by
  refine ⟨⟨?_, ?_, ?_⟩, ⟨?_, ?_⟩⟩ <;> decide +kernel

theorem witness_UnitCommands :
  (opReady (seen (st (mUnits Mode.auto Mode.auto Mode.auto)) 9) 32 q1 = true ∧ notLead (seen (st (mUnits Mode.auto Mode.auto Mode.auto)) 9) = false ∧ judgeUnit (mUnits Mode.auto Mode.auto Mode.auto) 65537 = Except.ok 1 ∧ modeOfNo 3 = some Mode.hold) ∧
  (opReady (seen (st (mUnits Mode.auto Mode.hold Mode.auto)) 9) 33 q1 = true ∧ notLead (seen (st (mUnits Mode.auto Mode.hold Mode.auto)) 9) = false ∧ judgeUnit (mUnits Mode.auto Mode.hold Mode.auto) 65537 = Except.ok 1) ∧
  (walkBusy mWalking (wc false) = true) ∧
  (walkBusy (mUnits Mode.auto Mode.auto Mode.auto) (wc false) = false) ∧
  (mWalking.pwr.st ≠ PState.off) ∧
  (mWalking.pwr.st ≠ PState.off ∧ mWalking.sig.walkQ = []) ∧
  (mIlk.pwr.st ≠ PState.off ∧ ilkHere mIlk 1 = true) ∧
  (mIlk.pwr.st ≠ PState.off) := by
  refine ⟨⟨?_, ?_, ?_⟩, ⟨?_, ?_⟩, ?_, ?_, ?_, ⟨?_, ?_⟩, ⟨?_, ?_⟩, ?_⟩ <;> decide +kernel

theorem witness_RollUpComputes :
  (unitAt (mUnits Mode.auto Mode.auto Mode.auto) 1 = some (un Mode.auto)) := by decide +kernel

theorem witness_PlanCommands :
  (opReady (seen (st (mPlan (pl PlState.idle 2 0))) 9) 34 q1 = true ∧ notLead (seen (st (mPlan (pl PlState.idle 2 0))) 9) = false ∧ planRefusal (mPlan (pl PlState.idle 2 0)) 5 0 1 = none) ∧
  (opReady (seen (st (mPlan (pl PlState.running 2 0))) 9) 34 q1 = true ∧ notLead (seen (st (mPlan (pl PlState.running 2 0))) 9) = false ∧ planRefusal (mPlan (pl PlState.running 2 0)) 5 1 0 = none) ∧
  (opReady (seen (st (mPlan (pl PlState.paused 2 0))) 9) 34 q1 = true ∧ notLead (seen (st (mPlan (pl PlState.paused 2 0))) 9) = false ∧ planRefusal (mPlan (pl PlState.paused 2 0)) 5 2 0 = none) ∧
  (opReady (seen (st (mPlan (pl PlState.aborting 2 0))) 9) 34 q1 = true ∧ notLead (seen (st (mPlan (pl PlState.aborting 2 0))) 9) = false ∧ planRefusal (mPlan (pl PlState.aborting 2 0)) 5 3 0 = none) ∧
  (opReady (seen (st (mPlan (pl PlState.idle 2 0))) 9) 34 q1 = true ∧ notLead (seen (st (mPlan (pl PlState.idle 2 0))) 9) = false ∧ planRefusal (mPlan (pl PlState.idle 2 0)) 5 0 2 = some Status.badField) ∧
  ((mPlan (pl PlState.running 2 0)).pwr.st ≠ PState.off ∧ ctlRuns (mPlan (pl PlState.running 2 0)) = true ∧ onInstant (seen (st (mPlan (pl PlState.running 2 0))) 100000) 100 0 = true) ∧
  (mSlot.pwr.st ≠ PState.off ∧ tget mSlot.pln.plans 5 = some plR ∧ (plR.st = PlState.running ∨ plR.st = PlState.aborting) ∧ plR.now.ticks ≠ 0 ∧ plR.inStep ≠ 0 ∧ plR.inStep % 1000 = 0 ∧ (if ((tget mSlot.nv.slots 5).getD { }).nextB = true then ((tget mSlot.nv.slots 5).getD { }).copyA else ((tget mSlot.nv.slots 5).getD { }).copyB) = some jr) := by
  refine ⟨⟨?_, ?_⟩, ⟨?_, ?_⟩, ⟨?_, ?_⟩, ⟨?_, ?_⟩, ⟨?_, ?_⟩, ⟨?_, ?_, ?_⟩, ⟨?_, ?_, ?_, ?_, ?_, ?_, ?_⟩⟩ <;> decide +kernel

theorem witness_PlanTransitions :
  (tget (mPlan (pl PlState.idle 2 0)).pln.plans (pc 0).plan = some (pl PlState.idle 2 0) ∧ (pc 0).op = 0 ∧ (pl PlState.idle 2 0).st = PlState.idle) ∧
  (tget (mPlan (pl PlState.running 2 0)).pln.plans (pc 1).plan = some (pl PlState.running 2 0) ∧ (pc 1).op = 1 ∧ ((pl PlState.running 2 0).st = PlState.running ∨ (pl PlState.running 2 0).st = PlState.aborting)) ∧
  (tget (mPlan (pl PlState.paused 2 0)).pln.plans (pc 2).plan = some (pl PlState.paused 2 0) ∧ (pc 2).op = 2 ∧ (pl PlState.paused 2 0).st = PlState.paused) ∧
  (tget (mPlan (pl PlState.running 2 0)).pln.plans (pc 3).plan = some (pl PlState.running 2 0) ∧ (pc 3).op = 3 ∧ (pl PlState.running 2 0).st ≠ PlState.idle ∧ ((pl PlState.running 2 0).aborting = true ∨ (pl PlState.running 2 0).abortStep = 65535)) ∧
  (tget (mPlan plAb).pln.plans (pc 3).plan = some plAb ∧ (pc 3).op = 3 ∧ plAb.st ≠ PlState.idle ∧ plAb.aborting = false ∧ plAb.abortStep ≠ 65535) := by
  refine ⟨⟨?_, ?_, ?_⟩, ⟨?_, ?_, ?_⟩, ⟨?_, ?_, ?_⟩, ⟨?_, ?_, ?_, ?_⟩, ⟨?_, ?_, ?_, ?_, ?_⟩⟩ <;> decide +kernel

theorem witness_WaitKinds :
  ((pl PlState.running 0 0).now.wait = 0) ∧
  ((pl PlState.running 1 3).now.wait = 1) ∧
  ((pl PlState.running 2 3).now.wait = 2) ∧
  ((pl PlState.running 3 3).now.wait = 3 ∧ condHolds m0 (pl PlState.running 3 3).now = false) ∧
  ((pl PlState.running 4 3).now.wait = 4 ∧ condHolds mCond (pl PlState.running 4 3).now = true) ∧
  (plRamp.now.wait = 5 ∧ (∃ r ∈ plRamp.ramps, r.ofStep = true) ∧ plRamp.now.ticks = 0) ∧
  ((pl PlState.running 6 0).now.wait = 6) := by
  refine ⟨?_, ?_, ?_, ⟨?_, ?_⟩, ⟨?_, ?_⟩, ⟨?_, ?_, ?_⟩, ?_⟩ <;> decide +kernel

theorem witness_Calibration :
  (3 < 256 ∧ opReady (seen (st m_e1) 9) 16 q0 = true ∧ notLead (seen (st m_e1) 9) = false ∧ (chanOf m_e1 3).used = true) ∧
  (3 < 256 ∧ opReady (seen (st m0) 9) 16 q0 = true ∧ notLead (seen (st m0) 9) = false ∧ (chanOf m0 3).used = false ∧ (6 = 6 ∨ 6 = 7)) ∧
  (3 < 256 ∧ opReady (seen (st (ch cCal)) 9) 17 q0 = true ∧ notLead (seen (st (ch cCal)) 9) = false ∧ (chanOf (ch cCal) 3).used = false ∧ 1 ≤ 1 ∧ (chanOf (ch cCal) 3).calFn ≠ 0 ∧ (chanOf (ch cCal) 3).calWait = none) ∧
  (3 < 256 ∧ (ch cWait).pwr.st ≠ PState.off ∧ (chanOf (ch cWait) 3).calWait = some (1, q0, 0, 0)) ∧
  (3 < 256 ∧ opReady (seen (st (ch cPts)) 9) 18 q0 = true ∧ notLead (seen (st (ch cPts)) 9) = false ∧ (chanOf (ch cPts) 3).used = false ∧ (ch cPts).fio.calEn = true ∧ tget (chanOf (ch cPts) 3).calPts 0 = some (1082130432, 0, 1082130432, 0) ∧ tget (chanOf (ch cPts) 3).calPts 1 = some (1101004800, 0, 1101004800, 0) ∧ (fitRecord (ch cPts) 3 (chanOf (ch cPts) 3).calFn (1082130432, 0, 1082130432, 0) (1101004800, 0, 1101004800, 0) 0 0).inRange = true) ∧
  (3 < 256 ∧ opReady (seen (st m0) 9) 18 q0 = true ∧ notLead (seen (st m0) 9) = false ∧ (chanOf m0 3).used = false ∧ m0.fio.calEn = false) ∧
  (3 < 256 ∧ opReady (seen (st (ch cWait)) 9) 19 q0 = true ∧ notLead (seen (st (ch cWait)) 9) = false ∧ (chanOf (ch cWait) 3).used = false) ∧
  (3 < 256 ∧ opReady (seen (st m0) 9) 20 q0 = true ∧ notLead (seen (st m0) 9) = false ∧ (chanOf m0 3).used = false) ∧
  (3 < 256 ∧ m_e2.pwr.st ≠ PState.off ∧ anyTrial m_e2 = false ∧ (calOf m_e2 3).valid 3 = false) := by
  refine ⟨⟨?_, ?_, ?_⟩, ⟨?_, ?_, ?_, ?_⟩, ⟨?_, ?_, ?_, ?_, ?_, ?_⟩, ⟨?_, ?_, ?_⟩, ⟨?_, ?_, ?_, ?_, ?_, ?_, ?_⟩, ⟨?_, ?_, ?_, ?_⟩, ⟨?_, ?_, ?_⟩, ⟨?_, ?_, ?_⟩, ⟨?_, ?_, ?_, ?_⟩⟩ <;> decide +kernel

end Sys2Proof.Tests.E

namespace Sys2Proof.Tests.F

def sg : SigRec := { ty := 4, ownKind := 7, ownId := 1, val := 5, qual := 0xC000 }
def mSg : Mod := { m0 with sig := { sigs := [(0, sg), (3, sg), (4, { sg with forced := true, ownId := 2 })] } }
def sgV : SigRec := { sg with ownKind := 1 }
def mVot : Mod := { m0 with sig := { sigs := [(3, sgV)] }, tri := { mode := 2, seat := 1, role := .lead, inStep := 3 } }
def sg2 : SigRec := { sg with forced := true, ownId := 2 }
def lr : LoopRec := { period := 20, apply := 5, pvSrc := 0x00200003, spSrc := 0x00200003, offValue := 3 }
def lp : Loop := { rcd := lr, enabled := true }
def mLp (l : Loop) : Mod := { m0 with lpe := { loops := [(5, l)] }, sig := { sigs := [(3, { ty := 4, qual := 0xC000 })] } }
def buf0 : List Byte := List.replicate 128 0
def bufL : List Byte := 32 :: List.replicate 127 0
def lpB : Loop := { lp with bank1 := [0, 0, 0, 0, 0, 0, 0, 0, 0, 0x3F800000, 0, 0, 0, 0, 0, 0] }
def m_f1 : Mod := { mLp lp with lpe := { (mLp lp).lpe with bankSwap := 0 } }
def lpFull : Loop := { lp with micro := some { count := 1300, curve := [], code := List.replicate 1300 0x30000000, raw := [] }, rcd := { lr with micro := true } }
def lo : LoopOut := { u := 7, u2 := none, qual := 0xC000, subst := false, i := 2, write := true, anchor := true, due := 9 }
def lpOff : Loop := { rcd := lr, offPending := true }
def lpOut : Loop := { lp with pendingOut := some lo }
def lpMd : Loop := { lp with reaction := some 2, mdSince := 5 }

theorem witness_OwnerWritesOneRecord :
  (sigAt mSg (hIdx 2097155) = some sg ∧ (2097155 : W32) ≠ (0 : W32) ∧ sg.isConst = false ∧ mSg.tri.mode = 0) ∧
  (sigAt mSg (hIdx 0) = some sg ∧ (0 = 0 ∨ sg.isConst = true)) ∧
  (sigAt mVot (hIdx 2097155) = some sgV ∧ (2097155 : W32) ≠ (0 : W32) ∧ sgV.isConst = false ∧ isVoted mVot sgV = true) ∧
  (sigAt mSg (hIdx 2097155) = some sg) := by
  refine ⟨⟨?_, ?_, ?_, ?_⟩, ⟨?_, ?_⟩, ⟨?_, ?_, ?_, ?_⟩, ?_⟩ <;> decide +kernel

theorem witness_SignalCommands :
  (judgeSig mSg 2097155 = Except.ok 3 ∧ sigAt mSg 3 = some sg ∧ opReady (seen (st mSg) 9) 38 q1 = true ∧ notLead (seen (st mSg) 9) = false ∧ forceCheck mSg sg 4 = none) ∧
  (judgeSig mSg 2097155 = Except.ok 3 ∧ sigAt mSg 3 = some sg ∧ opReady (seen (st mSg) 9) 38 q1 = true ∧ notLead (seen (st mSg) 9) = false ∧ forceCheck mSg sg 3 = some Status.typeMismatch) ∧
  (judgeSig mSg 2097155 = Except.ok 3 ∧ sigAt mSg 3 = some sg ∧ opReady (seen (st mSg) 9) 39 q1 = true ∧ notLead (seen (st mSg) 9) = false) ∧
  (judgeSig mSg 2097155 = Except.ok 3 ∧ sigAt mSg 3 = some sg ∧ opReady (seen (st mSg) 9) 40 q1 = true ∧ notLead (seen (st mSg) 9) = false ∧ sg.isConst = false ∧ sg.ownKind = 7 ∧ sg.ownId = q1.ring) ∧
  (judgeSig mSg 2097156 = Except.ok 4 ∧ sigAt mSg 4 = some sg2 ∧ opReady (seen (st mSg) 9) 40 q1 = true ∧ notLead (seen (st mSg) 9) = false ∧ sg2.isConst = false ∧ (sg2.ownKind ≠ 7 ∨ sg2.ownId ≠ q1.ring)) ∧
  (judgeSig mSg 2097156 = Except.ok 4 ∧ sigAt mSg 4 = some sg2 ∧ opReady (seen (st mSg) 9) 41 q1 = true) ∧
  (judgeSig mSg 2097156 = Except.ok 4 ∧ sigAt mSg 4 = some sg2 ∧ mSg.pwr.st ≠ PState.off ∧ bootHeld mSg = false ∧ mSg.gen.softLock = false) := by
  refine ⟨⟨?_, ?_, ?_, ?_⟩, ⟨?_, ?_, ?_, ?_⟩, ⟨?_, ?_, ?_⟩, ⟨?_, ?_, ?_, ?_, ?_, ?_⟩, ⟨?_, ?_, ?_, ?_, ?_⟩, ⟨?_, ?_, ?_⟩, ⟨?_, ?_, ?_, ?_, ?_⟩⟩ <;> decide +kernel

theorem witness_LoopCommands :
  (tget (mLp lpB).lpe.loops 5 = some lpB ∧ opReady (seen (st (mLp lpB)) 9) 35 q1 = true ∧ notLead (seen (st (mLp lpB)) 9) = false ∧ 1 ≤ 1 ∧ bitOf (mLp lpB).lpe.bankSwap.toNat 0 = true ∧ bankOk (lpB.bank 1) = true ∧ (1 ≠ lpB.active ∨ lpB.swap.isSome = true)) ∧
  (tget m_f1.lpe.loops 5 = some lp ∧ opReady (seen (st m_f1) 9) 35 q1 = true ∧ notLead (seen (st m_f1) 9) = false ∧ 1 ≤ 1 ∧ bitOf m_f1.lpe.bankSwap.toNat 0 = false) ∧
  (tget (mLp lp).lpe.loops 5 = some lp ∧ opReady (seen (st (mLp lp)) 9) 37 q1 = true ∧ notLead (seen (st (mLp lp)) 9) = false ∧ 1 ≤ 1 ∧ 1 ≠ lp.active ∧ lp.swap ≠ some 1 ∧ (List.replicate 64 (0 : Byte)).length = 64) ∧
  (tget (mLp lp).lpe.loops 5 = some lp ∧ opReady (seen (st (mLp lp)) 9) 37 q1 = true ∧ notLead (seen (st (mLp lp)) 9) = false ∧ 0 ≤ 1 ∧ 0 = lp.active ∧ (List.replicate 64 (0 : Byte)).length = 64) ∧
  (tget (mLp lp).lpe.loops 5 = some lp ∧ opReady (seen (st (mLp lp)) 9) 36 q1 = true ∧ notLead (seen (st (mLp lp)) 9) = false ∧ bufL.length = 128 ∧ (∀ k ∈ loopsNamed bufL, (tget (mLp lp).lpe.loops k).isSome = true)) ∧
  (tget (mLp lp).lpe.loops 5 = some lp ∧ opReady (seen (st (mLp lp)) 9) 36 q1 = true ∧ notLead (seen (st (mLp lp)) 9) = false ∧ bufL.length = 128 ∧ (∀ k ∈ loopsNamed bufL, (tget (mLp lp).lpe.loops k).isSome = true) ∧ (loopsNamed bufL).length ≤ 128 ∧ densityOk (countedLoops (enableLoops (mLp lp) (loopsNamed bufL) true)) = true) ∧
  (tget (mLp lpFull).lpe.loops 5 = some lpFull ∧ opReady (seen (st (mLp lpFull)) 9) 36 q1 = true ∧ notLead (seen (st (mLp lpFull)) 9) = false ∧ bufL.length = 128 ∧ (∀ k ∈ loopsNamed bufL, (tget (mLp lpFull).lpe.loops k).isSome = true) ∧ (loopsNamed bufL).length ≤ 128 ∧ densityOk (countedLoops (enableLoops (mLp lpFull) (loopsNamed bufL) true)) = false) ∧
  (tget (mLp lp).lpe.loops 5 = some lp ∧ (mLp lp).pwr.st ≠ PState.off ∧ bootHeld (mLp lp) = false ∧ (mLp lp).gen.softLock = false) := by
  refine ⟨⟨?_, ?_, ?_, ?_, ?_, ?_⟩, ⟨?_, ?_, ?_, ?_⟩, ⟨?_, ?_, ?_, ?_, ?_, ?_⟩, ⟨?_, ?_, ?_, ?_, ?_⟩, ⟨?_, ?_, ?_, ?_⟩, ⟨?_, ?_, ?_, ?_, ?_, ?_⟩, ⟨?_, ?_, ?_, ?_, ?_, ?_⟩, ⟨?_, ?_, ?_, ?_⟩⟩ <;> decide +kernel

theorem witness_LoopInstants :
  ((mLp lp).pwr.st ≠ PState.off ∧ tget (mLp lp).lpe.loops 5 = some lp ∧ ctlRuns (mLp lp) = true ∧ onInstant (seen (st (mLp lp)) 20000) lp.rcd.period lp.rcd.phase = true ∧ (mLp lp).lpe.waiting = [] ∧ (mLp lp).pnl.fullReq = none ∧ lp.enabled = true ∧ loopMode (mLp lp) lp ≠ Mode.off) ∧
  ((mLp lpOff).pwr.st ≠ PState.off ∧ tget (mLp lpOff).lpe.loops 5 = some lpOff ∧ ctlRuns (mLp lpOff) = true ∧ onInstant (seen (st (mLp lpOff)) 20000) lpOff.rcd.period lpOff.rcd.phase = true ∧ (mLp lpOff).lpe.waiting = [] ∧ (mLp lpOff).pnl.fullReq = none ∧ lpOff.enabled = false ∧ lpOff.offPending = true) ∧
  ((mLp lpOut).pwr.st ≠ PState.off ∧ tget (mLp lpOut).lpe.loops 5 = some lpOut ∧ lpOut.pendingOut = some lo ∧ lo.due ≤ max (mLp lpOut).clk 9) ∧
  ((mLp lpMd).pwr.st ≠ PState.off ∧ tget (mLp lpMd).lpe.loops 5 = some lpMd ∧ lpMd.reaction = some 2 ∧ lpMd.mdSince + 1000000 * lpMd.rcd.mdTimeMs ≤ max (mLp lpMd).clk 100000005) := by
  refine ⟨⟨?_, ?_, ?_, ?_, ?_, ?_, ?_, ?_⟩, ⟨?_, ?_, ?_, ?_, ?_, ?_, ?_, ?_⟩, ⟨?_, ?_, ?_, ?_⟩, ⟨?_, ?_, ?_, ?_⟩⟩ <;> decide +kernel

theorem witness_ReactionsDrive :
  (lt32 0 lp.rcd.reactRate = false) := by decide +kernel

end Sys2Proof.Tests.F

namespace Sys2Proof.Tests.G

def tk (c : Nat) (x : TState) : Task := { rcd := { task := 3, cls := c, pair := 0, wcSteps := 100 }, home := 0, pair := 0, st := x }
def mTk (t : Task) : Mod := { m0 with pge := { tasks := [(3, t)] } }
def i0 : Inst := { release := 0 }
def bz (c : Nat) (x : TState) : Task := { tk c x with inst := some i0 }
def mRun (t : Task) : Mod := { m0 with pge := { tasks := [(3, t)], running := [(0, 3)] } }
def ev (t : Task) : Task := { t with rcd := { t.rcd with event := true, evKind := 3, qDepth := 1 } }
def evFull : Task := { ev (bz 1 .running) with queue := [{ t := 5 }] }
def rel5 : Release := { t := 5 }
def evHeld : Task := { ev (tk 1 .idle) with queue := [{ t := 5 }], lastRelease := some 0 }
def tkW : Task := { bz 1 .committing with rcd := { task := 4, cls := 1, pair := 0, writes := [0x00200003] } }
def tkR : Task := { bz 1 .snapshot with rcd := { task := 3, cls := 1, pair := 0, reads := [0x00200003] } }
def m_g1 : Mod := { m0 with pge := { tasks := [(3, tkR), (4, tkW)] } }
def m_g2 : Mod := { m0 with pge := { tasks := [(3, bz 1 .ready), (4, bz 2 .running)], running := [(0, 4)] } }
def iW : Inst := { i0 with wbuf := [some { v := 7 }] }
def iN : Inst := { i0 with wbuf := [none] }
def cmt (i : Inst) : Task := { tk 1 .committing with inst := some i, rcd := { task := 3, cls := 1, pair := 0, writes := [0x00200003] } }
def mC (i : Inst) : Mod := { m0 with pge := { tasks := [(3, cmt i)] }, sig := { sigs := [(3, { ownKind := 4, ownId := 3 })] } }
def iOver : Inst := { i0 with steps := 100 }
def over_ : Task := { tk 1 .running with inst := some iOver }

theorem witness_TaskCommands :
  (opReady (seen (st (mTk (tk 0 TState.idle))) 9) 42 q1 = true ∧ notLead (seen (st (mTk (tk 0 TState.idle))) 9) = false ∧ taskAt (mTk (tk 0 TState.idle)) 3 = some (tk 0 TState.idle) ∧ (tk 0 TState.idle).rcd.cls = 0) ∧
  (opReady (seen (st (mTk (tk 1 TState.stopped))) 9) 42 q1 = true ∧ notLead (seen (st (mTk (tk 1 TState.stopped))) 9) = false ∧ taskAt (mTk (tk 1 TState.stopped)) 3 = some (tk 1 TState.stopped) ∧ (tk 1 TState.stopped).rcd.cls ≠ 0 ∧ (tk 1 TState.stopped).st = TState.stopped) ∧
  (opReady (seen (st (mTk (tk 1 TState.idle))) 9) 42 q1 = true ∧ notLead (seen (st (mTk (tk 1 TState.idle))) 9) = false ∧ taskAt (mTk (tk 1 TState.idle)) 3 = some (tk 1 TState.idle) ∧ (tk 1 TState.idle).rcd.cls ≠ 0 ∧ (tk 1 TState.idle).st = TState.idle) ∧
  (opReady (seen (st (mRun (bz 1 TState.running))) 9) 42 q1 = true ∧ notLead (seen (st (mRun (bz 1 TState.running))) 9) = false ∧ taskAt (mRun (bz 1 TState.running)) 3 = some (bz 1 TState.running) ∧ (bz 1 TState.running).rcd.cls ≠ 0 ∧ (bz 1 TState.running).busy = true) ∧
  (opReady (seen (st (mTk (tk 1 TState.halted))) 9) 42 q1 = true ∧ notLead (seen (st (mTk (tk 1 TState.halted))) 9) = false ∧ taskAt (mTk (tk 1 TState.halted)) 3 = some (tk 1 TState.halted) ∧ (tk 1 TState.halted).rcd.cls ≠ 0 ∧ (tk 1 TState.halted).st = TState.halted ∧ (pairOf (mTk (tk 1 TState.halted)) (tk 1 TState.halted).pair).st ≠ PairSt.lost) ∧
  (opReady (seen (st (mTk (tk 1 TState.idle))) 9) 42 q1 = true ∧ notLead (seen (st (mTk (tk 1 TState.idle))) 9) = false ∧ taskAt (mTk (tk 1 TState.idle)) 3 = some (tk 1 TState.idle) ∧ (tk 1 TState.idle).rcd.cls ≠ 0 ∧ (tk 1 TState.idle).st ≠ TState.halted) := by
  refine ⟨⟨?_, ?_, ?_⟩, ⟨?_, ?_, ?_, ?_⟩, ⟨?_, ?_, ?_, ?_⟩, ⟨?_, ?_, ?_, ?_⟩, ⟨?_, ?_, ?_, ?_, ?_⟩, ⟨?_, ?_, ?_, ?_⟩⟩ <;> decide +kernel

theorem witness_CyclicReleases :
  ((mTk (tk 1 TState.idle)).pwr.st ≠ PState.off ∧ taskAt (mTk (tk 1 TState.idle)) 3 = some (tk 1 TState.idle) ∧ (tk 1 TState.idle).rcd.event = false ∧ releasesNow (mTk (tk 1 TState.idle)) (tk 1 TState.idle) = true ∧ onInstant (seen (st (mTk (tk 1 TState.idle))) 250000) (tk 1 TState.idle).rcd.period (tk 1 TState.idle).rcd.phase = true ∧ (tk 1 TState.idle).st = TState.idle ∧ (tk 1 TState.idle).switchTo = none) ∧
  ((mRun (bz 1 TState.running)).pwr.st ≠ PState.off ∧ taskAt (mRun (bz 1 TState.running)) 3 = some (bz 1 TState.running) ∧ (bz 1 TState.running).rcd.event = false ∧ releasesNow (mRun (bz 1 TState.running)) (bz 1 TState.running) = true ∧ onInstant (seen (st (mRun (bz 1 TState.running))) 250000) (bz 1 TState.running).rcd.period (bz 1 TState.running).rcd.phase = true ∧ (bz 1 TState.running).busy = true ∧ (bz 1 TState.running).rcd.cls < 2) ∧
  ((mRun (bz 2 TState.running)).pwr.st ≠ PState.off ∧ taskAt (mRun (bz 2 TState.running)) 3 = some (bz 2 TState.running) ∧ (bz 2 TState.running).rcd.event = false ∧ releasesNow (mRun (bz 2 TState.running)) (bz 2 TState.running) = true ∧ onInstant (seen (st (mRun (bz 2 TState.running))) 250000) (bz 2 TState.running).rcd.period (bz 2 TState.running).rcd.phase = true ∧ (bz 2 TState.running).busy = true ∧ 2 ≤ (bz 2 TState.running).rcd.cls) ∧
  ((mTk (tk 1 TState.idle)).pwr.st ≠ PState.off ∧ taskAt (mTk (tk 1 TState.idle)) 3 = some (tk 1 TState.idle) ∧ (tk 1 TState.idle).rcd.event = false ∧ releasesNow (mTk (tk 1 TState.idle)) (tk 1 TState.idle) = true ∧ onInstant (seen (st (mTk (tk 1 TState.idle))) 249999) (tk 1 TState.idle).rcd.period (tk 1 TState.idle).rcd.phase = false) := by
  refine ⟨⟨?_, ?_, ?_, ?_, ?_, ?_, ?_⟩, ⟨?_, ?_, ?_, ?_, ?_, ?_, ?_⟩, ⟨?_, ?_, ?_, ?_, ?_, ?_, ?_⟩, ⟨?_, ?_, ?_, ?_, ?_⟩⟩ <;> decide +kernel

theorem witness_EventReleases :
  ((mRun (ev (bz 1 TState.running))).pwr.st ≠ PState.off ∧ taskAt (mRun (ev (bz 1 TState.running))) 3 = some (ev (bz 1 TState.running)) ∧ releasesNow (mRun (ev (bz 1 TState.running))) (ev (bz 1 TState.running)) = true ∧ (ev (bz 1 TState.running)).rcd.event = true ∧ sourceFits (ev (bz 1 TState.running)).rcd (ReleaseSource.edge true) = true ∧ (∀ (p : ℕ), ReleaseSource.edge true ≠ ReleaseSource.message p) ∧ (ev (bz 1 TState.running)).busy = true ∧ (ev (bz 1 TState.running)).queue.length < (ev (bz 1 TState.running)).rcd.qDepth) ∧
  ((mRun evFull).pwr.st ≠ PState.off ∧ taskAt (mRun evFull) 3 = some evFull ∧ releasesNow (mRun evFull) evFull = true ∧ evFull.rcd.event = true ∧ sourceFits evFull.rcd (ReleaseSource.edge true) = true ∧ (∀ (p : ℕ), ReleaseSource.edge true ≠ ReleaseSource.message p) ∧ evFull.busy = true ∧ evFull.rcd.qDepth ≤ evFull.queue.length) ∧
  ((mTk (ev (tk 1 TState.idle))).pwr.st ≠ PState.off ∧ taskAt (mTk (ev (tk 1 TState.idle))) 3 = some (ev (tk 1 TState.idle)) ∧ releasesNow (mTk (ev (tk 1 TState.idle))) (ev (tk 1 TState.idle)) = true ∧ (ev (tk 1 TState.idle)).rcd.event = true ∧ sourceFits (ev (tk 1 TState.idle)).rcd (ReleaseSource.edge true) = true ∧ (∀ (p : ℕ), ReleaseSource.edge true ≠ ReleaseSource.message p) ∧ (ev (tk 1 TState.idle)).st = TState.idle ∧ (ev (tk 1 TState.idle)).queue = [] ∧ 0 < (ev (tk 1 TState.idle)).rcd.qDepth ∧ (ev (tk 1 TState.idle)).lastRelease = none ∧ (ev (tk 1 TState.idle)).switchTo = none) ∧
  ((mTk evHeld).pwr.st ≠ PState.off ∧ taskAt (mTk evHeld) 3 = some evHeld ∧ releasesNow (mTk evHeld) evHeld = true ∧ evHeld.st = TState.idle ∧ evHeld.queue = [rel5] ∧ evHeld.switchTo = none ∧ (∀ (y : ℕ), evHeld.lastRelease = some y → y + 1000 * evHeld.rcd.period ≤ nowNs (seen (st (mTk evHeld)) 250000))) := by
  refine ⟨⟨?_, ?_, ?_, ?_, ?_, ?_, ?_, ?_⟩, ⟨?_, ?_, ?_, ?_, ?_, ?_, ?_, ?_⟩, ⟨?_, ?_, ?_, ?_, ?_, ?_, ?_, ?_, ?_, ?_, ?_⟩, ⟨?_, ?_, ?_, ?_, ?_, ?_, ?_⟩⟩ <;> first | decide +kernel | exact fun _ h => nomatch h

theorem witness_InstancePhases :
  ((mTk (bz 1 TState.snapshot)).pwr.st ≠ PState.off ∧ taskAt (mTk (bz 1 TState.snapshot)) 3 = some (bz 1 TState.snapshot) ∧ (bz 1 TState.snapshot).st = TState.snapshot ∧ (bz 1 TState.snapshot).inst = some i0 ∧ snapshotWaits (mTk (bz 1 TState.snapshot)) (bz 1 TState.snapshot) i0 = false ∧ i0.snap = []) ∧
  (m_g1.pwr.st ≠ PState.off ∧ taskAt m_g1 3 = some tkR ∧ tkR.st = TState.snapshot ∧ tkR.inst = some i0 ∧ snapshotWaits m_g1 tkR i0 = true) ∧
  ((mTk (bz 1 TState.ready)).pwr.st ≠ PState.off ∧ taskAt (mTk (bz 1 TState.ready)) 3 = some (bz 1 TState.ready) ∧ tget (mTk (bz 1 TState.ready)).pge.running 0 = none ∧ bestReady (mTk (bz 1 TState.ready)) 0 = some (3, bz 1 TState.ready) ∧ pairServes (mTk (bz 1 TState.ready)) (bz 1 TState.ready) = true) ∧
  (m_g2.pwr.st ≠ PState.off ∧ taskAt m_g2 3 = some (bz 1 TState.ready) ∧ tget m_g2.pge.running 0 = some 4 ∧ taskAt m_g2 4 = some (bz 2 TState.running) ∧ bestReady m_g2 0 = some (3, bz 1 TState.ready) ∧ 4 ≠ 3 ∧ keyLt (rankKey 3 (bz 1 TState.ready)) (rankKey 4 (bz 2 TState.running)) = true) := by
  refine ⟨⟨?_, ?_, ?_, ?_, ?_, ?_⟩, ⟨?_, ?_, ?_, ?_, ?_⟩, ⟨?_, ?_, ?_, ?_, ?_⟩, ⟨?_, ?_, ?_, ?_, ?_, ?_, ?_⟩⟩ <;> decide +kernel

theorem witness_ReadyOrder :
  ((bz 1 TState.ready).inst = some i0 ∧ (bz 2 TState.ready).inst = some i0) := by
  refine ⟨?_, ?_⟩ <;> decide +kernel

theorem witness_CommitsWrite :
  ((mC iW).pwr.st ≠ PState.off ∧ taskAt (mC iW) 3 = some (cmt iW) ∧ (cmt iW).st = TState.committing ∧ (cmt iW).inst = some iW ∧ commitWaits (mC iW) (cmt iW) iW = false ∧ (mC iW).tri.mode = 0 ∧ iW.reqs = [] ∧ (cmt iW).edits = [] ∧ (cmt iW).deferred = none ∧ (cmt iW).queue = [] ∧ (cmt iW).haltAtCommit = false ∧ (mC iW).pwr.st = PState.run ∧ (pairOf (mC iW) (cmt iW).pair).st = PairSt.joined ∧ ((cmt iW).rcd.cls = 0 → (cmt iW).stopReq = false)) ∧
  ((mC iN).pwr.st ≠ PState.off ∧ taskAt (mC iN) 3 = some (cmt iN) ∧ (cmt iN).st = TState.committing ∧ (cmt iN).inst = some iN ∧ commitWaits (mC iN) (cmt iN) iN = false ∧ (mC iN).tri.mode = 0 ∧ iN.reqs = [] ∧ (cmt iN).edits = [] ∧ (cmt iN).deferred = none ∧ (cmt iN).queue = [] ∧ (cmt iN).haltAtCommit = false ∧ (mC iN).pwr.st = PState.run ∧ (pairOf (mC iN) (cmt iN).pair).st = PairSt.joined ∧ ((cmt iN).rcd.cls = 0 → (cmt iN).stopReq = false)) := by
  refine ⟨⟨?_, ?_, ?_, ?_, ?_, ?_, ?_, ?_, ?_, ?_, ?_, ?_, ?_, ?_⟩, ⟨?_, ?_, ?_, ?_, ?_, ?_, ?_, ?_, ?_, ?_, ?_, ?_, ?_, ?_⟩⟩ <;> decide +kernel

theorem witness_OverrunsAbort :
  ((mRun over_).pwr.st ≠ PState.off ∧ taskAt (mRun over_) 3 = some over_ ∧ over_.inst = some iOver ∧ over_.rcd.cls ≠ 0 ∧ 3 < 96 ∧ (mRun over_).pge.aborts.length = 3 ∧ anyTrial (mRun over_) = false ∧ over_.st = TState.running ∧ over_.rcd.wcSteps ≤ iOver.steps) ∧
  ((mRun (bz 1 TState.running)).pwr.st ≠ PState.off ∧ taskAt (mRun (bz 1 TState.running)) 3 = some (bz 1 TState.running) ∧ (bz 1 TState.running).inst = some i0 ∧ (bz 1 TState.running).rcd.cls ≠ 0 ∧ 3 < 96 ∧ (mRun (bz 1 TState.running)).pge.aborts.length = 3 ∧ anyTrial (mRun (bz 1 TState.running)) = false ∧ (bz 1 TState.running).rcd.cls = 1 ∧ (bz 1 TState.running).busy = true ∧ (bz 1 TState.running).st ≠ TState.committing ∧ (i0.release + 1000 * if (bz 1 TState.running).rcd.deadline = 0 then (bz 1 TState.running).rcd.period else (bz 1 TState.running).rcd.deadline) ≤ nowNs (seen (st (mRun (bz 1 TState.running))) 250000)) := by
  refine ⟨⟨?_, ?_, ?_, ?_, ?_, ?_, ?_, ?_, ?_⟩, ⟨?_, ?_, ?_, ?_, ?_, ?_, ?_, ?_, ?_, ?_, ?_⟩⟩ <;> decide +kernel

end Sys2Proof.Tests.G

namespace Sys2Proof.Tests.H

def ev (n : Nat) : Event := { kind := 1, time := BitVec.ofNat 32 n, wrap := 0 }
def rq : Ring := { st := .active, queue := [ev 1] }
def rFull : Ring := { st := .active, queue := List.replicate 8192 (ev 1) }
def rg (n : Nat) (r : Ring) : Mod := { m0 with hif := { m0.hif with rings := tset m0.hif.rings n r } }
def rDis : Ring := {}
def rPend : Ring := { st := .pending, enable := true, cls := 1, c1Rate := 1 }
def rIx : Ring := { act 3 with index := 2 }
def rBell : Ring := { act 2 with doorbell := 1 }
def dsc (op : Nat) : List Byte := leBytes 2 op ++ List.replicate 30 0
def cp : Compl := { cring := 16, tag := 7, status := .ok, ring := 1, index := 0 }
def mCp : Mod := { m0 with hif := { m0.hif with compl := [cp] } }
def rEv : Ring := { act 3 with queue := [ev 1] }
def rEv' : Ring := act 3
def rMsi : Ring := { act 3 with msiDue := true, modUs := 1, lastMsi := some 5 }
def rC1 : Ring := { cls := 1, c1Rate := 1 }
def rBad : Ring := { sizeLog2 := 3 }
def mDet : Mod := { m0 with hif := { m0.hif with attached := false, ready := false } }
def mFlight : Mod := { m0 with hif := { m0.hif with flights := [{ ring := 1, index := 4, opcode := 0x22, fence := false, started := true }] } }
def mUnready : Mod := { m0 with hif := { m0.hif with ready := false } }
def mWd : Mod := { m0 with hif := { m0.hif with wdMs := 100, wdAt := 5 } }

theorem witness_EventQueuesBounded :
  (rq.queue.length < 8192) ∧
  (rq.queue.length ≤ 8192) ∧
  (rFull.queue = ev 1 :: List.replicate 8191 (ev 1) ∧ 8192 ≤ rFull.queue.length) := by
  refine ⟨by decide +kernel, by decide +kernel, rfl, Nat.le_of_eq List.length_replicate.symm⟩

theorem witness_RingIndicesWrap :
  (4 ≤ 4 ∧ 4 ≤ 15 ∧ ixPos 32771 < 2 ^ 4 ∧ ixPos 2 < 2 ^ 4 ∧ 0 ≤ Machine.dist (2 ^ 4) 32771 2 ∧ Machine.dist (2 ^ 4) 32771 2 < 2 ^ 4) ∧
  (4 ≤ 15 ∧ 15 ≤ 15 ∧ ixPos 0 < 2 ^ 15 ∧ ixPos 32767 < 2 ^ 15 ∧ 0 ≤ Machine.dist (2 ^ 15) 0 32767 ∧ Machine.dist (2 ^ 15) 0 32767 < 2 ^ 15) := by
  refine ⟨⟨?_, ?_, ?_, ?_, ?_, ?_⟩, ⟨?_, ?_, ?_, ?_, ?_, ?_⟩⟩ <;> decide +kernel

theorem witness_Doorbells :
  ((rg 2 rDis).pwr.st ≠ PState.off ∧ isSubmission 2 = true ∧ ((ringOf (rg 2 rDis) 2).st = RingSt.disabled ∨ (ringOf (rg 2 rDis) 2).st = RingSt.pending)) ∧
  (m0.pwr.st ≠ PState.off ∧ isSubmission 1 = true ∧ (ringOf m0 1).st = RingSt.active ∧ bellOk (ringOf m0 1) false 5 = true) ∧
  (m0.pwr.st ≠ PState.off ∧ isSubmission 1 = true ∧ (ringOf m0 1).st = RingSt.active ∧ bellOk (ringOf m0 1) false 16 = false) ∧
  ((rg 16 rIx).pwr.st ≠ PState.off ∧ (isCompletion 16 || isEvent 16) = true ∧ (ringOf (rg 16 rIx) 16).st = RingSt.active ∧ bellOk (ringOf (rg 16 rIx) 16) true 2 = true) ∧
  ((rg 16 rIx).pwr.st ≠ PState.off ∧ (isCompletion 16 || isEvent 16) = true ∧ (ringOf (rg 16 rIx) 16).st = RingSt.active ∧ bellOk (ringOf (rg 16 rIx) 16) true 3 = false) := by
  refine ⟨⟨?_, ?_, ?_⟩, ⟨?_, ?_, ?_, ?_⟩, ⟨?_, ?_, ?_, ?_⟩, ⟨?_, ?_, ?_, ?_⟩, ⟨?_, ?_, ?_, ?_⟩⟩ <;> decide +kernel

theorem witness_DescriptorsAreFetched :
  ((rg 1 rBell).pwr.st ≠ PState.off ∧ fetchable (seen (st (rg 1 rBell)) 9) 1 = true ∧ noneBefore (seen (st (rg 1 rBell)) 9) 1 = true) ∧
  ((rg 1 rBell).pwr.st ≠ PState.off ∧ fetchable (seen (st (rg 1 rBell)) 9) 1 = true ∧ noneBefore (seen (st (rg 1 rBell)) 9) 1 = true ∧ cringOk (seen (st (rg 1 rBell)) 9) (descReq 1 (ringOf (rg 1 rBell) 1) (dsc 41)) = true ∧ permitted (seen (st (rg 1 rBell)) 9) (u16 (dsc 41) 0) 1 = true ∧ (ringUse (u16 (dsc 41) 0)).isSome = true) ∧
  ((rg 1 rBell).pwr.st ≠ PState.off ∧ fetchable (seen (st (rg 1 rBell)) 9) 1 = true ∧ noneBefore (seen (st (rg 1 rBell)) 9) 1 = true ∧ cringOk (seen (st (rg 1 rBell)) 9) (descReq 1 (ringOf (rg 1 rBell) 1) (dsc 65535)) = true ∧ ringUse (u16 (dsc 65535) 0) = none ∧ (rg 1 rBell).hif.orphans = []) := by
  refine ⟨⟨?_, ?_, ?_⟩, ⟨?_, ?_, ?_, ?_, ?_, ?_⟩, ⟨?_, ?_, ?_, ?_, ?_, ?_⟩⟩ <;> decide +kernel

theorem witness_EntriesAreWritten :
  (mCp.pwr.st ≠ PState.off ∧ List.find? (fun c => c.cring == 16) mCp.hif.compl = some cp ∧ mCp.hif.attached = true ∧ hasRoom (ringOf mCp 16) = true) ∧
  ((rg 32 rEv).pwr.st ≠ PState.off ∧ isEvent 32 = true ∧ (rg 32 rEv).hif.attached = true ∧ (rg 32 rEv).hif.ready = true ∧ (ringOf (rg 32 rEv) 32).st = RingSt.active ∧ hasRoom (ringOf (rg 32 rEv) 32) = true ∧ nextEntry (seen (st (rg 32 rEv)) 9) (ringOf (rg 32 rEv) 32) = some (ev 1, rEv')) ∧
  ((rg 32 rEv).pwr.st ≠ PState.off ∧ (ringOf (rg 32 rEv) 32).overflow = none ∧ (ringOf (rg 32 rEv) 32).replaying = false ∧ (ringOf (rg 32 rEv) 32).queue = [ev 1]) ∧
  ((rg 32 rMsi).pwr.st ≠ PState.off ∧ (ringOf (rg 32 rMsi) 32).msiDue = true ∧ (rg 32 rMsi).hif.attached = true ∧ (∀ (x : ℕ), (ringOf (rg 32 rMsi) 32).lastMsi = some x → x + 1000 * (ringOf (rg 32 rMsi) 32).modUs ≤ max (rg 32 rMsi).clk 1005)) := by
  refine ⟨⟨?_, ?_, ?_, ?_⟩, ⟨?_, ?_, ?_, ?_, ?_, ?_, ?_⟩, ⟨?_, ?_, ?_, ?_⟩, ⟨?_, ?_, ?_, ?_⟩⟩ <;> decide +kernel

theorem witness_CompletionLayout :
  (cp.ring < 256) := by decide +kernel

theorem witness_RingsInService :
  ((rg 33 rDis).pwr.st ≠ PState.off ∧ 33 < 64 ∧ regHeld (rg 33 rDis) (6144 + 32 * 33 + 16) = false ∧ (rg 33 rDis).gen.softLock = false ∧ (ringOf (rg 33 rDis) 33).enable = false ∧ enableOk (rg 33 rDis) 33 = true ∧ isC1Ring (rg 33 rDis) 33 = false) ∧
  ((rg 3 rC1).pwr.st ≠ PState.off ∧ 3 < 64 ∧ regHeld (rg 3 rC1) (6144 + 32 * 3 + 16) = false ∧ (rg 3 rC1).gen.softLock = false ∧ (ringOf (rg 3 rC1) 3).enable = false ∧ enableOk (rg 3 rC1) 3 = true ∧ isC1Ring (rg 3 rC1) 3 = true) ∧
  ((rg 3 rBad).pwr.st ≠ PState.off ∧ 3 < 64 ∧ regHeld (rg 3 rBad) (6144 + 32 * 3 + 16) = false ∧ (rg 3 rBad).gen.softLock = false ∧ (ringOf (rg 3 rBad) 3).enable = false ∧ enableOk (rg 3 rBad) 3 = false) ∧
  ((rg 3 rPend).pwr.st ≠ PState.off ∧ 3 < 64 ∧ regHeld (rg 3 rPend) (6144 + 32 * 3 + 16) = false ∧ (rg 3 rPend).gen.softLock = false ∧ (ringOf (rg 3 rPend) 3).st = RingSt.pending) ∧
  (m0.pwr.st ≠ PState.off ∧ 1 < 64 ∧ regHeld m0 (6144 + 32 * 1 + 16) = false ∧ m0.gen.softLock = false ∧ (ringOf m0 1).enable = true ∧ (ringOf m0 1).st = RingSt.active ∧ (isCompletion 1 && cringInUse m0 1) = false) ∧
  (m0.pwr.st ≠ PState.off ∧ 16 < 64 ∧ regHeld m0 (6144 + 32 * 16 + 16) = false ∧ m0.gen.softLock = false ∧ (ringOf m0 16).enable = true ∧ isCompletion 16 = true ∧ cringInUse m0 16 = true) := by
  refine ⟨⟨?_, ?_, ?_, ?_, ?_, ?_, ?_⟩, ⟨?_, ?_, ?_, ?_, ?_, ?_, ?_⟩, ⟨?_, ?_, ?_, ?_, ?_, ?_⟩, ⟨?_, ?_, ?_, ?_, ?_⟩, ⟨?_, ?_, ?_, ?_, ?_, ?_, ?_⟩, ⟨?_, ?_, ?_, ?_, ?_, ?_, ?_⟩⟩ <;> decide +kernel

theorem witness_HostAttachment :
  (mDet.pwr.st ≠ PState.off ∧ mDet.hif.attached = false ∧ mDet.pwr.st ≠ PState.fail) ∧
  (mFlight.pwr.st ≠ PState.off ∧ mFlight.hif.attached = true) ∧
  (mUnready.pwr.st ≠ PState.off ∧ bootHeld mUnready = false ∧ mUnready.gen.softLock = false ∧ mUnready.hif.attached = true ∧ mUnready.hif.ready = false) ∧
  (m0.pwr.st ≠ PState.off ∧ m0.gen.softLock = false) ∧
  (m0.pwr.st ≠ PState.off) ∧
  (mWd.pwr.st ≠ PState.off ∧ mWd.hif.attached = true ∧ mWd.hif.wdMs ≠ 0 ∧ mWd.hif.wdAt + 1000000 * mWd.hif.wdMs ≤ max mWd.clk 100000005) := by
  refine ⟨⟨?_, ?_, ?_⟩, ⟨?_, ?_⟩, ⟨?_, ?_, ?_, ?_, ?_⟩, ⟨?_, ?_⟩, ?_, ⟨?_, ?_, ?_, ?_⟩⟩ <;> decide +kernel

end Sys2Proof.Tests.H

namespace Sys2Proof.Tests.I

def fd (c h p : Bool) : Field := { hi := 4, lo := 0, cur := 3, free := c, held := h, prot := p, ok := fun n => decide (n ≤ 30), set := fun _ m => m }
def mRef : Mod := { m0 with sig := { refused := 15 } }

theorem witness_RegisterWriteRules :
  (3 = (fd false false false).cur) ∧
  (4 ≠ (fd false false false).cur ∧ true = true ∧ (fd false false false).free = false) ∧
  (4 ≠ (fd true false true).cur ∧ (true = false ∨ (fd true false true).free = true) ∧ (fd true false true).prot = true) ∧
  (4 ≠ (fd true true false).cur ∧ (true = false ∨ (fd true true false).free = true) ∧ (fd true true false).prot = false ∧ (fd true true false).held = true) ∧
  (31 ≠ (fd false false false).cur ∧ (false = false ∨ (fd false false false).free = true) ∧ (fd false false false).prot = false ∧ (fd false false false).held = false) ∧
  (regHeld m0 86025 = false ∧ 86025 % 4 ≠ 0) := by
  refine ⟨?_, ⟨?_, ?_, ?_⟩, ⟨?_, ?_, ?_⟩, ⟨?_, ?_, ?_, ?_⟩, ⟨?_, ?_, ?_, ?_⟩, ⟨?_, ?_⟩⟩ <;> decide +kernel

theorem witness_RegisterWrites :
  (m0.pwr.st ≠ PState.off ∧ bootHeld m0 = false) ∧
  (m0.pwr.st ≠ PState.off ∧ bootHeld m0 = false ∧ m0.gen.softLock = false ∧ 1 ≤ BitVec.toNat (1 : W32) % 32 ∧ BitVec.toNat (1 : W32) % 32 ≤ 30) ∧
  (m0.pwr.st ≠ PState.off ∧ bootHeld m0 = false ∧ m0.gen.softLock = false ∧ 1 ≤ BitVec.toNat (30 : W32) % 32 ∧ BitVec.toNat (30 : W32) % 32 ≤ 30) ∧
  (m0.pwr.st ≠ PState.off ∧ bootHeld m0 = false ∧ m0.nv.windowS ≠ BitVec.toNat (31 : W32) % 32 ∧ (m0.gen.softLock = true ∨ BitVec.toNat (31 : W32) % 32 = 0 ∨ BitVec.toNat (31 : W32) % 32 = 31)) ∧
  (mRef.pwr.st ≠ PState.off ∧ bootHeld mRef = false) ∧
  (m0.pwr.st ≠ PState.off ∧ bootHeld m0 = false ∧ (90112 ≤ 90112 ∨ 90112 % 4 ≠ 0)) ∧
  (m0.pwr.st ≠ PState.off ∧ bootHeld m0 = false ∧ (90112 ≤ 6 ∨ 6 % 4 ≠ 0)) ∧
  (m0.pwr.st ≠ PState.off ∧ bootHeld m0 = false ∧ m0.gen.softLock = false) := by
  refine ⟨⟨?_, ?_⟩, ⟨?_, ?_, ?_, ?_, ?_⟩, ⟨?_, ?_, ?_, ?_, ?_⟩, ⟨?_, ?_, ?_, ?_⟩, ⟨?_, ?_⟩, ⟨?_, ?_, ?_⟩, ⟨?_, ?_, ?_⟩, ⟨?_, ?_, ?_⟩⟩ <;> decide +kernel

end Sys2Proof.Tests.I

namespace Sys2Proof.Tests.J

def ch (f : Nat) : Chan := { enabled := true, rcd := { function := f, filtThr := 1, filtCeil := 2 }, needEnable := false, written := true }
def mCh (c : Chan) : Mod := { m0 with fio := { chans := [(3, c)], frame := 1 } }
def di : Chan := ch 1
def do_ : Chan := ch 3
def diq : Chan := { di with q := true, count := 2 }
def pw : Chan := { ch 4 with perAt := some 0 }
def pwOn : Chan := { ch 4 with onEnd := some 7, driver := true }
def mF3 (c : Chan) : Mod := { mCh c with flt := { f3 := true } }
def doSafe : Chan := { do_ with rcd := { do_.rcd with safeVal := 1 } }
def ao : Chan := ch 7
def aoHi : Chan := { ao with rcd := { ao.rcd with safeVal := 1 } }
def aoMis : Chan := { ao with status := 0x400 }
def doOn : Chan := { do_ with demand := true }
def mFrm : Mod := { mCh do_ with fio := { (mCh do_).fio with frameAt := 5 } }
def doDue : Chan := { doOn with due := true, driver := true, rcd := { do_.rcd with testEn := true } }
def doDueOff : Chan := { doDue with driver := false }
def puD : Pulse := { dark := true, stop := 7 }
def puB : Pulse := { dark := false, stop := 7 }
def doPulse : Chan := { doOn with driver := true, pulse := some puD }
def doPulseB : Chan := { do_ with pulse := some puB }
def win : TestWin := { start := 0, before := true, samples := [(20000, false), (10000, false)] }
def diWin : Chan := { di with window := some win }
def winB : TestWin := { start := 0, before := true, samples := [(20000, true), (10000, true)] }
def diWinB : Chan := { di with window := some winB }
def doSus : Chan := { do_ with status := 0x80 }
def doDrv : Chan := { doOn with driver := true }
def doNa : Chan := { doOn with driver := true, status := 0x100, naSince := some 5 }
def diWb : Chan := { di with rcd := { di.rcd with wbEn := true } }
def doWd : Chan := { doOn with wdLast := some 5 }
def doLat : Chan := { do_ with status := 0x2 }
def mRail (b : Bool) : Mod := { m0 with fio := { railCheck := [(0, (b, 5))], closed := if b then 1 else 0 } }
def aiP : Chan := { ch 6 with rcd := { (ch 6).rcd with powered := true } }
def aoNa : Chan := { ao with naSince := some 5, status := 0x100 }

theorem witness_YoyoFilter :
  (di.count ≤ di.rcd.filtCeil) ∧
  (di.count ≤ di.rcd.filtCeil ∧ di.q = false) ∧
  (diq.count ≤ diq.rcd.filtCeil ∧ diq.q = true ∧ 0 < diq.rcd.filtThr) ∧
  (diq.count ≤ diq.rcd.filtCeil ∧ diq.q = true) := by
  refine ⟨?_, ⟨?_, ?_⟩, ⟨?_, ?_, ?_⟩, ⟨?_, ?_⟩⟩ <;> decide +kernel

theorem witness_DigitalInstants :
  ((mCh di).pwr.st ≠ PState.off ∧ chanOf (mCh di) 3 = di ∧ di.used = true ∧ (max (mCh di).clk 10000 - (mCh di).tim.zero) % 10000 = 0 ∧ di.isDi = true ∧ di.window = none ∧ di.shadow = none ∧ di.shown = none ∧ di.lowAt = none ∧ darkSource (seen (st (mCh di)) 10000) = none) ∧
  ((mCh do_).pwr.st ≠ PState.off ∧ chanOf (mCh do_) 3 = do_ ∧ do_.used = true ∧ (max (mCh do_).clk 10000 - (mCh do_).tim.zero) % 10000 = 0 ∧ do_.isDi = false ∧ do_.drives = true ∧ do_.pulse = none) ∧
  ((mCh di).pwr.st ≠ PState.off ∧ chanOf (mCh di) 3 = di ∧ di.used = true ∧ (max (mCh di).clk 10001 - (mCh di).tim.zero) % 10000 ≠ 0) ∧
  ((mCh do_).pwr.st ≠ PState.off ∧ chanOf (mCh do_) 3 = do_ ∧ do_.used = true ∧ do_.rcd.function = 3 ∧ do_.rcd.safetyMember = false) ∧
  ((mCh pw).pwr.st ≠ PState.off ∧ chanOf (mCh pw) 3 = pw ∧ pw.used = true ∧ pw.rcd.function = 4 ∧ (∀ (x : ℕ), pw.perAt = some x → x + 1000 * pw.rcd.pwmPeriodUs ≤ max (mCh pw).clk 100000)) ∧
  ((mCh pwOn).pwr.st ≠ PState.off ∧ chanOf (mCh pwOn) 3 = pwOn ∧ pwOn.used = true ∧ pwOn.onEnd = some 7 ∧ 7 ≤ max (mCh pwOn).clk 7 ∧ pwOn.safeDriving = false) := by
  refine ⟨⟨?_, ?_, ?_, ?_, ?_, ?_, ?_, ?_, ?_, ?_⟩, ⟨?_, ?_, ?_, ?_, ?_, ?_, ?_⟩, ⟨?_, ?_, ?_, ?_⟩, ⟨?_, ?_, ?_, ?_, ?_⟩, ⟨?_, ?_, ?_, ?_, ?_⟩, ⟨?_, ?_, ?_, ?_, ?_, ?_⟩⟩ <;> decide +kernel

theorem witness_SafeValuesDrive :
  (tget (mF3 do_).fio.chans 3 = some do_ ∧ ((mF3 do_).flt.f3 = true ∨ (mF3 do_).pwr.st = PState.fail ∨ (mF3 do_).sec.debug = Debug.full ∨ bitOf (BitVec.toNat do_.status) 5 = true) ∧ (do_.isDo = true ∨ do_.isSource = true) ∧ do_.rcd.safeVal = 0) ∧
  (tget (mF3 doSafe).fio.chans 3 = some doSafe ∧ ((mF3 doSafe).flt.f3 = true ∨ (mF3 doSafe).pwr.st = PState.fail ∨ (mF3 doSafe).sec.debug = Debug.full ∨ bitOf (BitVec.toNat doSafe.status) 5 = true) ∧ (doSafe.isDo = true ∨ doSafe.isSource = true) ∧ doSafe.rcd.safeVal = 1) ∧
  (tget (mF3 ao).fio.chans 3 = some ao ∧ ((mF3 ao).flt.f3 = true ∨ (mF3 ao).pwr.st = PState.fail ∨ (mF3 ao).sec.debug = Debug.full ∨ bitOf (BitVec.toNat ao.status) 5 = true) ∧ ao.isAo = true ∧ bitOf (BitVec.toNat ao.status) 10 = false ∧ ao.rcd.safeVal = 0) ∧
  (tget (mF3 aoHi).fio.chans 3 = some aoHi ∧ ((mF3 aoHi).flt.f3 = true ∨ (mF3 aoHi).pwr.st = PState.fail ∨ (mF3 aoHi).sec.debug = Debug.full ∨ bitOf (BitVec.toNat aoHi.status) 5 = true) ∧ aoHi.isAo = true ∧ bitOf (BitVec.toNat aoHi.status) 10 = false ∧ aoHi.rcd.safeVal = 1) ∧
  (tget (mCh aoMis).fio.chans 3 = some aoMis ∧ aoMis.isAo = true ∧ bitOf (BitVec.toNat aoMis.status) 10 = true) ∧
  (tget (mCh doOn).fio.chans 3 = some doOn ∧ doOn.rcd.function = 3 ∧ doOn.rcd.safetyMember = false ∧ doOn.written = true ∧ doOn.offSeen = none ∧ doOn.inOff = false ∧ chanMode (mCh doOn) 3 doOn ≠ some Mode.off ∧ safeStands (mCh doOn) 3 doOn = false) ∧
  (tget (mCh doOn).fio.chans 3 = some doOn) := by
  refine ⟨⟨?_, ?_, ?_, ?_⟩, ⟨?_, ?_, ?_, ?_⟩, ⟨?_, ?_, ?_, ?_, ?_⟩, ⟨?_, ?_, ?_, ?_, ?_⟩, ⟨?_, ?_, ?_⟩, ⟨?_, ?_, ?_, ?_, ?_, ?_, ?_, ?_⟩, ?_⟩ <;> decide +kernel

theorem witness_TestPulses :
  (mFrm.pwr.st ≠ PState.off ∧ chanOf mFrm 3 = do_ ∧ 4 ≤ mFrm.pwr.startStep ∧ mFrm.fio.frameAt + 128000000 ≤ max mFrm.clk 128000005) ∧
  ((mCh doDue).pwr.st ≠ PState.off ∧ chanOf (mCh doDue) 3 = doDue ∧ doDue.used = true ∧ doDue.drives = true ∧ (mCh doDue).fio.frame ≠ 0 ∧ max (mCh doDue).clk 1500000 = (mCh doDue).fio.frameAt + 500000 * 3 ∧ (mCh doDue).fio.slotEnd ≤ max (mCh doDue).clk 1500000 ∧ doDue.due = true ∧ testsOn (mCh doDue) doDue = true ∧ blockSuspended (mCh doDue) 3 = false ∧ doDue.blocked = false ∧ doDue.rcd.function ≠ 4 ∧ doDue.driver = true ∧ doDue.isSource = false) ∧
  ((mCh doDueOff).pwr.st ≠ PState.off ∧ chanOf (mCh doDueOff) 3 = doDueOff ∧ doDueOff.used = true ∧ doDueOff.drives = true ∧ (mCh doDueOff).fio.frame ≠ 0 ∧ max (mCh doDueOff).clk 1500000 = (mCh doDueOff).fio.frameAt + 500000 * 3 ∧ (mCh doDueOff).fio.slotEnd ≤ max (mCh doDueOff).clk 1500000 ∧ doDueOff.due = true ∧ testsOn (mCh doDueOff) doDueOff = true ∧ blockSuspended (mCh doDueOff) 3 = false ∧ doDueOff.blocked = false ∧ doDueOff.rcd.function ≠ 4 ∧ doDueOff.driver = false ∧ doDueOff.safeDriving = false) ∧
  ((mCh doPulse).pwr.st ≠ PState.off ∧ chanOf (mCh doPulse) 3 = doPulse ∧ doPulse.pulse = some puD ∧ puD.stop ≤ max (mCh doPulse).clk 7) ∧
  ((mCh doPulse).pwr.st ≠ PState.off ∧ chanOf (mCh doPulse) 3 = doPulse ∧ doPulse.pulse = some puD ∧ puD.stop ≤ max (mCh doPulse).clk 7 ∧ blockSuspended (mCh doPulse) 3 = false ∧ puD.dark = true) ∧
  ((mCh doPulseB).pwr.st ≠ PState.off ∧ chanOf (mCh doPulseB) 3 = doPulseB ∧ doPulseB.pulse = some puB ∧ puB.stop ≤ max (mCh doPulseB).clk 7 ∧ blockSuspended (mCh doPulseB) 3 = false ∧ puB.dark = false) ∧
  ((mCh diWin).pwr.st ≠ PState.off ∧ chanOf (mCh diWin) 3 = diWin ∧ diWin.window = some win ∧ win.start + 400000 ≤ max (mCh diWin).clk 400000 ∧ win.before = true ∧ (∀ x ∈ win.samples, win.start + 1000 * ((chanOf (mCh diWin) diWin.rcd.testSrc).rcd.darkUs + 100) ≤ x.1 → x.2 = true) ∧ twoLow (List.filter (fun x => decide (x.1 ≤ win.start + 1000 * ((chanOf (mCh diWin) diWin.rcd.testSrc).rcd.darkUs + 100))) win.samples) = true) ∧
  ((mCh diWinB).pwr.st ≠ PState.off ∧ chanOf (mCh diWinB) 3 = diWinB ∧ diWinB.window = some winB ∧ winB.start + 400000 ≤ max (mCh diWinB).clk 400000 ∧ winB.before = true ∧ (∀ x ∈ winB.samples, winB.start + 1000 * ((chanOf (mCh diWinB) diWinB.rcd.testSrc).rcd.darkUs + 100) ≤ x.1 → x.2 = true) ∧ twoLow (List.filter (fun x => decide (x.1 ≤ winB.start + 1000 * ((chanOf (mCh diWinB) diWinB.rcd.testSrc).rcd.darkUs + 100))) winB.samples) = false) := by
  refine ⟨⟨?_, ?_, ?_, ?_⟩, ⟨?_, ?_, ?_, ?_, ?_, ?_, ?_, ?_, ?_, ?_, ?_, ?_, ?_, ?_⟩, ⟨?_, ?_, ?_, ?_, ?_, ?_, ?_, ?_, ?_, ?_, ?_, ?_, ?_, ?_⟩, ⟨?_, ?_, ?_, ?_⟩, ⟨?_, ?_, ?_, ?_, ?_, ?_⟩, ⟨?_, ?_, ?_, ?_, ?_, ?_⟩, ⟨?_, ?_, ?_, ?_, ?_, ?_, ?_⟩, ⟨?_, ?_, ?_, ?_, ?_, ?_, ?_⟩⟩ <;> decide +kernel

theorem witness_DigitalDiagnostics :
  ((mCh do_).pwr.st ≠ PState.off ∧ chanOf (mCh do_) 3 = do_ ∧ do_.used = true ∧ do_.drives = true ∧ do_.pulse = none ∧ do_.driver = false ∧ do_.switchedAt + 30000 ≤ max (mCh do_).clk 30000 ∧ do_.armed = true ∧ do_.status &&& 140 = 0 ∧ blockSuspended (mCh do_) 3 = false) ∧
  ((mCh doSus).pwr.st ≠ PState.off ∧ chanOf (mCh doSus) 3 = doSus ∧ doSus.used = true ∧ bitOf (BitVec.toNat doSus.status) 7 = true ∧ bitOf (BitVec.toNat doSus.status) 2 = false ∧ doSus.isDi = false) ∧
  ((mCh doDrv).pwr.st ≠ PState.off ∧ chanOf (mCh doDrv) 3 = doDrv ∧ doDrv.used = true ∧ doDrv.drives = true ∧ doDrv.driver = true ∧ doDrv.pulse = none ∧ doDrv.switchedAt + 30000 ≤ max (mCh doDrv).clk 30000 ∧ blockSuspended (mCh doDrv) 3 = false ∧ bitOf (BitVec.toNat doDrv.status) 8 = false) ∧
  ((mCh doNa).pwr.st ≠ PState.off ∧ chanOf (mCh doNa) 3 = doNa ∧ doNa.used = true ∧ doNa.drives = true ∧ bitOf (BitVec.toNat doNa.status) 8 = true) ∧
  ((mCh doDrv).pwr.st ≠ PState.off ∧ chanOf (mCh doDrv) 3 = doDrv ∧ doDrv.used = true ∧ doDrv.drives = true) ∧
  ((mCh diWb).pwr.st ≠ PState.off ∧ chanOf (mCh diWb) 3 = diWb ∧ diWb.used = true ∧ diWb.rcd.wbEn = true ∧ diWb.isDi = true) ∧
  ((mCh diWb).pwr.st ≠ PState.off ∧ chanOf (mCh diWb) 3 = diWb ∧ diWb.used = true ∧ diWb.isDi = true) ∧
  ((mCh doWd).pwr.st ≠ PState.off ∧ chanOf (mCh doWd) 3 = doWd ∧ doWd.used = true ∧ doWd.wdLast = some 5 ∧ 5 + 100000 * doWd.rcd.wd100 ≤ max (mCh doWd).clk 500005 ∧ bitOf (BitVec.toNat doWd.status) 5 = false) ∧
  ((mCh doWd).pwr.st ≠ PState.off ∧ chanOf (mCh doWd) 3 = doWd ∧ doWd.used = true) ∧
  ((mCh doLat).pwr.st ≠ PState.off ∧ chanOf (mCh doLat) 3 = doLat ∧ doLat.used = true ∧ bootHeld (mCh doLat) = false ∧ 3 < 256 ∧ doLat.latched = true ∧ ownCause doLat = false ∧ doLat.partners = [] ∧ bitOf (BitVec.toNat (8 : W32)) (3 % 32) = true) := by
  refine ⟨⟨?_, ?_, ?_, ?_, ?_, ?_, ?_, ?_, ?_, ?_⟩, ⟨?_, ?_, ?_, ?_, ?_, ?_⟩, ⟨?_, ?_, ?_, ?_, ?_, ?_, ?_, ?_, ?_⟩, ⟨?_, ?_, ?_, ?_, ?_⟩, ⟨?_, ?_, ?_, ?_⟩, ⟨?_, ?_, ?_, ?_, ?_⟩, ⟨?_, ?_, ?_, ?_⟩, ⟨?_, ?_, ?_, ?_, ?_, ?_⟩, ⟨?_, ?_, ?_⟩, ⟨?_, ?_, ?_, ?_, ?_, ?_, ?_, ?_, ?_⟩⟩ <;> decide +kernel

theorem witness_SuppliesAndSwitches :
  ((mCh doPulse).pwr.st ≠ PState.off ∧ 0 < 8) ∧
  ((mCh doOn).pwr.st ≠ PState.off ∧ 0 < 8) ∧
  ((mCh doOn).pwr.st ≠ PState.off ∧ 0 < 8 ∧ bootHeld (mCh doOn) = false ∧ (mCh doOn).gen.softLock = false ∧ bitOf (BitVec.toNat (1 : W32)) 0 = true) ∧
  ((mRail false).pwr.st ≠ PState.off ∧ 0 < 8 ∧ tget (mRail false).fio.railCheck 0 = some (false, 5) ∧ 5 + 1000000 ≤ max (mRail false).clk 1000005 ∧ 5000 ≤ 5000) ∧
  ((mRail true).pwr.st ≠ PState.off ∧ 0 < 8 ∧ tget (mRail true).fio.railCheck 0 = some (true, 5) ∧ 5 + 1000000 ≤ max (mRail true).clk 1000005 ∧ 18000 ≤ 18000) ∧
  ((mRail true).pwr.st ≠ PState.off ∧ 0 < 8 ∧ tget (mRail true).fio.railCheck 0 = some (true, 5) ∧ 5 + 1000000 ≤ max (mRail true).clk 1000005 ∧ 18000 < 18001) := by
  refine ⟨⟨?_, ?_⟩, ⟨?_, ?_⟩, ⟨?_, ?_, ?_, ?_, ?_⟩, ⟨?_, ?_, ?_, ?_, ?_⟩, ⟨?_, ?_, ?_, ?_, ?_⟩, ⟨?_, ?_, ?_, ?_, ?_⟩⟩ <;> decide +kernel

theorem witness_AnalogueInstants :
  ((mCh (ch 6)).pwr.st ≠ PState.off ∧ chanOf (mCh (ch 6)) 3 = ch 6 ∧ (ch 6).used = true ∧ (ch 6).rcd.function = 6 ∧ (ch 6).shadow = none) ∧
  ((mCh aiP).pwr.st ≠ PState.off ∧ chanOf (mCh aiP) 3 = aiP ∧ aiP.used = true ∧ aiP.rcd.function = 6 ∧ aiP.rcd.powered = true ∧ aiP.loopSupply = true) ∧
  ((mCh ao).pwr.st ≠ PState.off ∧ chanOf (mCh ao) 3 = ao ∧ ao.used = true ∧ ao.isAo = true) ∧
  ((mCh ao).pwr.st ≠ PState.off ∧ chanOf (mCh ao) 3 = ao ∧ ao.used = true ∧ ao.isAo = true ∧ ao.shadow = none) ∧
  ((mCh aoNa).pwr.st ≠ PState.off ∧ chanOf (mCh aoNa) 3 = aoNa ∧ aoNa.used = true ∧ aoNa.isAo = true ∧ aoNa.naSince = some 5 ∧ bitOf (BitVec.toNat aoNa.status) 8 = true ∧ aoNa.complianceRaised = false ∧ 5 + 1000000 * aoNa.rcd.persistMs ≤ max (mCh aoNa).clk 200000005) ∧
  ((mCh ao).pwr.st ≠ PState.off ∧ chanOf (mCh ao) 3 = ao ∧ ao.used = true ∧ ao.isAo = true ∧ bitOf (BitVec.toNat ao.status) 10 = false) := by
  refine ⟨⟨?_, ?_, ?_, ?_, ?_⟩, ⟨?_, ?_, ?_, ?_, ?_, ?_⟩, ⟨?_, ?_, ?_, ?_⟩, ⟨?_, ?_, ?_, ?_, ?_⟩, ⟨?_, ?_, ?_, ?_, ?_, ?_, ?_, ?_⟩, ⟨?_, ?_, ?_, ?_, ?_⟩⟩ <;> decide +kernel

end Sys2Proof.Tests.J

namespace Sys2Proof.Tests.K

def r0 (x : Val) (q : Qual := 0xC000) : VQ := { v := x, q := q }
def tkD : Task := { rcd := { task := 5, cls := 1, pair := 0, reads := [0x00200003], writes := [0x00200003] }, home := 0, pair := 0, st := .running }
def iD (a b c : Val) : Inst := { release := 1000, pc := 3, regs := [r0 a, r0 b, r0 c, r0 9 0x4000] ++ List.replicate 12 {}, snap := [{ val := 5, qual := 0xC000, time := 3, wrap := 0 }], wbuf := [none], scratch := [{}], retain := [{}], fbi := [{}] }
def tD (a b c : Val) : Task := { tkD with inst := some (iD a b c) }
def mD (a b c : Val) : Mod := { m0 with pge := { tasks := [(5, tD a b c)], running := [(0, 5)], images := [(7, { imageId := 7, prevId := 0, codeOff := 0, code := [], consts := [], retain := [], scratch := [], fbi := [], migration := none, raw := [] })] } }
def v5 : View := { val := 5, qual := 0xC000, time := 3, wrap := 0 }
def iLp : Inst := { iD 1 2 3 with loops := [{ start := 1, stop := 3, total := 2, idx := 0, depth := 0 }] }
def lf : LoopFrame := { start := 1, stop := 3, total := 2, idx := 0, depth := 0 }
def lf1 : LoopFrame := { lf with idx := 1 }
def iLp1 : Inst := { iLp with loops := [lf1] }
def iC : Inst := { iD 1 2 3 with calls := [9] }
def tC : Task := { tkD with inst := some iC }
def mCl : Mod := { m0 with pge := { tasks := [(5, tC)], running := [(0, 5)] } }
def eb (a : Val) (b : Val) : Fbi := { w0 := a, w1 := b }
def iBad : Inst := { iD 1 2 3 with regs := [r0 1 0] }

theorem witness_DicMoves :
  (runningOn (mD 7 2 0) 0 = some (5, tD 7 2 0, iD 7 2 0)) ∧
  (runningOn (mD 7 2 0) 0 = some (5, tD 7 2 0, iD 7 2 0) ∧ BitVec.toNat ((iD 7 2 0).reg 1).v % 2 ^ 32 < 3) ∧
  (runningOn (mD 7 2 0) 0 = some (5, tD 7 2 0, iD 7 2 0) ∧ 2 ≤ BitVec.toNat ((iD 7 2 0).reg 1).v % 2 ^ 32) ∧
  ((1 = 1 ∨ 1 = 3) ∧ runningOn (mD 7 2 0) 0 = some (5, tD 7 2 0, iD 7 2 0)) ∧
  (2 ≠ 1 ∧ 2 ≠ 3 ∧ runningOn (mD 7 2 0) 0 = some (5, tD 7 2 0, iD 7 2 0)) ∧
  (runningOn (mD 7 2 0) 0 = some (5, tD 7 2 0, iD 7 2 0) ∧ (iD 7 2 0).snap[0]? = some v5) := by
  refine ⟨?_, ⟨?_, ?_⟩, ⟨?_, ?_⟩, ⟨?_, ?_⟩, ⟨?_, ?_, ?_⟩, ⟨?_, ?_⟩⟩ <;> decide +kernel

theorem witness_IntegersSaturate :
  (tyReal 6 = false) ∧
  (tyReal 1 = false) := by
  refine ⟨?_, ?_⟩ <;> decide +kernel

theorem witness_DicIntegers :
  (tyReal 1 = false ∧ runningOn (mD 7 2 0) 0 = some (5, tD 7 2 0, iD 7 2 0)) ∧
  (tyReal 3 = false ∧ runningOn (mD 9223372036854775807 9223372036854775808 5) 0 = some (5, tD 9223372036854775807 9223372036854775808 5, iD 9223372036854775807 9223372036854775808 5)) ∧
  (tyReal 1 = false ∧ runningOn (mD 7 0 1) 0 = some (5, tD 7 0 1, iD 7 0 1)) := by
  refine ⟨⟨?_, ?_⟩, ⟨?_, ?_⟩, ⟨?_, ?_⟩⟩ <;> decide +kernel

theorem witness_DicReals :
  ((4 = 4 ∨ 4 = 5) ∧ runningOn (mD 1065353216 1073741824 0) 0 = some (5, tD 1065353216 1073741824 0, iD 1065353216 1073741824 0)) ∧
  ((5 = 4 ∨ 5 = 5) ∧ runningOn (mD 4607182418800017408 4611686018427387904 0) 0 = some (5, tD 4607182418800017408 4611686018427387904 0, iD 4607182418800017408 4611686018427387904 0)) ∧
  ((4 = 4 ∨ 4 = 5)) := by
  refine ⟨⟨?_, ?_⟩, ⟨?_, ?_⟩, ?_⟩ <;> decide +kernel

theorem witness_DicBits :
  (runningOn (mD 255 40 1) 0 = some (5, tD 255 40 1, iD 255 40 1)) ∧
  (tyWidth 1 ≤ BitVec.toNat (r0 33).v % 64) := by
  refine ⟨?_, ?_⟩ <;> decide +kernel

theorem witness_DicSelects :
  (tyReal 1 = false ∧ runningOn (mD 7 2 0) 0 = some (5, tD 7 2 0, iD 7 2 0)) ∧
  (tyReal 4 = true ∧ runningOn (mD 7 2 0) 0 = some (5, tD 7 2 0, iD 7 2 0)) ∧
  (tyReal 4 = true ∧ (fIsNan (tyFmt 4) (asPat 4 (r0 2143289344).v) = true ∨ fIsNan (tyFmt 4) (asPat 4 (r0 0).v) = true)) ∧
  (runningOn (mD 7 2 0) 0 = some (5, tD 7 2 0, iD 7 2 0)) ∧
  (runningOn (mD 4607182418800017408 4611686018427387904 0) 0 = some (5, tD 4607182418800017408 4611686018427387904 0, iD 4607182418800017408 4611686018427387904 0)) ∧
  (tyReal 1 = false ∧ tyReal 3 = false ∧ 1 ≠ 0 ∧ 1 ≠ 7 ∧ 3 ≠ 7) := by
  refine ⟨⟨?_, ?_⟩, ⟨?_, ?_⟩, ⟨?_, ?_⟩, ?_, ?_, ⟨?_, ?_, ?_, ?_, ?_⟩⟩ <;> decide +kernel

theorem witness_DicControl :
  (runningOn (mD 7 2 0) 0 = some (5, tD 7 2 0, iD 7 2 0)) ∧
  (iLp.loops = [lf] ∧ lf.depth = iLp.calls.length ∧ iLp.pc = lf.stop ∧ lf.idx + 1 < lf.total) ∧
  (iLp1.loops = [lf1] ∧ iLp1.pc = lf1.stop ∧ lf1.depth = iLp1.calls.length ∧ lf1.total ≤ lf1.idx + 1) ∧
  (runningOn mCl 0 = some (5, tC, iC) ∧ iC.calls = [9] ∧ iC.loops = []) := by
  refine ⟨?_, ⟨?_, ?_, ?_, ?_⟩, ⟨?_, ?_, ?_, ?_⟩, ⟨?_, ?_, ?_⟩⟩ <;> decide +kernel

theorem witness_ServiceRequests :
  ((Instr.sysPlanStart 0, 16) ∈ [(Instr.sysLoopBank 0, 1), (Instr.sysLoopEnable 0, 2), (Instr.sysLoopCoef 0, 3), (Instr.sysPlanStart 0, 16), (Instr.sysPlanPause 0, 17), (Instr.sysPlanResume 0, 18), (Instr.sysPlanAbort 0, 19), (Instr.sysUnitCmd 0, 32), (Instr.sysUnitResume 0, 33), (Instr.sysMsgSend 0, 48), (Instr.sysHostEvent 0, 49)] ∧ runningOn (mD 1 2 3) 0 = some (5, tD 1 2 3, iD 1 2 3)) ∧
  ((Instr.sysHostEvent 0, 49) ∈ [(Instr.sysLoopBank 0, 1), (Instr.sysLoopEnable 0, 2), (Instr.sysLoopCoef 0, 3), (Instr.sysPlanStart 0, 16), (Instr.sysPlanPause 0, 17), (Instr.sysPlanResume 0, 18), (Instr.sysPlanAbort 0, 19), (Instr.sysUnitCmd 0, 32), (Instr.sysUnitResume 0, 33), (Instr.sysMsgSend 0, 48), (Instr.sysHostEvent 0, 49)] ∧ runningOn (mD 1 2 3) 0 = some (5, tD 1 2 3, iD 1 2 3)) := by
  refine ⟨⟨?_, ?_⟩, ⟨?_, ?_⟩⟩ <;> decide +kernel

theorem witness_FunctionBlocks :
  (runningOn (mD 1 500 3) 0 = some (5, tD 1 500 3, iD 1 500 3)) := by decide +kernel

theorem witness_BlocksBehave :
  ((iD 0 5 0).b 0 = false) ∧
  ((iD 1 5 0).b 0 = true ∧ (eb 1 900).w0 = 1) ∧
  ((iD 1 5 0).b 0 = true) ∧
  ((iD 0 5 0).b 0 = false ∧ (eb 0 0).w0 = 0) ∧
  ((iD 0 500 0).b 0 = false ∧ (eb 2 900).w0 = 2) ∧
  ((iD 1 0 0).b 0 = true ∧ (eb 0 2147483647).w0 = 0 ∧ (iD 1 0 0).b 1 = false) ∧
  ((iD 1 1 7).b 1 = true) ∧
  ((iD 1 1 0).b 0 = true) ∧
  ((iD 0 1 0).b 1 = true) ∧
  ((iD 0 0 0).b 0 = false ∧ (iD 0 0 0).b 1 = false) ∧
  (isBad (iBad.reg 0).q = true) := by
  refine ⟨?_, ⟨?_, ?_⟩, ?_, ⟨?_, ?_⟩, ⟨?_, ?_⟩, ⟨?_, ?_, ?_⟩, ?_, ?_, ?_, ⟨?_, ?_⟩, ?_⟩ <;> decide +kernel

end Sys2Proof.Tests.K

namespace Sys2Proof.Tests.L

def fu (x : FState) : Func := { st := x, ins := [0x00200003, 0x00200004] }
def sgT (v : Val) : SigRec := { qual := 0xC000, val := v }
def mS (f : Func) (a b : Val) : Mod := { m0 with saf := { funcs := [(3, f)] }, sig := { sigs := [(3, sgT a), (4, sgT b), (5, sgT 0)] } }
def stp (m : Mod) (f : Func) : Func := lockStep m (trackTimers m f)
def fDisc : Func := { fu .enabled with discSince := some 0 }
def mDisc : Mod := { mS fDisc 1 0 with clk := 10000000 }
def fRst : Func := { fu .ready with resetSig := 0x00200005, resetSince := some 5 }
def mRst : Mod := { mS fRst 1 1 with clk := 100000005 }
def fEn : Func := { fu .enabled with stopCat1 := true, stopDelayMs := 10 }
def fSt : Func := { fEn with st := .stopping, stopSince := some 0 }
def f2h (x : FState) : Func := { kind := 4, st := x, ins := [0x00200003, 0x00200006, 0x00200004, 0x00200007], syncMs := 500, discMs := 10 }
def m2h (f : Func) (a b : Val) : Mod := { m0 with saf := { funcs := [(3, f)] }, sig := { sigs := [(3, sgT a), (4, sgT b), (6, sgT (1 - a)), (7, sgT (1 - b))] } }
def f2s : Func := { f2h .ready with syncSince := some 0 }
def m2s : Mod := { m2h f2s 1 0 with clk := 500000001 }
def fCon : Func := { f2h .ready with leftSince := some 0 }
def mCon : Mod := { m0 with saf := { funcs := [(3, fCon)] }, sig := { sigs := [(3, sgT 1), (4, sgT 0), (6, sgT 1), (7, sgT 1)] } }
def fOs : Func := { fu .ready with kind := 5, ossdTestMs := 10 }
def mOs : Mod := { m0 with saf := { funcs := [(3, fOs)] }, sig := { sigs := [(3, { ownKind := 1, ownId := 8, qual := 0xC000, val := 1 }), (4, sgT 1)] }, fio := { chans := [(8, { q := true })] } }
def fLk : Func := { fu .tripped with kind := 3, unlockReq := 0x00200003, unlockPermit := 0x00200004, outsLowSince := some 0 }
def cS : Conn := { send := true, peerId := 1, peerConn := 3, seed := 5, periodUs := 250 }
def cR (x : CState) : Conn := { peerId := 1, peerConn := 3, seed := 5, st := x, good := 2, lastSeq := 4, watchdogUs := 500 }
def mCn (c : Conn) : Mod := { m0 with saf := { conns := [(3, c)], net := 0x00000021 } }
def p36 : List Byte := List.replicate 36 7
def pdu (n net : Nat) : List Byte := buildPdu (mCn cS) 3 cS p36 n net
def cTwin : Conn := { cR .active with lastNet := true, lastCopy := List.replicate 64 0 }
def cOne : Conn := { cR .active with seenA := some 0, netlossMs := 5 }
def mDeg : Mod := { mS (fu .ready) 1 1 with saf := { funcs := [(3, fu .ready)], degPair := { active := true } } }
def mEnd : Mod := { m0 with saf := { funcs := [(3, fu .ready)], degPair := { active := true, clearSince := some 0 } } }

theorem witness_SafetyStates :
  (tget (mS (fu FState.init) 1 1).saf.funcs 3 = some (fu FState.init) ∧ stp (mS (fu FState.init) 1 1) (fu FState.init) = lockStep (mS (fu FState.init) 1 1) (trackTimers (mS (fu FState.init) 1 1) (fu FState.init)) ∧ (fu FState.init).st = FState.init) ∧
  (tget (mS (fu FState.fault) 1 1).saf.funcs 3 = some (fu FState.fault) ∧ stp (mS (fu FState.fault) 1 1) (fu FState.fault) = lockStep (mS (fu FState.fault) 1 1) (trackTimers (mS (fu FState.fault) 1 1) (fu FState.fault)) ∧ (fu FState.fault).st = FState.fault) ∧
  (tget mDisc.saf.funcs 3 = some fDisc ∧ stp mDisc fDisc = lockStep mDisc (trackTimers mDisc fDisc) ∧ fDisc.st ≠ FState.init ∧ fDisc.st ≠ FState.fault ∧ faultCond mDisc (stp mDisc fDisc) ≠ FCause.none) ∧
  (tget (mS (fu FState.tripped) 1 1).saf.funcs 3 = some (fu FState.tripped) ∧ stp (mS (fu FState.tripped) 1 1) (fu FState.tripped) = lockStep (mS (fu FState.tripped) 1 1) (trackTimers (mS (fu FState.tripped) 1 1) (fu FState.tripped)) ∧ faultCond (mS (fu FState.tripped) 1 1) (stp (mS (fu FState.tripped) 1 1) (fu FState.tripped)) = FCause.none ∧ (fu FState.tripped).st = .tripped) ∧
  (tget mRst.saf.funcs 3 = some fRst ∧ stp mRst fRst = lockStep mRst (trackTimers mRst fRst) ∧ faultCond mRst (stp mRst fRst) = FCause.none ∧ fRst.st = .ready ∧ fRst.kind ≠ 4) ∧
  (tget (mS fEn 1 0).saf.funcs 3 = some fEn ∧ stp (mS fEn 1 0) fEn = lockStep (mS fEn 1 0) (trackTimers (mS fEn 1 0) fEn) ∧ faultCond (mS fEn 1 0) (stp (mS fEn 1 0) fEn) = FCause.none ∧ fEn.st = .enabled ∧ fEn.kind ≠ 4) ∧
  (tget (mS fSt 1 1).saf.funcs 3 = some fSt ∧ stp (mS fSt 1 1) fSt = lockStep (mS fSt 1 1) (trackTimers (mS fSt 1 1) fSt) ∧ faultCond (mS fSt 1 1) (stp (mS fSt 1 1) fSt) = FCause.none ∧ fSt.st = .stopping ∧ fSt.stopSince = some 0) ∧
  (tget (m2h (f2h FState.ready) 1 1).saf.funcs 3 = some (f2h FState.ready) ∧ stp (m2h (f2h FState.ready) 1 1) (f2h FState.ready) = lockStep (m2h (f2h FState.ready) 1 1) (trackTimers (m2h (f2h FState.ready) 1 1) (f2h FState.ready)) ∧ faultCond (m2h (f2h FState.ready) 1 1) (stp (m2h (f2h FState.ready) 1 1) (f2h FState.ready)) = FCause.none ∧ (f2h .ready).st = .ready ∧ (f2h .ready).kind = 4 ∧ (f2h .ready).syncSince = none ∧ bothPressed (m2h (f2h .ready) 1 1) (f2h .ready) = true) ∧
  (tget (m2h (f2h FState.enabled) 1 0).saf.funcs 3 = some (f2h FState.enabled) ∧ stp (m2h (f2h FState.enabled) 1 0) (f2h FState.enabled) = lockStep (m2h (f2h FState.enabled) 1 0) (trackTimers (m2h (f2h FState.enabled) 1 0) (f2h FState.enabled)) ∧ faultCond (m2h (f2h FState.enabled) 1 0) (stp (m2h (f2h FState.enabled) 1 0) (f2h FState.enabled)) = FCause.none ∧ (f2h .enabled).st = .enabled ∧ (f2h .enabled).kind = 4 ∧ bothPressed (m2h (f2h .enabled) 1 0) (f2h .enabled) = false) ∧
  (tget m2s.saf.funcs 3 = some f2s ∧ stp m2s f2s = lockStep m2s (trackTimers m2s f2s) ∧ faultCond m2s (stp m2s f2s) = FCause.none ∧ f2s.st = .ready ∧ f2s.kind = 4 ∧ f2s.syncSince = some 0 ∧ bothReleased m2s f2s = false ∧ 0 + 1000000 * f2s.syncMs < m2s.clk) := by
  refine ⟨⟨?_, ?_, ?_⟩, ⟨?_, ?_, ?_⟩, ⟨?_, ?_, ?_, ?_, ?_⟩, ⟨?_, ?_, ?_, ?_⟩, ⟨?_, ?_, ?_, ?_, ?_⟩, ⟨?_, ?_, ?_, ?_, ?_⟩, ⟨?_, ?_, ?_, ?_, ?_⟩, ⟨?_, ?_, ?_, ?_, ?_, ?_, ?_⟩, ⟨?_, ?_, ?_, ?_, ?_, ?_⟩, ⟨?_, ?_, ?_, ?_, ?_, ?_, ?_, ?_⟩⟩ <;> decide +kernel

theorem witness_SafetyEvaluations :
  ((mS (fu FState.tripped) 1 1).pwr.st ≠ PState.off ∧ evaluatorsRun (mS (fu FState.tripped) 1 1) = true ∧ tget (mS (fu FState.tripped) 1 1).saf.funcs 3 = some (fu FState.tripped)) ∧
  ((mS (fu FState.tripped) 1 1).pwr.st ≠ PState.off ∧ evaluatorsRun (mS (fu FState.tripped) 1 1) = true ∧ tget (mS (fu FState.tripped) 1 1).saf.funcs 3 = some (fu FState.tripped) ∧ (max (mS (fu FState.tripped) 1 1).clk 100000 - (mS (fu FState.tripped) 1 1).tim.zero) % 100000 = 0) ∧
  ((mS fDisc 1 0).pwr.st ≠ PState.off ∧ evaluatorsRun (mS fDisc 1 0) = true ∧ tget (mS fDisc 1 0).saf.funcs 3 = some fDisc ∧ differ (mS fDisc 1 0) fDisc = true ∧ fDisc.discSince = some 0 ∧ 0 + 1000000 * fDisc.discMs ≤ max (mS fDisc 1 0).clk 10000000 ∧ fDisc.st ≠ FState.init ∧ fDisc.st ≠ FState.fault) ∧
  ((mS fSt 1 1).pwr.st ≠ PState.off ∧ evaluatorsRun (mS fSt 1 1) = true ∧ tget (mS fSt 1 1).saf.funcs 3 = some fSt ∧ fSt.st = FState.stopping ∧ fSt.stopSince = some 0 ∧ 0 + 1000000 * fSt.stopDelayMs ≤ max (mS fSt 1 1).clk 10000000) ∧
  ((m2h f2s 1 0).pwr.st ≠ PState.off ∧ evaluatorsRun (m2h f2s 1 0) = true ∧ tget (m2h f2s 1 0).saf.funcs 3 = some f2s ∧ f2s.kind = 4 ∧ f2s.st = FState.ready ∧ f2s.syncSince = some 0 ∧ 0 + 1000000 * f2s.syncMs ≤ max (m2h f2s 1 0).clk 500000000) ∧
  (mCon.pwr.st ≠ PState.off ∧ evaluatorsRun mCon = true ∧ tget mCon.saf.funcs 3 = some fCon ∧ faultCond (seen (st mCon) 10000000) fCon = FCause.contact ∧ fCon.st ≠ FState.init ∧ fCon.st ≠ FState.fault) ∧
  (mOs.pwr.st ≠ PState.off ∧ evaluatorsRun mOs = true ∧ tget mOs.saf.funcs 3 = some fOs ∧ fOs.kind = 5 ∧ ossdLate (seen (st mOs) 10000000) fOs (fOs.inSig (if false = true then 1 else 0)) = true) ∧
  ((mS fLk 1 1).pwr.st ≠ PState.off ∧ evaluatorsRun (mS fLk 1 1) = true ∧ tget (mS fLk 1 1).saf.funcs 3 = some fLk ∧ fLk.kind = 3 ∧ fLk.lockReleased = false ∧ counts (mS fLk 1 1) fLk.unlockReq = true ∧ counts (mS fLk 1 1) fLk.unlockPermit = true ∧ fLk.runs = false ∧ fLk.outsLowSince = some 0 ∧ 0 + 10000000 ≤ max (mS fLk 1 1).clk 10000000) ∧
  ((mS (fu FState.fault) 1 1).pwr.st ≠ PState.off ∧ evaluatorsRun (mS (fu FState.fault) 1 1) = true ∧ tget (mS (fu FState.fault) 1 1).saf.funcs 3 = some (fu FState.fault) ∧ bootHeld (mS (fu FState.fault) 1 1) = false ∧ 3 < 256 ∧ (fu FState.fault).st = FState.fault ∧ faultCond (seen (st (mS (fu FState.fault) 1 1)) 9) (trackTimers (seen (st (mS (fu FState.fault) 1 1)) 9) (fu FState.fault)) = FCause.none) := by
  refine ⟨⟨?_, ?_, ?_⟩, ⟨?_, ?_, ?_, ?_⟩, ⟨?_, ?_, ?_, ?_, ?_, ?_, ?_, ?_⟩, ⟨?_, ?_, ?_, ?_, ?_, ?_⟩, ⟨?_, ?_, ?_, ?_, ?_, ?_, ?_⟩, ⟨?_, ?_, ?_, ?_, ?_, ?_⟩, ⟨?_, ?_, ?_, ?_, ?_⟩, ⟨?_, ?_, ?_, ?_, ?_, ?_, ?_, ?_, ?_, ?_⟩, ⟨?_, ?_, ?_, ?_, ?_, ?_, ?_⟩⟩ <;> decide +kernel

theorem witness_SafeTelegrams :
  ((mCn cS).pwr.st ≠ PState.off ∧ tget (mCn cS).saf.conns 3 = some cS ∧ p36.length = 36 ∧ 3 < 65536 ∧ 65535 < 65536 ∧ cS.gmac = false ∧ (cR CState.active).gmac = false ∧ (mCn cS).saf.gmacReq = false ∧ (cR CState.active).seed = cS.seed ∧ (cR CState.active).peerConn = 3 ∧ (cR CState.active).peerId = speakId (mCn cS)) ∧
  ((mCn cS).pwr.st ≠ PState.off ∧ tget (mCn cS).saf.conns 3 = some cS ∧ cS.send = true ∧ (aPort (mCn cS) ≠ 0 ∨ bPort (mCn cS) ≠ 0) ∧ (mCn cS).saf.degNet.expired = false ∧ sendPayload (seen (st (mCn cS)) 9) 3 cS = some ((sendPayload (seen (st (mCn cS)) 9) 3 cS).getD []) ∧ sendDue (seen (st (mCn cS)) 9) cS ((sendPayload (seen (st (mCn cS)) 9) 3 cS).getD []) = true) ∧
  ((mCn (cR CState.active)).pwr.st ≠ PState.off ∧ tget (mCn (cR CState.active)).saf.conns 3 = some (cR CState.active) ∧ (cR CState.active).send = false ∧ evaluatorsRun (mCn (cR CState.active)) = true ∧ copyValid (mCn (cR CState.active)) (cR CState.active) [] = false) ∧
  ((mCn (cR CState.failed)).pwr.st ≠ PState.off ∧ tget (mCn (cR CState.failed)).saf.conns 3 = some (cR CState.failed) ∧ (cR CState.failed).send = false ∧ evaluatorsRun (mCn (cR CState.failed)) = true ∧ copyValid (mCn (cR CState.failed)) (cR CState.failed) (pdu 5 0) = true ∧ (cR CState.failed).st = CState.failed) ∧
  ((mCn (cR CState.starting)).pwr.st ≠ PState.off ∧ tget (mCn (cR CState.starting)).saf.conns 3 = some (cR CState.starting) ∧ (cR CState.starting).send = false ∧ evaluatorsRun (mCn (cR CState.starting)) = true ∧ copyValid (mCn (cR CState.starting)) (cR CState.starting) (pdu 5 0) = true ∧ (cR CState.starting).st = CState.starting ∧ 2 ≤ (cR CState.starting).good ∧ u16 (pdu 5 0) 8 = ((cR CState.starting).lastSeq + 1) % 65536) ∧
  ((mCn (cR CState.active)).pwr.st ≠ PState.off ∧ tget (mCn (cR CState.active)).saf.conns 3 = some (cR CState.active) ∧ (cR CState.active).send = false ∧ evaluatorsRun (mCn (cR CState.active)) = true ∧ copyValid (mCn (cR CState.active)) (cR CState.active) (pdu 36 0) = true ∧ (cR CState.active).st = CState.active ∧ (u16 (pdu 36 0) 8 + 65536 - (cR CState.active).lastSeq) % 65536 ∈ List.range' 1 32 ∧ (cR CState.active).lastSeq < 65536) ∧
  ((mCn cTwin).pwr.st ≠ PState.off ∧ tget (mCn cTwin).saf.conns 3 = some cTwin ∧ cTwin.send = false ∧ evaluatorsRun (mCn cTwin) = true ∧ copyValid (mCn cTwin) cTwin (pdu 4 0) = true ∧ cTwin.st = CState.active ∧ u16 (pdu 4 0) 8 = cTwin.lastSeq ∧ false ≠ cTwin.lastNet ∧ slice (pdu 4 0) 11 41 ≠ slice cTwin.lastCopy 11 41 ∧ anyTrial (mCn cTwin) = false) ∧
  ((mCn (cR CState.active)).pwr.st ≠ PState.off ∧ tget (mCn (cR CState.active)).saf.conns 3 = some (cR CState.active) ∧ (cR CState.active).send = false ∧ evaluatorsRun (mCn (cR CState.active)) = true ∧ copyValid (mCn (cR CState.active)) (cR CState.active) (pdu 37 0) = true ∧ (cR CState.active).st = CState.active ∧ 32 < (u16 (pdu 37 0) 8 + 65536 - (cR CState.active).lastSeq) % 65536) ∧
  ((mCn (cR CState.active)).pwr.st ≠ PState.off ∧ tget (mCn (cR CState.active)).saf.conns 3 = some (cR CState.active) ∧ (cR CState.active).send = false ∧ evaluatorsRun (mCn (cR CState.active)) = true ∧ (cR CState.active).st ≠ CState.failed ∧ (cR CState.active).lastAccept + 1000 * (cR CState.active).watchdogUs ≤ max (mCn (cR CState.active)).clk 500000) := by
  refine ⟨⟨?_, ?_, ?_, ?_, ?_, ?_, ?_, ?_, ?_, ?_, ?_⟩, ⟨?_, ?_, ?_, ?_, ?_, ?_, ?_⟩, ⟨?_, ?_, ?_, ?_, ?_⟩, ⟨?_, ?_, ?_, ?_, ?_, ?_⟩, ⟨?_, ?_, ?_, ?_, ?_, ?_, ?_, ?_⟩, ⟨?_, ?_, ?_, ?_, ?_, ?_, ?_, ?_⟩, ⟨?_, ?_, ?_, ?_, ?_, ?_, ?_, ?_, ?_, ?_⟩, ⟨?_, ?_, ?_, ?_, ?_, ?_, ?_⟩, ⟨?_, ?_, ?_, ?_, ?_, ?_⟩⟩ <;> decide +kernel

theorem witness_DegradedMode :
  ((mCn cS).pwr.st ≠ PState.off ∧ aPort (mCn cS) ≠ 0 ∧ aPort (mCn cS) ≤ 8 ∧ (mCn cS).saf.degNet.active = false) ∧
  ((mCn cS).pwr.st ≠ PState.off ∧ 1 ≤ 8 ∧ 8 ≤ 8) ∧
  ((mCn cOne).pwr.st ≠ PState.off ∧ tget (mCn cOne).saf.conns 3 = some cOne ∧ cOne.send = false ∧ cOne.st = CState.active ∧ cOne.seenA = some 0 ∧ cOne.seenB = none ∧ max (mCn cOne).clk 9 < 0 + 1000000 * cOne.netlossMs ∧ (mCn cOne).saf.netLost.contains (3, true) = false) ∧
  (mDeg.pwr.st ≠ PState.off ∧ (degOf mDeg DegCause.pair).active = true ∧ (degOf mDeg DegCause.pair).expired = false ∧ (degOf mDeg DegCause.pair).remain (max mDeg.clk 9) = 0) ∧
  (mEnd.pwr.st ≠ PState.off ∧ degStands mEnd DegCause.pair = false ∧ (degOf mEnd DegCause.pair).active = true ∧ (degOf mEnd DegCause.pair).clearSince = some 0 ∧ 0 + 10000000000 ≤ max mEnd.clk 10000000000) ∧
  (mEnd.pwr.st ≠ PState.off) := by
  refine ⟨⟨?_, ?_, ?_, ?_⟩, ⟨?_, ?_, ?_⟩, ⟨?_, ?_, ?_, ?_, ?_, ?_, ?_, ?_⟩, ⟨?_, ?_, ?_, ?_⟩, ⟨?_, ?_, ?_, ?_, ?_⟩, ?_⟩ <;> decide +kernel

end Sys2Proof.Tests.L

namespace Sys2Proof.Tests.M

def gA : Permit := { who := 10, op := .archiveFlush, c1 := false, units := 24, durMs := 10, resync := false, stop := 5 }
def gR : Permit := { who := 30, op := .resyncBulk, c1 := false, units := 380, durMs := 10, resync := true, stop := 5 }
def m_m1 : Mod := { m0 with adm := { grants := [gA], waiting := [gR] } }
def m_m2 : Mod := { m0 with adm := { grants := [gA] } }
def m_m3 : Mod := { m0 with adm := { grants := [gR] } }
def fe (tag : Option (Nat × Nat)) (n : Nat := 100) : EthFrame := { dst := 5, src := 7, etherType := 0x0800, tag := tag, len := n, ptp := none }
def upP : EPort := { up := true, giga := true }
def xf (tag : Option (Nat × Nat)) : Nat × Time × EthFrame := (1, 3, fe tag)
def mSw : Mod := { m0 with net := { ports := [(1, upP), (2, upP), (3, { upP with queue := [xf (some (0, 2))] })], fdb := [(5, 2, 1)] }, clk := 2 }
def eP : EPort := { upP with queue := [xf (some (0, 2)), xf (some (6, 2))] }
def ann : Announce := { priority1 := 1, clockClass := 6, accuracy := 1, variance := 1, priority2 := 1, clockId := 9, timeTraceable := true }
def annW : Announce := { ann with priority1 := 200, clockId := 10 }
def tim0 (f : Bool) : TimBlk := { master := some ann, masterPort := 2, first := f }
def mT (f : Bool) : Mod := { m0 with tim := tim0 f, pwr := { m0.pwr with starting := !f }, net := { ports := [(2, { upP with ptp := true })] } }
def mTn : Mod := { mT true with tim := { masterEn := true } }
def txt : List Byte := [36, 71, 80, 88, 44, 49, 46, 53, 42, 52, 57]
def bod : List Byte := [71, 80, 88, 44, 49, 46, 53]
def navE : NavEnt := { signal := 0x00200003, source := 1, field := 1, matchField := 0, address := [42, 80, 88], timeoutMs := 100, matchText := [], scale := 0x40000000, offset := 0x3F800000 }
def sgN : SigRec := { ownKind := 10, ownId := 0, ty := 4, qual := 0xC000, val := 9 }
def mNav : Mod := { m0 with net := { navs := [(0, navE)] }, sig := { sigs := [(3, sgN), (4, sgN)] } }
def rec32 : List Byte := [3, 0, 0x20, 0, 1, 1, 0, 0] ++ [42, 80, 88, 0, 0, 0] ++ List.replicate 18 0
def sta (j : Bool) : Station := { stationId := 0x77, joined := j, assigned := !j, ins := [0x00200003], outs := [0x00200004] }
def staC (j : Bool) (b : Nat := 0) : Station := { sta j with cycleAt := some 5, missed := b }
def mSt (r : Station) : Mod := { m0 with net := { stations := [(4, r)] }, sig := { sigs := [(3, { sgN with ownKind := 5, ownId := 4 }), (4, sgN)] } }
def seg0 : List Byte := bytes16 1 ++ [4, 4] ++ bytes32 0x77 ++ bytes32 (speakId m0) ++ bytes32 0 ++ bytes16 0 ++ bytes16 1 ++ [0, 1] ++ bytes16 0 ++ bytes64 0x3F800000 ++ bytes16 0xC000
def staG (j : Bool) : Station := { staC j with got := [(0, bytes64 0x3F800000 ++ bytes16 0xC000)] }
def staA (x : Option (Req × Bool × Nat)) : Station := { sta true with acyc := x }
def qA : Option (Req × Bool × Nat) := some (q1, true, 5)
def srec : List Byte := [4, 0, 3, 0] ++ bytes32 0x99 ++ bytes32 250 ++ bytes32 50 ++ bytes16 0 ++ bytes16 1 ++ bytes16 1 ++ List.replicate 10 0 ++ bytes32 0x00200004
def mL : Mod := (match loadStation (seen (st (mSt (sta false))) 9) 4 srec with | .ok m => m | _ => m0)
def staBig : Station := { stationId := 0x78, outs := List.replicate 2000 0 }
def mBig : Mod := { mSt (sta false) with net := { stations := [(4, sta false), (5, staBig)] } }
def mBigL : Mod := (match loadStation (seen (st mBig) 9) 4 srec with | .ok m => m | _ => m0)

theorem witness_WindingPermits :
  (granted m_m1 ≤ pool m_m1) ∧
  (m_m2.pwr.st ≠ PState.off ∧ m_m2.lpe.waiting = [] ∧ m_m2.pnl.fullReq = none ∧ m_m2.pwr.st ≠ PState.fail ∧ m_m2.adm.waiting = [] ∧ (∀ g ∈ m_m2.adm.grants, g.who ≠ 11) ∧ m_m2.adm.holdBack = false ∧ 1 ≤ 10 ∧ 10 ≤ opMaxMs HeavyOp.archiveFlush ∧ granted m_m2 + opUnits HeavyOp.archiveFlush ≤ pool m_m2) ∧
  (m_m3.pwr.st ≠ PState.off ∧ m_m3.lpe.waiting = [] ∧ m_m3.pnl.fullReq = none ∧ m_m3.pwr.st ≠ PState.fail ∧ m_m3.adm.waiting = [] ∧ (∀ g ∈ m_m3.adm.grants, g.who ≠ 11) ∧ m_m3.adm.holdBack = false ∧ 1 ≤ 10 ∧ 10 ≤ opMaxMs HeavyOp.archiveFlush ∧ pool m_m3 < granted m_m3 + opUnits HeavyOp.archiveFlush) ∧
  (m_m1.pwr.st ≠ PState.off ∧ m_m1.lpe.waiting = [] ∧ m_m1.pnl.fullReq = none ∧ (∀ w ∈ m_m1.adm.waiting, w.who ≠ 10)) ∧
  (m_m2.pwr.st ≠ PState.off ∧ m_m2.lpe.waiting = [] ∧ m_m2.pnl.fullReq = none ∧ List.find? (fun x => x.who == 10) m_m2.adm.grants = some gA ∧ m_m2.adm.waiting = [] ∧ m_m2.adm.holdBack = false ∧ 12 ≤ gA.units ∧ 1 ≤ 20 ∧ 20 ≤ opMaxMs gA.op) ∧
  (m_m2.pwr.st ≠ PState.off ∧ m_m2.lpe.waiting = [] ∧ m_m2.pnl.fullReq = none ∧ List.find? (fun x => x.who == 10) m_m2.adm.grants = some gA ∧ gA.stop ≤ max m_m2.clk 9 ∧ 10 ≠ 40) := by
  refine ⟨?_, ⟨?_, ?_, ?_, ?_, ?_, ?_, ?_, ?_, ?_, ?_⟩, ⟨?_, ?_, ?_, ?_, ?_, ?_, ?_, ?_, ?_, ?_⟩, ⟨?_, ?_, ?_, ?_⟩, ⟨?_, ?_, ?_, ?_, ?_, ?_, ?_, ?_, ?_⟩, ⟨?_, ?_, ?_, ?_, ?_, ?_⟩⟩ <;> decide +kernel

theorem witness_SwitchFrames :
  (mSw.pwr.st ≠ PState.off ∧ 1 ≤ 1 ∧ 1 ≤ 8 ∧ (portOf mSw 1).up = true ∧ 64 ≤ (fe none).len ∧ (fe none).len ≤ 1522 ∧ isFeluno (fe none).etherType = false ∧ isGroup (fe none).dst = false ∧ (fe none).dst ≠ mSw.nv.mac ∧ (fe none).src ≠ (fe none).dst ∧ fdbFind (seen (st mSw) 9) (fe none).dst = some 2 ∧ 2 ≠ 1 ∧ (portOf mSw 2).up = true) ∧
  (mSw.pwr.st ≠ PState.off ∧ (1 < 1 ∨ 8 < 1 ∨ (portOf mSw 1).up = false ∨ (fe none 1523).len < 64 ∨ 1522 < (fe none 1523).len)) ∧
  (mSw.pwr.st ≠ PState.off ∧ (5 < 1 ∨ 8 < 5 ∨ (portOf mSw 5).up = false ∨ (fe none).len < 64 ∨ 1522 < (fe none).len)) ∧
  (mSw.pwr.st ≠ PState.off ∧ (fe none).tag = none) ∧
  (mSw.pwr.st ≠ PState.off ∧ (fe (some (7, 3))).tag = some (7, 3)) ∧
  (mSw.pwr.st ≠ PState.off ∧ (fe (some (4, 3))).tag = some (4, 3)) ∧
  (mSw.pwr.st ≠ PState.off ∧ nextFrame eP = some (xf (some (6, 2))) ∧ xf (some (6, 2)) ∈ eP.queue ∧ pcpClass (pcpOf (xf (some (6, 2))).2.2) < 2) ∧
  (mSw.pwr.st ≠ PState.off ∧ 1 ≤ 3 ∧ 3 ≤ 8 ∧ nextFrame (portOf mSw 3) = some (xf (some (0, 2))) ∧ (xf (some (0, 2))).2.2.ptp = none) := by
  refine ⟨⟨?_, ?_, ?_, ?_, ?_, ?_, ?_, ?_, ?_, ?_, ?_, ?_, ?_⟩, ⟨?_, ?_⟩, ⟨?_, ?_⟩, ⟨?_, ?_⟩, ⟨?_, ?_⟩, ⟨?_, ?_⟩, ⟨?_, ?_, ?_, ?_⟩, ⟨?_, ?_, ?_, ?_, ?_⟩⟩ <;> decide +kernel

theorem witness_ModuleTime :
  ((mT false).pwr.st ≠ PState.off ∧ servoRuns (mT false) = true ∧ (mT false).tim.master.isSome = true ∧ (mT false).tim.first = false ∧ (mT false).pwr.starting = true ∧ (mT false).tri.mode = 0) ∧
  ((mT true).pwr.st ≠ PState.off ∧ servoRuns (mT true) = true ∧ (mT true).tim.master.isSome = true ∧ (mT true).tim.first = true ∧ Int.natAbs 1000000 ≤ (mT true).tim.jump) ∧
  ((mT true).pwr.st ≠ PState.off ∧ servoRuns (mT true) = true ∧ (mT true).tim.master.isSome = true ∧ (mT true).tim.first = true ∧ (mT true).tim.jump < (-1000001).natAbs) ∧
  (mTn.pwr.st ≠ PState.off ∧ servoRuns mTn = true ∧ 1 ≤ 2 ∧ 2 ≤ 8 ∧ (portOf mTn 2).ptp = true ∧ chooses mTn 2 ann = true) ∧
  ((mT true).pwr.st ≠ PState.off ∧ servoRuns (mT true) = true ∧ 1 ≤ 2 ∧ 2 ≤ 8 ∧ (portOf (mT true) 2).ptp = true ∧ chooses (mT true) 2 annW = false) ∧
  (mTn.pwr.st ≠ PState.off ∧ servoRuns mTn = true ∧ 1 ≤ 2 ∧ 2 ≤ 8 ∧ (portOf mTn 2).ptp = true ∧ sends mTn PtpMsg.announce = true ∧ (portOf mTn 2).up = true) ∧
  ((mT true).pwr.st ≠ PState.off ∧ (mT true).tim.master.isSome = true ∧ (mT true).tim.announceAt < max (mT true).clk 9) ∧
  ((mT true).pwr.st ≠ PState.off ∧ opReady (seen (st (mT true)) 9) 643 q0 = true ∧ notLead (seen (st (mT true)) 9) = false ∧ 1 ≤ 8 ∧ 8 ≤ 8) ∧
  ((mT true).pwr.st ≠ PState.off ∧ (mT true).tim.wraps < wrapNo (seen (st (mT true)) 4294967296)) ∧
  ((mT true).pwr.st ≠ PState.off ∧ nowNs (seen (st (mT true)) 2000000000) % 1000000000 = 0) ∧
  ((mT true).pwr.st ≠ PState.off) := by
  refine ⟨⟨?_, ?_, ?_, ?_, ?_, ?_⟩, ⟨?_, ?_, ?_, ?_, ?_⟩, ⟨?_, ?_, ?_, ?_, ?_⟩, ⟨?_, ?_, ?_, ?_, ?_, ?_⟩, ⟨?_, ?_, ?_, ?_, ?_, ?_⟩, ⟨?_, ?_, ?_, ?_, ?_, ?_, ?_⟩, ⟨?_, ?_, ?_⟩, ⟨?_, ?_, ?_, ?_⟩, ⟨?_, ?_⟩, ⟨?_, ?_⟩, ?_⟩ <;> decide +kernel

theorem witness_NavigationData :
  (mNav.pwr.st ≠ PState.off ∧ sentenceBody [36, 71] = none) ∧
  (mNav.pwr.st ≠ PState.off ∧ sentenceBody txt = some bod ∧ notLead mNav = false ∧ mNav.net.navs = [(0, navE)] ∧ navFits navE 1 (commaFields bod) = true ∧ (commaFields bod)[navE.field]?.bind numberOf = some ((numberOf [49, 46, 53]).getD 0) ∧ mNav.tri.mode = 0 ∧ navE.signal ≠ 0 ∧ sigAt mNav (hIdx navE.signal) = some sgN ∧ sgN.forced = false ∧ sgN.isConst = false) ∧
  (mNav.pwr.st ≠ PState.off ∧ tget mNav.net.navs 0 = some navE ∧ notLead mNav = false ∧ navE.last + 1000000 * navE.timeoutMs ≤ max mNav.clk 100000000 ∧ mNav.tri.mode = 0 ∧ navE.signal ≠ 0 ∧ sigAt mNav (hIdx navE.signal) = some sgN) ∧
  (mNav.pwr.st ≠ PState.off ∧ opReady (seen (st mNav) 9) 642 q0 = true ∧ notLead (seen (st mNav) 9) = false ∧ anyTrial mNav = false ∧ loadNav (seen (st mNav) 9) 0 [] = Except.ok (setNavs (seen (st mNav) 9) [])) ∧
  (mNav.pwr.st ≠ PState.off ∧ opReady (seen (st mNav) 9) 642 q0 = true ∧ notLead (seen (st mNav) 9) = false ∧ anyTrial mNav = false ∧ loadNav (seen (st mNav) 9) 1 [] = Except.error Status.badField) := by
  refine ⟨⟨?_, ?_⟩, ⟨?_, ?_, ?_, ?_, ?_, ?_, ?_, ?_, ?_, ?_, ?_⟩, ⟨?_, ?_, ?_, ?_, ?_, ?_, ?_⟩, ⟨?_, ?_, ?_, ?_⟩, ⟨?_, ?_, ?_, ?_⟩⟩ <;> decide +kernel

theorem witness_StationExchange :
  ((mSt (sta true)).pwr.st ≠ PState.off ∧ (mSt (sta true)).pwr.svcStopped = false ∧ (mSt (sta true)).pwr.st ≠ PState.fail ∧ List.find? (fun e => e.2.stationId == 120) (mSt (sta true)).net.stations = none) ∧
  ((mSt (sta false)).pwr.st ≠ PState.off ∧ (mSt (sta false)).pwr.svcStopped = false ∧ (mSt (sta false)).pwr.st ≠ PState.fail ∧ List.find? (fun e => e.2.stationId == 119) (mSt (sta false)).net.stations = some (4, sta false) ∧ (sta false).joined = false) ∧
  ((mSt (sta true)).pwr.st ≠ PState.off ∧ tget (mSt (sta true)).net.stations 4 = some (sta true) ∧ ((sta true).assigned || (sta true).joined) = true ∧ (mSt (sta true)).pwr.st ≠ PState.fail ∧ (mSt (sta true)).flt.f3 = false ∧ onInstant (seen (st (mSt (sta true))) 250000) (sta true).cycleUs 0 = true) ∧
  ((mSt (sta false)).pwr.st ≠ PState.off ∧ tget (mSt (sta false)).net.stations 4 = some (sta false) ∧ ((sta false).assigned || (sta false).joined) = true ∧ (mSt (sta false)).pwr.st ≠ PState.fail ∧ (mSt (sta false)).flt.f3 = false ∧ onInstant (seen (st (mSt (sta false))) 250000) (sta false).cycleUs 0 = true) ∧
  ((mSt (staC true)).pwr.st ≠ PState.off ∧ tget (mSt (staC true)).net.stations 4 = some (staC true) ∧ ((staC true).assigned || (staC true).joined) = true ∧ (staC true).cycleAt.isSome = true ∧ (staC true).got = [] ∧ segOk (mSt (staC true)) 4 (staC true) seg0 = true) ∧
  ((mSt (staC true)).pwr.st ≠ PState.off ∧ tget (mSt (staC true)).net.stations 4 = some (staC true) ∧ segOk (mSt (staC true)) 4 (staC true) [] = false) ∧
  ((mSt (staG true)).pwr.st ≠ PState.off ∧ tget (mSt (staG true)).net.stations 4 = some (staG true) ∧ (staG true).cycleAt = some 5 ∧ 5 + 1000 * (staG true).respUs ≤ max (mSt (staG true)).clk 50005 ∧ (staG true).got.length = segsOf (staG true).ins.length (staG true).gmac ∧ (staG true).joined = true) ∧
  ((mSt (staG false)).pwr.st ≠ PState.off ∧ tget (mSt (staG false)).net.stations 4 = some (staG false) ∧ (staG false).cycleAt = some 5 ∧ 5 + 1000 * (staG false).respUs ≤ max (mSt (staG false)).clk 50005 ∧ (staG false).got.length = segsOf (staG false).ins.length (staG false).gmac ∧ (staG false).joined = false) ∧
  ((mSt (staC true 1)).pwr.st ≠ PState.off ∧ tget (mSt (staC true 1)).net.stations 4 = some (staC true 1) ∧ (staC true 1).cycleAt = some 5 ∧ 5 + 1000 * (staC true 1).respUs ≤ max (mSt (staC true 1)).clk 50005 ∧ (staC true 1).got.length ≠ segsOf (staC true 1).ins.length (staC true 1).gmac ∧ (staC true 1).joined = true ∧ (staC true 1).missed + 1 < (staC true 1).wdCycles) := by
  refine ⟨⟨?_, ?_, ?_, ?_⟩, ⟨?_, ?_, ?_, ?_, ?_⟩, ⟨?_, ?_, ?_, ?_, ?_, ?_⟩, ⟨?_, ?_, ?_, ?_, ?_, ?_⟩, ⟨?_, ?_, ?_, ?_, ?_, ?_⟩, ⟨?_, ?_, ?_⟩, ⟨?_, ?_, ?_, ?_, ?_, ?_⟩, ⟨?_, ?_, ?_, ?_, ?_, ?_⟩, ⟨?_, ?_, ?_, ?_, ?_, ?_, ?_⟩⟩ <;> decide +kernel

theorem witness_StationRequests :
  (opReady (seen (st (mSt (staA none))) 9) 644 q1 = true ∧ notLead (seen (st (mSt (staA none))) 9) = false ∧ tget (mSt (staA none)).net.stations 4 = some (staA none) ∧ (staA none).joined = true ∧ (staA none).acyc = none ∧ 4 < 64) ∧
  (opReady (seen (st (mSt (staA qA))) 9) 645 q1 = true ∧ notLead (seen (st (mSt (staA qA))) 9) = false ∧ [(1 : Byte)].length ≤ 1024 ∧ tget (mSt (staA qA)).net.stations 4 = some (staA qA) ∧ (staA qA).joined = true ∧ 4 < 64 ∧ (staA qA).acyc.isSome = true) ∧
  (opReady (seen (st (mSt (staA qA))) 9) 644 q1 = true ∧ notLead (seen (st (mSt (staA qA))) 9) = false ∧ 63 < 64 ∧ tget (mSt (staA qA)).net.stations 63 = none) ∧
  ((mSt (staA qA)).pwr.st ≠ PState.off ∧ tget (mSt (staA qA)).net.stations 4 = some (staA qA) ∧ (staA qA).acyc = some (q1, true, 5) ∧ (staA qA).waiting = [] ∧ (mSt (staA qA)).pwr.svcStopped = false) ∧
  ((mSt (staA qA)).pwr.st ≠ PState.off ∧ tget (mSt (staA qA)).net.stations 4 = some (staA qA) ∧ (staA qA).acyc = some (q1, true, 5) ∧ (staA qA).waiting = [] ∧ (mSt (staA qA)).pwr.svcStopped = false ∧ 5 + 100000000 ≤ max (mSt (staA qA)).clk 100000005) ∧
  (opReady (seen (st (mSt (sta false))) 9) 640 q0 = true ∧ notLead (seen (st (mSt (sta false))) 9) = false ∧ loadHeld (mSt (sta false)) = none ∧ loadStation (seen (st (mSt (sta false))) 9) 4 srec = Except.ok mL ∧ admitTest mL = none) ∧
  (opReady (seen (st (mSt (sta true))) 9) 641 q0 = true ∧ notLead (seen (st (mSt (sta true))) 9) = false ∧ anyTrial (mSt (sta true)) = false ∧ tget (mSt (sta true)).net.stations 4 = some (sta true) ∧ (sta true).joined = true) ∧
  (opReady (seen (st (mSt (sta false))) 9) 641 q0 = true ∧ notLead (seen (st (mSt (sta false))) 9) = false ∧ anyTrial (mSt (sta false)) = false ∧ tget (mSt (sta false)).net.stations 4 = some (sta false) ∧ (sta false).joined = false) ∧
  (opReady (seen (st mBig) 9) 640 q0 = true ∧ notLead (seen (st mBig) 9) = false ∧ loadHeld mBig = none ∧ loadStation (seen (st mBig) 9) 4 srec = Except.ok mBigL ∧ admitTest mBigL = some ((admitTest mBigL).getD (0, 0))) := by
  refine ⟨⟨?_, ?_, ?_, ?_, ?_⟩, ⟨?_, ?_, ?_, ?_, ?_, ?_⟩, ⟨?_, ?_, ?_⟩, ⟨?_, ?_, ?_, ?_, ?_⟩, ⟨?_, ?_, ?_, ?_, ?_, ?_⟩, ⟨?_, ?_, ?_, ?_⟩, ⟨?_, ?_, ?_, ?_⟩, ⟨?_, ?_, ?_, ?_⟩, ⟨?_, ?_, ?_, ?_⟩⟩ <;> decide +kernel

end Sys2Proof.Tests.M

namespace Sys2Proof.Tests.N

def cf (id : Nat) : CanFrame := { id := id, ext := false, fdf := false, brs := false, remote := false, esi := false, dlc := 2, data := [1, 2], partner := false }
def bT : CanBuf := { dir := 2, dlc := 2, id := 9, arg := 500, content := [0, 0] }
def bTp : CanBuf := { bT with pending := true }
def bR : CanBuf := { dir := 1, dlc := 2, id := 9, arg := 0x7FF, frame := some (cf 9), newData := true }
def yS : CanStored := { frame := cf 9, time := 3, wrap := 0 }
def cP (bs : Tbl CanBuf) : CanPort := { mode := 1, st := .errorActive, bufs := bs }
def mC (c : CanPort) : Mod := { m0 with can := { ports := [(2, c)] } }
def s9 (c : CanPort) : State := st (mC c)
def cTm : CanPort := { cP [(0, bTp)] with timeMaster := true }
def cFf : CanPort := { cP [] with fifo0 := [yS] }
def crec : List Byte := [2, 1, 8, 0] ++ bytes16 4 ++ bytes16 14 ++ [5, 3, 2, 14, 5, 3, 0, 0] ++ bytes32 0 ++ bytes32 1000 ++ bytes32 0 ++ bytes16 0 ++ [0, 0] ++ bytes16 0 ++ List.replicate 30 0 ++ (List.replicate 1280 0 : List Byte)
def mOffC : Mod := { m0 with can := { ports := [] } }
def mCl : Mod := (match loadCan (seen (st mOffC) 9) 2 crec with | .ok m => m | _ => m0)
def cBo : CanPort := { cP [(4, { bTp with blocked := true })] with st := .busOff, busOffAt := 5, autoRecover := true, recoverDelayMs := 1 }
def cT1 (n : Nat) : CanPort := { cP [(4, bTp)] with tec := n }
def cPa : CanPort := { cT1 128 with st := .errorPassive, ackErrors := 15 }
def cAk : CanPort := { cT1 128 with st := .errorPassive, ackErrors := 16, loneSingleShot := true }
def cRe : CanPort := { cBo with recovering := true, tec := 256 }
def cRx : CanPort := { cP [(3, { bR with id := 8 }), (4, bR)] with filters := [(0x00000007, 0x1FFFFFFF)], hbBase := 0x700, hbTimeoutMs := 100 }
def cNd : CanPort := { cRx with nodes := [(5, 5)] }
def mpE : CanMap := { signal := 0x00200003, buffer := 4, format := 0, startBit := 0, length := 8, validBit := 0xFFFF, timeoutMs := 10, scale := 0, offset := 0 }
def cMp : CanPort := { cRx with maps := [mpE] }
def sgC : SigRec := { ownKind := 11, ownId := 2, qual := 0xC000, val := 9 }
def m_n1 : Mod := { mC cMp with sig := { sigs := [(3, sgC)] } }

theorem witness_CanRequests :
  ((s9 (cP [(4, bT)])).m.pwr.st ≠ PState.off ∧ opReady (seen (s9 (cP [(4, bT)])) 9) 769 q1 = true ∧ notLead (seen (s9 (cP [(4, bT)])) 9) = false ∧ canSendRefusal (s9 (cP [(4, bT)])).m 2 4 [7, 8] = none ∧ tget (canOf (s9 (cP [(4, bT)])).m 2).bufs 4 = some bT ∧ bT.blocked = false) ∧
  ((s9 (cP [(4, bT)])).m.pwr.st ≠ PState.off ∧ opReady (seen (s9 (cP [(4, bT)])) 9) 769 q1 = true ∧ notLead (seen (s9 (cP [(4, bT)])) 9) = false ∧ canSendRefusal (s9 (cP [(4, bT)])).m 2 4 [7] = some Status.badField) ∧
  ((s9 (cP [(4, bT)])).m.pwr.st ≠ PState.off ∧ canDrives (s9 (cP [(4, bT)])).m (canOf (s9 (cP [(4, bT)])).m 2) = true ∧ tget (canOf (s9 (cP [(4, bT)])).m 2).bufs 4 = some bT ∧ bT.dir = 2 ∧ bT.arg ≠ 0 ∧ (canOf (s9 (cP [(4, bT)])).m 2).timeMaster = false ∧ onInstant (seen (s9 (cP [(4, bT)])) 500000) bT.arg 0 = true) ∧
  ((s9 (cP [(4, bT)])).m.pwr.st ≠ PState.off ∧ canDrives (s9 (cP [(4, bT)])).m (canOf (s9 (cP [(4, bT)])).m 2) = true ∧ tget (canOf (s9 (cP [(4, bT)])).m 2).bufs 4 = some bT ∧ bT.dir = 2 ∧ bT.arg ≠ 0 ∧ (canOf (s9 (cP [(4, bT)])).m 2).timeMaster = false ∧ onInstant (seen (s9 (cP [(4, bT)])) 500001) bT.arg 0 = false) ∧
  ((s9 cTm).m.pwr.st ≠ PState.off ∧ canDrives (s9 cTm).m (canOf (s9 cTm).m 2) = true ∧ tget (canOf (s9 cTm).m 2).bufs 0 = some bTp ∧ (canOf (s9 cTm).m 2).timeMaster = true ∧ onInstant (seen (s9 cTm) 1000000) (canOf (s9 cTm).m 2).refCycleUs 0 = true) ∧
  ((s9 cFf).m.pwr.st ≠ PState.off ∧ opReady (seen (s9 cFf) 9) 770 q1 = true ∧ 1 ≤ 2 ∧ 2 ≤ 8 ∧ (canOf (s9 cFf).m 2).mode ≠ 0 ∧ (canOf (s9 cFf).m 2).fifo0 = [yS]) ∧
  ((s9 (cP [(63, bR)])).m.pwr.st ≠ PState.off ∧ opReady (seen (s9 (cP [(63, bR)])) 9) 770 q1 = true ∧ 1 ≤ 2 ∧ 2 ≤ 8 ∧ (canOf (s9 (cP [(63, bR)])).m 2).mode ≠ 0 ∧ 63 < 64 ∧ tget (canOf (s9 (cP [(63, bR)])).m 2).bufs 63 = some bR ∧ bR.dir = 1 ∧ bR.frame = some (cf 9)) ∧
  (mOffC.pwr.st ≠ PState.off ∧ opReady (seen (st mOffC) 9) 768 q0 = true ∧ notLead (seen (st mOffC) 9) = false ∧ anyTrial mOffC = false ∧ loadCan (seen (st mOffC) 9) 2 crec = Except.ok mCl) ∧
  (mOffC.pwr.st ≠ PState.off ∧ opReady (seen (st mOffC) 9) 768 q0 = true ∧ notLead (seen (st mOffC) 9) = false ∧ anyTrial mOffC = false ∧ loadCan (seen (st mOffC) 9) 3 crec = Except.error Status.badField) ∧
  ((s9 cBo).m.pwr.st ≠ PState.off ∧ opReady (seen (s9 cBo) 9) 771 q0 = true ∧ notLead (seen (s9 cBo) 9) = false ∧ 1 ≤ 2 ∧ 2 ≤ 8 ∧ (canOf (s9 cBo).m 2).st = CanSt.busOff ∧ tget (s9 cBo).m.can.ports 2 = some (canOf (s9 cBo).m 2)) := by
  refine ⟨⟨?_, ?_, ?_, ?_, ?_⟩, ⟨?_, ?_, ?_⟩, ⟨?_, ?_, ?_, ?_, ?_, ?_, ?_⟩, ⟨?_, ?_, ?_, ?_, ?_, ?_, ?_⟩, ⟨?_, ?_, ?_, ?_, ?_⟩, ⟨?_, ?_, ?_, ?_, ?_, ?_⟩, ⟨?_, ?_, ?_, ?_, ?_, ?_, ?_, ?_, ?_⟩, ⟨?_, ?_, ?_, ?_⟩, ⟨?_, ?_, ?_, ?_⟩, ⟨?_, ?_, ?_, ?_, ?_, ?_⟩⟩ <;> decide +kernel

theorem witness_CanTransmission :
  ((s9 (cT1 0)).m.pwr.st ≠ PState.off ∧ tget (s9 (cT1 0)).m.can.ports 2 = some (cT1 0) ∧ (cT1 0).partner = 0 ∧ canDrives (s9 (cT1 0)).m (cT1 0) = true ∧ ((cT1 0).st = CanSt.errorActive ∨ (cT1 0).st = CanSt.errorPassive) ∧ tget (cT1 0).bufs 4 = some bTp ∧ bTp.dir = 2 ∧ bTp.pending = true ∧ (cT1 0).mode = 1 ∧ (cT1 0).tdcEn = false) ∧
  ((s9 (cT1 120)).m.pwr.st ≠ PState.off ∧ tget (s9 (cT1 120)).m.can.ports 2 = some (cT1 120) ∧ (cT1 120).partner = 0 ∧ canDrives (s9 (cT1 120)).m (cT1 120) = true ∧ ((cT1 120).st = CanSt.errorActive ∨ (cT1 120).st = CanSt.errorPassive) ∧ tget (cT1 120).bufs 4 = some bTp ∧ bTp.dir = 2 ∧ bTp.pending = true ∧ (cT1 120).tdcEn = false ∧ (cT1 120).tec ≤ 247) ∧
  ((s9 (cT1 247)).m.pwr.st ≠ PState.off ∧ tget (s9 (cT1 247)).m.can.ports 2 = some (cT1 247) ∧ (cT1 247).partner = 0 ∧ canDrives (s9 (cT1 247)).m (cT1 247) = true ∧ ((cT1 247).st = CanSt.errorActive ∨ (cT1 247).st = CanSt.errorPassive) ∧ tget (cT1 247).bufs 4 = some bTp ∧ bTp.dir = 2 ∧ bTp.pending = true ∧ (cT1 247).tdcEn = false ∧ (cT1 247).tec ≤ 247) ∧
  ((s9 (cT1 248)).m.pwr.st ≠ PState.off ∧ tget (s9 (cT1 248)).m.can.ports 2 = some (cT1 248) ∧ (cT1 248).partner = 0 ∧ canDrives (s9 (cT1 248)).m (cT1 248) = true ∧ ((cT1 248).st = CanSt.errorActive ∨ (cT1 248).st = CanSt.errorPassive) ∧ tget (cT1 248).bufs 4 = some bTp ∧ bTp.dir = 2 ∧ bTp.pending = true ∧ (cT1 248).tdcEn = false ∧ 247 < (cT1 248).tec) ∧
  ((s9 cPa).m.pwr.st ≠ PState.off ∧ tget (s9 cPa).m.can.ports 2 = some cPa ∧ cPa.partner = 0 ∧ canDrives (s9 cPa).m cPa = true ∧ (cPa.st = CanSt.errorActive ∨ cPa.st = CanSt.errorPassive) ∧ tget cPa.bufs 4 = some bTp ∧ bTp.dir = 2 ∧ bTp.pending = true ∧ cPa.st = CanSt.errorPassive ∧ cPa.singleShot = false ∧ cPa.tec ≤ 255) ∧
  ((s9 cAk).m.pwr.st ≠ PState.off ∧ tget (s9 cAk).m.can.ports 2 = some cAk ∧ cAk.partner = 0 ∧ 16 ≤ cAk.ackErrors ∧ cAk.noPartner = false ∧ cAk.st ≠ CanSt.off) ∧
  ((s9 cBo).m.pwr.st ≠ PState.off ∧ tget (s9 cBo).m.can.ports 2 = some cBo ∧ cBo.partner = 0 ∧ cBo.st = CanSt.busOff ∧ cBo.autoRecover = true ∧ cBo.busOffAt + 1000000 * cBo.recoverDelayMs ≤ max (s9 cBo).m.clk 1000005) ∧
  ((s9 cRe).m.pwr.st ≠ PState.off ∧ tget (s9 cRe).m.can.ports 2 = some cRe ∧ cRe.partner = 0 ∧ cRe.st = CanSt.busOff ∧ cRe.recovering = true) := by
  refine ⟨⟨?_, ?_, ?_, ?_, ?_, ?_, ?_, ?_, ?_, ?_⟩, ⟨?_, ?_, ?_, ?_, ?_, ?_, ?_, ?_, ?_, ?_⟩, ⟨?_, ?_, ?_, ?_, ?_, ?_, ?_, ?_, ?_, ?_⟩, ⟨?_, ?_, ?_, ?_, ?_, ?_, ?_, ?_, ?_, ?_⟩, ⟨?_, ?_, ?_, ?_, ?_, ?_, ?_, ?_, ?_, ?_, ?_⟩, ⟨?_, ?_, ?_, ?_, ?_, ?_⟩, ⟨?_, ?_, ?_, ?_, ?_, ?_⟩, ⟨?_, ?_, ?_, ?_, ?_⟩⟩ <;> decide +kernel

theorem witness_CanReception :
  ((s9 cRx).m.pwr.st ≠ PState.off ∧ tget (s9 cRx).m.can.ports 2 = some cRx ∧ cRx.partner = 0 ∧ cRx.mode ≠ 0 ∧ (cRx.st = CanSt.errorActive ∨ cRx.st = CanSt.errorPassive) ∧ List.find? (fun e => bufTakes e.2 (cf 9)) cRx.bufs = some (4, bR) ∧ (cRx.maps.any fun e => e.buffer == 4) = false) ∧
  ((s9 cRx).m.pwr.st ≠ PState.off ∧ tget (s9 cRx).m.can.ports 2 = some cRx ∧ cRx.partner = 0 ∧ cRx.mode ≠ 0 ∧ (cRx.st = CanSt.errorActive ∨ cRx.st = CanSt.errorPassive) ∧ List.find? (fun e => bufTakes e.2 (cf 7)) cRx.bufs = none ∧ List.find? (fun e => filterTakes e (cf 7)) cRx.filters = some (7, 536870911) ∧ bitOf (BitVec.toNat ((7, 536870911) : W32 × W32).2) 31 = false ∧ cRx.fifo0.length < 32) ∧
  ((s9 cRx).m.pwr.st ≠ PState.off ∧ tget (s9 cRx).m.can.ports 2 = some cRx ∧ cRx.partner = 0 ∧ cRx.mode ≠ 0 ∧ (cRx.st = CanSt.errorActive ∨ cRx.st = CanSt.errorPassive) ∧ List.find? (fun e => bufTakes e.2 (cf 6)) cRx.bufs = none ∧ List.find? (fun e => filterTakes e (cf 6)) cRx.filters = none) ∧
  ((s9 cRx).m.pwr.st ≠ PState.off ∧ tget (s9 cRx).m.can.ports 2 = some cRx ∧ cRx.partner = 0 ∧ cRx.mode ≠ 0 ∧ (cRx.st = CanSt.errorActive ∨ cRx.st = CanSt.errorPassive) ∧ cRx.hbTimeoutMs ≠ 0 ∧ (s9 cRx).m.pwr.svcStopped = false ∧ (cf 1919).ext = cRx.hbExt ∧ cRx.hbBase < (cf 1919).id ∧ (cf 1919).id ≤ cRx.hbBase + 127) ∧
  ((s9 cNd).m.pwr.st ≠ PState.off ∧ tget (s9 cNd).m.can.ports 2 = some cNd ∧ cNd.partner = 0 ∧ tget cNd.nodes 5 = some 5 ∧ cNd.hbTimeoutMs ≠ 0 ∧ (s9 cNd).m.pwr.svcStopped = false ∧ 5 + 1000000 * cNd.hbTimeoutMs ≤ max (s9 cNd).m.clk 100000005) ∧
  (m_n1.pwr.st ≠ PState.off ∧ tget m_n1.can.ports 2 = some cMp ∧ cMp.partner = 0 ∧ cMp.maps[0]? = some mpE ∧ mpE.timeoutMs ≠ 0 ∧ mpE.last + 1000000 * mpE.timeoutMs ≤ max m_n1.clk 10000000 ∧ m_n1.tri.mode = 0 ∧ mpE.signal ≠ 0 ∧ sigAt m_n1 (hIdx mpE.signal) = some sgC) := by
  refine ⟨⟨?_, ?_, ?_, ?_, ?_, ?_, ?_⟩, ⟨?_, ?_, ?_, ?_, ?_, ?_, ?_, ?_, ?_⟩, ⟨?_, ?_, ?_, ?_, ?_, ?_, ?_⟩, ⟨?_, ?_, ?_, ?_, ?_, ?_, ?_, ?_, ?_, ?_⟩, ⟨?_, ?_, ?_, ?_, ?_, ?_, ?_⟩, ⟨?_, ?_, ?_, ?_, ?_, ?_, ?_, ?_, ?_⟩⟩ <;> decide +kernel

end Sys2Proof.Tests.N

namespace Sys2Proof.Tests.O

def fi (src cls : Nat) : FaultInfo := { src := src, cls := cls, addr := 3, master := 0x0E00, access := 0, actClass := 3, detail := 5 }
def cap0 : Capture := { addr := 9, master := 0, access := 0, actClass := 1, time := 3, wrapTag := 0, src := 0x0D, cls := 2, level := 2 }
def tkB : Task := { rcd := { cls := 2 }, home := 0, pair := 0, st := .running, inst := some { release := 0 } }
def m_o1 : Mod := { m0 with nv := { capture := some cap0 } }
def m_o2 : Mod := { m0 with fio := { closed := 7 }, pge := { tasks := [(2, tkB)], running := [(0, 2)] } }
def fT (src p : Nat) : FaultInfo := { fi src 2 with master := BitVec.ofNat 16 (0x0100 + p) }
def m_o3 : Mod := { m0 with pge := { tasks := [(2, tkB)], running := [(0, 2)] } }
def m_o4 : Mod := { m0 with pge := { tasks := [(2, tkB)], running := [(10, 2)] } }
def aw (c : Bool) : Awaiting := { src := 2, addr := 1, contained := c }
def mAw (c : Bool) : Mod := { m0 with flt := { awaiting := [aw c], jib := some (5, 3), active := 4 } }
def m_o5 : Mod := { mAw true with lks := { pairs := [(1, { st := .lost })] } }
def m_o6 : Mod := { mAw true with flt := { hostAck := true, awaiting := [aw true, { src := 3, addr := 1, contained := true }] } }
def m_o7 : Mod := { m0 with nv := { capture := some cap0 }, fio := { chans := [(9, { status := 1 })] } }
def m_o8 : Mod := { m0 with nv := { prior := some cap0 }, flt := { priorSet := true } }
def m_o9 : Mod := { m0 with flt := { active := 0x8000000000000000, raised := [(63, 1)] } }
def m_o10 : Mod := { m0 with flt := { active := 5, raised := [(0x17, 0)] }, pwr := { m0.pwr with holdupLow := true } }
def m_o11 : Mod := { mAw false with nv := { capture := some cap0 } }
def m_o12 : Mod := { m0 with flt := { alive := true, aliveAt := some 500000 } }
def m_o13 : Mod := { m0 with flt := { alive := true, aliveLevel := true, f3 := true } }
def acc0 : Accum := { interval := 0, bins := List.replicate 16 0 }
def acc1 : Accum := { acc0 with seen := true, any := true, min := 0x3FF0000000000000, max := 0x3FF0000000000000 }
def sgF : SigRec := { ty := 5, qual := 0xC000, val := 0x3FF8000000000000, gen := 1 }
def mR (r : RcrBlk) : Mod := { m0 with sig := { sigs := [(3, sgF)] }, rcr := r }
def iv0 : Interval := { no := 4, seq := 6, traceable := true, part := false, count := 1, entries := [] }
def rb1 : RcrBlk := { tier1 := { running := true }, queuedAt := 9, queued := 65536 }
def rb2 : RcrBlk := { tier1 := { running := true, lists := [(0, [(0x00200003, 0)])] }, queuedAt := 1 }
def rb3 : RcrBlk := { tier2 := { running := true, accums := [(0, acc1)] } }
def rb4 : RcrBlk := { tier1 := { ended := [iv0] }, frozen := some 3 }
def rb5 : RcrBlk := { tier3 := { ended := [iv0] } }
def gF (n : Nat) : Permit := { who := 10 + n, op := .archiveFlush, c1 := false, units := 24, durMs := 10, resync := false, stop := 5 }
def mFl (n : Nat) (r : RcrBlk) : Mod := { mR r with adm := { grants := [gF n] } }
def rb6 : RcrBlk := { tier2 := { kept := [iv0] } }
def rb7 : RcrBlk := { tier3 := { kept := [iv0] } }
def edges : List Byte := (List.range 15).flatMap (fun i => bytes32 (BitVec.ofNat 32 (0x3F800000 + i))) ++ [0, 0, 0, 0]
def mCls : Mod := (match loadClasses (seen (st m0) 9) 255 1 edges with | .ok m => m | _ => m0)
def lst : List Byte := bytes32 0x00200003 ++ [0, 0, 0, 0]
def mLst : Mod := (match loadList (seen (st (mR {})) 9) 2 1 lst with | .ok m => m | _ => m0)
def rb8 : RcrBlk := {}
def rb9 : RcrBlk := {}
def rb10 : RcrBlk := {}
def mRec (r : RcrBlk) : Mod := { mR r with pwr := { m0.pwr with recovery := true } }
def rb11 : RcrBlk := { tier1 := { running := true }, tier3 := { running := true } }
def rb12 : RcrBlk := { frozen := some 5 }
def rb13 : RcrBlk := { frozen := some 5 }
def mPr : Mod := { mR { tier2 := { kept := [iv0] } } with nv := { recSeq := [0, 9, 0] } }
def rb14 : RcrBlk := { tier1 := { running := true } }

theorem witness_FaultsCollected :
  (m0.pwr.st ≠ PState.off ∧ (fi 16 0).src < 64 ∧ (fi 16 0).cls < 4 ∧ anyTrial m0 = false ∧ (fi 16 0).src ≠ 7 ∧ (fi 16 0).src ≠ 8) ∧
  (m_o1.pwr.st ≠ PState.off ∧ (fi 16 1).src < 64 ∧ (fi 16 1).cls < 4 ∧ anyTrial m_o1 = false ∧ (fi 16 1).src ≠ 7 ∧ (fi 16 1).src ≠ 8) ∧
  (m0.pwr.st ≠ PState.off ∧ (fi 16 2).src < 64 ∧ (fi 16 2).cls < 4 ∧ anyTrial m0 = false ∧ (fi 16 2).src ≠ 7 ∧ (fi 16 2).src ≠ 8) ∧
  (m_o1.pwr.st ≠ PState.off ∧ (fi 16 2).src < 64 ∧ (fi 16 2).cls < 4 ∧ anyTrial m_o1 = false ∧ (fi 16 2).src ≠ 7 ∧ (fi 16 2).src ≠ 8) ∧
  (m_o2.pwr.st ≠ PState.off ∧ (fi 16 3).src < 64 ∧ (fi 16 3).cls < 4 ∧ anyTrial m_o2 = false ∧ (fi 16 3).src ≠ 7 ∧ (fi 16 3).src ≠ 8) ∧
  (m_o1.pwr.st ≠ PState.off ∧ (fi 63 3).src < 64 ∧ (fi 63 3).cls < 4 ∧ anyTrial m_o1 = false ∧ (fi 63 3).src ≠ 7 ∧ (fi 63 3).src ≠ 8) ∧
  (m_o3.pwr.st ≠ PState.off ∧ (fT 7 0).src < 64 ∧ (fT 7 0).cls < 4 ∧ anyTrial m_o3 = false ∧ ((fT 7 0).src = 7 ∨ (fT 7 0).src = 8) ∧ 0 < 6 ∧ (fT 7 0).master = BitVec.ofNat 16 (256 + 0) ∧ (pairOf m_o3 0).st ≠ PairSt.split ∧ tget m_o3.pge.running (2 * 0) = some 2 ∧ taskAt m_o3 2 = some tkB) ∧
  (m_o4.pwr.st ≠ PState.off ∧ (fT 8 5).src < 64 ∧ (fT 8 5).cls < 4 ∧ anyTrial m_o4 = false ∧ ((fT 8 5).src = 7 ∨ (fT 8 5).src = 8) ∧ 5 < 6 ∧ (fT 8 5).master = BitVec.ofNat 16 (256 + 5) ∧ (pairOf m_o4 5).st ≠ PairSt.split ∧ tget m_o4.pge.running (2 * 5) = some 2 ∧ taskAt m_o4 2 = some tkB) := by
  refine ⟨⟨?_, ?_, ?_, ?_, ?_, ?_⟩, ⟨?_, ?_, ?_, ?_, ?_, ?_⟩, ⟨?_, ?_, ?_, ?_, ?_, ?_⟩, ⟨?_, ?_, ?_, ?_, ?_, ?_⟩, ⟨?_, ?_, ?_, ?_, ?_, ?_⟩, ⟨?_, ?_, ?_, ?_, ?_, ?_⟩, ⟨?_, ?_, ?_, ?_, ?_, ?_, ?_, ?_, ?_, ?_⟩, ⟨?_, ?_, ?_, ?_, ?_, ?_, ?_, ?_, ?_, ?_⟩⟩ <;> decide +kernel

theorem witness_FaultsSettled :
  ((mAw true).pwr.st ≠ PState.off ∧ bootHeld (mAw true) = false ∧ (∀ a ∈ (mAw true).flt.awaiting, a.contained = true)) ∧
  ((mAw false).pwr.st ≠ PState.off ∧ bootHeld (mAw false) = false ∧ (∃ a ∈ (mAw false).flt.awaiting, a.contained = false)) ∧
  (m_o5.pwr.st ≠ PState.off ∧ m_o5.pwr.svcStopped = false ∧ (∀ a ∈ m_o5.flt.awaiting, a.contained = true)) ∧
  (m_o6.pwr.st ≠ PState.off ∧ m_o6.pwr.svcStopped = false ∧ (∀ a ∈ m_o6.flt.awaiting, a.contained = true)) ∧
  (m_o7.pwr.st ≠ PState.off ∧ bootHeld m_o7 = false ∧ m_o7.nv.capture = some cap0 ∧ causePersists (seen (st m_o7) 9) cap0.src cap0.addr cap0.cls = true) ∧
  (m_o1.pwr.st ≠ PState.off ∧ bootHeld m_o1 = false ∧ m_o1.nv.capture = some cap0 ∧ causePersists (seen (st m_o1) 9) cap0.src cap0.addr cap0.cls = false ∧ (m_o1.flt.awaiting = [] ∨ m_o1.flt.f3 = true)) ∧
  (m_o8.pwr.st ≠ PState.off ∧ bootHeld m_o8 = false) ∧
  (m_o9.pwr.st ≠ PState.off ∧ bootHeld m_o9 = false ∧ 63 < 64) ∧
  (m_o10.pwr.st ≠ PState.off ∧ bootHeld m_o10 = false ∧ 23 < 64) ∧
  (m_o11.pwr.st ≠ PState.off ∧ m_o11.flt.jib = some (5, 3) ∧ m_o11.pwr.svcRestart = none ∧ 5 ≤ max m_o11.clk 9 - 3) ∧
  ((mAw false).pwr.st ≠ PState.off ∧ (mAw false).flt.jib = some (5, 3) ∧ (mAw false).pwr.svcRestart = none ∧ max (mAw false).clk 7 - 3 < 5) ∧
  (m_o12.pwr.st ≠ PState.off ∧ (max m_o12.clk 2000000 - m_o12.tim.zero) % 500000 = 0 ∧ aliveOk m_o12 = true) ∧
  (m_o13.pwr.st ≠ PState.off ∧ (max m_o13.clk 2000000 - m_o13.tim.zero) % 500000 = 0 ∧ aliveOk m_o13 = false ∧ m_o13.flt.alive = true) ∧
  (m0.pwr.st ≠ PState.off ∧ (124 : ℤ) < (125 : ℤ)) ∧
  (m0.pwr.st ≠ PState.off ∧ (125 : ℤ) ≤ (125 : ℤ)) := by
  refine ⟨⟨?_, ?_, ?_⟩, ⟨?_, ?_, ?_⟩, ⟨?_, ?_, ?_⟩, ⟨?_, ?_, ?_⟩, ⟨?_, ?_, ?_, ?_⟩, ⟨?_, ?_, ?_, ?_, ?_⟩, ⟨?_, ?_⟩, ⟨?_, ?_, ?_⟩, ⟨?_, ?_, ?_⟩, ⟨?_, ?_, ?_, ?_⟩, ⟨?_, ?_, ?_, ?_⟩, ⟨?_, ?_, ?_⟩, ⟨?_, ?_, ?_, ?_⟩, ⟨?_, ?_⟩, ⟨?_, ?_⟩⟩ <;> decide +kernel

theorem witness_RecorderSamples :
  (m0.pwr.st ≠ PState.off ∧ sigAt m0 4 = none) ∧
  ((mR rb1).pwr.st ≠ PState.off ∧ sigAt (mR rb1) 3 = some sgF ∧ sgF.ty ≠ 7 ∧ ((mR rb1).rcr.tier1.running = true ∨ (mR rb1).rcr.tier2.running = true ∨ (mR rb1).rcr.tier3.running = true) ∧ (mR rb1).rcr.queuedAt = max (mR rb1).clk 9 ∧ 65536 ≤ (mR rb1).rcr.queued) ∧
  ((mR rb2).pwr.st ≠ PState.off ∧ sigAt (mR rb2) 3 = some sgF ∧ sgF.ty ≠ 7 ∧ (mR rb2).rcr.tier1.running = true ∧ (mR rb2).rcr.tier2.running = false ∧ (mR rb2).rcr.tier3.running = false ∧ (mR rb2).rcr.queuedAt ≠ max (mR rb2).clk 9 ∧ (mR rb2).rcr.tier1.cur = tierInterval (seen (st (mR rb2)) 9) 1 ∧ listAt (mR rb2).rcr.tier1 (mR rb2).rcr.tier1.cur = [(sigHandle 3 sgF.gen, 0)] ∧ (mR rb2).rcr.tier1.accums = []) ∧
  ((mR rb3).pwr.st ≠ PState.off ∧ 1 ≤ 2 ∧ 2 ≤ 3) ∧
  ((mR rb4).pwr.st ≠ PState.off ∧ 1 ≤ 1 ∧ 1 ≤ 3 ∧ (mR rb4).pwr.st ≠ PState.fail ∧ (mR rb4).nv.recSeq.length = 3 ∧ (tierOf (mR rb4) 1).ended = [iv0] ∧ (1 ≠ 1 ∨ (mR rb4).rcr.frozen.isSome = true)) ∧
  ((mR rb5).pwr.st ≠ PState.off ∧ 1 ≤ 3 ∧ 3 ≤ 3 ∧ (mR rb5).pwr.st ≠ PState.fail ∧ (mR rb5).nv.recSeq.length = 3 ∧ (tierOf (mR rb5) 3).ended = [iv0] ∧ (3 ≠ 1 ∨ (mR rb5).rcr.frozen.isSome = true)) ∧
  ((mFl 2 rb6).pwr.st ≠ PState.off ∧ (2 = 2 ∨ 2 = 3) ∧ (mFl 2 rb6).pwr.st ≠ PState.fail ∧ flushDue (seen (st (mFl 2 rb6)) 60000000000) 2 = true ∧ holds (mFl 2 rb6) (whoFlush 2) = true) ∧
  ((mFl 3 rb7).pwr.st ≠ PState.off ∧ (3 = 2 ∨ 3 = 3) ∧ (mFl 3 rb7).pwr.st ≠ PState.fail ∧ flushDue (seen (st (mFl 3 rb7)) 60000000000) 3 = true ∧ holds (mFl 3 rb7) (whoFlush 3) = true) := by
  refine ⟨⟨?_, ?_⟩, ⟨?_, ?_, ?_, ?_, ?_, ?_⟩, ⟨?_, ?_, ?_, ?_, ?_, ?_, ?_, ?_, ?_, ?_⟩, ⟨?_, ?_, ?_⟩, ⟨?_, ?_, ?_, ?_, ?_, ?_, ?_⟩, ⟨?_, ?_, ?_, ?_, ?_, ?_, ?_⟩, ⟨?_, ?_, ?_, ?_, ?_⟩, ⟨?_, ?_, ?_, ?_, ?_⟩⟩ <;> decide +kernel

theorem witness_RecorderCommands :
  (opReady (seen (st m0) 9) 256 q0 = true ∧ notLead (seen (st m0) 9) = false ∧ anyTrial m0 = false ∧ loadClasses (seen (st m0) 9) 255 1 edges = Except.ok mCls) ∧
  (opReady (seen (st m0) 9) 256 q0 = true ∧ notLead (seen (st m0) 9) = false ∧ anyTrial m0 = false ∧ loadClasses (seen (st m0) 9) 256 1 edges = Except.error Status.badField) ∧
  (opReady (seen (st (mR rb8)) 9) 257 q0 = true ∧ notLead (seen (st (mR rb8)) 9) = false ∧ anyTrial (mR rb8) = false ∧ loadList (seen (st (mR rb8)) 9) 2 1 lst = Except.ok mLst) ∧
  (opReady (seen (st (mR rb9)) 9) 257 q0 = true ∧ notLead (seen (st (mR rb9)) 9) = false ∧ anyTrial (mR rb9) = false ∧ loadList (seen (st (mR rb9)) 9) 4 1 lst = Except.error Status.badField) ∧
  (opReady (seen (st (mR rb10)) 9) 258 q0 = true ∧ freezeAllowed (mR rb10) = false) ∧
  (opReady (seen (st (mRec rb11)) 9) 258 q0 = true ∧ freezeAllowed (mRec rb11) = true ∧ (mRec rb11).rcr.frozen = none) ∧
  (opReady (seen (st (mRec rb12)) 9) 258 q0 = true ∧ (mRec rb12).rcr.frozen.isSome = true) ∧
  ((mRec rb13).pwr.st ≠ PState.off ∧ (mRec rb13).rcr.frozen = some 5 ∧ 5 + 60000000000 * (mRec rb13).rcr.freezeMax ≤ max (mRec rb13).clk 1800000000005) ∧
  (opReady (seen (st mPr) 9) 259 q48 = true ∧ 1 ≤ 2 ∧ 2 ≤ 3 ∧ 1 ≤ 65536 ∧ 65536 ≤ 65536 ∧ List.find? (fun x => x.2.seq == 6) (presentIntervals mPr 2) = some (false, iv0)) ∧
  (opReady (seen (st mPr) 9) 259 q48 = true ∧ 1 ≤ 2 ∧ 2 ≤ 3 ∧ 1 ≤ 1 ∧ 1 ≤ 65536 ∧ (false, iv0) ∈ presentIntervals mPr 2 ∧ List.find? (fun x => x.2.seq == 5) (presentIntervals mPr 2) = none) ∧
  (opReady (seen (st mPr) 9) 259 q48 = true ∧ 1 ≤ 2 ∧ 2 ≤ 3 ∧ 1 ≤ 1 ∧ 1 ≤ 65536 ∧ (false, iv0) ∈ presentIntervals mPr 2 ∧ List.find? (fun x => x.2.seq == 10) (presentIntervals mPr 2) = none) ∧
  ((mRec rb14).pwr.st ≠ PState.off ∧ bootHeld (mRec rb14) = false ∧ (mRec rb14).gen.softLock = false) := by
  refine ⟨⟨?_, ?_, ?_⟩, ⟨?_, ?_, ?_⟩, ⟨?_, ?_, ?_⟩, ⟨?_, ?_, ?_⟩, ⟨?_, ?_⟩, ⟨?_, ?_, ?_⟩, ⟨?_, ?_⟩, ⟨?_, ?_, ?_⟩, ⟨?_, ?_, ?_, ?_, ?_, ?_⟩, ⟨?_, ?_, ?_, ?_, ?_, ?_, ?_⟩, ⟨?_, ?_, ?_, ?_, ?_, ?_, ?_⟩, ⟨?_, ?_, ?_⟩⟩ <;> decide +kernel

end Sys2Proof.Tests.O

namespace Sys2Proof.Tests.P

def nvR (r : Region) : NvBlk := { regions := [{}, r, {}] }
def mU (r : Region) (u : UpdBlk) : Mod := { m0 with nv := nvR r, upd := u }
def rZ : Region := {}
def uZ : UpdBlk := {}
def r7 : Region := { version := 7 }
def mUz : Mod := mU rZ uZ
def rI (x : RegionSt) : Region := { st := x }
def hd (k pay : Nat) (h1 h2 : List Byte) : List Byte := bytes32 0x4B504446 ++ bytes16 1 ++ [2, BitVec.ofNat 8 k] ++ bytes32 7 ++ bytes32 1 ++ bytes16 0 ++ [0, 0] ++ bytes32 (BitVec.ofNat 32 pay) ++ bytes32 (BitVec.ofNat 32 pay) ++ bytes16 0 ++ [0, 0] ++ (List.replicate 12 0 : List Byte) ++ bytes32 0x55 ++ h1 ++ h2 ++ List.replicate 112 0
def z48 : List Byte := List.replicate 48 0
def h3 : List Byte := hd 2 3 (sha384 [1, 2, 3]) (sha384 [1, 2, 3])
def hB : List Byte := hd 2 3 z48 z48
def wk (h p : List Byte) : Workspace := { region := 2, header := h, payload := p }
def wkO (h p : List Byte) : Workspace := { wk h p with output := p }
def uW (w : Workspace) : UpdBlk := { ws := some w }
def pm (w : Nat) : AdmBlk := { grants := [{ who := w, op := .sigVerify, c1 := false, units := 16, durMs := 10, resync := false, stop := 5 }] }
def mUp (r : Region) (u : UpdBlk) (w : Nat) : Mod := { mU r u with adm := pm w }
def fi2 (c : Nat) : FaultInfo := { src := 0x10, cls := c, addr := 3, master := 0x0E00, access := 0, actClass := 3, detail := 5 }
def rS : Region := { st := .ready, staged := true }
def rT : Region := { st := .trial, trial := true, version := 7, activeVersion := 6, activatedAt := 5, ranBase := 0 }
def mU3 : Mod := { m0 with nv := { regions := [{}, {}, rI .ready] } }
def mRan : Mod := { mU rT uZ with pwr := { m0.pwr with ranNs := 600000000000 } }
def uI (w : Workspace) (k : Nat) : UpdBlk := { ws := some w, incoming := some (0x99, 0x55, k) }
def nb (s : Bool) : Neighbour := { nid := 0x99, offered := true, sending := s, acked := 1, sentTo := 3, ackAt := 5, movedAt := 5 }
def mN (s : Bool) : Mod := mU rZ { fwd := some (hB, [1, 2, 3], false), nbrs := [(1, nb s), (2, {})] }

theorem witness_UpdateReception :
  (mUz.nv.regions.length = 3 ∧ 1 ≤ 2 ∧ 2 ≤ 3 ∧ regionOf mUz 2 = rZ ∧ opReady (seen (st mUz) 9) 384 q48 true = true ∧ notLead mUz = false ∧ bootTakes mUz hB = true ∧ pkRegion hB = 2 ∧ rZ.st = RegionSt.idle) ∧
  (mUz.nv.regions.length = 3 ∧ 1 ≤ 2 ∧ 2 ≤ 3 ∧ regionOf mUz 2 = rZ ∧ opReady (seen (st mUz) 9) 384 q48 true = true ∧ notLead mUz = false ∧ bootTakes mUz hB = true ∧ headerCheck mUz hB false = some Status.updSignature) ∧
  ((mU (rI RegionSt.receiving) (uW (wk h3 []))).nv.regions.length = 3 ∧ 1 ≤ 2 ∧ 2 ≤ 3 ∧ regionOf (mU (rI RegionSt.receiving) (uW (wk h3 []))) 2 = rI RegionSt.receiving ∧ (mU (rI RegionSt.receiving) (uW (wk h3 []))).pwr.st ≠ PState.off ∧ (mU (rI RegionSt.receiving) (uW (wk h3 []))).upd.ws = some (wk h3 []) ∧ (wk h3 []).region = 2 ∧ (rI RegionSt.receiving).st = RegionSt.receiving ∧ (wk h3 []).fromId = 0 ∧ pkPayload (wk h3 []).header ≤ [1, 2, 3].length) ∧
  ((mUp (rI RegionSt.verifying) (uW (wk h3 [1, 2, 3])) 20).nv.regions.length = 3 ∧ 1 ≤ 2 ∧ 2 ≤ 3 ∧ regionOf (mUp (rI RegionSt.verifying) (uW (wk h3 [1, 2, 3])) 20) 2 = rI RegionSt.verifying ∧ (mUp (rI RegionSt.verifying) (uW (wk h3 [1, 2, 3])) 20).pwr.st ≠ PState.off ∧ (mUp (rI RegionSt.verifying) (uW (wk h3 [1, 2, 3])) 20).upd.ws = some (wk h3 [1, 2, 3]) ∧ (wk h3 [1, 2, 3]).region = 2 ∧ (rI RegionSt.verifying).st = RegionSt.verifying ∧ holds (mUp (rI RegionSt.verifying) (uW (wk h3 [1, 2, 3])) 20) 20 = true ∧ pkDelta (wk h3 [1, 2, 3]).header = false) ∧
  ((mUp (rI RegionSt.verifying) (uW (wk hB [1, 2, 3])) 20).nv.regions.length = 3 ∧ 1 ≤ 2 ∧ 2 ≤ 3 ∧ regionOf (mUp (rI RegionSt.verifying) (uW (wk hB [1, 2, 3])) 20) 2 = rI RegionSt.verifying ∧ (mUp (rI RegionSt.verifying) (uW (wk hB [1, 2, 3])) 20).pwr.st ≠ PState.off ∧ (mUp (rI RegionSt.verifying) (uW (wk hB [1, 2, 3])) 20).upd.ws = some (wk hB [1, 2, 3]) ∧ (wk hB [1, 2, 3]).region = 2 ∧ (rI RegionSt.verifying).st = RegionSt.verifying ∧ holds (mUp (rI RegionSt.verifying) (uW (wk hB [1, 2, 3])) 20) 20 = true ∧ pkDelta (wk hB [1, 2, 3]).header = false) ∧
  ((mUp (rI RegionSt.applying) (uW (wkO h3 [1, 2, 3])) 21).nv.regions.length = 3 ∧ 1 ≤ 2 ∧ 2 ≤ 3 ∧ regionOf (mUp (rI RegionSt.applying) (uW (wkO h3 [1, 2, 3])) 21) 2 = rI RegionSt.applying ∧ (mUp (rI RegionSt.applying) (uW (wkO h3 [1, 2, 3])) 21).pwr.st ≠ PState.off ∧ (mUp (rI RegionSt.applying) (uW (wkO h3 [1, 2, 3])) 21).upd.ws = some (wkO h3 [1, 2, 3]) ∧ (wkO h3 [1, 2, 3]).region = 2 ∧ (rI RegionSt.applying).st = RegionSt.applying ∧ holds (mUp (rI RegionSt.applying) (uW (wkO h3 [1, 2, 3])) 21) 21 = true ∧ (mUp (rI RegionSt.applying) (uW (wkO h3 [1, 2, 3])) 21).sec.bootFail = none ∧ pkDelta (wkO h3 [1, 2, 3]).header = false) ∧
  ((mUp (rI RegionSt.applying) (uW (wkO hB [1, 2, 3])) 21).nv.regions.length = 3 ∧ 1 ≤ 2 ∧ 2 ≤ 3 ∧ regionOf (mUp (rI RegionSt.applying) (uW (wkO hB [1, 2, 3])) 21) 2 = rI RegionSt.applying ∧ (mUp (rI RegionSt.applying) (uW (wkO hB [1, 2, 3])) 21).pwr.st ≠ PState.off ∧ (mUp (rI RegionSt.applying) (uW (wkO hB [1, 2, 3])) 21).upd.ws = some (wkO hB [1, 2, 3]) ∧ (wkO hB [1, 2, 3]).region = 2 ∧ (rI RegionSt.applying).st = RegionSt.applying ∧ holds (mUp (rI RegionSt.applying) (uW (wkO hB [1, 2, 3])) 21) 21 = true ∧ (mUp (rI RegionSt.applying) (uW (wkO hB [1, 2, 3])) 21).sec.bootFail = none ∧ pkDelta (wkO hB [1, 2, 3]).header = false) ∧
  (mUz.nv.regions.length = 3 ∧ 1 ≤ 2 ∧ 2 ≤ 3 ∧ regionOf mUz 2 = rZ ∧ opReady (seen (st mUz) 9) 386 q0 = true ∧ notLead (seen (st mUz) 9) = false ∧ rZ.st = RegionSt.idle) ∧
  ((mU (rI RegionSt.trial) uZ).nv.regions.length = 3 ∧ 1 ≤ 2 ∧ 2 ≤ 3 ∧ regionOf (mU (rI RegionSt.trial) uZ) 2 = rI RegionSt.trial ∧ opReady (seen (st (mU (rI RegionSt.trial) uZ)) 9) 386 q0 = true ∧ notLead (seen (st (mU (rI RegionSt.trial) uZ)) 9) = false ∧ ((rI RegionSt.trial).st = RegionSt.activating ∨ (rI RegionSt.trial).st = RegionSt.trial)) ∧
  ((mU (rI RegionSt.ready) uZ).nv.regions.length = 3 ∧ 1 ≤ 2 ∧ 2 ≤ 3 ∧ regionOf (mU (rI RegionSt.ready) uZ) 2 = rI RegionSt.ready ∧ opReady (seen (st (mU (rI RegionSt.ready) uZ)) 9) 386 q0 = true ∧ notLead (seen (st (mU (rI RegionSt.ready) uZ)) 9) = false ∧ (inWorkspace (rI RegionSt.ready) = true ∨ (rI RegionSt.ready).st = RegionSt.ready)) ∧
  ((mU (rI RegionSt.applying) (uW (wk h3 [1, 2, 3]))).nv.regions.length = 3 ∧ 1 ≤ 2 ∧ 2 ≤ 3 ∧ regionOf (mU (rI RegionSt.applying) (uW (wk h3 [1, 2, 3]))) 2 = rI RegionSt.applying ∧ opReady (seen (st (mU (rI RegionSt.applying) (uW (wk h3 [1, 2, 3])))) 9) 386 q0 = true ∧ notLead (seen (st (mU (rI RegionSt.applying) (uW (wk h3 [1, 2, 3])))) 9) = false ∧ (inWorkspace (rI RegionSt.applying) = true ∨ (rI RegionSt.applying).st = RegionSt.ready)) := by
  refine ⟨⟨?_, ?_, ?_, ?_, ?_, ?_, ?_, ?_, ?_⟩, ⟨?_, ?_, ?_, ?_, ?_, ?_, ?_, ?_⟩, ⟨?_, ?_, ?_, ?_, ?_, ?_, ?_, ?_, ?_, ?_⟩, ⟨?_, ?_, ?_, ?_, ?_, ?_, ?_, ?_, ?_, ?_⟩, ⟨?_, ?_, ?_, ?_, ?_, ?_, ?_, ?_, ?_, ?_⟩, ⟨?_, ?_, ?_, ?_, ?_, ?_, ?_, ?_, ?_, ?_, ?_⟩, ⟨?_, ?_, ?_, ?_, ?_, ?_, ?_, ?_, ?_, ?_, ?_⟩, ⟨?_, ?_, ?_, ?_, ?_, ?_⟩, ⟨?_, ?_, ?_, ?_, ?_, ?_⟩, ⟨?_, ?_, ?_, ?_, ?_, ?_⟩, ⟨?_, ?_, ?_, ?_, ?_, ?_⟩⟩ <;> decide +kernel

theorem witness_UpdateTrial :
  (mUz.nv.regions.length = 3 ∧ 1 ≤ 2 ∧ 2 ≤ 3 ∧ regionOf mUz 2 = rZ ∧ opReady (seen (st mUz) 9) 385 q0 = true ∧ notLead (seen (st mUz) 9) = false ∧ activateRefusal mUz 2 false false = some Status.updState) ∧
  ((mU rS uZ).nv.regions.length = 3 ∧ 1 ≤ 2 ∧ 2 ≤ 3 ∧ regionOf (mU rS uZ) 2 = rS ∧ opReady (seen (st (mU rS uZ)) 9) 385 q0 = true ∧ notLead (seen (st (mU rS uZ)) 9) = false ∧ activateRefusal (mU rS uZ) 2 false false = none ∧ rS.staged = true) ∧
  (mU3.nv.regions.length = 3 ∧ 1 ≤ 3 ∧ 3 ≤ 3 ∧ regionOf mU3 3 = rI RegionSt.ready ∧ opReady (seen (st mU3) 9) 385 q0 = true ∧ notLead (seen (st mU3) 9) = false ∧ activateRefusal mU3 3 false false = none ∧ 3 = 3 ∧ (rI RegionSt.ready).staged = false ∧ mU3.tri.seat = 0 ∧ mU3.pwr.starting = false) ∧
  ((mU rT uZ).nv.regions.length = 3 ∧ 1 ≤ 2 ∧ 2 ≤ 3 ∧ regionOf (mU rT uZ) 2 = rT ∧ opReady (seen (st (mU rT uZ)) 9) 387 q0 = true ∧ notLead (seen (st (mU rT uZ)) 9) = false ∧ rT.st = RegionSt.trial) ∧
  (mUz.nv.regions.length = 3 ∧ 1 ≤ 2 ∧ 2 ≤ 3 ∧ regionOf mUz 2 = rZ ∧ opReady (seen (st mUz) 9) 387 q0 = true ∧ notLead (seen (st mUz) 9) = false ∧ rZ.st ≠ RegionSt.trial) ∧
  (mRan.nv.regions.length = 3 ∧ 1 ≤ 2 ∧ 2 ≤ 3 ∧ regionOf mRan 2 = rT ∧ mRan.pwr.st ≠ PState.off ∧ mRan.pwr.st ≠ PState.fail ∧ rT.st = RegionSt.trial ∧ 60000000000 * rT.confirmMin ≤ trialRun (seen (st mRan) 9) rT ∧ mRan.upd.triad = none) ∧
  ((mU rT uZ).nv.regions.length = 3 ∧ 1 ≤ 2 ∧ 2 ≤ 3 ∧ regionOf (mU rT uZ) 2 = rT ∧ (mU rT uZ).pwr.st ≠ PState.off ∧ (mU rT uZ).pwr.st ≠ PState.fail ∧ rT.st = RegionSt.trial ∧ trialRun (seen (st (mU rT uZ)) 9) rT < 60000000000 * rT.confirmMin) ∧
  ((mU rT uZ).nv.regions.length = 3 ∧ 1 ≤ 2 ∧ 2 ≤ 3 ∧ regionOf (mU rT uZ) 2 = rT ∧ (mU rT uZ).pwr.st ≠ PState.off ∧ (mU rT uZ).pwr.st ≠ PState.fail ∧ rT.st = RegionSt.trial ∧ rT.activatedAt + 86400000000000 ≤ max (mU rT uZ).clk 86400000000005) ∧
  ((mU rT uZ).nv.regions.length = 3 ∧ 1 ≤ 2 ∧ 2 ≤ 3 ∧ regionOf (mU rT uZ) 2 = rT ∧ (mU rT uZ).pwr.st ≠ PState.off ∧ (mU rT uZ).pwr.st ≠ PState.fail ∧ rT.st = RegionSt.trial ∧ (mU rT uZ).nv.capture = none ∧ 2 ≤ (fi2 2).cls) := by
  refine ⟨⟨?_, ?_, ?_, ?_, ?_, ?_⟩, ⟨?_, ?_, ?_, ?_, ?_, ?_, ?_⟩, ⟨?_, ?_, ?_, ?_, ?_, ?_, ?_, ?_, ?_, ?_⟩, ⟨?_, ?_, ?_, ?_, ?_, ?_⟩, ⟨?_, ?_, ?_, ?_, ?_, ?_⟩, ⟨?_, ?_, ?_, ?_, ?_, ?_, ?_, ?_, ?_⟩, ⟨?_, ?_, ?_, ?_, ?_, ?_, ?_, ?_⟩, ⟨?_, ?_, ?_, ?_, ?_, ?_, ?_, ?_⟩, ⟨?_, ?_, ?_, ?_, ?_, ?_, ?_, ?_, ?_⟩⟩ <;> decide +kernel

theorem witness_RelayReceiver :
  ((mU r7 uZ).pwr.st ≠ PState.off ∧ (mU r7 uZ).pwr.st ≠ PState.fail ∧ (mU r7 uZ).pwr.svcStopped = false ∧ (mU r7 uZ).nv.regions.length = 3 ∧ bootHeld (mU r7 uZ) = false ∧ (mU r7 uZ).upd.receiveEn = true ∧ pkFieldsOk hB = true ∧ hasPackage (mU r7 uZ) hB = true) ∧
  (mUz.pwr.st ≠ PState.off ∧ mUz.pwr.st ≠ PState.fail ∧ mUz.pwr.svcStopped = false ∧ mUz.nv.regions.length = 3 ∧ bootHeld mUz = false ∧ hasPackage mUz hB = false ∧ (regionOf mUz (pkRegion hB)).st = RegionSt.idle) ∧
  ((mU (rI RegionSt.receiving) (uI (wk h3 [1]) 0)).pwr.st ≠ PState.off ∧ (mU (rI RegionSt.receiving) (uI (wk h3 [1]) 0)).pwr.st ≠ PState.fail ∧ (mU (rI RegionSt.receiving) (uI (wk h3 [1]) 0)).pwr.svcStopped = false ∧ (mU (rI RegionSt.receiving) (uI (wk h3 [1]) 0)).nv.regions.length = 3 ∧ (mU (rI RegionSt.receiving) (uI (wk h3 [1]) 0)).upd.ws = some (wk h3 [1]) ∧ (mU (rI RegionSt.receiving) (uI (wk h3 [1]) 0)).upd.incoming = some (153, 85, 0) ∧ (wk h3 [1]).region = 2 ∧ 1 ≤ 2 ∧ 2 ≤ 3 ∧ (regionOf (mU (rI RegionSt.receiving) (uI (wk h3 [1]) 0)) 2).st = RegionSt.receiving ∧ 0 + 1 ≠ 32 ∧ (wk h3 [1]).payload.length + min 1024 [2].length < pkPayload (wk h3 [1]).header) ∧
  ((mU (rI RegionSt.receiving) (uI (wk h3 [1]) 31)).pwr.st ≠ PState.off ∧ (mU (rI RegionSt.receiving) (uI (wk h3 [1]) 31)).pwr.st ≠ PState.fail ∧ (mU (rI RegionSt.receiving) (uI (wk h3 [1]) 31)).pwr.svcStopped = false ∧ (mU (rI RegionSt.receiving) (uI (wk h3 [1]) 31)).nv.regions.length = 3 ∧ (mU (rI RegionSt.receiving) (uI (wk h3 [1]) 31)).upd.ws = some (wk h3 [1]) ∧ (mU (rI RegionSt.receiving) (uI (wk h3 [1]) 31)).upd.incoming = some (153, 85, 31) ∧ (wk h3 [1]).region = 2 ∧ 1 ≤ 2 ∧ 2 ≤ 3 ∧ (regionOf (mU (rI RegionSt.receiving) (uI (wk h3 [1]) 31)) 2).st = RegionSt.receiving ∧ (wk h3 [1]).payload.length ≤ pkPayload (wk h3 [1]).header ∧ pkPayload (wk h3 [1]).header ≤ (wk h3 [1]).payload.length + min 1024 [2, 3, 4].length) ∧
  ((mU (rI RegionSt.receiving) (uI (wk h3 [1]) 0)).pwr.st ≠ PState.off ∧ (mU (rI RegionSt.receiving) (uI (wk h3 [1]) 0)).pwr.st ≠ PState.fail ∧ (mU (rI RegionSt.receiving) (uI (wk h3 [1]) 0)).pwr.svcStopped = false ∧ (mU (rI RegionSt.receiving) (uI (wk h3 [1]) 0)).nv.regions.length = 3 ∧ (mU (rI RegionSt.receiving) (uI (wk h3 [1]) 0)).upd.ws = some (wk h3 [1]) ∧ (mU (rI RegionSt.receiving) (uI (wk h3 [1]) 0)).upd.incoming = some (153, 85, 0) ∧ (wk h3 [1]).region = 2 ∧ 1 ≤ 2 ∧ 2 ≤ 3 ∧ (regionOf (mU (rI RegionSt.receiving) (uI (wk h3 [1]) 0)) 2).st = RegionSt.receiving ∧ (wk h3 [1]).payload.length < 2) ∧
  ((mU (rI RegionSt.receiving) (uI (wk h3 [1]) 0)).pwr.st ≠ PState.off ∧ (mU (rI RegionSt.receiving) (uI (wk h3 [1]) 0)).pwr.st ≠ PState.fail ∧ (mU (rI RegionSt.receiving) (uI (wk h3 [1]) 0)).pwr.svcStopped = false ∧ (mU (rI RegionSt.receiving) (uI (wk h3 [1]) 0)).nv.regions.length = 3 ∧ (mU (rI RegionSt.receiving) (uI (wk h3 [1]) 0)).upd.ws = some (wk h3 [1]) ∧ (mU (rI RegionSt.receiving) (uI (wk h3 [1]) 0)).upd.incoming = some (153, 85, 0) ∧ (wk h3 [1]).region = 2 ∧ 1 ≤ 2 ∧ 2 ≤ 3 ∧ (regionOf (mU (rI RegionSt.receiving) (uI (wk h3 [1]) 0)) 2).st = RegionSt.receiving) := by
  refine ⟨⟨?_, ?_, ?_, ?_, ?_, ?_, ?_, ?_⟩, ⟨?_, ?_, ?_, ?_, ?_, ?_, ?_⟩, ⟨?_, ?_, ?_, ?_, ?_, ?_, ?_, ?_, ?_, ?_, ?_, ?_⟩, ⟨?_, ?_, ?_, ?_, ?_, ?_, ?_, ?_, ?_, ?_, ?_, ?_⟩, ⟨?_, ?_, ?_, ?_, ?_, ?_, ?_, ?_, ?_, ?_, ?_⟩, ⟨?_, ?_, ?_, ?_, ?_, ?_, ?_, ?_, ?_, ?_⟩⟩ <;> decide +kernel

theorem witness_RelaySender :
  ((mN false).pwr.st ≠ PState.off ∧ (mN false).upd.fwd = some (hB, [1, 2, 3], false) ∧ tget (mN false).upd.nbrs 1 = some (nb false) ∧ (List.map Prod.fst (mN false).upd.nbrs).Nodup ∧ (nb false).offered = true ∧ (nb false).done = false ∧ pkId hB = 85 ∧ (mN false).pwr.svcStopped = false) ∧
  ((mN true).pwr.st ≠ PState.off ∧ (mN true).upd.fwd = some (hB, [1, 2, 3], false) ∧ tget (mN true).upd.nbrs 1 = some (nb true) ∧ (List.map Prod.fst (mN true).upd.nbrs).Nodup ∧ (nb true).offered = true ∧ (nb true).done = false ∧ pkId hB = 85 ∧ (mN true).pwr.svcStopped = false) ∧
  ((mN true).pwr.st ≠ PState.off ∧ (mN true).upd.fwd = some (hB, [1, 2, 3], false) ∧ tget (mN true).upd.nbrs 1 = some (nb true) ∧ (List.map Prod.fst (mN true).upd.nbrs).Nodup ∧ (nb true).offered = true ∧ (nb true).done = false ∧ pkId hB = 85 ∧ (mN true).pwr.svcStopped = false ∧ 5 ≠ 0) ∧
  ((mN true).pwr.st ≠ PState.off ∧ (mN true).upd.fwd = some (hB, [1, 2, 3], false) ∧ tget (mN true).upd.nbrs 1 = some (nb true) ∧ (List.map Prod.fst (mN true).upd.nbrs).Nodup ∧ (nb true).offered = true ∧ (nb true).done = false ∧ pkId hB = 85 ∧ (mN true).pwr.svcStopped = false ∧ (nb true).sending = true) ∧
  ((mN false).pwr.st ≠ PState.off ∧ (mN false).upd.fwd = some (hB, [1, 2, 3], false) ∧ tget (mN false).upd.nbrs 1 = some (nb false) ∧ (List.map Prod.fst (mN false).upd.nbrs).Nodup ∧ (nb false).offered = true ∧ (nb false).done = false ∧ pkId hB = 85 ∧ (mN false).pwr.svcStopped = false ∧ (nb false).sending = false) ∧
  ((mN true).pwr.st ≠ PState.off ∧ (mN true).upd.fwd = some (hB, [1, 2, 3], false) ∧ tget (mN true).upd.nbrs 1 = some (nb true) ∧ (List.map Prod.fst (mN true).upd.nbrs).Nodup ∧ (nb true).offered = true ∧ (nb true).done = false ∧ (nb true).sending = true ∧ (nb true).acked < (nb true).sentTo ∧ (nb true).acked < [1, 2, 3].length ∧ (nb true).ackAt + 20000000 ≤ max (mN true).clk 20000005) ∧
  ((mN true).pwr.st ≠ PState.off ∧ (mN true).upd.fwd = some (hB, [1, 2, 3], false) ∧ tget (mN true).upd.nbrs 1 = some (nb true) ∧ (List.map Prod.fst (mN true).upd.nbrs).Nodup ∧ (nb true).offered = true ∧ (nb true).done = false ∧ (nb true).movedAt + 10000000000 ≤ max (mN true).clk 10000000005) := by
  refine ⟨⟨?_, ?_, ?_, ?_, ?_, ?_, ?_, ?_⟩, ⟨?_, ?_, ?_, ?_, ?_, ?_, ?_, ?_⟩, ⟨?_, ?_, ?_, ?_, ?_, ?_, ?_, ?_, ?_⟩, ⟨?_, ?_, ?_, ?_, ?_, ?_, ?_, ?_, ?_⟩, ⟨?_, ?_, ?_, ?_, ?_, ?_, ?_, ?_, ?_⟩, ⟨?_, ?_, ?_, ?_, ?_, ?_, ?_, ?_, ?_, ?_⟩, ⟨?_, ?_, ?_, ?_, ?_, ?_, ?_⟩⟩ <;> decide +kernel

end Sys2Proof.Tests.P

namespace Sys2Proof.Tests.Q

def kG : List Byte := 4 :: (beBytes 48 gx384 ++ beBytes 48 gy384)
def kH : List Byte := 4 :: (beBytes 48 1362138308511466522361153706999924933599454966107597910086607881313301390679204654798639248640660900363360053616481 ++ beBytes 48 21933325650940841369538204578070064804451893403314136885642470114978241170633179043576249504748352841115137159204480)
def bz (n : Nat) : List Byte := List.replicate n 0
/-- A package of one DEBUG_GRANT item of 5 minutes, without a valid signature. -/
def pkB (seq : Nat) : List Byte := bytes32 0x43505250 ++ bytes16 1 ++ bytes16 1 ++ bytes32 (speakId m0) ++ bytes32 (BitVec.ofNat 32 seq) ++ bytes32 16 ++ bz 12 ++ bz 160 ++ (bytes16 9 ++ [0, 0] ++ bytes32 4 ++ bytes32 5 ++ bz 4)
def pP : Proposal := { pkg := pkB 1, seq := 1, target := speakId m0, acceptedAt := 5 }
def pE : Proposal := { pP with pkg := (pkB 1).take 192 }
def mPr (p : Option Proposal) : Mod := { m0 with sec := { pending := p } }
def mCf (p : Proposal) : Mod := { m0 with sec := { confirmed := some (p, q1) } }
def sCf (p : Proposal) : State := st (mCf p)
def okOf (x : ItemOut) : Mod := match x with | .ok m => m | .error e => e.1
def bef (p : Proposal) : Mod := { seen (sCf p) 9 with sec := { (mCf p).sec with confirmed := none } }
def aA : Mod := okOf (applyItems (bef pP) (pkB 1))
def aB : Mod := okOf (applyItems (post (protEvent (secEvent (bef pP) 0) 1 1 (speakId m0) .ok) q1 .ok) (pkB 1))
def eE : Mod × Status := (bef pE, .badField)
def roles : List Byte := kG ++ bz 7 ++ kH ++ bz 7
def m_q1 : Mod := { m0 with nv := { lifecycle := .provisioned } }
def m_q2 : Mod := { m0 with sec := { failures := 7 } }
def m_q3 : Mod := { m0 with sec := { lockout := some 3 } }
def sFull : State := { m := { m0 with sec := { debug := .full } }, dbg := [(5, 7)] }
def m_q4 : Mod := { m0 with sec := { grantEnd := some 9, debug := .observe } }
def pn (x : PanelSt) : PnlBlk := { st := x, crcExp := 5, crcNew := some 6, bandNew := 2 }
def mPn (p : PnlBlk) : Mod := { m0 with pnl := p }
def sPn (x : PanelSt) : State := { m := mPn (pn x), image := [(3, 4)], frame := [(1, 1)] }
def pnS (x : PanelSt) : PnlBlk := { pn x with scanning := true, frameAt := 0 }
def img : List Byte := bz 16384
def bands : List Byte := (List.range 6).flatMap (fun i => [BitVec.ofNat 8 (10 * i), 9, 63, 8, 0, 0, 0, 0])
def idn : List Byte := bytes16 16 ++ bytes16 8 ++ bz 12
def pOff : PnlBlk := { en := false }
def pRet : PnlBlk := { retryAt := some 5 }
def pI : PnlBlk := { en := true, st := .ident, startAt := 5, logic := true }
def pR : PnlBlk := { st := .rail, railOn := some 5 }
def bnd1 : Band := (resetBands[1]?).getD { edgeLow := 0, code := 0, fullCode := 0, precharge := 0 }
def pU (n : Nat) : PnlBlk := { st := .lit, upRun := n }

theorem witness_ProtectionChanges :
  (opReady (seen (st (mPr none)) 9) 512 q0 = true ∧ notLead (seen (st (mPr none)) 9) = false) ∧
  (opReady (seen (st (mPr (some pP))) 9) 513 q0 = true ∧ notLead (seen (st (mPr (some pP))) 9) = false ∧ (mPr (some pP)).sec.pending = some pP ∧ pP.seq = 1 ∧ pP.late (max (mPr (some pP)).clk 9) = false) ∧
  (opReady (seen (st (mPr (some pP))) 600000000006) 513 q0 = true ∧ notLead (seen (st (mPr (some pP))) 600000000006) = false ∧ (mPr (some pP)).sec.pending = some pP ∧ pP.seq = 1 ∧ pP.late (max (mPr (some pP)).clk 600000000006) = true) ∧
  (opReady (seen (st (mPr (some pP))) 9) 513 q0 = true ∧ notLead (seen (st (mPr (some pP))) 9) = false ∧ (mPr (some pP)).sec.pending = some pP ∧ pP.seq ≠ 2) ∧
  ((sCf pP).m.pwr.st ≠ PState.off ∧ (sCf pP).m.sec.confirmed = some (pP, q1) ∧ applyItems (bef pP) pP.pkg = .ok aA ∧ applyItems (post (protEvent (secEvent (bef pP) 0) 1 pP.seq pP.target .ok) q1 .ok) pP.pkg = .ok aB) ∧
  ((sCf pE).m.pwr.st ≠ PState.off ∧ (sCf pE).m.sec.confirmed = some (pE, q1) ∧ applyItems (bef pE) pE.pkg = .error eE) ∧
  (opReady (seen (st (mPr (some pP))) 9) 514 q0 = true ∧ notLead (seen (st (mPr (some pP))) 9) = false ∧ (mPr (some pP)).sec.pending = some pP ∧ pP.seq = 1) ∧
  (opReady (seen (st (mPr none)) 9) 514 q0 = true ∧ notLead (seen (st (mPr none)) 9) = false ∧ (mPr none).sec.pending = none) ∧
  ((mPr (some pP)).pwr.st ≠ PState.off ∧ (mPr (some pP)).sec.pending = some pP ∧ pP.acceptedAt + 600000000000 ≤ max (mPr (some pP)).clk 600000000005) ∧
  (opReady (seen (st (mPr (some pP))) 9) 515 q0 = true ∧ notLead (seen (st (mPr (some pP))) 9) = false ∧ (mPr (some pP)).sec.pending = some pP) ∧
  (opReady (seen (st (mPr none)) 9) 516 q0 = true ∧ notLead (seen (st (mPr none)) 9) = false) ∧
  (opReady (seen (st m_q1) 9) 517 q0 = true ∧ notLead (seen (st m_q1) 9) = false ∧ m_q1.nv.lifecycle = Lifecycle.provisioned ∧ m_q1.nv.roleKeys = [] ∧ 208 ≤ roles.length ∧ (pointOf (slice roles 0 97)).isSome = true ∧ (pointOf (slice roles 104 97)).isSome = true ∧ slice roles 0 97 ≠ slice roles 104 97) := by
  refine ⟨?_, ⟨?_, ?_, ?_, ?_⟩, ⟨?_, ?_, ?_, ?_⟩, ⟨?_, ?_, ?_⟩, ⟨?_, ?_, ?_, ?_⟩, ⟨?_, ?_, ?_⟩, ⟨?_, ?_, ?_⟩, ⟨?_, ?_⟩, ⟨?_, ?_, ?_⟩, ⟨?_, ?_⟩, ?_, ⟨?_, ?_, ?_, ?_, ?_, ?_, ?_⟩⟩ <;> decide +kernel

theorem witness_DebugLevels :
  (m0.pwr.st ≠ PState.off ∧ g1Up m0 = true ∧ m0.sec.lockout = none) ∧
  (m_q2.pwr.st ≠ PState.off ∧ g1Up m_q2 = true ∧ m_q2.sec.lockout = none) ∧
  (m_q3.pwr.st ≠ PState.off ∧ g1Up m_q3 = true ∧ m_q3.sec.lockout.isSome = true) ∧
  (sFull.m.pwr.st ≠ PState.off ∧ g1Up sFull.m = true ∧ sFull.m.sec.debug = Debug.full) ∧
  (sFull.m.pwr.st ≠ PState.off ∧ g1Up sFull.m = true ∧ sFull.m.sec.debug = Debug.full ∧ tget sFull.dbg 5 = some 7) ∧
  (sFull.m.pwr.st ≠ PState.off ∧ g1Up sFull.m = true ∧ sFull.m.sec.debug = Debug.full ∧ 15 < 16 ∧ 15 ∉ sFull.m.sec.halted) ∧
  (m0.pwr.st ≠ PState.off ∧ g1Up m0 = true ∧ m0.sec.debug = Debug.closed) ∧
  (m_q3.pwr.st ≠ PState.off ∧ m_q3.sec.lockout = some 3 ∧ 3 + 60000000000 ≤ max m_q3.clk 60000000003) ∧
  (m_q4.pwr.st ≠ PState.off ∧ m_q4.sec.grantEnd = some 9 ∧ 9 ≤ max m_q4.clk 9) := by
  refine ⟨⟨?_, ?_, ?_⟩, ⟨?_, ?_, ?_⟩, ⟨?_, ?_, ?_⟩, ⟨?_, ?_, ?_⟩, ⟨?_, ?_, ?_, ?_⟩, ⟨?_, ?_, ?_, ?_, ?_⟩, ⟨?_, ?_, ?_⟩, ⟨?_, ?_, ?_⟩, ⟨?_, ?_, ?_⟩⟩ <;> decide +kernel

theorem witness_PanelFrames :
  ((sPn PanelSt.clear).m.pwr.st ≠ PState.off ∧ frameDue (seen (sPn PanelSt.clear) 9) = true) ∧
  (frameDue (seen (st (mPn (pnS PanelSt.lit))) 8333332) = false) ∧
  ((mPn (pnS PanelSt.lit)).pwr.st ≠ PState.off ∧ (mPn (pnS PanelSt.lit)).pnl.scanning = true ∧ (mPn (pnS PanelSt.lit)).pnl.checked = false ∧ (mPn (pnS PanelSt.lit)).pnl.frameAt + 8333333 ≤ max (mPn (pnS PanelSt.lit)).clk 8333333 ∧ 5 = (mPn (pnS PanelSt.lit)).pnl.crcExp) ∧
  ((mPn (pnS PanelSt.lit)).pwr.st ≠ PState.off ∧ (mPn (pnS PanelSt.lit)).pnl.scanning = true ∧ (mPn (pnS PanelSt.lit)).pnl.checked = false ∧ (mPn (pnS PanelSt.lit)).pnl.frameAt + 8333333 ≤ max (mPn (pnS PanelSt.lit)).clk 8333333 ∧ 6 ≠ (mPn (pnS PanelSt.lit)).pnl.crcExp) ∧
  ((mPn (pn PanelSt.lit)).pwr.st ≠ PState.off ∧ opReady (seen (st (mPn (pn PanelSt.lit))) 8333333) 896 q1 = true ∧ panelUp (mPn (pn PanelSt.lit)).pnl = true ∧ img.length = 16384) ∧
  (opReady (seen (st (mPn (pn PanelSt.lit))) 8333333) 896 q1 = true ∧ ([] : List Byte).length ≠ 16384) ∧
  (opReady (seen (st (mPn (pn PanelSt.lit))) 8333333) 897 q0 = true ∧ bands.length = 48 ∧ bandsOk (List.map bandRec (pieces bands 8 6)) = true) := by
  refine ⟨⟨?_, ?_⟩, ?_, ⟨?_, ?_, ?_, ?_, ?_⟩, ⟨?_, ?_, ?_, ?_, ?_⟩, ⟨?_, ?_, ?_, ?_⟩, ⟨?_, ?_⟩, ⟨?_, ?_, ?_⟩⟩ <;> decide +kernel

theorem witness_PanelUpkeep :
  ((mPn pOff).pwr.st ≠ PState.off ∧ bootHeld (mPn pOff) = false ∧ (mPn pOff).gen.softLock = false ∧ (mPn pOff).pwr.st ≠ PState.fail ∧ (mPn pOff).pnl.en = false) ∧
  ((mPn (pn PanelSt.lit)).pwr.st ≠ PState.off ∧ bootHeld (mPn (pn PanelSt.lit)) = false ∧ (mPn (pn PanelSt.lit)).gen.softLock = false ∧ (mPn (pn PanelSt.lit)).pnl.en = true) ∧
  ((mPn pRet).pwr.st ≠ PState.off ∧ (mPn pRet).pnl.retryAt = some 5 ∧ 5 ≤ max (mPn pRet).clk 9 ∧ (mPn pRet).pnl.en = true ∧ (mPn pRet).pwr.st ≠ PState.fail) ∧
  ((mPn pI).pwr.st ≠ PState.off ∧ (mPn pI).pnl.st = PanelSt.ident ∧ (mPn pI).pnl.startAt + 10000000 ≤ max (mPn pI).clk 10000005 ∧ identOk idn = true) ∧
  ((mPn pI).pwr.st ≠ PState.off ∧ (mPn pI).pnl.st = PanelSt.ident ∧ (mPn pI).pnl.startAt + 10000000 ≤ max (mPn pI).clk 10000005 ∧ identOk [] = false) ∧
  ((mPn pR).pwr.st ≠ PState.off ∧ (mPn pR).pnl.railOn = some 5 ∧ 5 ≤ max (mPn pR).clk 5 ∧ 11000 < 11001 ∧ (mPn pR).pnl.st = PanelSt.rail) ∧
  ((mPn pR).pwr.st ≠ PState.off ∧ (mPn pR).pnl.railOn = some 5 ∧ 5 ≤ max (mPn pR).clk 5000005 ∧ 11000 ≤ 11000 ∧ 5 + 5000000 ≤ max (mPn pR).clk 5000005) ∧
  ((mPn (pnS PanelSt.lit)).pwr.st ≠ PState.off ∧ (100 : ℤ) ≤ (100 : ℤ) ∧ (mPn (pnS PanelSt.lit)).pnl.st = PanelSt.lit) ∧
  ((mPn (pU 1)).pwr.st ≠ PState.off ∧ bnd1.edgeLow < 100 ∧ (mPn (pU 1)).pnl.st ≠ PanelSt.off ∧ (mPn (pU 1)).pnl.bands[(mPn (pU 1)).pnl.bandNew + 1]? = some bnd1 ∧ (mPn (pU 1)).pnl.bandNew < 5 ∧ bnd1.edgeLow ≤ bnd1.edgeLow ∧ (mPn (pU 1)).pnl.upRun = 1) ∧
  ((mPn (pU 0)).pwr.st ≠ PState.off ∧ (99 : ℤ) < (100 : ℤ) ∧ (mPn (pU 0)).pnl.st ≠ PanelSt.off ∧ (mPn (pU 0)).pnl.bands[(mPn (pU 0)).pnl.bandNew + 1]? = some bnd1 ∧ (mPn (pU 0)).pnl.bandNew < 5 ∧ bnd1.edgeLow ≤ 99 ∧ (mPn (pU 0)).pnl.upRun = 0 ∧ (mPn (pU 0)).pnl.downRun = 0) ∧
  ((mPn (pn PanelSt.lit)).pwr.st ≠ PState.off ∧ opReady (seen (st (mPn (pn PanelSt.lit))) 9) 898 q1 = true ∧ 1 ≤ 1000 ∧ 1000 ≤ 1000 ∧ panelUp (mPn (pn PanelSt.lit)).pnl = true ∧ (mPn (pn PanelSt.lit)).pnl.fullReq = none ∧ (mPn (pn PanelSt.lit)).adm.waiting = [] ∧ (∀ g ∈ (mPn (pn PanelSt.lit)).adm.grants, g.who ≠ 40) ∧ (mPn (pn PanelSt.lit)).adm.holdBack = false ∧ (mPn (pn PanelSt.lit)).lpe.waiting = [] ∧ granted (mPn (pn PanelSt.lit)) + 4 ≤ pool (mPn (pn PanelSt.lit))) ∧
  ((mPn (pn PanelSt.lit)).pwr.st ≠ PState.off ∧ opReady (seen (st (mPn (pn PanelSt.lit))) 9) 898 q1 = true ∧ panelUp (mPn (pn PanelSt.lit)).pnl = true) ∧
  ((mPn (pn PanelSt.lit)).pwr.st ≠ PState.off ∧ opReady (seen (st (mPn (pn PanelSt.lit))) 9) 899 q1 = true ∧ panelUp (mPn (pn PanelSt.lit)).pnl = true) ∧
  ((mPn (pn PanelSt.off)).pwr.st ≠ PState.off ∧ opReady (seen (st (mPn (pn PanelSt.off))) 9) 899 q1 = true ∧ panelUp (mPn (pn PanelSt.off)).pnl = false) := by
  refine ⟨⟨?_, ?_, ?_, ?_, ?_⟩, ⟨?_, ?_, ?_, ?_⟩, ⟨?_, ?_, ?_, ?_, ?_⟩, ⟨?_, ?_, ?_, ?_⟩, ⟨?_, ?_, ?_, ?_⟩, ⟨?_, ?_, ?_, ?_, ?_⟩, ⟨?_, ?_, ?_, ?_, ?_⟩, ⟨?_, ?_, ?_⟩, ⟨?_, ?_, ?_, ?_, ?_, ?_, ?_⟩, ⟨?_, ?_, ?_, ?_, ?_, ?_, ?_, ?_⟩, ⟨?_, ?_, ?_, ?_, ?_, ?_, ?_, ?_, ?_, ?_, ?_⟩, ⟨?_, ?_, ?_⟩, ⟨?_, ?_, ?_⟩, ⟨?_, ?_, ?_⟩⟩ <;> decide +kernel

end Sys2Proof.Tests.Q

namespace Sys2Proof.Tests.Z

def sQ : State := { m := m0, pending := [.enterRun 5] }
def sOff : State := { m := { m0 with pwr := { st := .off } } }
def tkRun : Task := { rcd := { cls := 2 }, home := 0, pair := 0, st := .running, inst := some { release := 0 } }
def sRun : State := { m := { m0 with pge := { tasks := [(2, tkRun)], running := [(0, 2)] } } }
/-- The state a command leaves. -/
def after (i : Instr) (s : State) : State := match exec i s with | .next u => u | _ => s

theorem witness_StepTakesFirst : sQ.pending = .enterRun 5 :: [] := rfl
theorem witness_StepKeepsInv : MemoryForm sQ ∧ step sQ = .next (after (.enterRun 5) { sQ with pending := [] }) := ⟨⟨by decide +kernel, by decide +kernel, List.Pairwise.nil⟩, rfl⟩
theorem witness_ResetHolds : State.reset.pending = [] := rfl
theorem witness_OffIsStill : sOff.m.pwr.st = .off ∧ coreOf? (.debugGrantEnd 5) = none ∧ actsInOff (.debugGrantEnd 5) = false ∧ exec (.debugGrantEnd 5) sOff = .next (after (.debugGrantEnd 5) sOff) := ⟨rfl, rfl, rfl, rfl⟩
theorem witness_ProgramFrame : coreOf? (.dicNop 0) = some 0 ∧ exec (.dicNop 0) sRun = .next (after (.dicNop 0) sRun) ∧ (runningOn sRun.m 0).isSome = true ∧ runningOn sRun.m 1 = none := ⟨rfl, rfl, rfl, rfl⟩
theorem witness_MemoriesKept : touchesFrame (.dicNop 0) = false ∧ touchesImage (.dicNop 0) = false ∧ touchesDebug (.dicNop 0) = false ∧ exec (.dicNop 0) sRun = .next (after (.dicNop 0) sRun) := ⟨rfl, rfl, rfl, rfl⟩
theorem witness_SerialNumbers : serialLater (0xFFFFFFFF : W32) 0 = true ∧ 1 ≤ 2147483647 ∧ 2147483647 < 2 ^ 31 := by decide +kernel

end Sys2Proof.Tests.Z

end
end

section
/-! SUPPORT. Register writes (R11, R12, R327): what a write of BAR0 comes to at a register, from its fields, and how the host's commands
reach it. -/

open Sys2Proof.Claims

namespace Sys2Proof.Machine

/-! ### Bits and fields of a word -/

/-- Setting a bit (R11) sets that bit and no other. -/
theorem bitOf_setBit32 (v : W32) (i j : Nat) (hj : j < 32) :
    bitOf (setBit32 v i).toNat j = (bitOf v.toNat j || decide (i = j)) := by
  simp only [bitOf, setBit32, BitVec.toNat_or, BitVec.toNat_ofNat, Nat.testBit_or, Nat.testBit_mod_two_pow, Nat.testBit_two_pow, hj, decide_true,
    Bool.true_and]

/-- Clearing by a mask (W1C, R11) clears the bits that are one in it and no other. -/
theorem bitOf_clr32 (v mask : W32) (i : Nat) : bitOf (clr32 v mask).toNat i = (bitOf v.toNat i && !bitOf mask.toNat i) := by
  simp only [bitOf, clr32, BitVec.testBit_toNat, BitVec.getLsbD_and, BitVec.getLsbD_not]
  by_cases hi : i < 32
  · simp [hi]
  · simp [BitVec.getLsbD_of_ge v i (by omega)]

@[simp] theorem clr32_zero (v : W32) : clr32 v 0#32 = v := by
  rw [clr32, BitVec.not_zero, BitVec.and_allOnes]

/-- A field of the whole word is the word. -/
@[simp] theorem fld_word (v : W32) : fld v 31 0 = v.toNat := by
  simp [fld, Nat.mod_eq_of_lt v.isLt]

/-- A field that starts at bit 0 holds the word's low bits. -/
theorem fld_low (v : W32) (hi : Nat) : fld v hi 0 = v.toNat % 2 ^ (hi + 1) := by simp [fld]

theorem b2n_eq_one (b : Bool) : (b2n b == 1) = b := by cases b <;> rfl

/-- A field of one bit, read as a truth value. -/
theorem fld_bit_eq_one (v : W32) : (fld v 0 0 == 1) = bitOf v.toNat 0 := by
  rw [fld_low, bitOf, Nat.testBit_zero]; rfl

/-- A bit of a field that starts at bit 0 is that bit of the word. -/
theorem bitOf_fld_low (v : W32) (hi i : Nat) (hword : hi < 32) (hle : i ≤ hi) :
    bitOf (BitVec.ofNat 32 (fld v hi 0)).toNat i = bitOf v.toNat i := by
  simp only [bitOf, fld_low, BitVec.toNat_ofNat, Nat.testBit_mod_two_pow, show i < 32 by omega, show i < hi + 1 by omega, decide_true,
    Bool.true_and]

/-! ### A refused write (R327) -/

@[simp] theorem regRefuse_events (m : Mod) (st : Status) (off : Nat) (v : W32) :
    (regRefuse m st off v).hif.events = setBit32 m.hif.events 3 := by unfold regRefuse; dsimp only; split_ifs <;> rfl

@[simp] theorem regRefuse_rings (m : Mod) (st : Status) (off : Nat) (v : W32) : (regRefuse m st off v).hif.rings = m.hif.rings := by
  unfold regRefuse; dsimp only; split_ifs <;> rfl

/-- A refusal is posted with HOST_READY alone, and then one. -/
theorem regRefuse_compl_length (m : Mod) (st : Status) (off : Nat) (v : W32) :
    (regRefuse m st off v).hif.compl.length = m.hif.compl.length + (if m.hif.ready then 1 else 0) := by
  unfold regRefuse; dsimp only; split_ifs <;> simp

/-- A refusal sets REG_REFUSED. -/
theorem regRefuse_sets_event (m : Mod) (st : Status) (off : Nat) (v : W32) : bitOf (regRefuse m st off v).hif.events.toNat 3 = true := by
  simp [bitOf_setBit32]

/-! ### The verdict on a field (R327) -/

namespace Field

variable {f : Field} {soft : Bool} {n : Nat}

theorem verdict_held_value (h : n = f.cur) : f.verdict soft n = 0 := by simp [verdict, h]

theorem verdict_softLock (hn : n ≠ f.cur) (hs : soft = true) (hf : f.free = false) : f.verdict soft n = 1 := by simp [verdict, hn, hs, hf]

theorem verdict_protected (hn : n ≠ f.cur) (hs : soft = false ∨ f.free = true) (hp : f.prot = true) : f.verdict soft n = 2 := by
  rcases hs with hs | hs <;> simp [verdict, hn, hs, hp]

theorem verdict_locked (hn : n ≠ f.cur) (hs : soft = false ∨ f.free = true) (hp : f.prot = false) (hh : f.held = true) :
    f.verdict soft n = 3 := by
  rcases hs with hs | hs <;> simp [verdict, hn, hs, hp, hh]

theorem verdict_range (hn : n ≠ f.cur) (hs : soft = false ∨ f.free = true) (hp : f.prot = false) (hh : f.held = false) :
    f.verdict soft n = if f.ok n then 0 else 4 := by
  rcases hs with hs | hs <;> cases ho : f.ok n <;> simp [verdict, hn, hs, hp, hh, ho]

/-- A field that no lock, protection or run of its block holds takes every value of its range. -/
theorem verdict_taken (hs : soft = false ∨ f.free = true) (hp : f.prot = false) (hh : f.held = false) (ho : f.ok n = true) :
    f.verdict soft n = 0 := by
  by_cases hn : n = f.cur
  · exact verdict_held_value hn
  · rw [verdict_range hn hs hp hh, if_pos ho]

/-- An RWP field passes the value it holds alone. -/
theorem eq_cur_of_protected (hp : f.prot = true) (h : f.verdict soft n = 0) : n = f.cur := by
  by_contra hn
  by_cases hs : soft = false ∨ f.free = true
  · simp [verdict_protected hn hs hp] at h
  · obtain ⟨hsoft, hfree⟩ : soft = true ∧ f.free = false := by simpa using hs
    simp [verdict_softLock hn hsoft hfree] at h

end Field

/-! ### A write taken field by field -/

theorem takeWrite_nil (m : Mod) (off : Nat) (v : W32) : takeWrite m off v [] = m := rfl

/-- A register of one field takes what the field passes, where taking the value it holds changes nothing. -/
theorem takeWrite_taken {m : Mod} {off : Nat} {v : W32} {f : Field} (hv : f.verdict m.gen.softLock (fld v f.hi f.lo) = 0)
    (hkeep : fld v f.hi f.lo = f.cur → f.set (fld v f.hi f.lo) m = m) : takeWrite m off v [f] = f.set (fld v f.hi f.lo) m := by
  simpa [takeWrite, takeField, firstRefusal, hv] using fun hc => (hkeep hc).symm

/-- A register of one field that keeps its value refuses the write and is as it was. -/
theorem takeWrite_refused {m : Mod} {off : Nat} {v : W32} {f : Field} (hv : f.verdict m.gen.softLock (fld v f.hi f.lo) ≠ 0) :
    takeWrite m off v [f] = regRefuse m (refusalStatus (f.verdict m.gen.softLock (fld v f.hi f.lo))) off v := by
  simp [takeWrite, takeField, firstRefusal, hv]

/-- A W1C field acts on the ones that are written, under SOFT_LOCK too (R502). -/
theorem takeWrite_w1c (m : Mod) (off : Nat) (v : W32) (hi lo : Nat) (set : Nat → Mod → Mod) (h : set 0 m = m) :
    takeWrite m off v [w1cField hi lo set] = set (fld v hi lo) m :=
  takeWrite_taken (f := w1cField hi lo set) (Field.verdict_taken (.inr rfl) rfl rfl rfl) (fun hc => by rw [hc]; exact h)

/-- An RWP field keeps its value whatever is written (R11). -/
theorem takeField_protected (soft : Bool) (v : W32) (a : Mod × Nat) {f : Field} (hp : f.prot = true) : (takeField soft v a f).1 = a.1 := by
  unfold takeField
  dsimp only
  by_cases h : f.verdict soft (fld v f.hi f.lo) = 0
  · simp [Field.eq_cur_of_protected hp h]
  · simp [h]

theorem foldl_takeField_protected (soft : Bool) (v : W32) (fs : List Field) (hp : ∀ f ∈ fs, f.prot = true) (a : Mod × Nat) :
    (fs.foldl (takeField soft v) a).1 = a.1 := by
  induction fs generalizing a with
  | nil => rfl
  | cons f fs ih =>
    rw [List.foldl_cons, ih (fun g hg => hp g (List.mem_cons_of_mem _ hg)), takeField_protected soft v a (hp f (List.mem_cons_self ..))]

/-- A register of RWP fields alone is as it was; at most a refusal is posted. -/
theorem takeWrite_protected (m : Mod) (off : Nat) (v : W32) (fs : List Field) (hp : ∀ f ∈ fs, f.prot = true) :
    takeWrite m off v fs = m ∨ ∃ st, takeWrite m off v fs = regRefuse m st off v := by
  unfold takeWrite
  dsimp only
  rw [foldl_takeField_protected _ v fs hp]
  split_ifs
  · exact .inl rfl
  · exact .inr ⟨_, rfl⟩

/-! ### A write of BAR0 at an offset (R327, R446) -/

@[simp] theorem bootHeld_advance (m : Mod) (t : Nat) : bootHeld (m.advance t) = bootHeld m := rfl

/-- Outside boot recovery every register is served. -/
theorem regHeld_of_not_bootHeld {m : Mod} (h : bootHeld m = false) (off : Nat) : regHeld m off = false := by simp [regHeld, h]

/-- A write that is not aligned is refused with BAD_FIELD. -/
theorem registerWrite_unaligned {m : Mod} {off : Nat} (v : W32) (h : regHeld m off = false) (ha : off % 4 ≠ 0) :
    registerWrite m off v = regRefuse m .badField off v := by simp [registerWrite, h, ha]

/-- Any other write, away from the rings' registers, is taken field by field. -/
theorem registerWrite_eq_takeWrite {m : Mod} {off : Nat} (v : W32) (h : regHeld m off = false) (ha : off % 4 = 0)
    (hr : off < 0x1800 ∨ 0x2000 ≤ off) : registerWrite m off v = takeWrite m off v (fieldsAt m off v) := by
  have hc : ¬ (0x1800 ≤ off ∧ off < 0x2000) := by omega
  simp [registerWrite, h, ha, hc]

/-- SCRATCH takes every value, under SOFT_LOCK too (R501, R502). -/
theorem registerWrite_scratch {m : Mod} (v : W32) (h : regHeld m 0x14 = false) :
    registerWrite m 0x14 v = { m with gen := { m.gen with scratch := v } } := by
  rw [registerWrite_eq_takeWrite v h (by decide) (by decide)]
  refine (takeWrite_taken (Field.verdict_taken (.inr rfl) rfl rfl rfl) ?_).trans ?_
  · intro hc; rw [hc]; simp
  · simp

/-- SOFT_LOCK takes its bit, under SOFT_LOCK too (R502). -/
theorem registerWrite_softLock {m : Mod} (v : W32) (h : regHeld m 0x18 = false) :
    registerWrite m 0x18 v = { m with gen := { m.gen with softLock := bitOf v.toNat 0 } } := by
  rw [registerWrite_eq_takeWrite v h (by decide) (by decide)]
  refine (takeWrite_taken (Field.verdict_taken (.inr rfl) rfl rfl rfl) ?_).trans ?_
  · intro hc; rw [hc]; simp [b2n_eq_one]
  · simp [fld_bit_eq_one]

/-- WINDOW_S takes 1 to 30 (R503). -/
theorem registerWrite_windowS {m : Mod} (v : W32) (h : regHeld m 0x15008 = false) (hs : m.gen.softLock = false)
    (hv : inRange 1 30 (v.toNat % 32) = true) :
    registerWrite m 0x15008 v = { m with nv := { m.nv with windowS := v.toNat % 32 } } := by
  rw [registerWrite_eq_takeWrite v h (by decide) (by decide)]
  refine (takeWrite_taken (Field.verdict_taken (.inl hs) rfl rfl ?_) ?_).trans ?_
  · simpa [fld_low] using hv
  · intro hc; rw [hc]
  · simp [fld_low]

/-- Another value of WINDOW_S than it holds is refused under SOFT_LOCK and out of its range. -/
theorem registerWrite_windowS_refused {m : Mod} (v : W32) (h : regHeld m 0x15008 = false) (hn : m.nv.windowS ≠ v.toNat % 32)
    (hv : m.gen.softLock = true ∨ inRange 1 30 (v.toNat % 32) = false) :
    ∃ st, registerWrite m 0x15008 v = regRefuse m st 0x15008 v := by
  rw [registerWrite_eq_takeWrite v h (by decide) (by decide)]
  refine ⟨_, takeWrite_refused ?_⟩
  cases hs : m.gen.softLock with
  | true => rw [Field.verdict_softLock (by simpa [fld_low] using hn.symm) rfl rfl]; decide
  | false =>
    rw [Field.verdict_range (by simpa [fld_low] using hn.symm) (.inl rfl) rfl rfl]
    simpa [fld_low, hs] using hv

/-- SIG_REFUSED is W1C (R68, R502). -/
theorem registerWrite_sigRefused {m : Mod} (v : W32) (h : regHeld m 0x3018 = false) :
    registerWrite m 0x3018 v = { m with sig := { m.sig with refused := clr32 m.sig.refused (BitVec.ofNat 32 (fld v 3 0)) } } := by
  rw [registerWrite_eq_takeWrite v h (by decide) (by decide)]
  exact takeWrite_w1c m 0x3018 v 3 0 _ (by rw [clr32_zero])

/-- A register whose fields are RWP is as it was (R11, R452). -/
theorem registerWrite_protected {m : Mod} {off : Nat} (v : W32) (h : regHeld m off = false) (ha : off % 4 = 0)
    (hr : off < 0x1800 ∨ 0x2000 ≤ off) (hp : ∀ f ∈ fieldsAt m off v, f.prot = true) :
    registerWrite m off v = m ∨ ∃ st, registerWrite m off v = regRefuse m st off v := by
  rw [registerWrite_eq_takeWrite v h ha hr]
  exact takeWrite_protected m off v _ hp

/-- SAF_CTRL and LKS_FALLBACK have RWP fields alone (R231, R264). -/
theorem fieldsAt_safCtrl_protected (m : Mod) (v : W32) : ∀ f ∈ fieldsAt m 0xA004 v, f.prot = true := by
  simp [fieldsAt, fieldFields, rwpFields, rwpField]

theorem fieldsAt_lksFallback_protected (m : Mod) (v : W32) : ∀ f ∈ fieldsAt m 0xB004 v, f.prot = true := by
  simp [fieldsAt, fieldFields, rwpFields, rwpField]

/-- HIF_DISCARDED has no field that a write reaches (R336). -/
theorem registerWrite_hifDiscarded {m : Mod} (v : W32) (h : regHeld m 0x1018 = false) : registerWrite m 0x1018 v = m := by
  rw [registerWrite_eq_takeWrite v h (by decide) (by decide)]
  exact takeWrite_nil m _ v

/-! ### A read of BAR0 (R10, R500) -/

/-- An unaligned read and a read past the last register are zero. -/
theorem registerRead_reserved (m : Mod) {off : Nat} (h : 0x16000 ≤ off ∨ off % 4 ≠ 0) : registerRead m off = 0 := by
  rcases h with h | h
  · have hb : blockReg m off = 0 := by
      unfold blockReg
      repeat rw [if_neg (by omega)]
    simp [registerRead, hb]
  · simp [registerRead, h]

/-! ### How a command of the host reaches its register -/

/-- What holds of the module that a command gives holds of the state it makes. -/
theorem makes_of_gives {i : Instr} {s : State} {t : Nat} {m : Mod} {p : Mod → Prop} (h : Gives i s t m) (hp : p { m with clk := max s.m.clk t }) :
    Makes i s p := ⟨_, h, hp, rfl, rfl, rfl, rfl⟩

/-- A happening of a powered module gives what it does to the module it finds. -/
theorem gives_of_runOn {i : Instr} {s : State} {t : Nat} {f : Mod → Mod} (hon : On s) (hi : exec i s = s.runOn t f) :
    Gives i s t (f (seen s t)) := by
  rw [Gives, hi, State.runOn, State.run, if_neg (show ¬ (s.m.advance t).pwr.st = .off from hon)]
  rfl

/-- A write gives what it does to the module it finds; the frame memory is as it was where the panel does not start (R477). -/
theorem gives_registerWrite {s : State} {t off : Nat} {v : W32} {w : Mod} (hon : On s) (hw : registerWrite (seen s t) off v = w)
    (hpnl : w.pnl = s.m.pnl) : Gives (.registerWrite t off v) s t w := by
  have he : exec (.registerWrite t off v) s = s.runPanel t (fun m => registerWrite m off v) := rfl
  rw [Gives, he, State.runPanel]
  rw [if_neg (show ¬ (s.m.advance t).pwr.st = .off from hon), show registerWrite (s.m.advance t) off v = w from hw, hpnl, if_pos rfl]

theorem makes_registerWrite {s : State} {t off : Nat} {v : W32} {w : Mod} {p : Mod → Prop} (hon : On s)
    (hw : registerWrite (seen s t) off v = w) (hpnl : w.pnl = s.m.pnl) (hp : p { w with clk := max s.m.clk t }) :
    Makes (.registerWrite t off v) s p :=
  makes_of_gives (gives_registerWrite hon hw hpnl) hp

/-- A write of a register of RWP fields makes what holds of the module it finds, also with a refusal posted. -/
theorem makes_registerWrite_protected {s : State} {t off : Nat} {v : W32} {p : Mod → Prop} (hon : On s) (hb : bootHeld s.m = false)
    (ha : off % 4 = 0) (hr : off < 0x1800 ∨ 0x2000 ≤ off) (hf : ∀ f ∈ fieldsAt (seen s t) off v, f.prot = true)
    (hkept : p { seen s t with clk := max s.m.clk t }) (hrefused : ∀ st, p { regRefuse (seen s t) st off v with clk := max s.m.clk t }) :
    Makes (.registerWrite t off v) s p := by
  rcases registerWrite_protected v (regHeld_of_not_bootHeld (m := seen s t) hb off) ha hr hf with hw | ⟨st, hw⟩
  · exact makes_registerWrite hon hw rfl hkept
  · exact makes_registerWrite hon hw (regRefuse_pnl ..) (hrefused st)

/-- A write of RELEASE_EN is taken outside boot recovery and SOFT_LOCK (R91, R502). -/
theorem gives_releaseEnWrite {s : State} (t : Nat) (b : Bool) (hon : On s) (hb : bootHeld s.m = false) (hs : s.m.gen.softLock = false) :
    Gives (.releaseEnWrite t b) s t { seen s t with pge := { s.m.pge with releaseEn := b, releaseAt := max s.m.clk t } } := by
  have hg := gives_of_runOn (i := .releaseEnWrite t b) (t := t) hon rfl
  have hh : regHeld (seen s t) 0x4004 = false := regHeld_of_not_bootHeld hb _
  rw [regGate, hh, show (seen s t).gen.softLock = false from hs] at hg
  exact hg

/-- A read of TIM_NOW_LO latches the wrap count (R344). -/
theorem gives_timNowLoRead {s : State} (t : Nat) (hon : On s) (hb : bootHeld s.m = false) :
    Gives (.timNowLoRead t) s t { seen s t with tim := { s.m.tim with nowHi := BitVec.ofNat 32 (wrapNo (seen s t)) } } := by
  have he : exec (.timNowLoRead t) s =
      s.runOn t (fun m => if bootHeld m then m else { m with tim := { m.tim with nowHi := BitVec.ofNat 32 (wrapNo m) } }) := rfl
  have hg := gives_of_runOn hon he
  rw [show bootHeld (seen s t) = false from hb] at hg
  exact hg

/-! ### The statement -/

/-- The rules of a register write, clause by clause (R11, R12, R327). -/
theorem registerWriteRules_hold : Claims.RegisterWriteRules := fun _ _ _ off v m st =>
  ⟨Field.verdict_held_value, Field.verdict_softLock, Field.verdict_protected, Field.verdict_locked, Field.verdict_range,
    registerWrite_unaligned v, regRefuse_compl_length m st off v, regRefuse_sets_event m st off v, regRefuse_rings m st off v⟩

/-- The registers as the host writes and reads them (R10 to R12, R344, R500 to R503). -/
theorem registerWrites_as_seen : Claims.RegisterWrites := by
  intro s t v hon hb
  have hserved : ∀ off, regHeld (seen s t) off = false := regHeld_of_not_bootHeld hb
  refine ⟨?scratch, ?softLock, ?window, ?windowRefused, ?w1c, ?saf, ?lks, ?discarded, fun _ h => registerRead_reserved s.m h, ?now,
    gives_timNowLoRead t hon hb, fun b hs => gives_releaseEnWrite t b hon hb hs⟩
  case scratch =>
    exact makes_registerWrite hon (registerWrite_scratch v (hserved _)) rfl ⟨rfl, by simp [registerRead, regHeld, blockReg, genReg]⟩
  case softLock => exact makes_registerWrite hon (registerWrite_softLock v (hserved _)) rfl rfl
  case window =>
    intro hs h1 h30
    exact makes_registerWrite hon (registerWrite_windowS v (hserved _) hs (by simp [inRange, h1, h30])) rfl rfl
  case windowRefused =>
    intro hn hv
    have hv' : s.m.gen.softLock = true ∨ inRange 1 30 (v.toNat % 32) = false := by
      refine hv.imp_right fun h => ?_
      rcases h with h | h <;> rw [h] <;> rfl
    obtain ⟨st, hw⟩ := registerWrite_windowS_refused (m := seen s t) v (hserved _) hn hv'
    exact makes_registerWrite hon hw (regRefuse_pnl ..) ⟨regRefuse_nv .., regRefuse_sets_event ..⟩
  case w1c =>
    refine makes_registerWrite hon (registerWrite_sigRefused v (hserved _)) rfl fun i hi => ?_
    show bitOf (clr32 s.m.sig.refused _).toNat i = _
    rw [bitOf_clr32, bitOf_fld_low v 3 i (by decide) (by omega)]
  case saf =>
    exact makes_registerWrite_protected hon hb rfl (by decide) (fieldsAt_safCtrl_protected _ v) rfl (fun _ => regRefuse_saf ..)
  case lks =>
    exact makes_registerWrite_protected hon hb rfl (by decide) (fieldsAt_lksFallback_protected _ v) rfl (fun _ => regRefuse_lks ..)
  case discarded => exact gives_registerWrite hon (registerWrite_hifDiscarded v (hserved _)) rfl
  case now => simp [registerRead, regHeld_of_not_bootHeld hb, blockReg, timReg]

/-- Settles O38: the rules field by field, and the registers of the statement from their fields. -/
theorem registerWrites : Obligations.RegisterWrites := ⟨registerWriteRules_hold, registerWrites_as_seen⟩

end Sys2Proof.Machine
end

section
/-! SUPPORT. Commands of a descriptor and of an instant, the state's small tables, and faults that only count: what the statements about
the planes share. -/

open Sys2Proof.Claims

namespace Sys2Proof.Machine

/-! ### How a command reaches the module -/

/-- A command of an instant gives what it does to the module it finds. -/
theorem gives_of_run {i : Instr} {s : State} {t : Nat} {f : Mod → Mod} (hi : exec i s = s.run t f) : Gives i s t (f (seen s t)) := hi

/-- An operation that can run gives what it does to the module it finds (R318). -/
theorem gives_of_runOp {i : Instr} {s : State} {t op : Nat} {q : Req} {boot : Bool} {f : Mod → Mod} (hready : opReady (seen s t) op q boot = true)
    (hi : exec i s = s.runOp t op q f boot) : Gives i s t (f (seen s t)) := by
  have hg := gives_of_run (hi.trans rfl)
  rwa [if_pos (show opReady (seen s t) op q boot = true from hready)] at hg

/-- A served operation gives what it does to the module it finds (R287, R318). -/
theorem gives_of_runCmd {i : Instr} {s : State} {t op : Nat} {q : Req} {f : Mod → Mod} (hs : Served s t op q)
    (hi : exec i s = s.runCmd t op q f) : Gives i s t (f (seen s t)) := by
  obtain ⟨hready, hlead⟩ := hs
  have hg := gives_of_runOp hready (hi.trans rfl)
  rwa [if_neg (by simp [hlead])] at hg

/-- What is served outside boot recovery is served where boot recovery would serve it too (R446). -/
theorem opReady_boot {m : Mod} {op : Nat} {q : Req} (h : opReady m op q = true) : opReady m op q true = true := by
  simp only [opReady, Bool.and_eq_true, Bool.or_eq_true, Bool.false_and, Bool.false_eq_true, or_false] at h ⊢
  obtain ⟨⟨⟨⟨⟨⟨hoff, hfail⟩, hsvc⟩, hfence⟩, hboot⟩, hperm⟩, hcring⟩ := h
  exact ⟨⟨⟨⟨⟨⟨hoff, hfail⟩, hsvc⟩, hfence⟩, .inl hboot⟩, hperm⟩, hcring⟩

/-- A register write with behaviour of its own acts outside boot recovery and SOFT_LOCK (R327, R502). -/
theorem gives_of_runReg {i : Instr} {s : State} {t off : Nat} {v : W32} {chg : Mod → Bool} {f : Mod → Mod} (hon : On s)
    (hboot : bootHeld s.m = false) (hsoft : s.m.gen.softLock = false) (hi : exec i s = s.runReg t off v chg f) :
    Gives i s t (f (seen s t)) := by
  have hg := gives_of_runOn hon hi
  have hserved : regHeld (seen s t) off = false := regHeld_of_not_bootHeld hboot off
  rwa [regGate, hserved, show (seen s t).gen.softLock = false from hsoft] at hg

/-! ### Reading after a write -/

@[simp] theorem taskAt_setTask_same (m : Mod) (k : Nat) (v : Task) : taskAt (setTask m k v) k = some v := by simp [taskAt]

/-- A task is what the program engine's tables say. -/
theorem taskAt_of_pge {m m' : Mod} (h : m'.pge = m.pge) (k : Nat) : taskAt m' k = taskAt m k := by rw [taskAt, h, taskAt]

@[simp] theorem taskAt_post (m : Mod) (q : Req) (st : Status) (r : Res) (k : Nat) : taskAt (post m q st r) k = taskAt m k :=
  taskAt_of_pge (post_pge ..) k

@[simp] theorem portOf_setPort_same (m : Mod) (p : Nat) (e : EPort) : portOf (setPort m p e) p = e := by simp [portOf, setPort]

theorem portOf_setPort_other (m : Mod) {p j : Nat} (e : EPort) (h : j ≠ p) : portOf (setPort m p e) j = portOf m j := by
  simp [portOf, setPort, tget_tset_other _ _ _ _ h]

@[simp] theorem sigAt_setSig_same (m : Mod) (i : Nat) (r : SigRec) : sigAt (setSig m i r) i = some r := by simp [sigAt]

theorem sigAt_setSig_other (m : Mod) {i j : Nat} (r : SigRec) (h : j ≠ i) : sigAt (setSig m i r) j = sigAt m j := by
  simp [sigAt, tget_tset_other _ _ _ _ h]

/-- A bit that is set reads as one. -/
theorem bitOf_setBit32_same (v : W32) (i : Nat) (hi : i < 32) : bitOf (setBit32 v i).toNat i = true := by simp [bitOf_setBit32 v i i hi]

/-! ### Faults of class F0 and F1 -/

/-- A fault below F2 is collected, and nothing else comes of it (R388, R390). -/
theorem reportFault_minor {m : Mod} {f : FaultInfo} (h : f.cls < 2) : reportFault m f = collect m f := by
  have hcap : ¬ f.cls ≥ 2 := by omega
  have hf3 : f.cls ≠ 3 := by omega
  simp [reportFault, hcap, hf3]

/-- A collected fault sets its source's active bit (R390). -/
theorem collect_active (m : Mod) (f : FaultInfo) : (collect m f).flt.active = m.flt.active ||| BitVec.ofNat 64 (2 ^ f.src) := by
  rw [collect, event_flt]

theorem collect_sets_active (m : Mod) (f : FaultInfo) (h : f.src < 64) : bitOf (collect m f).flt.active.toNat f.src = true := by
  simp only [collect_active, bitOf, BitVec.testBit_toNat, BitVec.getLsbD_or, BitVec.getLsbD_ofNat, Nat.testBit_two_pow_self, h, decide_true,
    Bool.and_true, Bool.or_true]

end Sys2Proof.Machine
end

section
/-! SUPPORT. Task commands and the releases of tasks (R20, R74 to R77, R83, R111). -/

open Sys2Proof.Claims

namespace Sys2Proof.Machine

/-! ### Task commands (R20, R77) -/

theorem Task.busy_eq_false_iff (v : Task) : v.busy = false ↔ v.st = .stopped ∨ v.st = .idle ∨ v.st = .halted := by
  cases hst : v.st <;> simp [Task.busy, hst]

theorem Task.not_idle_of_busy {v : Task} (h : v.busy = true) : v.st ≠ .idle := by
  intro hst; simp [Task.busy, hst] at h

/-- No ring starts or stops a C0 task (R20). -/
theorem gives_onTask_protected {i : Instr} {s : State} {t k : Nat} {q : Req} {v : Task} {f : Mod → Task → Mod × Status}
    (hs : Served s t 0x002A q) (hv : taskAt s.m k = some v) (hc : v.rcd.cls = 0)
    (hi : exec i s = s.runCmd t 0x002A q (fun m => onTask m q k (f m))) : Gives i s t (refuse (seen s t) q .isProtected) := by
  have hg := gives_of_runCmd hs hi
  simp only [onTask, show taskAt (seen s t) k = some v from hv] at hg
  rwa [if_pos hc] at hg

/-- A command on any other task does what it does and completes. -/
theorem gives_onTask {i : Instr} {s : State} {t k : Nat} {q : Req} {v : Task} {f : Mod → Task → Mod × Status}
    (hs : Served s t 0x002A q) (hv : taskAt s.m k = some v) (hc : v.rcd.cls ≠ 0)
    (hi : exec i s = s.runCmd t 0x002A q (fun m => onTask m q k (f m))) :
    Gives i s t (post (f (seen s t) v).1 q (f (seen s t) v).2) := by
  have hg := gives_of_runCmd hs hi
  simp only [onTask, show taskAt (seen s t) k = some v from hv] at hg
  rwa [if_neg hc] at hg

/-- A task below C0 reaches its stop instant: its signals live on for the ride-through window (R299, R301). -/
theorem taskAt_stopInstant {m : Mod} {k : Nat} {v : Task} (hv : taskAt m k = some v) (hc : v.rcd.cls ≠ 0) :
    taskAt (stopInstant m k) k = some { v with stopAt := some m.clk, rideDone := false, window := sec m.nv.windowS } := by
  simp [stopInstant, hv, hc]

/-- The rules of TASK_CMD (R20, R77). -/
theorem taskCommands_hold : Claims.TaskCommands := by
  intro s t k q v hs hv
  refine ⟨fun hc => ⟨gives_onTask_protected hs hv hc (Eq.refl (execTaskStart t q k s)),
    gives_onTask_protected hs hv hc (Eq.refl (execTaskStop t q k s)), gives_onTask_protected hs hv hc (Eq.refl (execTaskClear t q k s))⟩,
    ?start, ?stopIdle, ?stopBusy, ?clear, ?clearRefused⟩
  case start =>
    intro hc hst
    have hg := gives_onTask (i := .taskStart t q k) hs hv hc (Eq.refl (execTaskStart t q k s))
    simp only [hst] at hg
    exact makes_of_gives hg ⟨_, (taskAt_post ..).trans (taskAt_setTask_same ..), rfl, rfl, rfl, rfl, rfl⟩
  case stopIdle =>
    intro hc hst
    have hg := gives_onTask (i := .taskStop t q k) hs hv hc (Eq.refl (execTaskStop t q k s))
    simp only [hst] at hg
    exact makes_of_gives hg ⟨_, (taskAt_post ..).trans (taskAt_stopInstant (taskAt_setTask_same ..) hc), rfl, rfl, rfl⟩
  case stopBusy =>
    intro hc hb
    have hg : Gives (.taskStop t q k) s t (post (setTask (seen s t) k { v with stopReq := true }) q .ok) := by
      have hg := gives_onTask (i := .taskStop t q k) hs hv hc (Eq.refl (execTaskStop t q k s))
      cases hst : v.st <;> simp only [hst] at hg
      case stopped | idle | halted => simp [Task.busy, hst] at hb
      all_goals simpa [hst] using hg
    exact makes_of_gives hg ⟨_, (taskAt_post ..).trans (taskAt_setTask_same ..), rfl, rfl, rfl⟩
  case clear =>
    intro hc hst hp
    have hg := gives_onTask (i := .taskClear t q k) hs hv hc (Eq.refl (execTaskClear t q k s))
    rw [if_neg (by simpa [hst] using (show (pairOf (seen s t) v.pair).st ≠ .lost from hp))] at hg
    exact makes_of_gives hg ⟨_, (taskAt_post ..).trans (taskAt_setTask_same ..), rfl, rfl⟩
  case clearRefused =>
    intro hc hst
    have hg := gives_onTask (i := .taskClear t q k) hs hv hc (Eq.refl (execTaskClear t q k s))
    rwa [if_pos (by simp [hst])] at hg

/-! ### A release takes effect (R77, R257 to R260) -/

@[simp] theorem setDeg_pge (m : Mod) (c : DegCause) (d : Deg) : (setDeg m c d).pge = m.pge := by cases c <;> rfl

/-- A cause of degraded mode leaves the program engine alone: its fault is an F1 (R227). -/
@[simp] theorem degUpdate_pge (m : Mod) (c : DegCause) : (degUpdate m c).pge = m.pge := by
  unfold degUpdate
  dsimp only
  split
  · split
    · split
      · exact setDeg_pge ..
      · rfl
    · rw [reportFault_minor (by decide)]
      exact (collect_pge ..).trans (setDeg_pge ..)
  · split
    · exact setDeg_pge ..
    · rfl

@[simp] theorem settleMigrated_pge (m : Mod) : (settleMigrated m).pge = m.pge := degUpdate_pge _ _

theorem newInst_of_rcd {m : Mod} {v w : Task} (r : Release) (hrcd : w.rcd = v.rcd) (hretain : w.retain = v.retain) (hfbi : w.fbi = v.fbi) :
    newInst m w r = newInst m v r := by
  simp [newInst, imageOf, hrcd, hretain, hfbi]

/-- Homing and the choice of a core move a task and change nothing else of it (R257, R259, R260). -/
theorem homing_onCore_eq (m : Mod) (k : Nat) (v : Task) :
    ∃ p c, (v.homing m).onCore m k = { v with pair := p, coreB := c } := by
  unfold Task.onCore Task.homing
  split_ifs
  · exact ⟨_, _, rfl⟩
  · exact ⟨v.pair, _, rfl⟩

/-- The task as a release leaves it, on the pair and the core it is due on: it begins to run and the release is counted. -/
def Task.released (m : Mod) (k : Nat) (v : Task) (r : Release) : Task :=
  { (v.homing m).onCore m k with
    st := .snapshot, inst := some (newInst m ((v.homing m).onCore m k) r), lastRelease := some r.t, cycles := ((v.homing m).onCore m k).cycles + 1 }

/-- A release of a task with no switch due takes effect at once; one that runs away from its own pair settles LKS_MIGRATED (R84, R262). -/
theorem beginRelease_no_switch (m : Mod) (k : Nat) {v : Task} (r : Release) (hsw : v.switchTo = none) :
    beginRelease m k v r = if v.migratedC0 then settleMigrated (setTask m k (v.released m k r)) else setTask m k (v.released m k r) := by
  have hstay : switchTask m v = v := by simp [switchTask, hsw]
  simp only [beginRelease, hstay, hsw, Option.isSome_none, Bool.false_eq_true, if_false]
  rfl

theorem taskAt_beginRelease (m : Mod) (k : Nat) {v : Task} (r : Release) (hsw : v.switchTo = none) :
    taskAt (beginRelease m k v r) k = some (v.released m k r) := by
  rw [beginRelease_no_switch m k r hsw]
  split
  · exact (taskAt_of_pge (settleMigrated_pge _) k).trans (taskAt_setTask_same ..)
  · exact taskAt_setTask_same ..

/-- What a release leaves of the task, and what it begins (R77, R78). -/
theorem released_spec (m : Mod) (k : Nat) (v : Task) (r : Release) :
    (v.released m k r).st = .snapshot ∧ (v.released m k r).inst = some (newInst m v r) ∧ (v.released m k r).lastRelease = some r.t ∧
    (v.released m k r).cycles = v.cycles + 1 ∧ (v.released m k r).queue = v.queue := by
  obtain ⟨p, c, hmoved⟩ := homing_onCore_eq m k v
  rw [Task.released, hmoved]
  exact ⟨rfl, congrArg some (newInst_of_rcd r rfl rfl rfl), rfl, rfl, rfl⟩

/-! ### Cyclic releases (R74, R83) -/

/-- A cyclic release instant gives what the release comes to. -/
theorem gives_taskRelease {s : State} {t k : Nat} {v : Task} (hon : On s) (hv : taskAt s.m k = some v) (hcyc : v.rcd.event = false)
    (hrel : releasesNow s.m v = true) (hat : onInstant (seen s t) v.rcd.period v.rcd.phase = true) :
    Gives (.taskRelease t k) s t (cyclicRelease (seen s t) k v) := by
  have hg := gives_of_runOn (i := .taskRelease t k) hon (Eq.refl (execTaskRelease t k s))
  simp only [show taskAt (seen s t) k = some v from hv] at hg
  rwa [if_pos (by rw [hcyc, hat, show releasesNow (seen s t) v = true from hrel]; rfl)] at hg

/-- A skipped release counts in SKIPPED, sets its task's bit and raises TASK_SKIP (R83). -/
theorem skipRelease_spec {m : Mod} {k cls : Nat} {v : Task} (hv : taskAt m k = some v) (hcls : cls < 2) :
    taskAt (skipRelease m k cls) k = some { v with skipped := satInc v.skipped } ∧
    bitOf (skipRelease m k cls).flt.active.toNat 5 = true ∧
    (k < 32 → bitOf (skipRelease m k cls).pge.skips.toNat k = true) := by
  unfold skipRelease
  simp only [hv]
  rw [reportFault_minor (show (faultOf 0x05 cls k (BitVec.ofNat 16 (0x0100 + v.pair)) 5 v.rcd.cls).cls < 2 from hcls)]
  refine ⟨?_, collect_sets_active _ (faultOf 0x05 cls k _ 5 v.rcd.cls) (show 5 < 64 by decide), fun hk => ?_⟩
  · rw [taskAt_of_pge (collect_pge _ _)]
    split
    · exact taskAt_setTask_same ..
    · exact taskAt_setTask_same ..
  · rw [collect_pge, if_pos hk]
    exact bitOf_setBit32_same _ _ hk

/-- The rules of cyclic releases (R74, R77, R83). -/
theorem cyclicReleases_hold : Claims.CyclicReleases := by
  intro s t k v hon hv hcyc hrel
  refine ⟨fun hat hst hsw => ?idle, fun hat hb hc => ?deferred, fun hat hb hc => ?skipped, fun hat => ?between⟩
  case idle =>
    have hg := gives_taskRelease hon hv hcyc hrel hat
    rw [cyclicRelease, if_pos (by simp [hst])] at hg
    obtain ⟨hst', hinst, hlast, hcycles, -⟩ := released_spec (seen s t) k v { t := nowNs (seen s t) }
    exact makes_of_gives hg ⟨_, _, taskAt_beginRelease (seen s t) k _ hsw, hst', hinst, rfl, hcycles, hlast, rfl, rfl⟩
  case deferred =>
    have hg := gives_taskRelease hon hv hcyc hrel hat
    rw [cyclicRelease, if_neg (by simpa using Task.not_idle_of_busy hb), if_pos hb, if_pos hc] at hg
    exact makes_of_gives hg (taskAt_setTask_same ..)
  case skipped =>
    have hg := gives_taskRelease hon hv hcyc hrel hat
    rw [cyclicRelease, if_neg (by simpa using Task.not_idle_of_busy hb), if_pos hb, if_neg (by omega)] at hg
    obtain ⟨htask, hfault, hbit⟩ := skipRelease_spec (m := seen s t) (cls := if v.rcd.haltOnSkip then 1 else 0) hv (by split <;> decide)
    simp only [htask] at hg
    by_cases hhalt : v.rcd.haltOnSkip = true
    · rw [if_pos hhalt] at hg
      exact makes_of_gives hg ⟨_, taskAt_setTask_same .., rfl, rfl, rfl, hfault, hbit⟩
    · rw [if_neg hhalt] at hg
      exact makes_of_gives hg ⟨_, htask, rfl, rfl, rfl, hfault, hbit⟩
  case between =>
    have hg := gives_of_runOn (i := .taskRelease t k) hon (Eq.refl (execTaskRelease t k s))
    simp only [show taskAt (seen s t) k = some v from hv] at hg
    rwa [if_neg (by simp [hat])] at hg

/-! ### Event releases (R75, R76, R111) -/

/-- A task that is not idle takes no pending release. -/
theorem tryRelease_not_idle {m : Mod} {k : Nat} {v : Task} (hv : taskAt m k = some v) (hst : v.st ≠ .idle) : tryRelease m k = m := by
  unfold tryRelease
  simp only [hv]
  split
  · rfl
  · rw [if_neg (by simp [hst])]

/-- An idle task takes the oldest pending release once PERIOD_US has passed (R76). -/
theorem tryRelease_due {m : Mod} {k : Nat} {v : Task} {r : Release} {rest : List Release} (hv : taskAt m k = some v) (hq : v.queue = r :: rest)
    (hst : v.st = .idle) (hdue : ∀ y, v.lastRelease = some y → y + us v.rcd.period ≤ nowNs m) (hrel : releasesNow m v = true) :
    tryRelease m k = beginRelease m k { v with queue := rest } { r with t := nowNs m } := by
  unfold tryRelease
  simp only [hv, hq]
  rw [if_pos]
  simp only [hst, hrel, Bool.and_true, beq_self_eq_true, Bool.true_and]
  split
  · next y hy => exact decide_eq_true (hdue y hy)
  · rfl

theorem pushRelease_of_room {v : Task} (r : Release) (h : v.queue.length < v.rcd.qDepth) :
    pushRelease v r = { v with queue := v.queue ++ [r] } := if_pos h

theorem pushRelease_of_full {v : Task} (r : Release) (h : v.rcd.qDepth ≤ v.queue.length) :
    (pushRelease v r).merged = satInc v.merged ∧ (pushRelease v r).queue.length = v.queue.length := by
  rw [pushRelease, if_neg (by omega)]
  refine ⟨rfl, ?_⟩
  rcases List.eq_nil_or_concat v.queue with hq | ⟨l, x, hq⟩ <;> simp [hq]

@[simp] theorem pushRelease_st (v : Task) (r : Release) : (pushRelease v r).st = v.st := by unfold pushRelease; split <;> rfl

/-- A release that carries no message joins the queue, and is taken from there if it can be. -/
theorem gives_eventRelease {s : State} {t k : Nat} {v : Task} {src : ReleaseSource} (hon : On s) (hv : taskAt s.m k = some v)
    (hrel : releasesNow s.m v = true) (hev : v.rcd.event = true) (hfit : sourceFits v.rcd src = true) (hmsg : ∀ p, src ≠ .message p)
    (hst : v.st = .idle ∨ v.busy = true) :
    Gives (.eventRelease t k src) s t (tryRelease (setTask (seen s t) k (pushRelease v { t := nowNs (seen s t), msg := [] })) k) := by
  have hg := gives_of_runOn (i := .eventRelease t k src) hon (Eq.refl (execEventRelease t k src s))
  have htake : takeMsg (seen s t) src = (some [], seen s t) := by
    cases src with
    | message p => exact absurd rfl (hmsg p)
    | _ => rfl
  have htakes : (v.rcd.event && sourceFits v.rcd src && releasesNow (seen s t) v && (v.st == .idle || v.busy)) = true := by
    rw [hev, hfit, show releasesNow (seen s t) v = true from hrel]
    simpa using hst
  simp only [show taskAt (seen s t) k = some v from hv] at hg
  rwa [if_pos htakes, htake] at hg

/-- At a running task an event release only joins the queue. -/
theorem gives_eventRelease_busy {s : State} {t k : Nat} {v : Task} {src : ReleaseSource} (hon : On s) (hv : taskAt s.m k = some v)
    (hrel : releasesNow s.m v = true) (hev : v.rcd.event = true) (hfit : sourceFits v.rcd src = true) (hmsg : ∀ p, src ≠ .message p)
    (hb : v.busy = true) :
    Gives (.eventRelease t k src) s t (setTask (seen s t) k (pushRelease v { t := nowNs (seen s t), msg := [] })) := by
  have hg := gives_eventRelease (t := t) hon hv hrel hev hfit hmsg (.inr hb)
  rwa [tryRelease_not_idle (taskAt_setTask_same ..) (by simpa using Task.not_idle_of_busy hb)] at hg

/-- The rules of event releases (R76, R111). -/
theorem eventReleases_hold : Claims.EventReleases := by
  intro s t k v src hon hv hrel
  refine ⟨fun hev hfit hmsg hb hroom => ?joins, fun hev hfit hmsg hb hfull => ?merges, fun hev hfit hmsg hst hq hdepth hlast hsw => ?taken,
    fun r rest hst hq hsw hdue => ?held⟩
  case joins =>
    have hg := gives_eventRelease_busy (t := t) hon hv hrel hev hfit hmsg hb
    rw [pushRelease_of_room _ hroom] at hg
    exact makes_of_gives hg ⟨_, taskAt_setTask_same .., rfl, rfl⟩
  case merges =>
    have hg := gives_eventRelease_busy (t := t) hon hv hrel hev hfit hmsg hb
    obtain ⟨hmerged, hlen⟩ := pushRelease_of_full { t := nowNs (seen s t), msg := [] } hfull
    exact makes_of_gives hg ⟨_, taskAt_setTask_same .., hmerged, hlen, pushRelease_st ..⟩
  case taken =>
    have hg := gives_eventRelease (t := t) hon hv hrel hev hfit hmsg (.inl hst)
    have hpushed : pushRelease v { t := nowNs (seen s t), msg := [] } = { v with queue := [{ t := nowNs (seen s t), msg := [] }] } := by
      rw [pushRelease_of_room _ (by simpa [hq] using hdepth), hq, List.nil_append]
    rw [hpushed, tryRelease_due (taskAt_setTask_same (seen s t) k { v with queue := _ }) rfl hst (by simp [hlast]) hrel] at hg
    obtain ⟨hst', -, -, hcycles, hqueue⟩ := released_spec _ k _ _
    exact makes_of_gives hg ⟨_, taskAt_beginRelease _ k _ hsw, hst', hqueue, hcycles⟩
  case held =>
    have hg := gives_of_runOn (i := .heldRelease t k) hon (Eq.refl (execHeldRelease t k s))
    rw [tryRelease_due (m := seen s t) hv hq hst (fun y hy => by simpa [us, Nat.mul_comm] using hdue y hy) hrel] at hg
    obtain ⟨hst', hinst, -, -, hqueue⟩ := released_spec (seen s t) k { v with queue := rest } { r with t := nowNs (seen s t) }
    exact makes_of_gives hg ⟨_, _, taskAt_beginRelease (seen s t) k _ hsw, hst', hqueue, hinst, rfl, rfl⟩

/-- Settles O24: the commands on tasks, the cyclic releases and the event releases. -/
theorem taskReleases : Obligations.TaskReleases := ⟨taskCommands_hold, cyclicReleases_hold, eventReleases_hold⟩

end Sys2Proof.Machine
end

section
/-! SUPPORT. Frames of the switch and navigation sentences (R22, R23, R337 to R342, R347, R351 to R353). -/

open Sys2Proof.Claims

namespace Sys2Proof.Machine

/-! ### Ingress (R337, R339, R341) -/

@[simp] theorem learn_ports (m : Mod) (p : Nat) (a : BitVec 48) : (learn m p a).net.ports = m.net.ports := by
  unfold learn; dsimp only; split_ifs <;> rfl

@[simp] theorem learn_clk (m : Mod) (p : Nat) (a : BitVec 48) : (learn m p a).clk = m.clk := by
  unfold learn; dsimp only; split_ifs <;> rfl

@[simp] theorem learn_nv (m : Mod) (p : Nat) (a : BitVec 48) : (learn m p a).nv = m.nv := by
  unfold learn; dsimp only; split_ifs <;> rfl

theorem portOf_of_ports {m m' : Mod} (h : m'.net.ports = m.net.ports) (k : Nat) : portOf m' k = portOf m k := by rw [portOf, h, portOf]

/-- A search that only wants entries the filter keeps finds the same in what it keeps. -/
theorem find?_filter_of_imp {α : Type} (l : List α) (p q : α → Bool) (h : ∀ x, p x = true → q x = true) :
    (l.filter q).find? p = l.find? p := by
  rw [List.find?_filter]
  congr 1
  funext x
  cases hp : p x with
  | false => simp
  | true => simp [h x hp]

/-- Learning an address leaves what the table says of every other (R337). -/
theorem fdbFind_learn {m : Mod} {p : Nat} {a b : BitVec 48} (h : a ≠ b) : fdbFind (learn m p a) b = fdbFind m b := by
  have hkept := find?_filter_of_imp m.net.fdb (fun e => e.1 == b && decide (m.clk < e.2.2 + sec 300))
    (fun e => e.1 != a && decide (m.clk < e.2.2 + sec 300)) (fun e he => by
      simp only [Bool.and_eq_true, beq_iff_eq, decide_eq_true_eq, bne_iff_ne] at he ⊢
      exact ⟨he.1 ▸ h.symm, he.2⟩)
  unfold learn
  dsimp only
  split_ifs
  · rfl
  · simp [fdbFind, hkept, h]
  · rfl

/-- A frame to a learned address waits at that port alone (R337). -/
theorem forward_learned {m : Mod} {src q : Nat} {f : EthFrame} (hg : isGroup f.dst = false) (hmac : f.dst ≠ m.nv.mac)
    (hq : fdbFind m f.dst = some q) (hsrc : q ≠ src) (hup : (portOf m q).up = true) :
    forward m src f = setPort m q { portOf m q with queue := (portOf m q).queue ++ [(src, m.clk, f)] } := by
  simp [forward, hg, hmac, hq, hsrc, enqueueAt, hup]

/-- A port without link, or a frame of another length, forwards nothing (R341). -/
theorem gives_frameIngress_dropped {s : State} {t p : Nat} {f : EthFrame} (hon : On s)
    (h : p < 1 ∨ 8 < p ∨ (portOf s.m p).up = false ∨ f.len < 64 ∨ 1522 < f.len) : Gives (.frameIngress t p f) s t (seen s t) := by
  have hg := gives_of_runOn (i := .frameIngress t p f) hon (Eq.refl (execFrameIngress t p f s))
  rwa [if_pos (by simpa [or_assoc] using (show p < 1 ∨ 8 < p ∨ (portOf (seen s t) p).up = false ∨ f.len < 64 ∨ 1522 < f.len from h))] at hg

/-- The module as ingress notes a frame whose priority was changed (R339). -/
def noteRemap (m : Mod) (remap : Bool) : Mod := { m with net := { m.net with events := orBit m.net.events remap 3 } }

/-- A foreign frame of a fit length at a port with link is learned and forwarded in its tag (R337, R339). -/
theorem gives_frameIngress {s : State} {t p : Nat} {f : EthFrame} (hon : On s) (h1 : 1 ≤ p) (h8 : p ≤ 8) (hup : (portOf s.m p).up = true)
    (hmin : 64 ≤ f.len) (hmax : f.len ≤ 1522) (hty : isFeluno f.etherType = false) :
    Gives (.frameIngress t p f) s t (forward (learn (noteRemap (seen s t) (retag s.m f).2) p f.src) p (retag s.m f).1) := by
  have hg := gives_of_runOn (i := .frameIngress t p f) hon (Eq.refl (execFrameIngress t p f s))
  have hup' : (portOf (seen s t) p).up = true := hup
  rw [if_neg (by simp [hup']; omega)] at hg
  simp only [show (retag (seen s t) f).1.etherType = f.etherType from rfl, hty, Bool.false_and, Bool.false_eq_true, if_false] at hg
  exact hg

/-! ### Tags (R339) -/

/-- A tagged frame keeps its tag but for a foreign PCP 7 or 6, which becomes 5 (R339). -/
theorem retag_of_tag {m : Mod} {f : EthFrame} {pcp v : Nat} (h : f.tag = some (pcp, v)) :
    (retag m f).1 = { f with tag := some (if (pcp = 7 ∧ f.etherType ≠ 0x88B5) ∨ (pcp = 6 ∧ f.etherType ≠ 0x88B4 ∧ f.etherType ≠ 0x88B6) then 5
      else pcp, v) } := by
  simp [retag, h, and_assoc]

/-- An untagged frame takes the port VID and PCP 0 (R339). -/
theorem retag_of_untagged {m : Mod} {f : EthFrame} (h : f.tag = none) : (retag m f).1.tag = some (0, m.net.defVid) := by
  simp [retag, h]

/-! ### Egress (R22, R338) -/

/-- What waits first of a class has that class. -/
theorem class_of_head {q : List (Nat × Time × EthFrame)} {k : Nat} {x : Nat × Time × EthFrame}
    (h : (q.filter (fun x => pcpClass (pcpOf x.2.2) == k)).head? = some x) : pcpClass (pcpOf x.2.2) = k := by
  simpa using (List.mem_filter.1 (List.mem_of_mem_head? h)).2

/-- Where no frame of a class waits, none that waits has it. -/
theorem not_class_of_isEmpty {q : List (Nat × Time × EthFrame)} {k : Nat} {y : Nat × Time × EthFrame}
    (h : (q.filter (fun x => pcpClass (pcpOf x.2.2) == k)).isEmpty = true) (hy : y ∈ q) : pcpClass (pcpOf y.2.2) ≠ k := by
  simpa using List.filter_eq_nil_iff.1 (List.isEmpty_iff.1 h) y hy

/-- While a frame of class C0 or C1 waits, none of a lower class is granted (R22, R338). -/
theorem nextFrame_class_le {e : EPort} {x y : Nat × Time × EthFrame} (hx : nextFrame e = some x) (hy : y ∈ e.queue)
    (hc : pcpClass (pcpOf y.2.2) < 2) : pcpClass (pcpOf x.2.2) ≤ pcpClass (pcpOf y.2.2) := by
  simp only [nextFrame] at hx
  split_ifs at hx with h0 h1
  · rw [class_of_head hx]; exact Nat.zero_le _
  · have hne := not_class_of_isEmpty (by simpa using h0) hy
    rw [class_of_head hx]; omega
  all_goals
    have hne0 := not_class_of_isEmpty (by simpa using h0) hy
    have hne1 := not_class_of_isEmpty (by simpa using h1) hy
    omega

/-- The granted frame, no PTP message, leaves its port's queue and is sent (R338, R347). -/
theorem makes_frameEgress {s : State} {t p : Nat} {x : Nat × Time × EthFrame} (hon : On s) (h1 : 1 ≤ p) (h8 : p ≤ 8)
    (hx : nextFrame (portOf s.m p) = some x) (hptp : x.2.2.ptp = none) :
    Makes (.frameEgress t p) s (fun m => (portOf m p).lastTx = some x.2.2 ∧ (portOf m p).queue = (portOf s.m p).queue.erase x ∧
      ∀ k, k ≠ p → portOf m k = portOf s.m k) := by
  obtain ⟨src, since, f⟩ := x
  have hg := gives_of_runOn (i := .frameEgress t p) hon (Eq.refl (execFrameEgress t p s))
  have hcorrect : ∀ e, correct_ (seen s t) e src since f = (e, f) := fun e => by simp only [correct_, show f.ptp = none from hptp]
  have hport : ¬ (decide (p < 1) || decide (p > 8)) = true := by simp; omega
  simp only [if_neg hport, show nextFrame (portOf (seen s t) p) = some (src, since, f) from hx, hcorrect] at hg
  refine makes_of_gives hg ⟨?_, ?_, fun k hk => portOf_setPort_other _ _ hk⟩
  · exact congrArg EPort.lastTx (portOf_setPort_same _ p _)
  · exact congrArg EPort.queue (portOf_setPort_same _ p _)

/-- The rules of the switch (R22, R23, R337 to R342, R347). -/
theorem switchFrames_hold : Claims.SwitchFrames := by
  intro s t p q v pcp f x hon
  refine ⟨?learned, gives_frameIngress_dropped hon, retag_of_untagged, retag_of_tag, fun _ _ => nextFrame_class_le,
    fun h1 h8 hx hptp => makes_frameEgress hon h1 h8 hx hptp⟩
  intro h1 h8 hup hmin hmax hty hgroup hmac hne hfdb hqp hupq
  have hg := gives_frameIngress (t := t) hon h1 h8 hup hmin hmax hty
  have hport : ∀ k, portOf (learn (noteRemap (seen s t) (retag s.m f).2) p f.src) k = portOf s.m k := fun k =>
    portOf_of_ports (learn_ports ..) k
  have hlearned : fdbFind (learn (noteRemap (seen s t) (retag s.m f).2) p f.src) (retag s.m f).1.dst = some q := (fdbFind_learn hne).trans hfdb
  have hgroup' : isGroup (retag s.m f).1.dst = false := hgroup
  rw [forward_learned hgroup' (by rw [learn_nv]; exact hmac) hlearned hqp (by rw [hport]; exact hupq), hport, learn_clk] at hg
  exact makes_of_gives hg ⟨congrArg EPort.queue (portOf_setPort_same _ q _), fun k hk => (portOf_setPort_other _ _ hk).trans (hport k)⟩

/-! ### Navigation sentences (R351 to R353) -/

/-- Outside a triad an owner write of a signal that is no constant writes its record (R47, R50). -/
theorem ownerWrite_alone {m : Mod} {h : W32} {v : Val} {q : Qual} {r : SigRec} (hnull : h ≠ 0) (hr : sigAt m (hIdx h) = some r)
    (hconst : r.isConst = false) (hmode : m.tri.mode = 0) :
    ownerWrite m h v q = setSig m (hIdx h) (r.write v q (time32 m) (wrap16 m)) := by
  rw [ownerWrite, ownerWriteAt, if_neg hnull]
  simp [hr, hconst, isVoted, isLed, hmode]

/-- Outside a triad a signal goes BAD, STALE in its record (R300, R508). -/
theorem staleSig_alone {m : Mod} {h : W32} {r : SigRec} (hnull : h ≠ 0) (hr : sigAt m (hIdx h) = some r) (hmode : m.tri.mode = 0) :
    staleSig m h = setSig m (hIdx h) r.toStale := by
  rw [staleSig, if_neg hnull]
  simp [hr, isVoted, isLed, hmode]

/-- Outside a triad an entry that finds its value writes SCALE × value + OFFSET into its signal, GOOD (R352). -/
theorem navTake_alone {m : Mod} {n : Nat} {e : NavEnt} {fs : List (List Byte)} {v : F32} {r : SigRec} (hnum : (fs[e.field]?).bind numberOf = some v)
    (hnull : e.signal ≠ 0) (hr : sigAt m (hIdx e.signal) = some r) (hconst : r.isConst = false) (hmode : m.tri.mode = 0) :
    navTake m n e fs = setSig { m with net := { m.net with navs := tset m.net.navs n { e with last := m.clk } } } (hIdx e.signal)
      (r.write (realVal (add32 (mul32 v e.scale) e.offset)) 0xC000 (time32 m) (wrap16 m)) := by
  simp only [navTake, hnum]
  exact ownerWrite_alone hnull hr hconst hmode

/-- A sentence without a valid checksum is rejected and counted (R351). -/
theorem gives_nmeaSentence_rejected {s : State} {t n : Nat} {text : List Byte} (hon : On s) (h : sentenceBody text = none) :
    Gives (.nmeaSentence t n text) s t { seen s t with net := { s.m.net with
      events := setBit32 s.m.net.events 4, rejected := satInc s.m.net.rejected } } := by
  have hg := gives_of_runOn (i := .nmeaSentence t n text) hon (Eq.refl (execNmeaSentence t n text s))
  simp only [h] at hg
  exact hg

/-- The entry that a sentence meets, the only one of the map, takes it (R352). -/
theorem gives_nmeaSentence_taken {s : State} {t n k : Nat} {text body : List Byte} {e : NavEnt} (hon : On s) (h : sentenceBody text = some body)
    (hlead : notLead s.m = false) (hmap : s.m.net.navs = [(k, e)]) (hfit : navFits e n (commaFields body) = true) :
    Gives (.nmeaSentence t n text) s t (navTake (seen s t) k e (commaFields body)) := by
  have hg := gives_of_runOn (i := .nmeaSentence t n text) hon (Eq.refl (execNmeaSentence t n text s))
  have hmap' : (seen s t).net.navs = [(k, e)] := hmap
  simp only [h, show notLead (seen s t) = false from hlead, Bool.false_eq_true, if_false, hmap'] at hg
  rwa [List.filter_cons_of_pos (by simpa using hfit)] at hg

/-- An entry not met for its time goes BAD, STALE (R352). -/
theorem gives_navTimeout {s : State} {t n : Nat} {e : NavEnt} (hon : On s) (he : tget s.m.net.navs n = some e) (hlead : notLead s.m = false)
    (hlate : e.last + ms e.timeoutMs ≤ max s.m.clk t) : Gives (.navTimeout t n) s t (staleSig (seen s t) e.signal) := by
  have hg := gives_of_runOn (i := .navTimeout t n) hon (Eq.refl (execNavTimeout t n s))
  simp only [show tget (seen s t).net.navs n = some e from he] at hg
  have hdue : (!notLead (seen s t) && decide (e.last + ms e.timeoutMs ≤ (seen s t).clk)) = true := by
    rw [show notLead (seen s t) = false from hlead, Bool.not_false, Bool.true_and, decide_eq_true_eq]
    exact hlate
  rwa [if_pos hdue] at hg

/-- A served load of the map is judged, and answers as it is judged (R352, R439). -/
theorem gives_navLoad {s : State} {t count : Nat} {q : Req} {buf : List Byte} (hs : Served s t 0x0282 q) (htrial : anyTrial s.m = false) :
    Gives (.navLoad t q count buf) s t (match loadNav (seen s t) count buf with
      | .error st => refuse (seen s t) q st
      | .ok m => post (storeAdd m 13 0 count buf) q .ok) := by
  have hg := gives_of_runCmd (i := .navLoad t q count buf) hs (Eq.refl (execNavLoad t q count buf s))
  rw [if_neg (by simp [show anyTrial (seen s t) = false from htrial])] at hg
  exact hg

/-- The rules of navigation sentences and their map (R351 to R353). -/
theorem navigationData_hold : Claims.NavigationData := by
  intro s t n count text body buf e v r q hon
  refine ⟨gives_nmeaSentence_rejected hon, ?taken, ?late, ?load, ?refused⟩
  case taken =>
    intro k hbody hlead hmap hfit hnum hmode hnull hr _ hconst
    have hg := gives_nmeaSentence_taken (t := t) hon hbody hlead hmap hfit
    rw [navTake_alone (m := seen s t) hnum hnull hr hconst hmode] at hg
    exact makes_of_gives hg ⟨_, sigAt_setSig_same .., rfl, rfl, fun j hj => sigAt_setSig_other _ _ hj⟩
  case late =>
    intro he hlead hlate hmode hnull hr
    have hg := gives_navTimeout (t := t) hon he hlead (by simpa [ms, Nat.mul_comm] using hlate)
    rw [staleSig_alone (m := seen s t) hnull hr hmode] at hg
    exact makes_of_gives hg ⟨_, sigAt_setSig_same .., rfl, rfl, rfl⟩
  case load =>
    intro m hs htrial hload
    have hg := gives_navLoad (count := count) (buf := buf) hs htrial
    rwa [hload] at hg
  case refused =>
    intro x hs htrial hload
    have hg := gives_navLoad (count := count) (buf := buf) hs htrial
    rwa [hload] at hg

/-- Settles O48: the switch's frames, and the navigation sentences with their map. -/
theorem networkTraffic : Obligations.NetworkTraffic := ⟨switchFrames_hold, navigationData_hold⟩

end Sys2Proof.Machine
end

section
/-! SUPPORT. POWER, RESTART and the upkeep of the power states (R16, R292 to R294, R298, R299, R304, R307, R308, R310, R397, R485, R503). -/

open Sys2Proof.Claims

namespace Sys2Proof.Machine

/-! ### What entry to HOLD and to FAIL write (R299, R305) -/

/-- Entry to HOLD notes its instant and sets HOLD_ENTERED (R299). -/
@[simp] theorem enterHold_pwr (m : Mod) :
    (enterHold m).pwr = { m.pwr with st := .hold, holdAt := some m.clk, rideExpired := false, events := setBit32 m.pwr.events 1 } := by
  rw [enterHold, startTier_pwr]
  exact foldl_field Mod.pwr _ (by intro m e; split <;> simp) _ _

/-- Entry to FAIL keeps its cause (R305). -/
@[simp] theorem enterFail_pwr (m : Mod) (c : FailCause) :
    (enterFail m c).pwr = { m.pwr with st := .fail, failCause := c, dip := none, cmd := none, program := false } := by
  simp [enterFail]

/-! ### The commands (R292, R298, R299, R304) -/

/-- Where POWER and RESTART commands are taken, no F3 reaction stands and the lifecycle is neither BLANK nor VOID (R399, R450). -/
theorem not_f3_of_not_cmdHeld {m : Mod} (h : cmdHeld m = false) : m.flt.f3 = false ∧ m.nv.lifecycle ≠ .blank ∧ m.nv.lifecycle ≠ .void := by
  simp only [cmdHeld, Bool.or_eq_false_iff, beq_eq_false_iff_ne] at h
  obtain ⟨⟨⟨hf3, -⟩, hblank⟩, hvoid⟩ := h
  exact ⟨hf3, hblank, hvoid⟩

/-- A return to RUN takes what every task runs next as its first after a start (R303, R105). -/
theorem backToRun_spec (m : Mod) : (backToRun m).pwr.st = .run ∧ (backToRun m).pwr.events = setBit32 m.pwr.events 0 ∧
    (backToRun m).pwr.epoch = m.pwr.epoch ∧ ∀ k x, taskAt (backToRun m) k = some x → x.lastRelease = none := by
  refine ⟨by simp [backToRun], by simp [backToRun], by simp [backToRun], fun k x hx => ?_⟩
  rw [taskAt, backToRun, postOpt_pge, tget_tmap] at hx
  obtain ⟨y, -, rfl⟩ := Option.map_eq_some_iff.1 hx
  rfl

/-- A RUN command of HOLD with every pair JOINED returns to RUN at once (R292, R303). -/
theorem cmdRun_hold {m : Mod} {q : Req} (hheld : cmdHeld m = false) (hst : m.pwr.st = .hold) (hstart : m.pwr.starting = false)
    (hjoined : allJoined m = true) :
    cmdRun m (some q) = backToRun (startOp { m with pwr := { m.pwr with cmd := some (.run, some q) } } q) := by
  simp only [cmdRun, hheld, hst, hstart, Bool.false_eq_true, if_false, startOpt]
  exact if_pos hjoined

/-- A RUN command of QUIET waits for the plan tick (R292). -/
theorem cmdRun_quiet {m : Mod} {q : Req} (hheld : cmdHeld m = false) (hst : m.pwr.st = .quiet) :
    cmdRun m (some q) = startOp { m with pwr := { m.pwr with cmd := some (.run, some q) } } q := by
  simp [cmdRun, hheld, hst, startOpt]

/-- A HOLD command with no C0 task admitted enters HOLD (R293, R299). -/
theorem cmdHold_runs {m : Mod} {q : Req} (hheld : cmdHeld m = false) (hc0 : hasC0 m = false) (hst : m.pwr.st = .run ∨ m.pwr.st = .quiet) :
    cmdHold m (some q) false = startOp { enterHold m with pwr := { (enterHold m).pwr with cmd := some (.hold, some q) } } q := by
  rcases hst with hst | hst <;> simp only [cmdHold, hheld, hc0, hst, Bool.false_and, Bool.false_eq_true, if_false, startOpt]

/-- A QUIET command of RUN waits for the plan tick (R304). -/
theorem cmdQuiet_run {m : Mod} {q : Req} (hheld : cmdHeld m = false) (hst : m.pwr.st = .run) :
    cmdQuiet m (some q) = startOp { m with pwr := { m.pwr with cmd := some (.quiet, some q) } } q := by
  simp [cmdQuiet, hheld, hst, startOpt]

/-- A PROGRAM restart is noted, and a module that runs enters HOLD for it (R299). -/
theorem beginProgramRestart_spec {m : Mod} (hstart : m.pwr.starting = false) :
    (beginProgramRestart m).pwr.program = true ∧ (m.pwr.st = .run ∨ m.pwr.st = .quiet → (beginProgramRestart m).pwr.st = .hold) := by
  simp only [beginProgramRestart, hstart, Bool.false_eq_true, if_false, true_and]
  intro hst
  rw [if_pos (by simpa using hst), enterHold_pwr]

/-- A PROGRAM restart command completes, and outside a triad the restart begins (R293, R299). -/
theorem cmdProgram_alone {m : Mod} {q : Req} {seat : Nat} (hheld : cmdHeld m = false) (hstart : m.pwr.starting = false) (hc0 : hasC0 m = false)
    (hmode : m.tri.mode = 0) : cmdProgram m (some q) seat false = beginProgramRestart (post m q .ok) := by
  simp [cmdProgram, hheld, hstart, hc0, postOpt, hmode]

/-- A MODULE restart command for this seat completes, and the module restarts by the host (R294, R501). -/
theorem cmdModule_here {m : Mod} {q : Req} {seat : Nat} (hheld : cmdHeld m = false) (hseat : m.tri.mode = 0 ∨ seat = m.tri.seat) :
    cmdModule m (some q) seat = restartModule_ (post m q .ok) .hostRestart := by
  obtain ⟨hf3, hblank, hvoid⟩ := not_f3_of_not_cmdHeld hheld
  have hhere : ¬ (m.tri.mode ≠ 0 ∧ seat ≠ m.tri.seat) := by tauto
  simp [cmdModule, hf3, hblank, hvoid, postOpt, hhere]

/-- The rules of the POWER and RESTART commands (R292 to R294, R298, R299, R304). -/
theorem powerCommands_hold : Claims.PowerCommands := by
  intro s t seat q hheld
  have hheld' : cmdHeld (seen s t) = false := hheld
  refine ⟨fun hs hst => ?runFromQuiet, fun hs hst hstart hjoined => ?runFromHold, fun hs hst hc0 => ?hold, fun hs hst => ?quiet,
    fun hs => ?service, fun hs hstart hc0 hmode => ?program, fun hs hseat => ?module⟩
  case runFromQuiet =>
    have hg := gives_of_runCmd (i := .powerRun t q) hs (Eq.refl (execPowerRun t q s))
    rwa [cmdRun_quiet hheld' hst] at hg
  case runFromHold =>
    have hg := gives_of_runCmd (i := .powerRun t q) hs (Eq.refl (execPowerRun t q s))
    rw [cmdRun_hold hheld' hst hstart hjoined] at hg
    obtain ⟨hrun, hevents, hepoch, htasks⟩ := backToRun_spec (startOp { seen s t with pwr := { (seen s t).pwr with cmd := some (.run, some q) } } q)
    exact makes_of_gives hg ⟨hrun, by rw [hevents]; exact bitOf_setBit32_same _ _ (by decide), hepoch, htasks⟩
  case hold =>
    have hg := gives_of_runCmd (i := .powerHold t q) hs (Eq.refl (execPowerHold t q s))
    rw [cmdHold_runs hheld' hc0 hst, enterHold_pwr] at hg
    exact makes_of_gives hg ⟨rfl, rfl, bitOf_setBit32_same _ _ (by decide), rfl⟩
  case quiet =>
    have hg := gives_of_runCmd (i := .powerQuiet t q) hs (Eq.refl (execPowerQuiet t q s))
    rwa [cmdQuiet_run hheld' hst] at hg
  case service =>
    have hg := gives_of_runCmd (i := .restartService t q) hs (Eq.refl (execRestartService t q s))
    rwa [if_neg (by simp [hheld'])] at hg
  case program =>
    have hg := gives_of_runCmd (i := .restartProgram t q seat) hs (Eq.refl (execRestartProgram t q seat s))
    rw [cmdProgram_alone hheld' hstart hc0 hmode] at hg
    obtain ⟨hprogram, hhold⟩ := beginProgramRestart_spec (m := post (seen s t) q .ok) (by rw [post_pwr]; exact hstart)
    exact makes_of_gives hg ⟨hprogram, fun hst => hhold (by rw [post_pwr]; exact hst)⟩
  case module =>
    obtain ⟨hready, hlead⟩ := hs
    have hg := gives_of_runOp (i := .restartModule t q seat) (opReady_boot hready) (Eq.refl (execRestartModule t q seat s))
    rw [if_neg (by simp [hlead]), cmdModule_here hheld' hseat] at hg
    exact makes_of_gives hg ⟨by simp [restartModule_], by simp [restartModule_], rfl⟩

/-! ### A SERVICE restart (R16, R294, R397) -/

/-- The clock and the records of the module that neither a completion nor a permit is kept in. -/
def planeRecords (m : Mod) : Time × PwrBlk × PgeBlk × LpeBlk × FioBlk := (m.clk, m.pwr, m.pge, m.lpe, m.fio)

/-- A SERVICE restart stops the service pairs alone: the tasks, the loops and the channels go on (R16, R294). -/
theorem beginServiceRestart_spec (m : Mod) :
    (beginServiceRestart m).pwr = { m.pwr with svcStopped := true, svcRestart := some m.clk } ∧ (beginServiceRestart m).pge = m.pge ∧
    (beginServiceRestart m).lpe.loops = m.lpe.loops ∧ (beginServiceRestart m).fio = m.fio := by
  unfold beginServiceRestart
  dsimp only
  generalize hn : List.foldl _ (List.foldl _ m _) _ = n
  have hkept : planeRecords n = planeRecords m := by
    rw [← hn]
    exact (foldl_field planeRecords _ (fun m w => by simp [planeRecords]) _ _).trans (foldl_field planeRecords _ (by intros; rfl) _ _)
  simp only [planeRecords, Prod.mk.injEq] at hkept
  obtain ⟨hclk, hpwr, hpge, hlpe, hfio⟩ := hkept
  exact ⟨by rw [hpwr, hclk], hpge, by rw [hlpe], hfio⟩

@[simp] theorem beginTrial_pwr (m : Mod) (n : Nat) : (beginTrial m n).pwr = m.pwr := by unfold beginTrial; dsimp only; split_ifs <;> rfl

/-- A SERVICE restart that completes runs the service pairs in the modes of this start (R16). -/
theorem makes_serviceRestartComplete {s : State} {t x : Nat} (hon : On s) (hx : s.m.pwr.svcRestart = some x) :
    Makes (.serviceRestartComplete t) s (fun m => m.pwr.svcStopped = false ∧ m.pwr.svcRestart = none ∧
      (∀ p, p = 6 ∨ p = 7 → (pairOf m p).st = if bitOf s.m.lks.serviceMode.toNat (p + 10) then .split else .joined)) := by
  have hg := gives_of_runOn (i := .serviceRestartComplete t) hon (Eq.refl (execServiceRestartComplete t s))
  rw [if_neg (by simp [show (seen s t).pwr.svcRestart = some x from hx])] at hg
  refine makes_of_gives hg ⟨rfl, rfl, ?_⟩
  rintro p (rfl | rfl)
  · simp only [pairOf, tget_tset_other _ 7 6 _ (by decide), tget_tset_same]; rfl
  · simp only [pairOf, tget_tset_same]; rfl

/-! ### The F3 reaction by escalation (R397, R398) -/

/-- ALIVE's level and its stop leave what the collector holds of the reaction and its timer (R400). -/
@[simp] theorem setAlive_f3 (m : Mod) (b : Bool) : (setAlive m b).flt.f3 = m.flt.f3 := by unfold setAlive; split <;> rfl
@[simp] theorem setAlive_jib (m : Mod) (b : Bool) : (setAlive m b).flt.jib = m.flt.jib := by unfold setAlive; split <;> rfl
@[simp] theorem stopAlive_f3 (m : Mod) : (stopAlive m).flt.f3 = m.flt.f3 := by unfold stopAlive; split <;> simp
@[simp] theorem stopAlive_jib (m : Mod) : (stopAlive m).flt.jib = m.flt.jib := by unfold stopAlive; split <;> simp

/-- The reaction is taken, and no jack-in-the-box timer outlives it (R398). -/
theorem f3Reaction_spec {m : Mod} (h : m.flt.jib = none) : (f3Reaction m).flt.f3 = true ∧ (f3Reaction m).flt.jib = none := by
  unfold f3Reaction
  split
  · exact ⟨‹_›, h⟩
  · constructor <;> simp

theorem escalate_spec (m : Mod) (b : Bool) : (escalate m b).flt.f3 = true ∧ (escalate m b).flt.jib = none := f3Reaction_spec rfl

/-- Two seconds without completion escalate (R397). -/
theorem gives_serviceRestartTimeout {s : State} {t x : Nat} (hon : On s) (hx : s.m.pwr.svcRestart = some x)
    (hlate : x + 2000000000 ≤ max s.m.clk t) : Gives (.serviceRestartTimeout t) s t (escalate (seen s t) false) := by
  have hg := gives_of_runOn (i := .serviceRestartTimeout t) hon (Eq.refl (execServiceRestartTimeout t s))
  simp only [show (seen s t).pwr.svcRestart = some x from hx] at hg
  rwa [if_pos (by simpa [sec] using (show x + 2000000000 ≤ (seen s t).clk from hlate))] at hg

/-- The rules of a SERVICE restart (R16, R294, R397). -/
theorem serviceRestart_holds : Claims.ServiceRestart := by
  refine ⟨fun m => ?_, fun s t x hon hx => ⟨makes_serviceRestartComplete hon hx, fun hlate => ?_⟩⟩
  · obtain ⟨hpwr, hpge, hloops, hfio⟩ := beginServiceRestart_spec m
    simp [hpwr, hpge, hloops, hfio]
  · exact makes_of_gives (gives_serviceRestartTimeout hon hx hlate) (escalate_spec ..)

/-! ### The upkeep of the power states (R307, R308, R310, R485, R503) -/

/-- The supply is removed from a module that is off (R307). -/
theorem gives_supplyRemoved {s : State} {t : Nat} (hst : s.m.pwr.st = .off) : Gives (.supplyRemoved t) s t { seen s t with
    gen := { s.m.gen with supplyMv := 0 }
    pwr := { (seen s t).pwr with needRemoval := false, charging := none, nextCause := .powerUp } } := by
  have hg := gives_of_run (i := .supplyRemoved t) (t := t) (Eq.refl (execSupplyRemoved t s))
  rwa [if_pos (by simp [show (seen s t).pwr.st = .off from hst])] at hg

/-- RECOVERY ends ten minutes after the first entry to RUN (R310). -/
theorem gives_recoveryTimeout {s : State} {t x : Nat} (hon : On s) (hx : s.m.pwr.firstRun = some x) (hlate : x + 600000000000 ≤ max s.m.clk t) :
    Gives (.recoveryTimeout t) s t { seen s t with pwr := { (seen s t).pwr with recovery := false } } := by
  have hg := gives_of_runOn (i := .recoveryTimeout t) hon (Eq.refl (execRecoveryTimeout t s))
  have hx' : (seen s t).pwr.firstRun = some x := hx
  split at hg
  · next y hy =>
    obtain rfl : x = y := Option.some.inj (hx'.symm.trans hy)
    rwa [if_pos (by simpa [sec] using (show x + 600000000000 ≤ (seen s t).clk from hlate))] at hg
  · next hnone => simp [hx'] at hnone

/-- AUTO_RUN is kept, and in a start whose conditions hold it asks for RUN (R503). -/
theorem setAutoRun_spec (m : Mod) (b : Bool) : (setAutoRun m b).nv = { m.nv with autoRun := b } ∧
    (setAutoRun m b).pwr.runAsked = (m.pwr.runAsked || (b && m.pwr.starting && runConditions m && !cmdHeld m)) := by
  have hconds : ∀ v : Bool, runConditions { m with nv := { m.nv with autoRun := v } } = runConditions m := fun _ => rfl
  have hheld : ∀ v : Bool, cmdHeld { m with nv := { m.nv with autoRun := v } } = cmdHeld m := fun _ => rfl
  unfold setAutoRun
  simp only [hconds, hheld]
  split
  · next h => simp [h]
  · next h => simp [Bool.eq_false_iff.2 h]

/-- The OK contact opens without power, and when no change of ALIVE has followed the last one (R485). -/
theorem gives_okContactDrop {s : State} {t : Nat} (h : s.m.pwr.st = .off ∨ ∀ x, s.m.flt.aliveAt = some x → x + 1500000 < max s.m.clk t) :
    Gives (.okContactDrop t) s t { seen s t with flt := { s.m.flt with okContact := false } } := by
  have hg := gives_of_run (i := .okContactDrop t) (t := t) (Eq.refl (execOkContactDrop t s))
  rwa [if_pos] at hg
  rcases h with hoff | hlate
  · simp [show (seen s t).pwr.st = .off from hoff]
  · cases hx : (seen s t).flt.aliveAt with
    | none => simp
    | some x => simp [us, show x + 1500000 < (seen s t).clk from hlate x hx]

/-- The rules of the power states' upkeep (R307, R308, R310, R485, R503). -/
theorem powerUpkeep_holds : Claims.PowerUpkeep := by
  intro s t uj b
  refine ⟨gives_supplyRemoved, fun hon => gives_of_runOn (i := .holdupRecheck t uj b) hon (Eq.refl (execHoldupRecheck t uj b s)),
    fun x hon => gives_recoveryTimeout hon,
    fun hon hboot hsoft => gives_of_runReg (i := .recoveryClear t) hon hboot hsoft (Eq.refl (execRecoveryClear t s)),
    fun hon hboot hsoft => ?_, gives_okContactDrop⟩
  have hg := gives_of_runReg (i := .autoRunWrite t b) (t := t) hon hboot hsoft (Eq.refl (execAutoRunWrite t b s))
  exact makes_of_gives hg (setAutoRun_spec (seen s t) b)

/-- Settles O14: the commands, the SERVICE restart, and the upkeep of the power states. -/
theorem powerCommandSet : Obligations.PowerCommandSet := ⟨powerCommands_hold, serviceRestart_holds, powerUpkeep_holds⟩

end Sys2Proof.Machine
end

section
/-! SUPPORT. Qualities and forces: how two qualities combine (R41, R42), what readers see of a forced signal (R51, R53), and which forces
are refused (R54, R55). -/

namespace Sys2Proof.Machine

/-! ### Qualities (R41, R42) -/

/-- A code of R41 is its major code and a subcode below 64. -/
theorem code_eq_major_sub {q : Qual} (h : isCode q = true) : q.toNat = 2 ^ 14 * major q + q.toNat % 64 := by
  simp only [isCode, Bool.or_eq_true, Bool.and_eq_true, beq_iff_eq, bne_iff_ne, decide_eq_true_eq] at h
  rw [major]
  rcases h with (rfl | ⟨hunc, -⟩) | hbad
  · rfl
  · omega
  · omega

/-- Two codes of R41 with one major code and one subcode are one. -/
theorem code_ext {p q : Qual} (hp : isCode p = true) (hq : isCode q = true) (hmajor : major p = major q)
    (hsub : p.toNat % 64 = q.toNat % 64) : p = q :=
  BitVec.eq_of_toNat_eq (by rw [code_eq_major_sub hp, code_eq_major_sub hq, hmajor, hsub])

theorem major_le_three (q : Qual) : major q ≤ 3 := by
  have := q.isLt
  rw [major]
  omega

theorem worse_eq_or (p q : Qual) : worse p q = p ∨ worse p q = q := by
  unfold worse
  split_ifs <;> simp

theorem worse_of_major_lt {p q : Qual} (h : major p < major q) : worse p q = p := if_pos h

/-- Of one major code the lower subcode is the worse (R42). -/
theorem worse_of_major_eq {p q : Qual} (h : major p = major q) : worse p q = if p.toNat % 64 ≤ q.toNat % 64 then p else q := by
  rw [worse, if_neg (by omega), if_neg (by omega)]

/-- The worst major code wins (R42). -/
theorem major_worse (p q : Qual) : major (worse p q) = min (major p) (major q) := by
  unfold worse
  split_ifs <;> omega

theorem isGood_worse_iff (p q : Qual) : isGood (worse p q) = true ↔ isGood p = true ∧ isGood q = true := by
  have hp := major_le_three p
  have hq := major_le_three q
  simp only [isGood, beq_iff_eq, major_worse]
  omega

theorem isBad_worse {p : Qual} (q : Qual) (h : isBad p = true) : isBad (worse p q) = true := by
  simp only [isBad, beq_iff_eq, major_worse] at h ⊢
  omega

theorem toNat_worse_of_major_eq {p q : Qual} (hp : isCode p = true) (hq : isCode q = true) (h : major p = major q) :
    (worse p q).toNat = min p.toNat q.toNat := by
  have hpq := code_eq_major_sub hp
  have hqp := code_eq_major_sub hq
  rw [worse_of_major_eq h]
  split_ifs <;> omega

/-- Which of two codes comes first does not matter. -/
theorem worse_comm {p q : Qual} (hp : isCode p = true) (hq : isCode q = true) : worse p q = worse q p := by
  have hmajor : major (worse p q) = major (worse q p) := by rw [major_worse, major_worse, min_comm]
  rcases lt_trichotomy (major p) (major q) with h | h | h
  · rw [worse_of_major_lt h, worse, if_neg (by omega), if_pos h]
  · exact BitVec.eq_of_toNat_eq (by rw [toNat_worse_of_major_eq hp hq h, toNat_worse_of_major_eq hq hp h.symm, min_comm])
  · rw [worse_of_major_lt h, worse, if_neg (by omega), if_pos h]

/-- Settles O7: by the major codes of the two, and within one by the subcode. -/
theorem qualityOrder : Obligations.QualityOrder := fun p q hp hq =>
  ⟨worse_eq_or p q, worse_comm hp hq, isBad_worse q, isGood_worse_iff p q, worse_of_major_lt, toNat_worse_of_major_eq hp hq⟩

/-! ### What readers see of a forced signal (R51 to R53) -/

theorem force_view (r : SigRec) (v : Val) : (r.force v).view = { val := encodeVal r.ty v, qual := 0xC000, time := r.time, wrap := r.wrap } := rfl

/-- The owner's write below a force is seen in its TIME alone (R51, R53). -/
theorem force_write_view (r : SigRec) (v w : Val) (q : Qual) (x : W32) (y : BitVec 16) :
    ((r.force v).write w q x y).view = { val := encodeVal r.ty v, qual := 0xC000, time := x, wrap := y } := rfl

/-- A write below a force is noted (R53). -/
theorem force_write_wwf (r : SigRec) (v w : Val) (q : Qual) (x : W32) (y : BitVec 16) : ((r.force v).write w q x y).wwf = true := by
  simp [SigRec.write, SigRec.force]

/-- The release of a force shows what was written below it (R52). -/
theorem unforce_view (r : SigRec) : r.unforce.view = { val := r.val, qual := r.qual, time := r.time, wrap := r.wrap } := rfl

/-! ### Which forces are refused (R54, R55) -/

theorem forceCheck_const {m : Mod} {r : SigRec} (ty : Nat) (h : r.isConst = true) : forceCheck m r ty = some .constant := by
  simp [forceCheck, h]

theorem forceCheck_safety {m : Mod} {r : SigRec} (ty : Nat) (hc : r.isConst = false) (hs : r.safety = true) (hp : m.sig.safetyForce = false) :
    forceCheck m r ty = some .isProtected := by
  simp [forceCheck, hc, hs, hp]

section
variable {m : Mod} {r : SigRec} (ty : Nat) (hc : r.isConst = false) (hp : r.safety = false ∨ m.sig.safetyForce = true)
include hc hp

/-- A signal that is no constant and that its class lets be forced is judged by FORCE_EN, the number of forces and its type. -/
theorem forceCheck_permitted : forceCheck m r ty =
    if m.sig.forceEn = false then some .forceDisabled
    else if r.forced = false ∧ 4096 ≤ forceCount m then some .forceFull
    else if r.ty = ty then none else some .typeMismatch := by
  have hpermitted : (r.safety && !m.sig.safetyForce) = false := by rcases hp with h | h <;> simp [h]
  simp [forceCheck, hc, hpermitted]

theorem forceCheck_disabled (he : m.sig.forceEn = false) : forceCheck m r ty = some .forceDisabled := by
  rw [forceCheck_permitted ty hc hp, if_pos he]

theorem forceCheck_full (he : m.sig.forceEn = true) (hf : r.forced = false) (hn : 4096 ≤ forceCount m) : forceCheck m r ty = some .forceFull := by
  rw [forceCheck_permitted ty hc hp, if_neg (by simp [he]), if_pos ⟨hf, hn⟩]

/-- A force that replaces a standing one is not counted again (R55). -/
theorem forceCheck_room (he : m.sig.forceEn = true) (h : r.forced = true ∨ forceCount m < 4096) :
    forceCheck m r ty = if r.ty = ty then none else some .typeMismatch := by
  rw [forceCheck_permitted ty hc hp, if_neg (by simp [he]), if_neg]
  rintro ⟨hf, hn⟩
  rcases h with h | h
  · simp [hf] at h
  · omega
end

/-- Settles O8: the views of a record with a force, and the verdict on a force in the order of its table. -/
theorem forcesStand : Obligations.ForcesStand := fun m r ty v w q x y =>
  ⟨rfl, ⟨by rw [force_view], by rw [force_view]⟩,
    ⟨force_write_view r v w q x y, force_write_wwf r v w q x y, unforce_view _, rfl⟩,
    forceCheck_const ty, forceCheck_safety ty, fun hc hp =>
      ⟨forceCheck_disabled ty hc hp, forceCheck_full ty hc hp, forceCheck_room ty hc hp⟩⟩

end Sys2Proof.Machine
end

section
/-! SUPPORT. Compare, select, convert and quality instructions of Driold code (R96, R98 to R100). -/

open Sys2Proof.Claims

namespace Sys2Proof.Machine

/-! ### How an instruction reaches its task -/

/-- An instruction that leaves the rest of the task as it is does its effect to what runs of it (R77, R96). -/
theorem executes_of_dic {ins : Instr} {s : State} {core words steps : Nat} {f : Inst → Inst}
    (hi : exec ins s = s.dic core words steps (fun _ t i => (t, f i))) : Executes ins s core words steps (fun _ => f) := by
  intro k t i hrun
  rw [hi, State.dic, dicPge, hrun]

/-- An instruction that writes register `d` alone. -/
theorem executes_of_dicReg {ins : Instr} {s : State} {core words steps d : Nat} {x : Inst → VQ}
    (hi : exec ins s = s.dicReg core words steps d (fun _ _ i => x i)) :
    Executes ins s core words steps (fun _ i => i.setReg d (x i)) :=
  executes_of_dic (f := fun i => i.setReg d (x i)) hi

/-! ### Comparison and conversion (R96, R98, R99) -/

theorem cmpCost_of_real {ty : Nat} (h : tyReal ty = true) : cmpCost ty = 2 := by rw [cmpCost, if_pos h]
theorem cmpCost_of_not_real {ty : Nat} (h : tyReal ty = false) : cmpCost ty = 1 := by rw [cmpCost, if_neg (by simp [h])]

/-- A comparison of integers goes by their values (R96). -/
theorem cmpVQ_of_not_real {ty : Nat} (c : Nat) (x y : VQ) (h : tyReal ty = false) :
    cmpVQ ty c x y = boolVQ (condOf c (decide (asInt ty x.v < asInt ty y.v)) (asInt ty x.v == asInt ty y.v)) (worse x.q y.q) := by
  simp [cmpVQ, h]

/-- A comparison with a NaN is FALSE, for NE TRUE, and BAD (R98). -/
theorem cmpVQ_of_nan {ty : Nat} (c : Nat) {x y : VQ} (h : tyReal ty = true)
    (hnan : fIsNan (tyFmt ty) (asPat ty x.v) = true ∨ fIsNan (tyFmt ty) (asPat ty y.v) = true) : cmpVQ ty c x y = boolVQ (c == 1) 0x0000 := by
  have hnan' : (fIsNan (tyFmt ty) (asPat ty x.v) || fIsNan (tyFmt ty) (asPat ty y.v)) = true := by simpa using hnan
  simp only [cmpVQ, h, hnan', if_true]

/-- Between integer types a conversion saturates and keeps the quality in range (R99). -/
theorem convert_of_not_real {c ty : Nat} (x : VQ) (hty : tyReal ty = false) (hc : tyReal c = false) (hbool : ty ≠ 0)
    (hty7 : ty ≠ 7) (hc7 : c ≠ 7) : convert c ty x = satVal ty (asInt c x.v) x.q := by
  simp [convert, hty, hc, hbool, hty7, hc7]

/-- The choice of QSEL goes by GOOD (R96). -/
theorem qsel_eq (ty : Nat) (x y : VQ) : (if isGood x.q then x else y).typed ty =
    if major x.q = 3 then { v := encodeVal ty x.v, q := x.q } else { v := encodeVal ty y.v, q := y.q } := by
  simp only [isGood, beq_iff_eq]
  split_ifs <;> rfl

/-- The choice of SEL goes by the selector's bit 0, and carries the worse quality of the two (R96, R100). -/
theorem sel_eq (ty : Nat) (sel x y : VQ) :
    (({ v := (if bitOf sel.v.toNat 0 then x else y).v, q := worse sel.q (if bitOf sel.v.toNat 0 then x else y).q } : VQ).typed ty) =
    if bitOf sel.v.toNat 0 then { v := encodeVal ty x.v, q := worse sel.q x.q } else { v := encodeVal ty y.v, q := worse sel.q y.q } := by
  split_ifs <;> rfl

/-- Settles O32: each instruction writes its register; what it writes is said by the lemmas of its operation. -/
theorem dicSelects : Obligations.DicSelects := by
  intro s core ty d a b c
  refine ⟨fun hty => ?cmpInt, fun hty => ⟨?cmpReal, fun x y => cmpVQ_of_nan c hty⟩, ?sel, ?cvt,
    fun x => convert_of_not_real x, ?qget, ?qset, ?qsel⟩
  case cmpInt =>
    have hx := executes_of_dicReg (ins := .dicCmp core ty d a b c) (Eq.refl (execDicCmp core ty d a b c s))
    simpa only [cmpCost_of_not_real hty, cmpVQ_of_not_real c _ _ hty] using hx
  case cmpReal =>
    have hx := executes_of_dicReg (ins := .dicCmp core ty d a b c) (Eq.refl (execDicCmp core ty d a b c s))
    rwa [cmpCost_of_real hty] at hx
  case sel =>
    have hx := executes_of_dicReg (ins := .dicSel core ty d a b) (Eq.refl (execDicSel core ty d a b s))
    simpa only [sel_eq] using hx
  case cvt => exact executes_of_dicReg (Eq.refl (execDicCvt core ty d a c s))
  case qget => exact executes_of_dicReg (Eq.refl (execDicQget core ty d a s))
  case qset => exact executes_of_dicReg (Eq.refl (execDicQset core ty d a s))
  case qsel =>
    have hx := executes_of_dicReg (ins := .dicQsel core ty d a b) (Eq.refl (execDicQsel core ty d a b s))
    simpa only [qsel_eq] using hx

end Sys2Proof.Machine
end

section
/-! SUPPORT. Signals: their handles, how they come and go, and the operations of the host and of their owners on them (R37, R43 to R55, R68,
R272, R321, R323). -/

open Sys2Proof.Claims

namespace Sys2Proof.Machine

/-! ### Handles (R44, R45) -/

theorem judgeSig_malformed {m : Mod} {h : W32} (hbad : h = 0 ∨ fld h 27 21 = 0 ∨ fld h 31 28 ≠ 0) : judgeSig m h = .error .badField := by
  unfold judgeSig
  split_ifs with hnull hform
  · rfl
  · rfl
  · simp only [Bool.or_eq_true, bne_iff_ne, decide_eq_true_eq] at hform
    tauto

/-- The null handle has generation 0. -/
theorem ne_zero_of_gen {h : W32} (hgen : fld h 27 21 ≠ 0) : h ≠ 0 := by
  rintro rfl
  exact hgen rfl

/-- A handle of the right form that finds no record is stale. -/
theorem judgeSig_undefined {m : Mod} {h : W32} (hgen : fld h 27 21 ≠ 0) (hres : fld h 31 28 = 0) (hnone : sigAt m (hIdx h) = none) :
    judgeSig m h = .error .staleHandle := by
  rw [judgeSig, if_neg (ne_zero_of_gen hgen)]
  simp [hgen, hres, hnone]

/-- A handle of the right form that finds a record goes by that record's generation. -/
theorem judgeSig_defined {m : Mod} {h : W32} {r : SigRec} (hgen : fld h 27 21 ≠ 0) (hres : fld h 31 28 = 0) (hr : sigAt m (hIdx h) = some r) :
    judgeSig m h = if r.gen = fld h 27 21 then .ok (hIdx h) else .error .staleHandle := by
  rw [judgeSig, if_neg (ne_zero_of_gen hgen)]
  simp [hgen, hres, hr]

/-- The rules of signal handles (R44, R45). -/
theorem handlesAreJudged_hold : Claims.HandlesAreJudged := fun _ _ =>
  ⟨judgeSig_malformed, judgeSig_undefined, fun _ => judgeSig_defined⟩

/-! ### A new signal (R43, R44, R323) -/

/-- A check that a load passes goes on to the rest of the load. -/
theorem need_bind_ok {α : Type} {c : Bool} {st : Status} {f : PUnit → Except Status α} {x : α} :
    (need c st >>= f) = .ok x ↔ c = true ∧ f ⟨⟩ = .ok x := by
  cases c
  · simp [need, bind, Except.bind]
  · simp [need, bind, Except.bind]

/-- The record that a signal definition makes under the generation its index has (R43, R323). -/
def newSignal (m : Mod) (b : List Byte) : SigRec :=
  let cst := bitOf (u8 b 5) 0
  let host := bitOf (u8 b 5) 2
  { gen := genAt m (hIdx (w32 b 0)), ty := u8 b 4, isConst := cst, safety := bitOf (u8 b 5) 1
    val := if cst then encodeVal (u8 b 4) (w64 b 8) else 0
    qual := if cst then 0xC000 else 0x0005
    ownKind := if host then 7 else 0
    ownId := if host then u8 b 6 else 0
    ownClass := if host then (ringOf m (u8 b 6)).cls else 0 }

/-- A definition that is taken names an index without a record, puts the new record there and enters the store. -/
theorem loadSignal_ok {m m' : Mod} {b b' : List Byte} (h : loadSignal m b = .ok (m', b')) :
    sigAt m (hIdx (w32 b 0)) = none ∧ m' = storeAdd (setSig m (hIdx (w32 b 0)) (newSignal m b)) 1 (hIdx (w32 b 0)) 1 b' := by
  simp only [loadSignal, need_bind_ok] at h
  obtain ⟨-, hfree, hmade⟩ := h
  obtain ⟨rfl, rfl⟩ := Prod.mk.inj (Except.ok.inj hmade)
  exact ⟨Option.isNone_iff_eq_none.1 hfree, rfl⟩

@[simp] theorem sigAt_storeAdd (m : Mod) (kind num count : Nat) (buf : List Byte) (i : Nat) :
    sigAt (storeAdd m kind num count buf) i = sigAt m i := rfl

/-! ### Deletion (R44 to R46) -/

@[simp] theorem recDelete_nv (m : Mod) (i : Nat) : (recDelete m i).nv = m.nv := by
  unfold recDelete
  dsimp only
  split_ifs
  · rfl
  · rw [setTier_nv]

/-- The generation of an index whose signal is gone is the one noted for it (R45). -/
theorem genAt_of_none {m : Mod} {i : Nat} (h : sigAt m i = none) : genAt m i = (tget m.sig.gens i).getD 1 := by
  rw [genAt, h]

theorem deleteSignal_inUse {m : Mod} {h : W32} {i : Nat} {r : SigRec} (hj : judgeSig m h = .ok i) (hr : sigAt m i = some r) (hrefs : 0 < r.refs) :
    deleteSignal m h = .error .inUse := by
  simp [deleteSignal, hj, hr, hrefs]

/-- A signal nothing refers to goes, its index takes the next generation, and the deletion enters the store. -/
theorem deleteSignal_unused {m : Mod} {h : W32} {i : Nat} {r : SigRec} (hj : judgeSig m h = .ok i) (hr : sigAt m i = some r) (hrefs : r.refs = 0) :
    ∃ m', deleteSignal m h = .ok m' ∧ genAt m' i = nextGen r.gen 127 ∧
      m'.nv.store = m.nv.store ++ [{ kind := 101, num := h.toNat, count := 0, buf := [] }] := by
  refine ⟨_, by simp only [deleteSignal, hj, hr, hrefs, gt_iff_lt, lt_irrefl, if_false]; rfl, ?_, ?_⟩
  · rw [genAt_of_none (by simp [sigAt, storeDel, storeAdd, tget_tdel])]
    simp [storeDel, storeAdd]
  · simp [storeDel, storeAdd, forgetSignal]

/-- Settles O9: by the record that a definition makes, and by what a deletion leaves of the directory. -/
theorem signalsComeAndGo : Obligations.SignalsComeAndGo := by
  intro m b h
  refine ⟨fun m' b' hload => ?made, fun i r => deleteSignal_inUse, fun i r => deleteSignal_unused⟩
  obtain ⟨hfree, rfl⟩ := loadSignal_ok hload
  refine ⟨hfree, ⟨newSignal m b, by simp, rfl, rfl, rfl, rfl, rfl, rfl, rfl, fun hvar => ?_, fun hcst => ?_⟩, fun j hj => ?_⟩
  · rw [show (newSignal m b).isConst = bitOf (u8 b 5) 0 from rfl] at hvar
    simp [newSignal, hvar]
  · rw [show (newSignal m b).isConst = bitOf (u8 b 5) 0 from rfl] at hcst
    simp [newSignal, hcst]
  · rw [sigAt_storeAdd, sigAt_setSig_other _ _ hj]

/-! ### Owner writes (R37, R47, R50, R272) -/

theorem ownerWrite_null_or_const {m : Mod} {h : W32} {v : Val} {q : Qual} {r : SigRec} (hr : sigAt m (hIdx h) = some r)
    (hno : h = 0 ∨ r.isConst = true) : ownerWrite m h v q = m := by
  by_cases hnull : h = 0
  · simp [ownerWrite, ownerWriteAt, hnull]
  · simp [ownerWrite, ownerWriteAt, hr, hno.resolve_left hnull]

/-- A voted input of a formed triad is written to this seat's copy alone (R272). -/
theorem ownerWrite_voted {m : Mod} {h : W32} {v : Val} {q : Qual} {r : SigRec} (hnull : h ≠ 0) (hr : sigAt m (hIdx h) = some r)
    (hconst : r.isConst = false) (hvoted : isVoted m r = true) :
    ownerWrite m h v q = localCopy m (hIdx h) { val := v, qual := q, time := time32 m, wrap := wrap16 m } := by
  rw [ownerWrite, ownerWriteAt, if_neg hnull]
  simp [hr, hconst, hvoted]

/-- An owner write touches no signal but the one its handle names. -/
theorem sigAt_ownerWrite_other (m : Mod) {h : W32} (v : Val) (q : Qual) {j : Nat} (hj : j ≠ hIdx h) :
    sigAt (ownerWrite m h v q) j = sigAt m j := by
  unfold ownerWrite ownerWriteAt
  split
  · rfl
  · split
    · rfl
    · split_ifs
      · rfl
      · rfl
      · rfl
      · rfl
      · exact sigAt_setSig_other _ _ hj

/-- The rules of owner writes (R37, R47, R50, R272). -/
theorem ownerWritesOneRecord_hold : Claims.OwnerWritesOneRecord := by
  intro m h v q r hr
  refine ⟨fun hnull hconst hmode => ?written, ownerWrite_null_or_const hr, fun hnull hconst hvoted => ?voted,
    fun j => sigAt_ownerWrite_other m v q⟩
  case written =>
    rw [ownerWrite_alone hnull hr hconst hmode]
    exact ⟨_, sigAt_setSig_same .., rfl, rfl, rfl, rfl, rfl, rfl, rfl, rfl, rfl, rfl⟩
  case voted =>
    rw [ownerWrite_voted hnull hr hconst hvoted]
    exact ⟨rfl, tget_tset_same ..⟩

/-! ### The host's operations on a signal (R47, R52, R54, R68, R321) -/

/-- A handle that names a signal hands its index and record on. -/
theorem onSignal_of_judged {m : Mod} {q : Req} {h : W32} {i : Nat} {r : SigRec} (f : Nat → SigRec → Mod) (hj : judgeSig m h = .ok i)
    (hr : sigAt m i = some r) : onSignal m q h f = f i r := by
  simp only [onSignal, hj, hr]

/-- A served operation on a signal gives what it does to the record its handle names. -/
theorem gives_onSignal {ins : Instr} {s : State} {t op i : Nat} {q : Req} {h : W32} {r : SigRec} {f : Mod → Nat → SigRec → Mod}
    (hs : Served s t op q) (hj : judgeSig s.m h = .ok i) (hr : sigAt s.m i = some r)
    (hi : exec ins s = s.runCmd t op q (fun m => onSignal m q h (f m))) : Gives ins s t (f (seen s t) i r) := by
  have hg := gives_of_runCmd hs hi
  rwa [onSignal_of_judged (m := seen s t) _ hj hr] at hg

/-- A refusal of a descriptor leaves every signal as it is, and keeps the bits of SIG_REFUSED (R45, R68). -/
@[simp] theorem refuse_sigs (m : Mod) (q : Req) (st : Status) (r : Res) : (refuse m q st r).sig.sigs = m.sig.sigs := by
  unfold refuse
  split_ifs <;> simp [sigRefused]

theorem refuse_keeps_refused {m : Mod} (q : Req) (st : Status) {i : Nat} (hi : i < 32) (h : bitOf m.sig.refused.toNat i = true) :
    bitOf (refuse m q st).sig.refused.toNat i = true := by
  unfold refuse
  split_ifs
  · simp [sigRefused, bitOf_setBit32 _ _ _ hi, h]
  · simpa using h

/-- A refusal noted in a bit of SIG_REFUSED changes no signal and leaves the bit set. -/
theorem refuse_sigRefused_spec (m : Mod) (q : Req) (st : Status) {i : Nat} (hi : i < 32) :
    (refuse (sigRefused m i) q st).sig.sigs = m.sig.sigs ∧ bitOf (refuse (sigRefused m i) q st).sig.refused.toNat i = true :=
  ⟨refuse_sigs .., refuse_keeps_refused q st hi (bitOf_setBit32_same _ _ hi)⟩

@[simp] theorem sigAt_post (m : Mod) (q : Req) (st : Status) (r : Res) (i : Nat) : sigAt (post m q st r) i = sigAt m i := by
  rw [sigAt, post_sig, sigAt]

/-- An operation that completes with one signal replaced reads as that, and every other signal as before. -/
theorem sigAt_post_setSig (m : Mod) (q : Req) (st : Status) (i : Nat) (r : SigRec) :
    sigAt (post (setSig m i r) q st) i = some r ∧ ∀ j, j ≠ i → sigAt (post (setSig m i r) q st) j = sigAt m j :=
  ⟨by simp, fun j hj => by rw [sigAt_post, sigAt_setSig_other _ _ hj]⟩

/-- RELEASE_ALL releases each force and leaves every other signal as it is (R68). -/
theorem sigAt_releaseForces_all (m : Mod) (j : Nat) :
    sigAt (releaseForces m false) j = (sigAt m j).map (fun x => if x.forced then x.unforce else x) := by
  simp [sigAt, releaseForces]

/-- The rules of the host's operations on a signal (R47, R52, R54, R68, R321). -/
theorem signalCommands_hold : Claims.SignalCommands := by
  intro s t i ty q h v ql r hj hr
  refine ⟨fun hs hforce => ?force, fun e hs hforce => ?forceRefused, fun hs => ?release, fun hs hconst hkind hring => ?write,
    fun hs hconst howner => ?notOwner, fun hready => ?read, fun hon hboot hsoft => ?releaseAll⟩
  case force =>
    have hg := gives_onSignal (ins := .forceSet t q h ty v) hs hj hr (Eq.refl (execForceSet t q h ty v s))
    simp only [show forceCheck (seen s t) r ty = none from hforce] at hg
    exact makes_of_gives hg (sigAt_post_setSig ..)
  case forceRefused =>
    have hg := gives_onSignal (ins := .forceSet t q h ty v) hs hj hr (Eq.refl (execForceSet t q h ty v s))
    simp only [show forceCheck (seen s t) r ty = some e from hforce] at hg
    exact makes_of_gives hg (refuse_sigRefused_spec (seen s t) q e (by decide))
  case release =>
    exact makes_of_gives (gives_onSignal hs hj hr (Eq.refl (execReleaseForce t q h s))) (sigAt_post_setSig ..)
  case write =>
    have hg := gives_onSignal (ins := .signalWrite t q h ql v) hs hj hr (Eq.refl (execSignalWrite t q h ql v s))
    rw [if_neg (by simp [hconst]), if_pos (by simp [hkind, hring])] at hg
    exact makes_of_gives hg (sigAt_post_setSig ..)
  case notOwner =>
    have hg := gives_onSignal (ins := .signalWrite t q h ql v) hs hj hr (Eq.refl (execSignalWrite t q h ql v s))
    rw [if_neg (by simp [hconst]), if_neg (by simpa [← not_and_or] using howner)] at hg
    exact makes_of_gives hg (refuse_sigRefused_spec (seen s t) q .notOwner (by decide))
  case read =>
    have hg := gives_of_runOp (i := .signalRead t q h) hready (Eq.refl (execSignalRead t q h s))
    rwa [onSignal_of_judged (m := seen s t) _ hj hr] at hg
  case releaseAll =>
    have hg := gives_of_runReg (i := .releaseAll t) hon hboot hsoft (Eq.refl (execReleaseAll t s))
    exact makes_of_gives hg (sigAt_releaseForces_all (seen s t))

/-- Settles O10: owner writes, the host's operations, and the judgement of handles. -/
theorem signalOperations : Obligations.SignalOperations := ⟨ownerWritesOneRecord_hold, signalCommands_hold, handlesAreJudged_hold⟩

end Sys2Proof.Machine
end

section
/-! SUPPORT. Table loads, deletions and reads (R46, R239, R320, R322 to R324). -/

open Sys2Proof.Claims

namespace Sys2Proof.Machine

/-! ### Loads, deletions and the read of a record (R46, R239, R320, R322, R323) -/

/-- A refused load gives back the module it found, with the failed test noted in ADM alone (R239). -/
theorem tableLoad_error_only {m m' : Mod} {prot replay : Bool} {kind count : Nat} {buf : List Byte} {e : Status}
    (h : tableLoad m prot replay kind count buf = .error (m', e)) : m' = { m with adm := m'.adm } := by
  unfold tableLoad at h
  split at h
  · obtain ⟨rfl, -⟩ := Prod.mk.inj (Except.error.inj h)
    rfl
  · split at h
    · cases h
    · split at h
      · obtain ⟨rfl, -⟩ := Prod.mk.inj (Except.error.inj h)
        rfl
      · cases h

/-- A served load that nothing holds back answers as it is judged and admitted (R320, R323). -/
theorem gives_tableLoad {s : State} {t kind count : Nat} {q : Req} {buf : List Byte} (hs : Served s t 0x0001 q)
    (hheld : kindHeld (seen s t) kind = none) :
    Gives (.tableLoad t q kind count buf) s t (match tableLoad (seen s t) false false kind count buf with
      | .error (m, e) => refuse m q e
      | .ok l => post l.m q .ok { r0 := l.res0, r1 := l.res1, data := l.data }) := by
  have hg := gives_of_runCmd (i := .tableLoad t q kind count buf) hs (Eq.refl (execTableLoad t q kind count buf s))
  simp only [hheld] at hg
  exact hg

/-- A served deletion outside TRIAL answers as it is judged (R46, R320). -/
theorem gives_tableDelete {s : State} {t kind : Nat} {q : Req} {num : W32} (hs : Served s t 0x0002 q) (htrial : anyTrial s.m = false) :
    Gives (.tableDelete t q kind num) s t (match tableDelete (seen s t) false kind num with
      | .error e => refuse (seen s t) q e
      | .ok m => post m q .ok) := by
  have hg := gives_of_runCmd (i := .tableDelete t q kind num) hs (Eq.refl (execTableDelete t q kind num s))
  rw [if_neg (by simp [show anyTrial (seen s t) = false from htrial])] at hg
  exact hg

/-- The rules of table loads, deletions and reads (R46, R239, R320, R322, R323). -/
theorem tableCommands_hold : Claims.TableCommands := by
  intro s t kind count q buf num n
  refine ⟨fun l hs hheld hload => ?loaded, fun m e hs hheld hload => ?refused, fun m hs htrial hdel => ?deleted,
    fun e hs htrial hdel => ?kept, fun b hready hb => ?read⟩
  case loaded =>
    have hg := gives_tableLoad (count := count) (buf := buf) hs hheld
    rwa [hload] at hg
  case refused =>
    have hg := gives_tableLoad (count := count) (buf := buf) hs hheld
    rw [hload] at hg
    have honly := tableLoad_error_only hload
    exact ⟨hg, by rw [honly]; rfl, by rw [honly]; rfl, by rw [honly]; rfl, by rw [honly]; rfl, by rw [honly]; rfl, by rw [honly]; rfl,
      by rw [honly]; rfl⟩
  case deleted =>
    have hg := gives_tableDelete (kind := kind) (num := num) hs htrial
    rwa [hdel] at hg
  case kept =>
    have hg := gives_tableDelete (kind := kind) (num := num) hs htrial
    rwa [hdel] at hg
  case read =>
    have hg := gives_of_runOp (i := .tableRead t q kind n) hready (Eq.refl (execTableRead t q kind n s))
    simp only [show recordAt (seen s t) kind n = some b from hb] at hg
    exact hg

/-! ### Records as bytes (R9) -/

@[simp] theorem length_leBytes (n v : Nat) : (leBytes n v).length = n := by
  induction n generalizing v with
  | zero => rfl
  | succ n ih => rw [leBytes, List.length_cons, ih]

@[simp] theorem length_bytes16 (v : Nat) : (bytes16 v).length = 2 := length_leBytes 2 v
@[simp] theorem length_bytes32 (v : W32) : (bytes32 v).length = 4 := length_leBytes 4 _
@[simp] theorem length_bytes64 (v : Val) : (bytes64 v).length = 8 := length_leBytes 8 _

/-- Bytes past the front part of a record are read from the rest. -/
theorem u8_append_of_le {a : List Byte} {o : Nat} (b : List Byte) (h : a.length ≤ o) : u8 (a ++ b) o = u8 b (o - a.length) := by
  simp only [u8, slice, List.drop_append, List.drop_eq_nil_of_le h, List.nil_append]

/-- A number written in one byte reads back modulo 256. -/
theorem u8_leBytes_append (v : Nat) (b : List Byte) : u8 (leBytes 1 v ++ b) 0 = v % 256 := by
  simp [u8, slice, leBytes, leNat]

@[simp] theorem length_jBytes (r : JRec) : (jBytes r).length = 64 := by simp [jBytes, sealed]

/-! ### Bulk and status reads (R322, R324) -/

/-- A range of the bulk reads is served. -/
theorem range_served {n a top size : Nat} (h1 : 1 ≤ n) (hn : n ≤ size) (ha : a + n ≤ top) :
    ¬ (decide (n = 0) || decide (n > size) || decide (a + n > top)) = true := by
  simp only [Bool.or_eq_true, decide_eq_true_eq]
  omega

/-- A length below 2³² is what its word says. -/
theorem toNat_ofNat_le {k n : Nat} (hk : k ≤ n) (hn : n < 2 ^ 32) : (BitVec.ofNat 32 k).toNat = k := by
  rw [BitVec.toNat_ofNat, Nat.mod_eq_of_lt (by omega)]

/-- The read of the journal returns at most the records asked for, 64 bytes each (R322). -/
theorem gives_journalRead {s : State} {t n : Nat} {q : Req} {x : W32} (hready : opReady (seen s t) 0x0042 q = true) (h1 : 1 ≤ n)
    (hn : n ≤ 16384) :
    ∃ d, Gives (.journalRead t q x n) s t (post (seen s t) q .ok d) ∧ d.r0.toNat ≤ n ∧ d.data.length = 64 * d.r0.toNat := by
  have hg := gives_of_runOp (i := .journalRead t q x n) hready (Eq.refl (execJournalRead t q x n s))
  rw [if_neg (by simp; omega)] at hg
  generalize hrs : ((seen s t).nv.journal.filter (fun j => j.seq == x || serialLater x j.seq)).take n = rs at hg
  have hlen : rs.length ≤ n := hrs ▸ List.length_take_le ..
  refine ⟨_, hg, ?_, ?_⟩
  · exact (toNat_ofNat_le hlen (by omega)).trans_le hlen
  · rw [toNat_ofNat_le hlen (by omega), List.length_flatMap]
    simp [Nat.mul_comm]

/-- The read of plan-owned values returns at most the values asked for (R322). -/
theorem gives_valueArea {s : State} {t a n : Nat} {q : Req} (hready : opReady (seen s t) 0x0043 q = true) (h1 : 1 ≤ n) (hn : a + n ≤ 8192) :
    ∃ d, Gives (.valueArea t q a n) s t (post (seen s t) q .ok d) ∧ d.r0.toNat ≤ n := by
  have hg := gives_of_runOp (i := .valueArea t q a n) hready (Eq.refl (execValueArea t q a n s))
  rw [if_neg (range_served h1 (by omega) hn)] at hg
  have hlen : (((planOwned (seen s t)).drop a).take n).length ≤ n := List.length_take_le ..
  exact ⟨_, hg, (toNat_ofNat_le hlen (by omega)).trans_le hlen⟩

/-- The status record of a task (R324). -/
def taskStatusBytes (k : Task) : List Byte :=
  bytes64 k.cycles ++ bytes32 k.skipped ++ bytes32 k.merged ++ bytes32 k.range ++ leBytes 1 (tstateNo k.st) ++
    leBytes 1 (k.pair + 128 * b2n k.coreB) ++ leBytes 2 0 ++ leBytes 4 k.wUs ++ leBytes 4 0

theorem gives_taskStatus {s : State} {t a : Nat} {q : Req} {k : Task} (hready : opReady (seen s t) 0x002B q = true) (hk : taskAt s.m a = some k) :
    Gives (.taskStatus t q a) s t (post (seen s t) q .ok { data := taskStatusBytes k }) := by
  have hg := gives_of_runOp (i := .taskStatus t q a) hready (Eq.refl (execTaskStatus t q a s))
  simp only [show taskAt (seen s t) a = some k from hk] at hg
  exact hg

theorem tstateNo_lt (x : TState) : tstateNo x < 256 := by cases x <;> decide

/-- The layout of a task's status record (R324). -/
theorem taskStatusBytes_layout (k : Task) : (taskStatusBytes k).length = 32 ∧ (taskStatusBytes k).take 8 = bytes64 k.cycles ∧
    u8 (taskStatusBytes k) 20 = tstateNo k.st ∧ u8 (taskStatusBytes k) 21 = (k.pair + 128 * b2n k.coreB) % 256 := by
  refine ⟨by simp [taskStatusBytes], by simp [taskStatusBytes], ?state, ?pair⟩
  case state => simp [taskStatusBytes, u8_append_of_le, u8_leBytes_append, Nat.mod_eq_of_lt (tstateNo_lt _)]
  case pair => simp [taskStatusBytes, u8_append_of_le, u8_leBytes_append]

theorem gives_channelStatus {s : State} {t a : Nat} {q : Req} (hready : opReady (seen s t) 0x002C q = true) (ha : a < 256) :
    Gives (.channelStatus t q a) s t (post (seen s t) q .ok { data := channelStatusBytes (seen s t) a }) := by
  have hg := gives_of_runOp (i := .channelStatus t q a) hready (Eq.refl (execChannelStatus t q a s))
  rwa [if_neg (by omega)] at hg

/-- The layout of a channel's status record (R324). -/
theorem channelStatusBytes_layout (m : Mod) (n : Nat) : (channelStatusBytes m n).length = 32 ∧
    (channelStatusBytes m n).take 4 = bytes32 (chanOf m n).status ∧ u8 (channelStatusBytes m n) 6 = (chanOf m n).rcd.function % 256 := by
  refine ⟨by simp [channelStatusBytes], by simp [channelStatusBytes], ?_⟩
  simp [channelStatusBytes, u8_append_of_le, u8_leBytes_append]

/-- The rules of the bulk and status reads (R322, R324). -/
theorem readsCopyRecords_hold : Claims.ReadsCopyRecords := by
  intro s t a n q x
  refine ⟨fun hready h1 hn ha => ?signals, fun hready h1 hn ha => ?directory, fun hready => gives_journalRead hready,
    fun hready => gives_valueArea hready, fun k hready hk => ?task, fun hready ha => ?channel⟩
  case signals =>
    have hg := gives_of_runOp (i := .signalBlock t q a n) hready (Eq.refl (execSignalBlock t q a n s))
    rw [if_neg (range_served h1 hn ha)] at hg
    exact hg
  case directory =>
    have hg := gives_of_runOp (i := .directoryBlock t q a n) hready (Eq.refl (execDirectoryBlock t q a n s))
    rw [if_neg (range_served h1 hn ha)] at hg
    exact hg
  case task =>
    exact ⟨_, gives_taskStatus hready hk, taskStatusBytes_layout k⟩
  case channel =>
    exact ⟨_, gives_channelStatus hready ha, channelStatusBytes_layout (seen s t) a⟩

/-- Settles O15: the commands on the tables, and the reads that copy records. -/
theorem tablesAndReads : Obligations.TablesAndReads := ⟨tableCommands_hold, readsCopyRecords_hold⟩

end Sys2Proof.Machine
end

section
/-! SUPPORT. Units: how a mode command is judged and carried out over a subtree, the interlock, and the roll-up (R56, R61 to R66, R321). -/

open Sys2Proof.Claims

namespace Sys2Proof.Machine

/-! ### Reading a unit after a write -/

/-- A unit is what the table of units and unit 0 say. -/
theorem unitAt_congr {m m' : Mod} (h0 : m'.sig.unit0 = m.sig.unit0) (hunits : m'.sig.units = m.sig.units) (k : Nat) : unitAt m' k = unitAt m k := by
  rw [unitAt, h0, hunits, unitAt]

theorem unitAt_of_sig {m m' : Mod} (h : m'.sig = m.sig) (k : Nat) : unitAt m' k = unitAt m k := unitAt_congr (by rw [h]) (by rw [h]) k

theorem unitAt_setUnit (m : Mod) (i k : Nat) (u : Machine.Unit) : unitAt (setUnit m i u) k = if k = i then some u else unitAt m k := by
  by_cases hi : i = 0
  · subst hi
    by_cases hk : k = 0 <;> simp [unitAt, setUnit, hk]
  · by_cases hk : k = 0
    · simp [unitAt, setUnit, hi, hk, Ne.symm hi]
    · simp [unitAt, setUnit, hi, hk, tget_tset]

/-- An owner write reaches a signal's record or a copy of it, never a unit. -/
@[simp] theorem unitAt_ownerWrite (m : Mod) (h : W32) (v : Val) (q : Qual) (k : Nat) : unitAt (ownerWrite m h v q) k = unitAt m k := by
  unfold ownerWrite ownerWriteAt
  split
  · rfl
  · split
    · rfl
    · split_ifs <;> rfl

@[simp] theorem unitAt_driveAll (m : Mod) (k : Nat) : unitAt (driveAll m) k = unitAt m k := unitAt_of_sig (driveAll_sig m) k
@[simp] theorem unitAt_postEvent (m : Mod) (e : Event) (k : Nat) : unitAt (postEvent m e) k = unitAt m k := unitAt_of_sig (postEvent_sig m e) k
@[simp] theorem unitAt_leadEvent (m : Mod) (kind detail : Nat) (subject : W32) (arg : Val) (code : W32) (k : Nat) :
    unitAt (leadEvent m kind detail subject arg code) k = unitAt m k := unitAt_of_sig (leadEvent_sig ..) k

/-! ### The tree -/

theorem treeDown_of_sig {m m' : Mod} (h : m'.sig = m.sig) (fuel : Nat) : treeDown m' fuel = treeDown m fuel := by
  induction fuel with
  | zero => rfl
  | succ n ih =>
    funext i
    rw [treeDown, treeDown, ih, childrenOf, h, childrenOf]

/-- The subtree of a unit is what the signal table's block says. -/
theorem subtree_of_sig {m m' : Mod} (h : m'.sig = m.sig) (i : Nat) : subtree m' i = subtree m i := by
  rw [subtree, treeDown_of_sig h, unitFuel, h, subtree, unitFuel]

theorem chainUp_of_sig {m m' : Mod} (h : m'.sig = m.sig) (fuel : Nat) : chainUp m' fuel = chainUp m fuel := by
  induction fuel with
  | zero => rfl
  | succ n ih =>
    funext i
    simp only [chainUp, unitAt_of_sig h, ih]

/-- The unit and its ancestors are what the signal table's block says. -/
theorem lineage_of_sig {m m' : Mod} (h : m'.sig = m.sig) (i : Nat) : lineage m' i = lineage m i := by
  rw [lineage, chainUp_of_sig h, unitFuel, h, lineage, unitFuel]

/-- Whether a subtree is commanded is what the signal table's block says (R64). -/
theorem walkBusy_of_sig {m m' : Mod} (h : m'.sig = m.sig) (c : WalkCmd) : walkBusy m' c = walkBusy m c := by
  simp only [walkBusy, overlap, lineage_of_sig h, h]

/-! ### The judgement of a mode command (R61) -/

/-- The rules of R61, each from the order in which a unit judges. -/
theorem modesAreJudged_hold : Claims.ModesAreJudged := by
  intro m i u x hu
  refine ⟨fun hheld => ?held, ?safe, fun hne hx hallowed => ?notAllowed, fun hoff => ?offHold, fun hsafe => ⟨?safeAuto, ?safeHold⟩,
    fun hsafe hcause hx => ?cause, fun hne hsafe hx hallowed => ?interlock, fun hsafe hcause hallowed => ?leave⟩
  case held => simp [judgeMode, hu, hheld]
  case safe => cases hm : u.mode <;> simp [judgeMode, hu, hm]
  case notAllowed => simp [judgeMode, hu, hne, hx, hallowed]
  case offHold => simp [judgeMode, hu, hoff]
  case safeAuto => simp [judgeMode, hu, hsafe]
  case safeHold => simp [judgeMode, hu, hsafe]
  case cause => simp [judgeMode, hu, hsafe, hcause, hx, Ne.symm hx]
  case interlock => rcases hx with rfl | rfl <;> simp [judgeMode, hu, hne, hsafe, hallowed]
  case leave => simp [judgeMode, hu, hsafe, hcause, hallowed, modeNo]

/-- Only a unit that is there accepts a mode command. -/
theorem unitAt_of_judged {m : Mod} {i : Nat} {x : Mode} (h : judgeMode m i x = none) : ∃ u, unitAt m i = some u := by
  cases hu : unitAt m i with
  | none => simp [judgeMode, hu] at h
  | some u => exact ⟨u, rfl⟩

/-! ### A unit takes a mode (R57, R61) -/

/-- The unit as it takes a mode: entry to HOLD from MANUAL or AUTO keeps the mode it leaves for RESUME (R61). -/
def Unit.entered (x : Mode) (u : Machine.Unit) : Machine.Unit :=
  if u.mode = x then u
  else { u with mode := x, prior := if x == .hold && (u.mode == .manual || u.mode == .auto) then u.mode else u.prior }

theorem Unit.entered_mode (x : Mode) (u : Machine.Unit) : (u.entered x).mode = x := by
  unfold Unit.entered
  split
  · assumption
  · rfl

theorem Unit.entered_entered (x : Mode) (u : Machine.Unit) : (u.entered x).entered x = u.entered x := by
  rw [Unit.entered, if_pos (u.entered_mode x)]

/-- A unit takes another mode than its own: its record and its MODE_SIG follow, and its outputs are driven (R57, R60). -/
theorem enterMode_other {m : Mod} {i : Nat} {x : Mode} {u : Machine.Unit} (hu : unitAt m i = some u) (hmode : u.mode ≠ x) :
    enterMode m i x = driveAll (ownerWrite (setUnit m i (u.entered x)) u.modeSig (BitVec.ofNat 64 (modeNo x)) 0xC000) := by
  simp only [enterMode, hu, if_neg hmode, Unit.entered]

theorem enterMode_held {m : Mod} {i : Nat} {x : Mode} {u : Machine.Unit} (hu : unitAt m i = some u) (hmode : u.mode = x) : enterMode m i x = m := by
  simp only [enterMode, hu, if_pos hmode]

theorem enterMode_undefined {m : Mod} {i : Nat} (x : Mode) (hu : unitAt m i = none) : enterMode m i x = m := by
  simp only [enterMode, hu]

/-- A unit that takes a mode changes as a unit, and no other unit does. -/
theorem unitAt_enterMode (m : Mod) (i : Nat) (x : Mode) (k : Nat) :
    unitAt (enterMode m i x) k = if k = i then (unitAt m k).map (Unit.entered x) else unitAt m k := by
  cases hu : unitAt m i with
  | none =>
    rw [enterMode_undefined x hu]
    split_ifs with hk
    · rw [hk, hu]; rfl
    · rfl
  | some u =>
    by_cases hmode : u.mode = x
    · rw [enterMode_held hu hmode]
      split_ifs with hk
      · rw [hk, hu, Option.map_some, Unit.entered, if_pos hmode]
      · rfl
    · rw [enterMode_other hu hmode, unitAt_driveAll, unitAt_ownerWrite, unitAt_setUnit]
      split_ifs with hk
      · rw [hk, hu]; rfl
      · rfl

/-- Where one step changes the unit it is given by `g` and no other, a walk changes by `g` each unit it comes to, however often it comes there. -/
theorem unitAt_foldl {f : Mod → Nat → Mod} {g : Machine.Unit → Machine.Unit}
    (hstep : ∀ m j k, unitAt (f m j) k = if k = j then (unitAt m k).map g else unitAt m k)
    (hg : ∀ u, g (g u) = g u) (l : List Nat) (m : Mod) (k : Nat) :
    unitAt (l.foldl f m) k = if k ∈ l then (unitAt m k).map g else unitAt m k := by
  have hgg : g ∘ g = g := funext hg
  induction l generalizing m with
  | nil => simp
  | cons j l ih =>
    rw [List.foldl_cons, ih, hstep]
    by_cases hk : k = j
    · simp [hk, Option.map_map, hgg]
    · simp [hk]

/-! ### A mode command over its subtree (R61, R63) -/

/-- The units of a subtree that refuse, with their refusals. -/
def refusals (m : Mod) (c : WalkCmd) (x : Mode) : List (Nat × Status) :=
  (subtree m c.unit).filterMap (fun i => (judgeMode m i x).map (fun st => (i, st)))

theorem length_refusals (m : Mod) (c : WalkCmd) (x : Mode) :
    (refusals m c x).length = ((subtree m c.unit).filter (fun i => (judgeMode m i x).isSome)).length := by
  unfold refusals
  induction subtree m c.unit with
  | nil => rfl
  | cons i l ih => cases h : judgeMode m i x <;> simp [h, ih]

/-- With ALL_OR_NONE and a refusal the command changes no unit (R63). -/
theorem walk_refused {m : Mod} {c : WalkCmd} {x : Mode} (hx : c.mode = some x) (haon : c.aon = true) (href : refusals m c x ≠ []) :
    walk m c = (sigRefused m 3, cmdRes m 0 (refusals m c x)) := by
  have href' : (refusals m c x).isEmpty = false := by simpa using href
  unfold refusals at href'
  simp [walk, hx, haon, href', refusals]

/-- Without a refusal every unit of the subtree takes the mode (R63). -/
theorem walk_accepted {m : Mod} {c : WalkCmd} {x : Mode} (hx : c.mode = some x) (hall : ∀ i ∈ subtree m c.unit, judgeMode m i x = none) :
    walk m c = ((subtree m c.unit).foldl (fun m i => enterMode m i x) m, cmdRes m (subtree m c.unit).length []) := by
  have href : (subtree m c.unit).filterMap (fun i => (judgeMode m i x).map (fun st => (i, st))) = [] :=
    List.filterMap_eq_nil_iff.2 fun i hi => by rw [hall i hi]; rfl
  have hok : (subtree m c.unit).filter (fun i => (judgeMode m i x).isNone) = subtree m c.unit :=
    List.filter_eq_self.2 fun i hi => by rw [hall i hi]; rfl
  simp [walk, hx, href, hok]

/-- A command with refusals counts them (R63, R326). -/
theorem cmdRes_refused (m : Mod) (n : Nat) {ref : List (Nat × Status)} (h : ref ≠ []) :
    (cmdRes m n ref).accepted = n ∧ (cmdRes m n ref).refused = ref.length := by
  cases ref with
  | nil => exact absurd rfl h
  | cons e l => exact ⟨rfl, rfl⟩

/-- The rules of a mode command over its subtree (R63). -/
theorem modeCommandsWalk_hold : Claims.ModeCommandsWalk := by
  intro m c x hx
  refine ⟨fun haon hsome => ?refused, fun hall => ?accepted⟩
  case refused =>
    have href : refusals m c x ≠ [] := by
      obtain ⟨i, hi, hjudged⟩ := hsome
      have hin : i ∈ (subtree m c.unit).filter (fun i => (judgeMode m i x).isSome) := List.mem_filter.2 ⟨hi, hjudged⟩
      rw [← List.length_pos_iff, length_refusals]
      exact List.length_pos_of_mem hin
    obtain ⟨hacc, hcount⟩ := cmdRes_refused m 0 href
    rw [walk_refused hx haon href]
    exact ⟨rfl, rfl, hacc, hcount.trans (length_refusals m c x)⟩
  case accepted =>
    rw [walk_accepted hx hall]
    refine ⟨rfl, rfl, rfl, fun i hi => ?_⟩
    obtain ⟨u, hu⟩ := unitAt_of_judged (hall i hi)
    rw [modeAt, unitAt_foldl (fun m j k => unitAt_enterMode m j x k) (Unit.entered_entered x), if_pos hi, hu]
    exact congrArg some (u.entered_mode x)

/-! ### The unit commands (R62, R64, R65, R321) -/

/-- A handle that names a unit hands its index on. -/
theorem onUnit_of_judged {m : Mod} {q : Req} {h : W32} {i : Nat} (f : Nat → Mod) (hj : judgeUnit m h = .ok i) : onUnit m q h f = f i := by
  simp only [onUnit, hj]

/-- A served operation on a unit gives what it does with the index its handle names. -/
theorem gives_onUnit {ins : Instr} {s : State} {t op i : Nat} {q : Req} {h : W32} {f : Mod → Nat → Mod} (hs : Served s t op q)
    (hj : judgeUnit s.m h = .ok i) (hi : exec ins s = s.runCmd t op q (fun m => onUnit m q h (f m))) : Gives ins s t (f (seen s t) i) := by
  have hg := gives_of_runCmd hs hi
  rwa [onUnit_of_judged (m := seen s t) _ hj] at hg

/-- A command whose subtree is commanded waits in its place (R64). -/
theorem commandUnit_busy {m : Mod} {c : WalkCmd} (h : walkBusy m c = true) :
    (commandUnit m c).sig = { m.sig with walkQ := enqueueWalk m.sig.walkQ c } := by
  rw [commandUnit, if_pos h, startOpt_sig]

theorem commandUnit_free {m : Mod} {c : WalkCmd} (h : walkBusy m c = false) : commandUnit m c = startWalk m c := by
  rw [commandUnit, if_neg (by simp [h])]

/-- With no command waiting the end of one starts none (R64). -/
theorem nextWalk_none_waiting {m : Mod} (h : m.sig.walkQ = []) :
    nextWalk m = { m with sig := { m.sig with walking := m.sig.walking.drop 1 } } := by
  simp [nextWalk, h]

/-- The unit as an active interlock above it leaves it (R62). -/
def Unit.interlocked (u : Machine.Unit) : Machine.Unit := if u.mode = .manual ∨ u.mode = .auto then u.entered .hold else u

theorem Unit.interlocked_interlocked (u : Machine.Unit) : u.interlocked.interlocked = u.interlocked := by
  by_cases h : u.mode = .manual ∨ u.mode = .auto
  · have hhold : u.interlocked.mode = .hold := by rw [Unit.interlocked, if_pos h, Unit.entered_mode]
    rw [Unit.interlocked, if_neg (by simp [hhold])]
  · simp [Unit.interlocked, h]

theorem Unit.interlocked_spec (u : Machine.Unit) :
    u.interlocked.mode = (if u.mode = .manual ∨ u.mode = .auto then .hold else u.mode) ∧
    u.interlocked.prior = (if u.mode = .manual ∨ u.mode = .auto then u.mode else u.prior) := by
  cases hm : u.mode <;> simp [Unit.interlocked, Unit.entered, hm]

/-- What an interlock does at one unit below it. -/
def holdUnit (m : Mod) (j : Nat) : Mod :=
  match unitAt m j with
  | none => m
  | some u => if u.mode == .manual || u.mode == .auto then enterMode m j .hold else m

theorem unitAt_holdUnit (m : Mod) (j k : Nat) : unitAt (holdUnit m j) k = if k = j then (unitAt m k).map Unit.interlocked else unitAt m k := by
  unfold holdUnit
  split
  · next hu => split_ifs with hk <;> simp [hk, hu]
  · next u hu =>
    by_cases hmode : u.mode = .manual ∨ u.mode = .auto
    · rw [if_pos (by simpa using hmode), unitAt_enterMode]
      split_ifs with hk
      · simp [hk, hu, Unit.interlocked, hmode]
      · rfl
    · rw [if_neg (by simpa using hmode)]
      split_ifs with hk
      · simp [hk, hu, Unit.interlocked, hmode]
      · rfl

/-- An active interlock comes to every unit at and below its own (R62). -/
theorem interlockHold_active {m : Mod} {n : Nat} (h : ilkHere m n = true) : interlockHold m n = (subtree m n).foldl holdUnit m := if_pos h

/-- The rules of the unit commands (R62, R64 to R66, R321). -/
theorem unitCommands_hold : Claims.UnitCommands := by
  intro s t i n q h x b
  have hsig : (seen s t).sig = s.m.sig := rfl
  refine ⟨fun hs hj hmode => ?command, fun hs hj => ?resume, fun c hbusy => ?waits, fun c hfree => ?starts,
    fun hon => gives_of_runOn (i := .walkerNextCommand t) hon (Eq.refl (execWalkerNextCommand t s)), fun hon hq => ?ends,
    fun hon hilk => ?interlock, fun hon => ?rollUp⟩
  case command =>
    have hg := gives_onUnit (ins := .unitCmd t q h n b) hs hj (Eq.refl (execUnitCmd t q h n b s))
    simp only [hmode] at hg
    exact hg
  case resume => exact gives_onUnit (ins := .unitResume t q h) hs hj (Eq.refl (execUnitResume t q h s))
  case waits => exact commandUnit_busy (m := seen s t) ((walkBusy_of_sig hsig c).trans hbusy)
  case starts => exact commandUnit_free (m := seen s t) ((walkBusy_of_sig hsig c).trans hfree)
  case ends =>
    have hg := gives_of_runOn (i := .walkerNextCommand t) (t := t) hon (Eq.refl (execWalkerNextCommand t s))
    rwa [nextWalk_none_waiting (m := seen s t) hq] at hg
  case interlock =>
    have hg := gives_of_runOn (i := .interlockActive t n) (t := t) hon (Eq.refl (execInterlockActive t n s))
    rw [interlockHold_active (m := seen s t) hilk, subtree_of_sig hsig] at hg
    refine makes_of_gives hg fun j hj u hu => ⟨u.interlocked, ?_, u.interlocked_spec⟩
    refine (unitAt_foldl unitAt_holdUnit Unit.interlocked_interlocked (subtree s.m n) (seen s t) j).trans ?_
    rw [if_pos hj, show unitAt (seen s t) j = some u from hu]
    rfl
  case rollUp =>
    have hg := gives_of_runOn (i := .unitRollUp t n) (t := t) hon (Eq.refl (execUnitRollUp t n s))
    rwa [rollUp, lineage_of_sig hsig] at hg

/-! ### The roll-up (R65, R66) -/

/-- A roll-up writes its unit's alarm level and state word, and no other unit. -/
theorem unitAt_rollOne {m : Mod} {i : Nat} {u : Machine.Unit} (hu : unitAt m i = some u) (k : Nat) :
    unitAt (rollOne m i) k = if k = i then some { u with alarm := alarmOf m (subtree m i), word := stateWord m i } else unitAt m k := by
  rw [← unitAt_setUnit]
  simp only [rollOne, hu]
  split_ifs <;> simp

/-- The rules of the roll-up (R66). -/
theorem rollUpComputes_hold : Claims.RollUpComputes := by
  intro m i u hu
  refine ⟨⟨_, (unitAt_rollOne hu i).trans (if_pos rfl), rfl, rfl, rfl⟩, fun j hj => ?_⟩
  rw [unitAt_rollOne hu, if_neg hj]

/-- Settles O21: the judgement of a mode, the walk over a subtree, the commands, and the roll-up. -/
theorem unitModes : Obligations.UnitModes := ⟨modesAreJudged_hold, modeCommandsWalk_hold, unitCommands_hold, rollUpComputes_hold⟩

end Sys2Proof.Machine
end


section
/-! SUPPORT. Control flow and service requests of Driold code (R77, R80, R96, R101, R102, R105, R108, R109), and what an instruction may
change (R78, R79, R94). -/

open Sys2Proof.Claims

namespace Sys2Proof.Machine

/-! ### The task that runs on a core (R77) -/

/-- What runs on a core is a task that has the core, is RUNNING, and has something to run. -/
theorem running_of_runningOn {m : Mod} {core k : Nat} {v : Task} {i : Inst} (h : runningOn m core = some (k, v, i)) :
    tget m.pge.running core = some k ∧ taskAt m k = some v ∧ v.st = .running ∧ v.inst = some i := by
  unfold runningOn at h
  split_ifs at h
  split at h
  · cases h
  next j hj =>
    split at h
    · cases h
    next w hw =>
      split at h
      · next hst hinst =>
        obtain ⟨rfl, rfl, rfl⟩ : j = k ∧ w = v ∧ _ = i := by simpa using h
        exact ⟨hj, hw, hst, hinst⟩
      · cases h

theorem dicPge_idle {m : Mod} {core : Nat} (words steps : Nat) (f : Task → Inst → Task × Inst) (h : runningOn m core = none) :
    dicPge m core words steps f = m.pge := by simp only [dicPge, h]

theorem dicPge_running {m : Mod} {core k : Nat} {v : Task} {i : Inst} (words steps : Nat) (f : Task → Inst → Task × Inst)
    (h : runningOn m core = some (k, v, i)) : dicPge m core words steps f =
      { m.pge with tasks := tset m.pge.tasks k { (f v { i with pc := i.pc + words, steps := i.steps + steps }).1 with
        inst := some (loopEnd 9 (f v { i with pc := i.pc + words, steps := i.steps + steps }).2) } } := by
  simp only [dicPge, h]

theorem endPge_idle {m : Mod} {core : Nat} (h : runningOn m core = none) : endPge m core = m.pge := by simp only [endPge, h]

theorem endPge_running {m : Mod} {core k : Nat} {v : Task} {i : Inst} (h : runningOn m core = some (k, v, i)) : endPge m core =
    { m.pge with
      tasks := tset m.pge.tasks k { v with st := .committing, inst := some { i with pc := i.pc + 1, steps := i.steps + 1, began := m.clk } }
      running := tdel m.pge.running core } := by
  simp only [endPge, h]

/-! ### Loops and calls (R101, R102) -/

theorem loopEnd_no_loops {i : Inst} (n : Nat) (h : i.loops = []) : loopEnd n i = i := by cases n <;> simp [loopEnd, h]

section
variable {i : Inst} {f : LoopFrame} {rest : List LoopFrame}

/-- At the end of its body a loop with iterations left begins the next one (R101). -/
theorem loopEnd_next (n : Nat) (hloops : i.loops = f :: rest) (hdepth : f.depth = i.calls.length) (hpc : i.pc = f.stop)
    (hleft : f.idx + 1 < f.total) : loopEnd (n + 1) i = { i with pc := f.start, loops := { f with idx := f.idx + 1 } :: rest } := by
  simp [loopEnd, hloops, hdepth, hpc, hleft]

/-- After its last iteration a loop is left, and the one around it is looked at (R101). -/
theorem loopEnd_last (n : Nat) (hloops : i.loops = f :: rest) (hdepth : f.depth = i.calls.length) (hpc : i.pc = f.stop)
    (hdone : f.total ≤ f.idx + 1) : loopEnd (n + 1) i = loopEnd n { i with loops := rest } := by
  simp [loopEnd, hloops, hdepth, hpc, show ¬ f.idx + 1 < f.total by omega]

end

theorem enterLoop_none (i : Inst) (o : Nat) : (enterLoop i 0 o).pc = i.pc + o ∧ (enterLoop i 0 o).loops = i.loops := ⟨rfl, rfl⟩

theorem enterLoop_steps (i : Inst) (n o : Nat) : (enterLoop i n o).steps = i.steps + 2 * n := by
  unfold enterLoop; dsimp only; split_ifs <;> rfl

theorem enterLoop_some (i : Inst) {n o : Nat} (hn : 0 < n) (ho : 0 < o) : (enterLoop i n o).pc = i.pc ∧
    (enterLoop i n o).loops = { start := i.pc, stop := i.pc + o, total := n, idx := 0, depth := i.calls.length } :: i.loops := by
  have hbody : ¬ ((n = 0 || o = 0) = true) := by simp [hn.ne', ho.ne']
  constructor <;> simp only [enterLoop, if_neg hbody]

/-- LIDX reads the index of the innermost loop, and 0 outside every loop (R96). -/
theorem execDicLidx_eq (core d : Nat) (s : State) : execDicLidx core d s =
    s.dicReg core 1 1 d (fun _ _ i => { v := BitVec.ofNat 64 ((i.loops.head?.map LoopFrame.idx).getD 0), q := 0xC000 }) := by
  refine congrArg (s.dicReg core 1 1 d) (funext fun _ => funext fun _ => funext fun i => ?_)
  cases i.loops <;> rfl

/-- A return outside every loop goes on behind its call (R102). -/
theorem exec_dicRet {s : State} {core k r : Nat} {v : Task} {i : Inst} {rest : List Nat} (hrun : runningOn s.m core = some (k, v, i))
    (hcalls : i.calls = r :: rest) (hloops : i.loops = []) :
    exec (.dicRet core) s = .next { s with m := { s.m with pge := { s.m.pge with tasks := tset s.m.pge.tasks k { v with
      inst := some { i with pc := r, steps := i.steps + 1, calls := rest } } } } } := by
  change execDicRet core s = _
  rw [execDicRet, State.dic, dicPge_running _ _ _ hrun]
  simp only [hcalls, hloops, List.dropWhile_nil]
  rw [loopEnd_no_loops 9 rfl, ← hloops]

/-- END hands its task to the commit at this instant, and frees the core (R77, R80). -/
theorem exec_dicEnd {s : State} {core k : Nat} {v : Task} {i : Inst} (hrun : runningOn s.m core = some (k, v, i)) :
    ∃ u, exec (.dicEnd core) s = .next u ∧ (∃ y j, taskAt u.m k = some y ∧ y.st = .committing ∧ y.inst = some j ∧
      j.began = s.m.clk ∧ j.wbuf = i.wbuf ∧ j.reqs = i.reqs) ∧ tget u.m.pge.running core = none ∧
      (∀ n, n ≠ k → taskAt u.m n = taskAt s.m n) ∧ u.m.sig = s.m.sig ∧ u.pending = s.pending := by
  refine ⟨_, rfl, ?_⟩
  rw [endPge_running hrun]
  exact ⟨⟨_, _, tget_tset_same .., rfl, rfl, rfl, rfl, rfl⟩, by simp [tget_tdel], fun n hn => tget_tset_other _ _ _ _ hn, rfl, rfl⟩

/-- The rules of control flow (R96, R101, R102, R105). -/
theorem dicControl_holds : Claims.DicControl := by
  intro s core a d o x
  refine ⟨?br, ?brt, ?brf, ?loop, fun i => ⟨(enterLoop_none i o).1, (enterLoop_none i o).2, enterLoop_steps i x o, enterLoop_some i⟩,
    fun i f rest => loopEnd_next 8, fun i f hloops hpc hdepth hdone => ?left, ?lidx, ?call, fun k t i r rest => exec_dicRet, ?now,
    fun k t i => exec_dicEnd⟩
  case br => exact executes_of_dic (f := fun i => { i with pc := i.pc + o }) (Eq.refl (execDicBr core o s))
  case brt =>
    exact executes_of_dic (f := fun i => if bitOf (i.reg a).v.toNat 0 then { i with pc := i.pc + o } else i) (Eq.refl (execDicBrt core a o s))
  case brf =>
    exact executes_of_dic (f := fun i => if bitOf (i.reg a).v.toNat 0 then i else { i with pc := i.pc + o }) (Eq.refl (execDicBrf core a o s))
  case loop => exact executes_of_dic (f := fun i => enterLoop i (min (xIndex i a) x) o) (Eq.refl (execDicLoop core a o x s))
  case left => rw [loopEnd_last 8 hloops hdepth hpc hdone, loopEnd_no_loops 8 rfl]
  case lidx => exact executes_of_dicReg (execDicLidx_eq core d s)
  case call => exact executes_of_dic (f := fun i => { i with calls := i.pc :: i.calls, pc := o }) (Eq.refl (execDicCall core o s))
  case now => exact executes_of_dicReg (Eq.refl (execDicNow core d s))

/-! ### Service requests (R108, R109) -/

/-- What runs, with a service request queued: its number and V0 to V4, where fewer than 64 wait (R108, R109). -/
def Inst.queued (i : Inst) (n : Nat) : Inst :=
  if i.reqs.length < 64 then
    { i with reqs := i.reqs ++ [{ num := n, v0 := (i.reg 0).v, v1 := (i.reg 1).v, v2 := (i.reg 2).v, v3 := (i.reg 3).v, v4 := (i.reg 4).v }] }
  else i

theorem executes_of_sys {c : Instr} {s : State} {core n : Nat} (hi : exec c s = s.sys core n) :
    Executes c s core 1 4 (fun _ i => i.queued n) := executes_of_dic (f := fun i => i.queued n) hi

/-- Each service request queues its number (R108, R109). -/
theorem serviceRequests_hold : Claims.ServiceRequests := by
  intro s core c n hc
  suffices hi : exec c s = s.sys core n from executes_of_sys hi
  simp only [List.mem_cons, List.not_mem_nil, or_false, Prod.mk.injEq] at hc
  rcases hc with ⟨rfl, rfl⟩ | ⟨rfl, rfl⟩ | ⟨rfl, rfl⟩ | ⟨rfl, rfl⟩ | ⟨rfl, rfl⟩ | ⟨rfl, rfl⟩ | ⟨rfl, rfl⟩ | ⟨rfl, rfl⟩ | ⟨rfl, rfl⟩ |
    ⟨rfl, rfl⟩ | ⟨rfl, rfl⟩ <;> rfl

/-- Settles O33: control flow, and the service requests. -/
theorem dicControl : Obligations.DicControl := ⟨dicControl_holds, serviceRequests_hold⟩

/-! ### What an instruction may change (R78, R79, R94) -/

/-- A step of a core changes the task that runs there and nothing else; where none runs it changes nothing. -/
def KeepsToItsTask (core : Nat) (s u : State) : Prop :=
  { u with m := { u.m with pge := s.m.pge } } = s ∧ (∀ k, tget s.m.pge.running core ≠ some k → taskAt u.m k = taskAt s.m k) ∧
  (runningOn s.m core = none → u = s)

/-- A step that writes of the program engine's tasks the one that runs on its core keeps to it. -/
theorem keepsToItsTask_of_pge {s : State} {core : Nat} {p : PgeBlk} (hidle : runningOn s.m core = none → p = s.m.pge)
    (hrun : ∀ k v i, runningOn s.m core = some (k, v, i) → ∃ w, p.tasks = tset s.m.pge.tasks k w) :
    KeepsToItsTask core s { s with m := { s.m with pge := p } } := by
  refine ⟨rfl, fun k hk => ?_, fun h => by rw [hidle h]⟩
  show tget p.tasks k = _
  cases h : runningOn s.m core with
  | none => rw [hidle h]; rfl
  | some r =>
    obtain ⟨j, v, i⟩ := r
    obtain ⟨w, hw⟩ := hrun j v i h
    obtain ⟨hj, -⟩ := running_of_runningOn h
    rw [hw]
    exact tget_tset_other _ _ _ _ (fun hkj => hk (hkj ▸ hj))

theorem keepsToItsTask_dic (s : State) (core words steps : Nat) (f : Task → Inst → Task × Inst) :
    KeepsToItsTask core s { s with m := { s.m with pge := dicPge s.m core words steps f } } :=
  keepsToItsTask_of_pge (dicPge_idle _ _ _) (fun _ _ _ hrun => ⟨_, by rw [dicPge_running _ _ _ hrun]⟩)

theorem keepsToItsTask_end (s : State) (core : Nat) : KeepsToItsTask core s { s with m := { s.m with pge := endPge s.m core } } :=
  keepsToItsTask_of_pge endPge_idle (fun _ _ _ hrun => ⟨_, by rw [endPge_running hrun]⟩)

/-- Every instruction but END, every block and every service request is a step of its core (R96, R106, R108). -/
theorem exec_dic_or_end {c : Instr} {core : Nat} (hc : coreOf? c = some core) (s : State) :
    exec c s = execDicEnd core s ∨
    ∃ words steps f, exec c s = .next { s with m := { s.m with pge := dicPge s.m core words steps f } } := by
  cases c with
  | dicEnd => cases hc; exact .inl rfl
  | _ => cases hc <;> exact .inr ⟨_, _, _, rfl⟩

/-- Settles O6: each row of a core is a step of it or END, and both keep to the task that runs there. -/
theorem programFrame : Obligations.ProgramFrame := by
  intro c core s u hc hu
  rcases exec_dic_or_end hc s with hend | ⟨words, steps, f, hdic⟩
  · cases hend.symm.trans hu
    exact keepsToItsTask_end s core
  · cases hdic.symm.trans hu
    exact keepsToItsTask_dic s core words steps f

end Sys2Proof.Machine
end


section
/-! SUPPORT. The phases from a release to its commit, the order of ready tasks, and how what a release began ends (R71, R77 to R83, R91). -/

open Sys2Proof.Claims

namespace Sys2Proof.Machine

/-! ### Snapshot (R78, R81) -/

/-- Where no CONST value is taken yet, a snapshot takes the visible records of the read set (R78). -/
theorem takeSnap_of_none_taken {m : Mod} {v : Task} {i : Inst} (h : i.snap = []) : takeSnap m v i = v.rcd.reads.map (viewOf m) := by
  refine List.ext_getElem? fun n => ?_
  simp only [takeSnap, h, List.getElem?_nil, List.getElem?_mapIdx, List.getElem?_map]
  congr 1
  funext g
  split
  · next hnone => cases hnone
  · rfl

/-- A task in SNAPSHOT that need not wait becomes READY. -/
theorem gives_snapshotComplete {s : State} {t k : Nat} {v : Task} {i : Inst} (hon : On s) (hv : taskAt s.m k = some v) (hst : v.st = .snapshot)
    (hi : v.inst = some i) : Gives (.snapshotComplete t k) s t (if snapshotWaits s.m v i then seen s t
      else setTask (seen s t) k { v with st := .ready, inst := some { i with snap := takeSnap s.m v i } }) := by
  have hg := gives_of_runOn (i := .snapshotComplete t k) (t := t) hon (Eq.refl (execSnapshotComplete t k s))
  simp only [show taskAt (seen s t) k = some v from hv, hst, hi] at hg
  exact hg

/-! ### Dispatch (R71, R77, R82) -/

theorem runTask_spec (m : Mod) (core k : Nat) (v : Task) :
    taskAt (runTask m core k v) k = some { v with st := .running } ∧ tget (runTask m core k v).pge.running core = some k :=
  ⟨tget_tset_same .., tget_tset_same ..⟩

theorem taskAt_runTask_other (m : Mod) (core : Nat) {k j : Nat} (v : Task) (h : j ≠ k) : taskAt (runTask m core k v) j = taskAt m j :=
  tget_tset_other _ _ _ _ h

/-- The rules of the phases (R77, R78, R80 to R82). -/
theorem instancePhases_hold : Claims.InstancePhases := by
  intro s t k c v hon hv
  refine ⟨fun i hst hi hwaits hsnap => ?taken, fun i hst hi hwaits => ?waits, fun hfree hbest hpair => ?dispatch,
    fun j y hrun hy hbest hjk hrank => ?preempt⟩
  case taken =>
    have hg := gives_snapshotComplete (t := t) hon hv hst hi
    rw [if_neg (by simp [hwaits]), takeSnap_of_none_taken hsnap] at hg
    exact makes_of_gives hg (taskAt_setTask_same ..)
  case waits =>
    have hg := gives_snapshotComplete (t := t) hon hv hst hi
    rwa [if_pos hwaits] at hg
  case dispatch =>
    have hg := gives_of_runOn (i := .taskDispatch t c) hon (Eq.refl (execTaskDispatch t c s))
    simp only [show tget (seen s t).pge.running c = none from hfree, show bestReady (seen s t) c = some (k, v) from hbest] at hg
    rw [if_pos (show pairServes (seen s t) v = true from hpair)] at hg
    exact makes_of_gives hg (runTask_spec ..)
  case preempt =>
    have hg := gives_of_runOn (i := .taskPreemption t c) hon (Eq.refl (execTaskPreemption t c s))
    simp only [show tget (seen s t).pge.running c = some j from hrun, show bestReady (seen s t) c = some (k, v) from hbest,
      show taskAt (seen s t) j = some y from hy] at hg
    rw [if_pos hrank] at hg
    obtain ⟨htask, hcore⟩ := runTask_spec (setTask (seen s t) j { y with st := .ready }) c k v
    exact makes_of_gives hg ⟨htask, (taskAt_runTask_other _ _ _ hjk).trans (taskAt_setTask_same ..), hcore⟩

/-- The order of R71, key by key. -/
theorem readyOrder_holds : Claims.ReadyOrder := by
  intro j k x y a b hx hy
  simp only [rankKey, hx, hy, keyLt, Bool.or_eq_true, Bool.and_eq_true, decide_eq_true_eq, beq_iff_eq, Bool.false_eq_true, and_false, or_false]

/-- Settles O25: the phases from snapshot to core, and the order of ready tasks. -/
theorem taskOrder : Obligations.TaskOrder := ⟨instancePhases_hold, readyOrder_holds⟩

/-! ### Commit (R77, R79 to R81) -/

/-- Outside a triad an owner write of a given instant writes its record (R47, R50). -/
theorem ownerWriteAt_alone {m : Mod} {h : W32} (v : Val) (q : Qual) (x : W32) (w : BitVec 16) {r : SigRec} (hnull : h ≠ 0)
    (hr : sigAt m (hIdx h) = some r) (hconst : r.isConst = false) (hmode : m.tri.mode = 0) :
    ownerWriteAt m h v q x w = setSig m (hIdx h) (r.write v q x w) := by
  rw [ownerWriteAt, if_neg hnull]
  simp [hr, hconst, isVoted, isLed, hmode]

/-- A field that owner writes keep, the writes of a commit keep. -/
theorem commitWrites_field {γ : Type} (g : Mod → γ) (h : ∀ m a v q x w, g (ownerWriteAt m a v q x w) = g m) (m : Mod) (v : Task) (i : Inst) :
    g (commitWrites m v i) = g m :=
  foldl_field g _ (by intro m e; split; exacts [rfl, h ..]) _ _

@[simp] theorem commitWrites_pwr (m : Mod) (v : Task) (i : Inst) : (commitWrites m v i).pwr = m.pwr := commitWrites_field _ (by simp) m v i
@[simp] theorem commitWrites_lks (m : Mod) (v : Task) (i : Inst) : (commitWrites m v i).lks = m.lks := commitWrites_field _ (by simp) m v i

/-- A buffered record is written with the instant the commit began (R80). -/
theorem sigAt_commitWrites_one {m : Mod} {v : Task} {i : Inst} {h : W32} {z : VQ} {r : SigRec} (hmode : m.tri.mode = 0)
    (hwrites : v.rcd.writes = [h]) (hbuf : i.wbuf = [some z]) (hr : sigAt m (hIdx h) = some r) (hnull : h ≠ 0) (hconst : r.isConst = false) :
    ∃ x, sigAt (commitWrites m v i) (hIdx h) = some x ∧ x.val = z.v ∧ x.qual = z.q ∧ x.time = BitVec.ofNat 32 (nsAt m i.began) := by
  simp only [commitWrites, hmode, hwrites, hbuf, List.zip_cons_cons, List.zip_nil_right, List.foldl_cons, List.foldl_nil]
  rw [ownerWriteAt_alone _ _ _ _ hnull hr hconst hmode]
  exact ⟨_, sigAt_setSig_same .., rfl, rfl, rfl⟩

/-- An entry that nothing was stored in is not written (R79). -/
theorem commitWrites_none {m : Mod} {v : Task} {i : Inst} {h : W32} (hwrites : v.rcd.writes = [h]) (hbuf : i.wbuf = [none]) :
    commitWrites m v i = m := by
  simp [commitWrites, hwrites, hbuf]

/-- A task whose pair does not drain stays on it (R259). -/
theorem drainMove_of_not_draining {m : Mod} {k : Nat} {v : Task} (hv : taskAt m k = some v) (hpair : (pairOf m v.pair).st ≠ .draining) :
    drainMove m k = m := by
  simp [drainMove, hv, hpair]

theorem tryRelease_none_pending {m : Mod} {k : Nat} {v : Task} (hv : taskAt m k = some v) (hq : v.queue = []) : tryRelease m k = m := by
  simp [tryRelease, hv, hq]

theorem stopInstant_of_not_c0 {m : Mod} {k : Nat} {v : Task} (hv : taskAt m k = some v) (hc : v.rcd.cls ≠ 0) :
    stopInstant m k = setTask m k { v with stopAt := some m.clk, rideDone := false, window := sec m.nv.windowS } := by
  simp [stopInstant, hv, hc]

theorem applyEdits_none {v : Task} (h : v.edits = []) : applyEdits v = { v with edits := [] } := by simp [applyEdits, h]

/-- The task as a commit without requests and edits leaves it: IDLE, with the retained variables and block entries it ran with (R79, R80). -/
def Task.committed (v : Task) (i : Inst) : Task :=
  { v with st := .idle, inst := none, lastCommit := some i.release, results := [], retain := i.retain, fbi := i.fbi,
           stopAt := none, rideDone := false, edits := [] }

/-- After a commit with no release due, the task is IDLE, or STOPPED at a requested stop (R77). -/
theorem afterCommit_spec {m : Mod} {k : Nat} {v : Task} (hv : taskAt m k = some v) (hst : v.st = .idle) (hhalt : v.haltAtCommit = false)
    (hrun : m.pwr.st ≠ .hold) (hdef : v.deferred = none) (hq : v.queue = []) (hc0 : v.rcd.cls = 0 → v.stopReq = false) :
    (∀ j, sigAt (afterCommit m k) j = sigAt m j) ∧ ∃ x, taskAt (afterCommit m k) k = some x ∧ x.st = (if v.stopReq then .stopped else .idle) ∧
      x.inst = v.inst ∧ x.retain = v.retain ∧ x.fbi = v.fbi ∧ x.lastCommit = v.lastCommit := by
  cases hstop : v.stopReq with
  | true =>
    have hc : v.rcd.cls ≠ 0 := fun h => by simp [hc0 h] at hstop
    have hafter : afterCommit m k = stopInstant (setTask m k { v with st := .stopped, stopReq := false, deferred := none }) k := by
      simp [afterCommit, hv, hhalt, hstop]
    rw [hafter, stopInstant_of_not_c0 (v := { v with st := .stopped, stopReq := false, deferred := none }) (taskAt_setTask_same ..) hc]
    exact ⟨fun _ => rfl, _, taskAt_setTask_same .., rfl, rfl, rfl, rfl, rfl⟩
  | false =>
    have hafter : afterCommit m k = m := by
      simp [afterCommit, hv, hhalt, hstop, hrun, hdef, tryRelease_none_pending hv hq]
    rw [hafter]
    exact ⟨fun _ => rfl, v, hv, hst, rfl, rfl, rfl, rfl⟩

/-- A commit that need not wait, without requests and edits, gives its writes and the committed task, and then what comes after it. -/
theorem gives_commitComplete {s : State} {t k : Nat} {v : Task} {i : Inst} (hon : On s) (hv : taskAt s.m k = some v) (hst : v.st = .committing)
    (hi : v.inst = some i) (hwaits : commitWaits s.m v i = false) (hmode : s.m.tri.mode = 0) (hreqs : i.reqs = []) (hedits : v.edits = [])
    (hpair : (pairOf s.m v.pair).st = .joined) :
    Gives (.commitComplete t k) s t (afterCommit (setTask (commitWrites (seen s t) v i) k (v.committed i)) k) := by
  have hg := gives_of_runOn (i := .commitComplete t k) hon (Eq.refl (execCommitComplete t k s))
  simp only [show taskAt (seen s t) k = some v from hv, hst, hi] at hg
  rw [if_neg (by simp [show commitWaits (seen s t) v i = false from hwaits, show (seen s t).tri.mode = 0 from hmode]), hreqs,
    applyEdits_none (by exact hedits)] at hg
  have hstays : (pairOf (setTask (commitWrites (seen s t) v i) k (v.committed i)) v.pair).st ≠ .draining := by
    have hkept : pairOf (setTask (commitWrites (seen s t) v i) k (v.committed i)) v.pair = pairOf s.m v.pair := by simp [pairOf, seen]
    simp [hkept, hpair]
  rw [← drainMove_of_not_draining (v := v.committed i) (taskAt_setTask_same ..) hstays]
  exact hg

/-- The rules of a commit (R77, R79, R80). -/
theorem commitsWrite_hold : Claims.CommitsWrite := by
  intro s t k v i hon hv hst hi hwaits hmode hreqs hedits hdef hq hhalt hrun hpair hc0
  have hg := gives_commitComplete (t := t) hon hv hst hi hwaits hmode hreqs hedits hpair
  obtain ⟨hsig, x, hx, hxst, hxinst, hxretain, hxfbi, hxlast⟩ :=
    afterCommit_spec (m := setTask (commitWrites (seen s t) v i) k (v.committed i)) (taskAt_setTask_same ..) rfl hhalt (by simp [seen, hrun])
      hdef hq hc0
  refine makes_of_gives hg ⟨⟨x, hx, hxst, hxinst, hxretain, hxfbi, hxlast⟩, fun h z r hwrites hbuf hr hnull hconst => ?stored,
    fun h r hwrites hbuf hr => ?unstored⟩
  case stored =>
    obtain ⟨y, hy, hrest⟩ := sigAt_commitWrites_one (m := seen s t) hmode hwrites hbuf hr hnull hconst
    exact ⟨y, (hsig _).trans hy, hrest⟩
  case unstored =>
    have hwritten : commitWrites (seen s t) v i = seen s t := commitWrites_none hwrites hbuf
    exact (hsig _).trans ((congrArg (sigAt · (hIdx h)) hwritten).trans hr)

/-! ### Overruns (R83) -/

theorem regionOf_st_of_no_trial {m : Mod} (h : anyTrial m = false) (n : Nat) : (regionOf m n).st ≠ .trial := by
  unfold regionOf
  cases hr : m.nv.regions[n - 1]? with
  | none => decide
  | some r =>
    rw [anyTrial, List.any_eq_false] at h
    simpa using h r (List.mem_of_getElem? hr)

/-- Without a trial nothing falls back (R436). -/
theorem fallBackAll_of_no_trial {m : Mod} (h : anyTrial m = false) : fallBackAll m = m := by
  simp [fallBackAll, regionOf_st_of_no_trial h]

@[simp] theorem collect_regions (m : Mod) (f : FaultInfo) : (collect m f).nv.regions = m.nv.regions := by simp [collect]

/-- Without a trial a fault below F3 is collected, and nothing else comes of it (R390, R436). -/
theorem reportFault_no_trial {m : Mod} {f : FaultInfo} (hcls : f.cls ≠ 3) (h : anyTrial m = false) : reportFault m f = collect m f := by
  have hkept : anyTrial (collect m f) = false := by rwa [anyTrial, collect_regions]
  simp [reportFault, hcls, fallBackAll_of_no_trial hkept]

/-- A task below C0 that is HALTED drops what ran of it, and its ride-through window starts (R83, R301). -/
theorem haltTask_of_not_c0 {m : Mod} {k : Nat} {v : Task} (hv : taskAt m k = some v) (hc : v.rcd.cls ≠ 0) :
    haltTask m k = setTask (unrun (setTask m k (dropInst v .halted)) k) k
      { dropInst v .halted with stopAt := some m.clk, rideDone := false, window := sec m.nv.windowS } := by
  have hhalted : taskAt (unrun (setTask m k (dropInst v .halted)) k) k = some (dropInst v .halted) := taskAt_setTask_same ..
  simp only [haltTask, hv]
  exact stopInstant_of_not_c0 hhalted hc

theorem haltTask_spec {m : Mod} {k : Nat} {v : Task} (hv : taskAt m k = some v) (hc : v.rcd.cls ≠ 0) :
    (haltTask m k).sig = m.sig ∧ (haltTask m k).pge.aborts = m.pge.aborts ∧ ∃ x, taskAt (haltTask m k) k = some x ∧ x.st = .halted ∧ x.inst = none := by
  rw [haltTask_of_not_c0 hv hc]
  exact ⟨rfl, rfl, _, taskAt_setTask_same .., rfl, rfl⟩

/-- PGE_ABORT has a bit for each of 96 tasks (R91). -/
theorem bitOf_noteAbort {m : Mod} {k : Nat} (hk : k < 96) (hlen : m.pge.aborts.length = 3) :
    bitOf (((noteAbort m k).pge.aborts[k / 32]?).getD 0).toNat (k % 32) = true := by
  obtain ⟨w, hw⟩ : ∃ w, m.pge.aborts[k / 32]? = some w := ⟨_, List.getElem?_eq_getElem (by omega)⟩
  simp [noteAbort, lmod, hw, bitOf_setBit32_same w (k % 32) (by omega)]

/-- An abort of a task below C0 halts it, sets its bit and raises its fault, and no signal is written (R83). -/
theorem abortTask_spec {m : Mod} {k src : Nat} {v : Task} (hv : taskAt m k = some v) (hc : v.rcd.cls ≠ 0) (hk : k < 96)
    (hlen : m.pge.aborts.length = 3) (htrial : anyTrial m = false) (hsrc : src < 64) :
    (abortTask m k v src).sig.sigs = m.sig.sigs ∧ bitOf (((abortTask m k v src).pge.aborts[k / 32]?).getD 0).toNat (k % 32) = true ∧
    bitOf (abortTask m k v src).flt.active.toNat src = true ∧ ∃ x, taskAt (abortTask m k v src) k = some x ∧ x.st = .halted ∧ x.inst = none := by
  obtain ⟨hsig, haborts, x, hx, hspec⟩ := haltTask_spec (m := noteAbort m k) hv hc
  have hkept : anyTrial (haltTask (noteAbort m k) k) = false := by rw [anyTrial, haltTask_nv]; exact htrial
  have hcls : (if v.rcd.cls = 1 then 2 else 1) ≠ 3 := by split_ifs <;> decide
  simp only [abortTask, if_neg hc]
  rw [reportFault_no_trial hcls hkept]
  refine ⟨by rw [collect_sig, hsig]; rfl, ?_, collect_sets_active _ (faultOf src _ _ _ _ _ _) hsrc, x, ?_, hspec⟩
  · rw [collect_pge, haborts]; exact bitOf_noteAbort hk hlen
  · rw [taskAt_of_pge (collect_pge ..)]; exact hx

/-- The rules of overruns (R83). -/
theorem overrunsAbort_hold : Claims.OverrunsAbort := by
  intro s t k v i hon hv hi hc hk hlen htrial
  refine ⟨fun hst hsteps => ?budget, fun hcls hbusy hst hlate => ?deadline⟩
  case budget =>
    have hg := gives_of_runOn (i := .stepBudgetExhausted t k) hon (Eq.refl (execStepBudgetExhausted t k s))
    simp only [show taskAt (seen s t) k = some v from hv, hst, hi] at hg
    rw [if_pos hsteps] at hg
    exact makes_of_gives hg (abortTask_spec (m := seen s t) hv hc hk hlen htrial (by decide))
  case deadline =>
    have hg := gives_of_runOn (i := .deadlineExpiry t k) hon (Eq.refl (execDeadlineExpiry t k s))
    simp only [show taskAt (seen s t) k = some v from hv, hi] at hg
    rw [if_pos (by simpa [hcls, hbusy, hst, us, Nat.mul_comm] using hlate)] at hg
    exact makes_of_gives hg (abortTask_spec (m := seen s t) hv hc hk hlen htrial (by decide))

/-- Settles O26: commits, and the aborts of R83. -/
theorem taskEnds : Obligations.TaskEnds := ⟨commitsWrite_hold, overrunsAbort_hold⟩

end Sys2Proof.Machine
end


section
/-! SUPPORT. The first entry to RUN and the stops of HOLD (R74, R291, R297 to R299, R301, R303, R309, R320). -/

open Sys2Proof.Claims

namespace Sys2Proof.Machine

/-! ### What the entry to RUN starts (R176, R297, R309) -/

theorem enableLoop_field {γ : Type} (g : Mod → γ) (h : ∀ m n l, g (setLoop m n l) = g m) (m : Mod) (n : Nat) (b : Bool) :
    g (enableLoop m n b) = g m := by
  unfold enableLoop
  split
  · rfl
  · split_ifs
    · rfl
    · exact h ..
    · exact h ..

@[simp] theorem enableLoop_pwr (m : Mod) (n : Nat) (b : Bool) : (enableLoop m n b).pwr = m.pwr := enableLoop_field Mod.pwr (by intros; rfl) m n b
@[simp] theorem enableLoop_pln (m : Mod) (n : Nat) (b : Bool) : (enableLoop m n b).pln = m.pln := enableLoop_field Mod.pln (by intros; rfl) m n b

@[simp] theorem startTier_begun (m : Mod) (n : Nat) : (startTier m n).rcr.begun = m.rcr.begun := by
  unfold startTier setTier; dsimp only; (repeat' split) <;> rfl

@[simp] theorem startTiers_begun (m : Mod) : (startTiers m).rcr.begun = m.rcr.begun := by simp [startTiers]

/-- The power states and the plans, which the work of an entry to RUN leaves to its first steps. -/
def entryRecords (m : Mod) : PwrBlk × PlnBlk := (m.pwr, m.pln)

theorem entryRecords_realigned (c : Prop) [Decidable c] (m : Mod) : entryRecords (if c then m else frameRealign m) = entryRecords m := by
  split_ifs <;> rfl

/-- The power states at the first entry to RUN (R74, R291, R297, R298). -/
def PwrBlk.entered (m : Mod) : PwrBlk :=
  { m.pwr with
    st := .run, starting := false, runAsked := false, cmd := none, firstRun := some m.clk, events := setBit32 m.pwr.events 0,
    epoch := if m.tri.seat = 0 then nowNs m else m.pwr.epoch }

/-- The entry takes up the plans, and with none of them refused nothing falls back (R160, R297, R309). -/
theorem enterRun_spec {m : Mod} (h : bitOf (resumePlans m).pln.events.toNat 2 = false) :
    (enterRun m).pwr = PwrBlk.entered m ∧ (enterRun m).pln = (resumePlans m).pln ∧ (enterRun m).rcr.begun = true := by
  unfold enterRun
  dsimp only
  generalize hn : List.foldl _ (List.foldl _ (postOpt _ _ _) _) _ = n
  have hkept : entryRecords n = (PwrBlk.entered m, (resumePlans m).pln) := by
    rw [← hn]
    refine (foldl_field entryRecords _ (fun m e => by simp [entryRecords, startTask]) _ _).trans
      ((foldl_field entryRecords _ (fun m e => by simp [entryRecords]) _ _).trans ?_)
    simp only [entryRecords, postOpt_pwr, postOpt_pln]
    exact entryRecords_realigned ..
  obtain ⟨hpwr, hpln⟩ : n.pwr = _ ∧ n.pln = _ := by simpa [entryRecords] using hkept
  simp [hpwr, hpln, h]

/-- The first entry to RUN (R74, R291, R297, R298, R309). -/
theorem firstEntryToRun_holds : Claims.FirstEntryToRun := by
  intro s t hst hstart hconds hheld hask hinstant hplans
  have hon : On s := by simp [On, hst]
  have hask' : ((seen s t).nv.autoRun || (seen s t).pwr.runAsked) = true := Bool.or_eq_true_iff.2 hask
  have hg := gives_of_runOn (i := .enterRun t) hon (Eq.refl (execEnterRun t s))
  rw [if_pos (by
    rw [hconds, hheld, hask', hinstant, show (seen s t).pwr.st = .hold from hst, show (seen s t).pwr.starting = true from hstart]; rfl)] at hg
  obtain ⟨hpwr, hpln, hbegun⟩ := enterRun_spec hplans
  refine makes_of_gives hg ?_
  simp only [hpwr, hpln, hbegun]
  exact ⟨rfl, rfl, rfl, bitOf_setBit32_same _ _ (by decide), trivial, trivial, rfl⟩

/-! ### The stops of HOLD (R299, R301) -/

theorem skipRelease_clk (m : Mod) (k : Nat) {cls : Nat} (hcls : cls < 2) : (skipRelease m k cls).clk = m.clk := by
  unfold skipRelease
  split
  · rfl
  next v _ =>
    rw [reportFault_minor (show (faultOf 0x05 cls k (BitVec.ofNat 16 (0x0100 + v.pair)) 5 v.rcd.cls).cls < 2 from hcls), collect_clk]
    split <;> rfl

/-- What is abandoned in HOLD is a skipped release (R83), and its task stops (R299). -/
theorem taskAt_holdAbandon {m : Mod} {k : Nat} {v : Task} (hc : 2 ≤ v.rcd.cls) :
    ∃ w, taskAt (stopInstant (unrun (skipRelease (setTask m k (dropInst v .idle)) k 0) k) k) k = some w ∧ w.inst = none ∧ w.st = .idle ∧
      w.stopAt = some m.clk := by
  obtain ⟨htask, -, -⟩ := skipRelease_spec (m := setTask m k (dropInst v .idle)) (cls := 0) (taskAt_setTask_same ..) (by decide)
  have hstop := taskAt_stopInstant (m := unrun (skipRelease (setTask m k (dropInst v .idle)) k 0) k) htask
    (show v.rcd.cls ≠ 0 by omega)
  exact ⟨_, hstop, rfl, rfl, congrArg some (skipRelease_clk _ k (by decide))⟩

theorem pairOf_setPair (m : Mod) (p j : Nat) (x : Pair) : pairOf (setPair m p x) j = if j = p then x else pairOf m j := by
  simp only [pairOf, setPair_pairs, tget_tset]
  split_ifs <;> rfl

/-- The application pairs stop, and no other pair. -/
theorem pairOf_foldl_stop (st : PairSt) (ps : List Nat) (m : Mod) {p : Nat} (hp : p ∈ ps ∨ (pairOf m p).st = st) :
    (pairOf (ps.foldl (fun m p => setPair m p { pairOf m p with st := st, req := none }) m) p).st = st := by
  induction ps generalizing m with
  | nil => simpa using hp
  | cons q ps ih =>
    refine ih _ ?_
    rw [pairOf_setPair]
    by_cases hq : p = q
    · right; rw [if_pos hq]
    · rw [if_neg hq]; simpa [hq] using hp

theorem pairOf_stopPairs (m : Mod) (st : PairSt) {p : Nat} (hp : p < 6) : (pairOf (stopPairs m st) p).st = st :=
  pairOf_foldl_stop st _ m (.inl (List.mem_range.2 hp))

theorem pairOf_of_lks {m m' : Mod} (h : m'.lks = m.lks) (p : Nat) : pairOf m' p = pairOf m p := by rw [pairOf, h, pairOf]

/-- The pairs stop once every task has (R299). -/
theorem gives_pairsStopped {s : State} {t x : Nat} (hst : s.m.pwr.st = .hold) (hstart : s.m.pwr.starting = false) (hat : s.m.pwr.holdAt = some x)
    (hstopped : allStopped s.m = true) :
    ∃ m, Gives (.pairsStopped t) s t m ∧ m.lks = (stopPairs (seen s t) (if s.m.pwr.program then .selftest else .down)).lks := by
  have hg := gives_of_runOn (i := .pairsStopped t) (t := t) (show On s by simp [On, hst]) (Eq.refl (execPairsStopped t s))
  rw [if_pos (by
    rw [show allStopped (seen s t) = true from hstopped, show (seen s t).pwr.st = .hold from hst,
      show (seen s t).pwr.starting = false from hstart, show (seen s t).pwr.holdAt = some x from hat]; rfl)] at hg
  refine ⟨_, hg, ?_⟩
  dsimp only
  split
  · rw [postOpt_lks]; rfl
  · rfl

/-- The end of a stopped task's window (R301, R303, R400). -/
theorem gives_rideThroughExpiry {s : State} {t k x : Nat} {v : Task} (hst : s.m.pwr.st = .hold) (hv : taskAt s.m k = some v)
    (hstop : v.stopAt = some x) (hc : v.rcd.cls ≠ 0) (hride : v.rideDone = false) (hlate : x + v.window ≤ max s.m.clk t) :
    ∃ m, Gives (.rideThroughExpiry t k) s t m ∧ m.sig = (staleTask (seen s t) k).sig ∧ m.pwr.rideExpired = true := by
  have hg := gives_of_runOn (i := .rideThroughExpiry t k) (show On s by simp [On, hst]) (Eq.refl (execRideThroughExpiry t k s))
  simp only [show taskAt (seen s t) k = some v from hv, hstop] at hg
  rw [if_pos (by simpa [hc, hride] using (show x + v.window ≤ (seen s t).clk from hlate))] at hg
  refine ⟨_, hg, ?_⟩
  have hhold : ∀ w, (staleTask (setTask (seen s t) k w) k).pwr.st = .hold := fun _ => hst
  rw [hhold, if_pos (beq_self_eq_true _)]
  split
  · exact ⟨rfl, rfl⟩
  · rw [stopAlive_sig, stopAlive_pwr]
    exact ⟨rfl, rfl⟩

/-- The signals a task owns go BAD, STALE with their values and times (R300, R301). -/
theorem sigAt_staleTask {m : Mod} {k i : Nat} {r : SigRec} (hr : sigAt m i = some r) (hkind : r.ownKind = 4) (hid : r.ownId = k) :
    sigAt (staleTask m k) i = some r.toStale := by
  simp only [sigAt, staleTask, staleOwned, tget_tmap, show tget m.sig.sigs i = some r from hr, Option.map_some]
  simp [hkind, hid]

/-- The stops of HOLD (R299, R301). -/
theorem holdStopsTasks_hold : Claims.HoldStopsTasks := by
  intro s t k x v hst hv
  refine ⟨fun hat hlate hc hbusy => ?abandon, fun hstart hat hstopped => ?pairs, fun hstop hc hride hlate => ?window⟩
  case abandon =>
    have hg := gives_of_runOn (i := .holdAbandon t k) (show On s by simp [On, hst]) (Eq.refl (execHoldAbandon t k s))
    simp only [show (seen s t).pwr.st = .hold from hst, show (seen s t).pwr.holdAt = some x from hat,
      show taskAt (seen s t) k = some v from hv] at hg
    have hdue : (decide (x + ms 100 ≤ (seen s t).clk) && decide (v.rcd.cls ≥ 2) && v.busy) = true := by
      rw [hbusy, decide_eq_true hc, decide_eq_true (show x + ms 100 ≤ (seen s t).clk from hlate)]; rfl
    rw [if_pos hdue] at hg
    exact makes_of_gives hg (taskAt_holdAbandon (m := seen s t) hc)
  case pairs =>
    obtain ⟨m, hg, hlks⟩ := gives_pairsStopped (t := t) hst hstart hat hstopped
    exact makes_of_gives hg fun p hp => (congrArg Pair.st (pairOf_of_lks hlks p)).trans (pairOf_stopPairs _ _ hp)
  case window =>
    obtain ⟨m, hg, hsig, hexpired⟩ := gives_rideThroughExpiry hst hv hstop hc hride hlate
    refine makes_of_gives hg ⟨hexpired, fun i r hr hkind hid => ⟨r.toStale, ?_, rfl, rfl, rfl, rfl⟩⟩
    show tget m.sig.sigs i = _
    rw [hsig]
    exact sigAt_staleTask (m := seen s t) hr hkind hid

/-- Settles O12: the first entry to RUN, and the stops of HOLD. -/
theorem runAndHold : Obligations.RunAndHold := ⟨firstEntryToRun_holds, holdStopsTasks_hold⟩

end Sys2Proof.Machine
end


section
/-! SUPPORT. Loads, stores, immediates, moves, arithmetic and bitwise instructions of Driold code (R94 to R98, R100, R103). -/

open Sys2Proof.Claims

namespace Sys2Proof.Machine

/-! ### What an instruction leaves of its task (R77, R96) -/

/-- The state with task `k` of the program engine as `v`. -/
def State.putTask (s : State) (k : Nat) (v : Task) : State :=
  { s with m := { s.m with pge := { s.m.pge with tasks := tset s.m.pge.tasks k v } } }

/-- What runs, gone on past an instruction of `words` words and `steps` steps (R77, R96). -/
def Inst.past (i : Inst) (words steps : Nat) : Inst := { i with pc := i.pc + words, steps := i.steps + steps }

section
variable (i : Inst) (words steps : Nat)

@[simp] theorem past_xIndex (a : Nat) : xIndex (i.past words steps) a = xIndex i a := rfl
@[simp] theorem past_snap : (i.past words steps).snap = i.snap := rfl
@[simp] theorem past_release : (i.past words steps).release = i.release := rfl
@[simp] theorem past_steps : (i.past words steps).steps = i.steps + steps := rfl

end

/-- The next state of an instruction of which `v` is left of its task and `j` of what runs (R77, R103). -/
theorem exec_of_dic {ins : Instr} {s : State} {core words steps k : Nat} {t v : Task} {i j : Inst} {f : Mod → Task → Inst → Task × Inst}
    (hi : exec ins s = s.dic core words steps f) (hrun : runningOn s.m core = some (k, t, i)) (hf : f s.m t (i.past words steps) = (v, j)) :
    exec ins s = .next (s.putTask k { v with inst := some (loopEnd 9 j) }) := by
  rw [hi, State.dic, dicPge_running _ _ _ hrun]
  change Host.Outcome.next (s.putTask k { (f s.m t (i.past words steps)).1 with inst := some (loopEnd 9 (f s.m t (i.past words steps)).2) }) = _
  rw [hf]

theorem exec_of_dicReg {ins : Instr} {s : State} {core words steps d k : Nat} {t : Task} {i : Inst} {x : Mod → Task → Inst → VQ} {y : VQ}
    (hi : exec ins s = s.dicReg core words steps d x) (hrun : runningOn s.m core = some (k, t, i)) (hx : x s.m t (i.past words steps) = y) :
    exec ins s = .next (s.putTask k { t with inst := some (loopEnd 9 ((i.past words steps).setReg d y)) }) :=
  exec_of_dic hi hrun (by rw [hx])

/-- An instruction that reads the module and its task, and changes only what runs of the task. -/
theorem executes_of_dicMod {ins : Instr} {s : State} {core words steps : Nat} {f : Mod → Task → Inst → Inst}
    (hi : exec ins s = s.dic core words steps (fun m t i => (t, f m t i))) : Executes ins s core words steps (f s.m) :=
  fun _ _ _ hrun => exec_of_dic hi hrun rfl

/-- An instruction that writes register `d` alone, its step cost and its result said in other words. -/
theorem executes_of_dicReg_eq {ins : Instr} {s : State} {core words cost steps d : Nat} {x y : Inst → VQ}
    (hi : exec ins s = s.dicReg core words cost d (fun _ _ i => x i)) (hcost : cost = steps) (hxy : ∀ i, x i = y i) :
    Executes ins s core words steps (fun _ i => i.setReg d (y i)) := by
  obtain rfl : x = y := funext hxy
  subst hcost
  exact executes_of_dicReg hi

/-! ### Indexed loads and stores, and the time of an entry (R96, R103) -/

section
variable {s : State} {core k : Nat} {t : Task} {i : Inst} (ty d : Nat) {a : Nat} (sp base : Nat) {len : Nat}
  (hrun : runningOn s.m core = some (k, t, i))
include hrun

/-- LDX within LENGTH loads the entry. -/
theorem exec_dicLdx_of_lt (hx : xIndex i a < len) : exec (.dicLdx core ty d a sp base len) s =
    .next (s.putTask k { t with inst := some (loopEnd 9 ((i.past 2 3).setReg d
      (if sp = 5 then loadEntry s.m t i sp (base + xIndex i a) else (loadEntry s.m t i sp (base + xIndex i a)).typed ty))) }) :=
  exec_of_dic (ins := .dicLdx core ty d a sp base len) (Eq.refl (execDicLdx core ty d a sp base len s)) hrun (if_pos hx)

/-- LDX beyond LENGTH loads zero, BAD, and counts in RANGE. -/
theorem exec_dicLdx_of_le (hx : len ≤ xIndex i a) : exec (.dicLdx core ty d a sp base len) s =
    .next (s.putTask k { t with range := satInc t.range, inst := some (loopEnd 9 ((i.past 2 3).setReg d { v := 0, q := 0x0000 })) }) :=
  exec_of_dic (ins := .dicLdx core ty d a sp base len) (Eq.refl (execDicLdx core ty d a sp base len s)) hrun (if_neg (Nat.not_lt.2 hx))

/-- STX within LENGTH stores the register. -/
theorem exec_dicStx_of_lt (hx : xIndex i a < len) : exec (.dicStx core ty d a sp base len) s =
    .next (s.putTask k { t with inst := some (loopEnd 9 (storeEntry (i.past 2 3) sp (base + xIndex i a) ((i.reg d).typed ty))) }) :=
  exec_of_dic (ins := .dicStx core ty d a sp base len) (Eq.refl (execDicStx core ty d a sp base len s)) hrun (if_pos hx)

/-- STX beyond LENGTH stores nothing and counts in RANGE. -/
theorem exec_dicStx_of_le (hx : len ≤ xIndex i a) : exec (.dicStx core ty d a sp base len) s =
    .next (s.putTask k { t with range := satInc t.range, inst := some (loopEnd 9 (i.past 2 3)) }) :=
  exec_of_dic (ins := .dicStx core ty d a sp base len) (Eq.refl (execDicStx core ty d a sp base len s)) hrun (if_neg (Nat.not_lt.2 hx))

/-- TGET reads the time and the quality of an entry of the snapshot. -/
theorem exec_dicTget {e : View} {ix : Nat} (he : i.snap[ix]? = some e) : exec (.dicTget core d ix) s =
    .next (s.putTask k { t with inst := some (loopEnd 9 ((i.past 1 2).setReg d
      { v := extendTime (BitVec.ofNat 32 (i.release / 2 ^ 32)) e.time e.wrap, q := e.qual })) }) := by
  refine exec_of_dicReg (ins := .dicTget core d ix) (Eq.refl (execDicTget core d ix s)) hrun ?_
  simp only [past_snap, he, past_release]

end

/-! ### Loads, stores, immediates and moves (R94 to R96, R100) -/

/-- A result under its TYPE keeps its quality (R38, R100). -/
theorem typed_eq (x : VQ) (ty : Nat) : x.typed ty = { v := encodeVal ty x.v, q := x.q } := rfl

/-- LDI16 extends its immediate by the sign for INT32 and INT64 alone (R95). -/
theorem executes_dicLdi16 (s : State) (core ty d : Nat) (x : BitVec 16) : Executes (.dicLdi16 core ty d x) s core 1 1
    (fun _ i => i.setReg d { v := encodeVal ty (if ty = 1 ∨ ty = 3 then x.signExtend 64 else x.zeroExtend 64), q := 0xC000 }) :=
  executes_of_dicReg_eq (Eq.refl (execDicLdi16 core ty d x s)) rfl fun i => by simp [typed_eq]

theorem executes_dicSt (s : State) (core ty d sp ix : Nat) :
    Executes (.dicSt core ty d sp ix) s core 1 2 (fun _ i => storeEntry i sp ix ((i.reg d).typed ty)) :=
  executes_of_dic (f := fun i => storeEntry i sp ix ((i.reg d).typed ty)) (Eq.refl (execDicSt core ty d sp ix s))

/-- Settles O29: each load, store and move does its effect to what runs; the indexed forms by their index. -/
theorem dicMoves : Obligations.DicMoves := by
  intro s core ty d a sp ix base len x16 x32 x64
  refine ⟨?nop, ?ld, executes_dicSt s core ty d 1 ix, executes_dicSt s core ty d 2 ix, executes_dicSt s core ty d 4 ix,
    fun k t i => exec_dicLdx_of_lt ty d sp base, fun k t i hrun hx => ⟨exec_dicLdx_of_le ty d sp base hrun hx, exec_dicStx_of_le ty d sp base hrun hx⟩,
    fun k t i => exec_dicStx_of_lt ty d sp base, fun hty => ?signed, fun h1 h3 => ?unsigned, ?ldi32, ?ldi64, ?mov,
    fun k t i e hrun => exec_dicTget d hrun⟩
  case nop => exact executes_of_dic (f := id) (Eq.refl (execDicNop core s))
  case ld =>
    exact executes_of_dicMod (f := fun m t i => i.setReg d (if sp = 5 then loadEntry m t i sp ix else (loadEntry m t i sp ix).typed ty))
      (Eq.refl (execDicLd core ty d sp ix s))
  case signed => simpa only [if_pos hty] using executes_dicLdi16 s core ty d x16
  case unsigned => simpa only [h1, h3, or_self, if_false] using executes_dicLdi16 s core ty d x16
  case ldi32 => exact executes_of_dicReg (Eq.refl (execDicLdi32 core ty d x32 s))
  case ldi64 => exact executes_of_dicReg (Eq.refl (execDicLdi64 core ty d x64 s))
  case mov => exact executes_of_dicReg (Eq.refl (execDicMov core ty d a s))

/-! ### The integer types (R38, R98) -/

theorem tyReal_eq_true_iff {ty : Nat} : tyReal ty = true ↔ ty = 4 ∨ ty = 5 := by simp [tyReal]
theorem tyReal_eq_false_iff {ty : Nat} : tyReal ty = false ↔ ty ≠ 4 ∧ ty ≠ 5 := by simp [tyReal]

theorem tyMin_le_tyMax (ty : Nat) : tyMin ty ≤ tyMax ty := by
  unfold tyMin tyMax
  split <;> split <;> omega

/-- A number within the limits of an integer type is held exactly (R38). -/
theorem asInt_ofInt {ty : Nat} {x : Int} (hty : tyReal ty = false) (hlo : tyMin ty ≤ x) (hhi : x ≤ tyMax ty) :
    asInt ty (BitVec.ofInt 64 x) = x := by
  obtain ⟨h4, h5⟩ := tyReal_eq_false_iff.1 hty
  match ty with
  | 0 | 6 | 7 | n + 8 => simp only [asInt, tyMin, tyMax, BitVec.toNat_ofInt] at *; omega
  | 1 | 2 | 3 =>
    simp only [asInt, tyMin, tyMax, BitVec.truncate_eq_setWidth, BitVec.toInt_setWidth, BitVec.toNat_setWidth, BitVec.toNat_ofInt,
      BitVec.toInt_ofInt, Int.bmod_def] at *
    omega

/-- The value a saturated result holds is the nearest one its type has (R98). -/
theorem asInt_satVal {ty : Nat} (x : Int) (q : Qual) (hty : tyReal ty = false) :
    asInt ty (satVal ty x q).v = max (tyMin ty) (min x (tyMax ty)) := by
  have hle := tyMin_le_tyMax ty
  unfold satVal
  split_ifs with hlo hhi
  · rw [asInt_ofInt hty le_rfl hle]; omega
  · rw [asInt_ofInt hty hle le_rfl]; omega
  · rw [asInt_ofInt hty (not_lt.1 hlo) (not_lt.1 hhi)]; omega

theorem satVal_in_range {ty : Nat} {x : Int} (q : Qual) (hlo : tyMin ty ≤ x) (hhi : x ≤ tyMax ty) :
    satVal ty x q = { v := BitVec.ofInt 64 x, q := q } := by rw [satVal, if_neg (by omega), if_neg (by omega)]

/-- A result beyond the limits is UNCERTAIN at best (R98). -/
theorem satVal_q_out_of_range {ty : Nat} {x : Int} (q : Qual) (h : x < tyMin ty ∨ tyMax ty < x) : (satVal ty x q).q = worse q 0x4000 := by
  unfold satVal
  split_ifs with hlo hhi
  · rfl
  · rfl
  · exact absurd h (by simp [hlo, hhi])

/-- Integer results saturate (R98). -/
theorem integersSaturate_holds : Claims.IntegersSaturate := fun ty x q hty =>
  ⟨asInt_satVal x q hty, fun hlo hhi => by rw [satVal_in_range q hlo hhi], satVal_q_out_of_range q⟩

/-! ### Integer arithmetic (R96 to R98, R100) -/

section
variable {ty : Nat} (hty : tyReal ty = false)
include hty

theorem addCost_of_not_real : addCost ty = 1 := by
  obtain ⟨h4, h5⟩ := tyReal_eq_false_iff.1 hty
  rw [addCost, if_neg h4, if_neg h5]

theorem mulCost_of_not_real : mulCost ty = if ty = 3 then 3 else 2 := by
  obtain ⟨-, h5⟩ := tyReal_eq_false_iff.1 hty
  rw [mulCost, if_neg h5]

theorem divCost_of_not_real : divCost ty = if ty = 3 then 16 else 8 := by
  obtain ⟨-, h5⟩ := tyReal_eq_false_iff.1 hty
  simp [divCost, h5]

theorem arith_of_not_real (r : Fmt → Nat → Nat → Nat) (z : Int → Int → Int) (x y : VQ) :
    arith ty r z x y = satVal ty (z (asInt ty x.v) (asInt ty y.v)) (worse x.q y.q) := by simp [arith, hty]

/-- A division by zero gives 0, BAD (R98). -/
theorem divVQ_of_not_real (x y : VQ) : divVQ ty x y = if asInt ty y.v = 0 then { v := 0, q := 0x0000 }
    else satVal ty (Int.tdiv (asInt ty x.v) (asInt ty y.v)) (worse x.q y.q) := by simp [divVQ, hty, arith_of_not_real hty]

/-- LIM with its limits crossed is UNCERTAIN (R98). -/
theorem limVQ_of_not_real (x lo hi : VQ) : limVQ ty x lo hi =
    satVal ty (min (max (asInt ty x.v) (asInt ty lo.v)) (asInt ty hi.v)) (if asInt ty hi.v < asInt ty lo.v
      then worse (worse x.q (worse lo.q hi.q)) 0x4000 else worse x.q (worse lo.q hi.q)) := by simp [limVQ, hty]

end

/-- The rules of integer arithmetic (R96 to R98, R100). -/
theorem dicIntegers_hold : Claims.DicIntegers := by
  intro s core ty d a b hty
  refine ⟨?add, ?sub, ?mul, ?div, ?mod, ?neg, ?abs, ?min, ?max, ?lim⟩
  case add => exact executes_of_dicReg_eq (Eq.refl (execDicAdd core ty d a b s)) (addCost_of_not_real hty) fun i => arith_of_not_real hty ..
  case sub => exact executes_of_dicReg_eq (Eq.refl (execDicSub core ty d a b s)) (addCost_of_not_real hty) fun i => arith_of_not_real hty ..
  case mul => exact executes_of_dicReg_eq (Eq.refl (execDicMul core ty d a b s)) (mulCost_of_not_real hty) fun i => arith_of_not_real hty ..
  case div => exact executes_of_dicReg_eq (Eq.refl (execDicDiv core ty d a b s)) (divCost_of_not_real hty) fun i => divVQ_of_not_real hty ..
  case mod => exact executes_of_dicReg_eq (Eq.refl (execDicMod core ty d a b s)) (divCost_of_not_real hty) fun i => rfl
  case neg => exact executes_of_dicReg_eq (Eq.refl (execDicNeg core ty d a s)) rfl fun i => if_neg (by simp [hty])
  case abs => exact executes_of_dicReg_eq (Eq.refl (execDicAbs core ty d a s)) rfl fun i => if_neg (by simp [hty])
  case min => exact executes_of_dicReg_eq (Eq.refl (execDicMin core ty d a b s)) (cmpCost_of_not_real hty) fun i => arith_of_not_real hty ..
  case max => exact executes_of_dicReg_eq (Eq.refl (execDicMax core ty d a b s)) (cmpCost_of_not_real hty) fun i => arith_of_not_real hty ..
  case lim => exact executes_of_dicReg_eq (Eq.refl (execDicLim core ty d a b s)) (cmpCost_of_not_real hty) fun i => limVQ_of_not_real hty ..

/-- Settles O30: saturation, and the instructions by their results. -/
theorem dicIntegers : Obligations.DicIntegers := ⟨integersSaturate_holds, dicIntegers_hold⟩

/-! ### Real arithmetic (R96 to R98, R100) -/

section
variable {ty : Nat} (hty : ty = 4 ∨ ty = 5)
include hty

theorem addCost_of_real : addCost ty = if ty = 4 then 2 else 3 := by rcases hty with rfl | rfl <;> rfl
theorem mulCost_of_real : mulCost ty = if ty = 4 then 2 else 4 := by rcases hty with rfl | rfl <;> rfl
theorem divCost_of_real : divCost ty = if ty = 4 then 8 else 16 := by rcases hty with rfl | rfl <;> rfl

theorem arith_of_real (r : Fmt → Nat → Nat → Nat) (z : Int → Int → Int) (x y : VQ) :
    arith ty r z x y = realVQ ty (r (tyFmt ty) (asPat ty x.v) (asPat ty y.v)) (worse x.q y.q) := by
  simp [arith, tyReal_eq_true_iff.2 hty]

/-- A division of reals by zero is the quotient of IEEE 754 (R98). -/
theorem divVQ_of_real (x y : VQ) : divVQ ty x y = realVQ ty (fDiv (tyFmt ty) (asPat ty x.v) (asPat ty y.v)) (worse x.q y.q) := by
  simp [divVQ, tyReal_eq_true_iff.2 hty, arith_of_real hty]

end

/-- The rules of real arithmetic (R96 to R98, R100). -/
theorem dicReals_hold : Claims.DicReals := by
  intro s core ty d a b hty
  refine ⟨fun p q => ⟨rfl, rfl⟩, ?add, ?sub, ?mul, ?div, ?sqrt, ?exp, ?ln, ?sin, ?cos, ?atan2⟩
  case add => exact executes_of_dicReg_eq (Eq.refl (execDicAdd core ty d a b s)) (addCost_of_real hty) fun i => arith_of_real hty ..
  case sub => exact executes_of_dicReg_eq (Eq.refl (execDicSub core ty d a b s)) (addCost_of_real hty) fun i => arith_of_real hty ..
  case mul => exact executes_of_dicReg_eq (Eq.refl (execDicMul core ty d a b s)) (mulCost_of_real hty) fun i => arith_of_real hty ..
  case div => exact executes_of_dicReg_eq (Eq.refl (execDicDiv core ty d a b s)) (divCost_of_real hty) fun i => divVQ_of_real hty ..
  case sqrt => exact executes_of_dicReg (Eq.refl (execDicSqrt core ty d a s))
  case exp => exact executes_of_dicReg (Eq.refl (execDicExp core ty d a s))
  case ln => exact executes_of_dicReg (Eq.refl (execDicLn core ty d a s))
  case sin => exact executes_of_dicReg (Eq.refl (execDicSin core ty d a s))
  case cos => exact executes_of_dicReg (Eq.refl (execDicCos core ty d a s))
  case atan2 => exact executes_of_dicReg (Eq.refl (execDicAtan2 core ty d a b s))

/-! ### The bitwise instructions (R96, R97, R100) -/

/-- BITSET beyond the width leaves the value (R97). -/
theorem bitsetVQ_beyond_width {ty : Nat} (x z : VQ) {y : VQ} (h : tyWidth ty ≤ bitCount y) :
    bitsetVQ ty x z y = { v := encodeVal ty x.v, q := worse x.q z.q } := by
  simp only [bitsetVQ, if_neg (Nat.not_lt.2 h), typed_eq]

/-- No bit is set beyond the width (R97). -/
theorem bitOf_widthBits_beyond {ty n : Nat} (v : Val) (h : tyWidth ty ≤ n) : bitOf (widthBits ty v) n = false := by
  rw [bitOf, widthBits, Nat.testBit_mod_two_pow, decide_eq_false (Nat.not_lt.2 h), Bool.false_and]

/-- The rules of the bitwise instructions (R96, R97, R100). -/
theorem dicBits_hold : Claims.DicBits := by
  intro s core ty d a b
  refine ⟨?and, ?or, ?xor, ?not, ?shl, ?shr, ?bitget, ?bitset, fun x y z h => ⟨bitsetVQ_beyond_width x z h, bitOf_widthBits_beyond x.v h⟩⟩
  case and => exact executes_of_dicReg (Eq.refl (execDicAnd core ty d a b s))
  case or => exact executes_of_dicReg (Eq.refl (execDicOr core ty d a b s))
  case xor => exact executes_of_dicReg (Eq.refl (execDicXor core ty d a b s))
  case not => exact executes_of_dicReg (Eq.refl (execDicNot core ty d a s))
  case shl => exact executes_of_dicReg (Eq.refl (execDicShl core ty d a b s))
  case shr => exact executes_of_dicReg (Eq.refl (execDicShr core ty d a b s))
  case bitget => exact executes_of_dicReg (Eq.refl (execDicBitget core ty d a b s))
  case bitset => exact executes_of_dicReg (Eq.refl (execDicBitset core ty d a b s))

/-- Settles O31: real arithmetic, and the bitwise instructions. -/
theorem dicRealsAndBits : Obligations.DicRealsAndBits := ⟨dicReals_hold, dicBits_hold⟩

end Sys2Proof.Machine
end


section
/-! SUPPORT. The function blocks of Driold code (R105 to R107). -/

open Sys2Proof.Claims

namespace Sys2Proof.Machine

/-! ### How a block reaches its entry (R106, R107) -/

/-- The worst quality of the first `used` inputs of a block (R107). -/
def Inst.inputsQ (i : Inst) (used : Nat) : Qual := (List.range used).foldl (fun q n => worse q (i.reg n).q) 0xC000

/-- What runs, with what a block computes in V0, V1 and its entry `n` (R106). -/
def Inst.withBlock (i : Inst) (n : Nat) (x : FbOut) : Inst :=
  let j := { i.setReg 0 x.v0 with fbi := lset i.fbi n x.st }
  match x.v1 with | some y => j.setReg 1 y | none => j

/-- A block does what it computes to the first `used` registers and its entry. -/
theorem blocks_of_fb {ins : Instr} {s : State} {core n steps used : Nat} {f : Mod → Task → Inst → Fbi → Qual → FbOut}
    {o : Task → Inst → Fbi → FbOut} (hi : exec ins s = s.fb core n steps used f) (ho : ∀ t i e, f s.m t i e (i.inputsQ used) = o t i e) :
    Blocks ins s core n steps o := by
  obtain rfl : (fun t i e => f s.m t i e (i.inputsQ used)) = o := funext fun t => funext fun i => funext (ho t i)
  exact executes_of_dicMod (f := fun m t i => i.withBlock n (f m t i ((i.fbi[n]?).getD {}) (i.inputsQ used))) hi

/-- The next state of a block: what it computes stands in the task it runs for (R106). -/
theorem exec_of_fb {ins : Instr} {s : State} {core n steps used k : Nat} {t : Task} {i : Inst} {f : Mod → Task → Inst → Fbi → Qual → FbOut}
    (hi : exec ins s = s.fb core n steps used f) (hrun : runningOn s.m core = some (k, t, i)) :
    exec ins s = .next (s.putTask k { t with inst := some (loopEnd 9 ((i.past 1 steps).withBlock n
      (f s.m t (i.past 1 steps) ((i.fbi[n]?).getD {}) (i.inputsQ used)))) }) :=
  blocks_of_fb hi (fun _ _ _ => rfl) k t i hrun

/-! ### What the end of a loop body keeps (R101) -/

/-- The end of a loop body moves the pc and the loops alone. -/
theorem loopEnd_eq (n : Nat) (i : Inst) : ∃ pc loops, loopEnd n i = { i with pc := pc, loops := loops } := by
  induction n generalizing i with
  | zero => exact ⟨_, _, rfl⟩
  | succ n ih =>
    unfold loopEnd
    split
    · exact ⟨_, _, rfl⟩
    next f rest _ =>
      split_ifs
      · exact ⟨_, _, rfl⟩
      · exact ih { i with loops := rest }
      · exact ⟨_, _, rfl⟩

theorem loopEnd_regs (n : Nat) (i : Inst) : (loopEnd n i).regs = i.regs := by
  obtain ⟨_, _, h⟩ := loopEnd_eq n i
  rw [h]

theorem loopEnd_steps (n : Nat) (i : Inst) : (loopEnd n i).steps = i.steps := by
  obtain ⟨_, _, h⟩ := loopEnd_eq n i
  rw [h]

theorem withBlock_steps (i : Inst) (n : Nat) (x : FbOut) : (i.withBlock n x).steps = i.steps := by
  unfold Inst.withBlock
  dsimp only
  split <;> rfl

theorem withBlock_regs {i : Inst} {n : Nat} {x : FbOut} (h : x.v1 = none) : (i.withBlock n x).regs = i.regs.set 0 x.v0 := by
  simp only [Inst.withBlock, h]
  rfl

/-- The step a block without V1 makes (R106): its step cost, and V0. -/
theorem exec_of_fb_v0 {ins : Instr} {s : State} {core n steps used k : Nat} {t : Task} {i : Inst} {f : Mod → Task → Inst → Fbi → Qual → FbOut}
    {x : FbOut} (hi : exec ins s = s.fb core n steps used f) (hrun : runningOn s.m core = some (k, t, i))
    (hx : f s.m t (i.past 1 steps) ((i.fbi[n]?).getD {}) (i.inputsQ used) = x) (hv1 : x.v1 = none) :
    ∃ u j, exec ins s = .next u ∧ taskAt u.m k = some { t with inst := some j } ∧ j.steps = i.steps + steps ∧ j.regs = i.regs.set 0 x.v0 := by
  refine ⟨_, _, exec_of_fb hi hrun, tget_tset_same .., ?_, ?_⟩
  · rw [loopEnd_steps, withBlock_steps, past_steps]
  · rw [loopEnd_regs, hx, withBlock_regs hv1]
    rfl

theorem reg_of_set {i j : Inst} {x : VQ} (h : j.regs = i.regs.set 0 x) (hlen : 0 < i.regs.length) : j.reg 0 = x := by
  simp [Inst.reg, h, hlen]

/-! ### HYST and INTERP (R106) -/

@[simp] theorem past_r64 (i : Inst) (words steps a : Nat) : (i.past words steps).r64 a = i.r64 a := rfl

theorem bitOf_boolVal (b : Bool) : bitOf (boolVal b).toNat 0 = b := by cases b <;> rfl

/-- HYST between its limits keeps its output (R106). -/
theorem exec_fbHyst {s : State} {core n k : Nat} {t : Task} {i : Inst} (hrun : runningOn s.m core = some (k, t, i)) :
    ∃ u j, exec (.fbHyst core n) s = .next u ∧ taskAt u.m k = some { t with inst := some j } ∧ j.steps = i.steps + 6 ∧
      ((j.regs[0]?).isSome = true → bitOf (j.reg 0).v.toNat 0 = (if lt64 (i.r64 1) (i.r64 0) then true else if lt64 (i.r64 0) (i.r64 2) then false
        else ((i.fbi[n]?).getD {}).w0 == 1)) := by
  obtain ⟨u, j, hu, ht, hsteps, hregs⟩ := exec_of_fb_v0 (ins := .fbHyst core n) (Eq.refl (execFbHyst core n s)) hrun rfl rfl
  refine ⟨u, j, hu, ht, hsteps, fun hsome => ?_⟩
  rw [reg_of_set hregs (by simpa [hregs] using hsome)]
  exact bitOf_boolVal _

/-- INTERP (R106): a table that breaks its layout gives zero, BAD. -/
theorem exec_fbInterp {s : State} {core n k : Nat} {t : Task} {i : Inst} (hrun : runningOn s.m core = some (k, t, i)) :
    ∃ u j, exec (.fbInterp core n) s = .next u ∧ taskAt u.m k = some { t with inst := some j } ∧ j.steps = i.steps + 40 ∧
      ((imageOf s.m t).bind (fun g => interpTable g.consts (xIndex i 1)) = none → 0 < i.regs.length → j.reg 0 = { v := 0, q := 0x0000 }) ∧
      (∀ ps, (imageOf s.m t).bind (fun g => interpTable g.consts (xIndex i 1)) = some ps → isNan64 (i.r64 0) = false → 0 < i.regs.length →
        (j.reg 0).v = BitVec.ofNat 64 (interp ps (i.r64 0)).toNat) := by
  have hi : exec (.fbInterp core n) s = _ := Eq.refl (execFbInterp core n s)
  cases htable : (imageOf s.m t).bind (fun g => interpTable g.consts (xIndex i 1)) with
  | none =>
    obtain ⟨u, j, hu, ht, hsteps, hregs⟩ := exec_of_fb_v0 (x := { st := (i.fbi[n]?).getD {}, v0 := { v := 0, q := 0x0000 } }) hi hrun
      (by simp only [past_xIndex, htable]) rfl
    exact ⟨u, j, hu, ht, hsteps, fun _ => reg_of_set hregs, nofun⟩
  | some ps =>
    obtain ⟨u, j, hu, ht, hsteps, hregs⟩ := exec_of_fb_v0
      (x := { st := (i.fbi[n]?).getD {}, v0 := realVQ 5 (if isNan64 (i.r64 0) then i.r64 0 else interp ps (i.r64 0)).toNat (i.inputsQ 2) })
      hi hrun (by simp only [past_xIndex, past_r64, htable]; rfl) rfl
    refine ⟨u, j, hu, ht, hsteps, nofun, fun _ h hnan hlen => ?_⟩
    cases h
    rw [reg_of_set hregs hlen, if_neg (by simp [hnan])]
    rfl

/-- The rules of the function blocks (R106, R107). -/
theorem functionBlocks_hold : Claims.FunctionBlocks := by
  intro s core n
  refine ⟨?ton, ?tof, ?tp, ?ctu, ?ctd, ?edge, ?setl, ?rstl, fun k t i => exec_fbHyst, ?filt1, ?rampl, ?total, ?deadb, fun k t i => exec_fbInterp⟩
  case ton => exact blocks_of_fb (Eq.refl (execFbTon core n s)) fun _ _ _ => rfl
  case tof => exact blocks_of_fb (Eq.refl (execFbTof core n s)) fun _ _ _ => rfl
  case tp => exact blocks_of_fb (Eq.refl (execFbTp core n s)) fun _ _ _ => rfl
  case ctu => exact blocks_of_fb (Eq.refl (execFbCtu core n s)) fun _ _ _ => rfl
  case ctd => exact blocks_of_fb (Eq.refl (execFbCtd core n s)) fun _ _ _ => rfl
  case edge => exact blocks_of_fb (Eq.refl (execFbEdge core n s)) fun _ _ _ => rfl
  case setl => exact blocks_of_fb (Eq.refl (execFbSetl core n s)) fun _ _ _ => rfl
  case rstl => exact blocks_of_fb (Eq.refl (execFbRstl core n s)) fun _ _ _ => rfl
  case filt1 => exact blocks_of_fb (Eq.refl (execFbFilt1 core n s)) fun _ _ _ => rfl
  case rampl => exact blocks_of_fb (Eq.refl (execFbRampl core n s)) fun _ _ _ => rfl
  case total => exact blocks_of_fb (Eq.refl (execFbTotal core n s)) fun _ _ _ => rfl
  case deadb => exact blocks_of_fb (Eq.refl (execFbDeadb core n s)) fun _ _ _ => rfl

/-! ### Timers (R106) -/

section
variable {i : Inst} {e : Fbi} (q : Qual)

/-- TON is FALSE, and starts anew, while IN is FALSE. -/
theorem ton_off (h : i.b 0 = false) : (ton i e q).v0 = boolVQ false q ∧ (ton i e q).st = {} := by simp [ton, h]

/-- TON is TRUE once IN has been TRUE for PT. -/
theorem ton_on (h : i.b 0 = true) (he : e.w0 = 1) :
    (ton i e q).v0 = boolVQ (decide (i.i64 1 ≤ ((i.release - e.w1.toNat : Nat) : Int))) q ∧ (ton i e q).st.w1 = e.w1 := by simp [ton, h, he]

theorem tof_on (h : i.b 0 = true) : (tof i e q).v0 = boolVQ true q ∧ (tof i e q).st.w0 = 1 := by simp [tof, h]

/-- TOF is FALSE before IN was ever TRUE. -/
theorem tof_never_on (h : i.b 0 = false) (he : e.w0 = 0) : (tof i e q).v0 = boolVQ false q := by simp [tof, h, he]

/-- TOF stays TRUE for PT after the fall of IN. -/
theorem tof_fallen (h : i.b 0 = false) (he : e.w0 = 2) :
    (tof i e q).v0 = boolVQ (decide (((i.release - e.w1.toNat : Nat) : Int) < i.i64 1)) q := by simp [tof, h, he]

/-! ### Counters (R106) -/

theorem asInt_int32_mem (v : Val) : tyMin 1 ≤ asInt 1 v ∧ asInt 1 v ≤ tyMax 1 := by
  have hlo := BitVec.le_toInt (v.truncate 32 : W32)
  have hhi := BitVec.toInt_lt (x := (v.truncate 32 : W32))
  simp only [asInt, tyMin, tyMax]
  omega

/-- A rising input counts up or down, within INT32. -/
theorem counter_rising (h : i.b 0 = true) (he : e.w0 = 0) (hr : i.b 1 = false) :
    asInt 1 (counter i e q true).st.w1 = min (asInt 1 e.w1 + 1) 2147483647 ∧
      asInt 1 (counter i e q false).st.w1 = max (asInt 1 e.w1 - 1) (-2147483648) := by
  obtain ⟨hlo, hhi⟩ := asInt_int32_mem e.w1
  have hmin : tyMin 1 = -2147483648 := rfl
  have hmax : tyMax 1 = 2147483647 := rfl
  simp only [counter, h, he, hr, decide_true, Bool.and_self, Bool.false_eq_true, reduceIte]
  exact ⟨asInt_ofInt rfl (by omega) (by omega), asInt_ofInt rfl (by omega) (by omega)⟩

/-- RESET clears CTU, and LOAD sets CTD. -/
theorem counter_reset (h : i.b 1 = true) : asInt 1 (counter i e q true).st.w1 = 0 ∧ asInt 1 (counter i e q false).st.w1 = i.i32 2 := by
  obtain ⟨hlo, hhi⟩ := asInt_int32_mem (i.reg 2).v
  simp only [counter, h, reduceIte, Bool.false_eq_true]
  exact ⟨asInt_ofInt rfl (by decide) (by decide), asInt_ofInt rfl hlo hhi⟩

/-! ### Latches and held blocks (R106, R107) -/

theorem setl_set (h : i.b 0 = true) : (latch i e q true).v0 = boolVQ true q := by simp [latch, h]
theorem rstl_reset (h : i.b 1 = true) : (latch i e q false).v0 = boolVQ false q := by simp [latch, h]

/-- A latch with neither input holds. -/
theorem latch_holds (hs : i.b 0 = false) (hr : i.b 1 = false) (dom : Bool) : (latch i e q dom).v0 = boolVQ (decide (e.w0 = 1)) q := by
  cases dom <;> simp [latch, hs, hr]

theorem heldOr_bad (y : F64) (h : isBad (i.reg 0).q = true) : heldOr i e q y = { st := e, v0 := { v := e.w0, q := 0x4000 } } := by
  rw [heldOr, if_pos h]

end

/-- What the blocks output (R106, R107). -/
theorem blocksBehave_holds : Claims.BlocksBehave := fun _ _ q y =>
  ⟨ton_off q, ton_on q, tof_on q, tof_never_on q, tof_fallen q, counter_rising q, counter_reset q, setl_set q, rstl_reset q,
    fun hs hr => ⟨latch_holds q hs hr true, latch_holds q hs hr false⟩, heldOr_bad q y⟩

/-- Settles O34: the blocks by what they write, and what the timers, counters and latches output. -/
theorem functionBlocks : Obligations.FunctionBlocks := ⟨functionBlocks_hold, blocksBehave_holds⟩

end Sys2Proof.Machine
end


section
/-! SUPPORT. The instants of a loop and its reactions (R115 to R119, R129, R131 to R133, R136). -/

open Sys2Proof.Claims

namespace Sys2Proof.Machine

/-! ### What leaves the loops as they are -/

@[simp] theorem setUnit_lpe (m : Mod) (i : Nat) (u : Machine.Unit) : (setUnit m i u).lpe = m.lpe := by unfold setUnit; split <;> rfl

@[simp] theorem enterMode_lpe (m : Mod) (i : Nat) (x : Mode) : (enterMode m i x).lpe = m.lpe := by
  unfold enterMode
  split
  · rfl
  · dsimp only; split <;> simp

@[simp] theorem walk_lpe (m : Mod) (c : WalkCmd) : (walk m c).1.lpe = m.lpe := by
  unfold walk
  extract_lets tree tree' judge ref ok none_ res m1
  have hm1 : m1.lpe = m.lpe := by
    unfold m1
    split
    · rfl
    · refine foldl_field Mod.lpe _ (fun m i => ?_) m ok
      split
      · exact enterMode_lpe ..
      · split <;> simp
  split <;> exact hm1

@[simp] theorem startWalk_lpe (m : Mod) (c : WalkCmd) : (startWalk m c).lpe = m.lpe := by simp [startWalk, walkDone]

@[simp] theorem commandSafe_lpe (m : Mod) (h : W32) : (commandSafe m h).lpe = m.lpe := by
  unfold commandSafe; dsimp only; split_ifs <;> simp

@[simp] theorem driveDirect_lpe (m : Mod) (ch : Nat) (sig : W32) : (driveDirect m ch sig).lpe = m.lpe := by
  unfold driveDirect driveFrom; split <;> simp

@[simp] theorem writeOut_lpe (m : Mod) (l : Loop) (u : F32) (u2 : Option F32) (q : Qual) (b : Bool) : (writeOut m l u u2 q b).lpe = m.lpe := by
  unfold writeOut; cases u2 <;> simp

@[simp] theorem writeStatus_lpe (m : Mod) (l : Loop) : (writeStatus m l).lpe = m.lpe := by simp [writeStatus]

@[simp] theorem reactSafe_loops (m : Mod) (old l : Loop) : (reactSafe m old l).lpe.loops = m.lpe.loops := by
  unfold reactSafe; dsimp only; split_ifs <;> simp

@[simp] theorem outputFault_loops (m : Mod) (n : Nat) : (outputFault m n).lpe.loops = m.lpe.loops := by
  rw [outputFault, reportFault_minor (show 1 < 2 by decide), collect_lpe]

@[simp] theorem tget_setLoop_same (m : Mod) (n : Nat) (l : Loop) : tget (setLoop m n l).lpe.loops n = some l := by simp [setLoop]

/-! ### One sample (R131, R136) -/

/-- What the count of BAD samples goes by: the record, the count, and LOST (R131). No other step of a sample changes it. -/
def Loop.lostTest (l : Loop) : LoopRec × Nat × Bool := (l.rcd, l.badRun, l.lost)

@[simp] theorem correct_lostTest (l : Loop) (a b : Option F32) : (correct l a b).lostTest = l.lostTest := by unfold correct; split <;> rfl

@[simp] theorem takeSwap_lostTest (l : Loop) (x : LoopIn) : (takeSwap l x).lostTest = l.lostTest := by
  unfold takeSwap
  split
  · rfl
  · dsimp only; split
    · rfl
    · exact correct_lostTest ..

@[simp] theorem trackTo_lostTest (l : Loop) (x : LoopIn) (u : F32) : (trackTo l x u).lostTest = l.lostTest := correct_lostTest ..

@[simp] theorem closeLoop_lostTest (m : Mod) (l : Loop) (x : LoopIn) (ref : F32) : (closeLoop m l x ref).lostTest = l.lostTest :=
  (trackTo_lostTest ..).trans rfl

@[simp] theorem moveSetpoint_lostTest (l : Loop) (x : LoopIn) : (moveSetpoint l x).lostTest = l.lostTest := by
  unfold moveSetpoint
  extract_lets r jump l' s e a b
  split
  · split <;> rfl
  · split
    · exact correct_lostTest l' a b
    · rfl

@[simp] theorem lawOut_lostTest (m : Mod) (n : Nat) (l : Loop) (x : LoopIn) (q : Qual) (b : Bool) : (lawOut m n l x q b).1.lostTest = l.lostTest := by
  unfold lawOut; dsimp only; split <;> rfl

theorem sampleOut_lostTest (m : Mod) (n : Nat) (l : Loop) (x : LoopIn) (mode : Mode) (ref : F32) :
    (sampleOut m n l x mode ref).1.lostTest = l.lostTest := by
  unfold sampleOut
  extract_lets bad anchor l0 out forced q1 q2 q co u0 stale u tracked closed
  have hclosed : closed.lostTest = l.lostTest := by
    unfold closed
    split
    · rfl
    · exact closeLoop_lostTest m l0 x ref
  split
  · exact trackTo_lostTest ..
  · split
    · rfl
    · split
      · rfl
      · split
        · rfl
        · exact (lawOut_lostTest ..).trans hclosed

theorem lostTest_eq_iff {a b : Loop} : a.lostTest = b.lostTest ↔ a.rcd = b.rcd ∧ a.badRun = b.badRun ∧ a.lost = b.lost := by
  simp only [Loop.lostTest, Prod.mk.injEq]

/-- A BAD sample counts, and LOST_N of them declare LOST; any other ends the count (R131). -/
theorem runTests_lostTest (m : Mod) (l : Loop) (x : LoopIn) : (runTests m l x).rcd = l.rcd ∧
    (isBad x.y.q = true → (runTests m l x).badRun = l.badRun + 1 ∧ (l.rcd.lostN ≤ l.badRun + 1 → (runTests m l x).lost = true)) ∧
    (isBad x.y.q = false → (runTests m l x).badRun = 0) := by
  unfold runTests
  extract_lets plaus l0 clean tested
  have hl0 : l0.lostTest = l.lostTest := by unfold l0; split <;> rfl
  obtain ⟨hrcd, hrun, -⟩ := lostTest_eq_iff.1 hl0
  rw [← hrcd, ← hrun]
  split
  · next hbad => exact ⟨rfl, fun _ => ⟨rfl, fun hn => by simp [hn]⟩, fun hgood => absurd hbad (ne_true_of_eq_false hgood)⟩
  · next hgood =>
    have hrest (r : Loop) (h : r.lostTest = clean.lostTest) : r.rcd = l0.rcd ∧
        (isBad x.y.q = true → r.badRun = l0.badRun + 1 ∧ (l0.rcd.lostN ≤ l0.badRun + 1 → r.lost = true)) ∧ (isBad x.y.q = false → r.badRun = 0) := by
      obtain ⟨hrcd', hrun', -⟩ := lostTest_eq_iff.1 h
      exact ⟨hrcd', fun hbad => absurd hbad hgood, fun _ => hrun'⟩
    apply hrest
    split
    · rfl
    · split <;> rfl

theorem applyDue_of_rcd (m : Mod) {l l' : Loop} (h : l'.rcd = l.rcd) : applyDue m l' = applyDue m l := by rw [applyDue, h, applyDue]

/-- A sample of a loop leaves an output due at the apply instant, and counts a BAD process value (R117, R131). -/
theorem sampleOn_spec (m : Mod) (n : Nat) (l0 : Loop) (mode : Mode) : ∃ x y, tget (sampleOn m n l0 mode).lpe.loops n = some x ∧
    x.pendingOut = some y ∧ y.due = applyDue m l0 ∧
    (isBad (readPv m l0.rcd.pvSrc).q = true → x.badRun = l0.badRun + 1 ∧ (l0.rcd.lostN ≤ l0.badRun + 1 → x.lost = true)) ∧
    (isBad (readPv m l0.rcd.pvSrc).q = false → x.badRun = 0) := by
  have hy : (takeInputs m l0).1.y = readPv m l0.rcd.pvSrc := rfl
  have hl : (takeInputs m l0).2.lostTest = l0.lostTest := rfl
  unfold sampleOn
  rcases hin : takeInputs m l0 with ⟨x, l⟩
  rw [hin] at hl hy
  simp -zeta only
  extract_lets fromHold ref left entered released recov freed swapped ready before tested reacts r reacted anchor anchored ok evaluated o ended m'
  have hleft : left.lostTest = l.lostTest := by unfold left; split <;> rfl
  have hentered : entered.lostTest = left.lostTest := by unfold entered; split <;> rfl
  have hfreed : freed.lostTest = entered.lostTest := by unfold freed; split <;> rfl
  have hswapped : swapped.lostTest = freed.lostTest := takeSwap_lostTest ..
  have hready : ready.lostTest = swapped.lostTest := by
    unfold ready
    split
    · rfl
    · split
      · exact moveSetpoint_lostTest ..
      · split_ifs <;> rfl
  have hreacted : reacted.lostTest = tested.lostTest := by
    unfold reacted
    clear_value r
    split
    · cases r <;> rfl
    · rfl
  have hanchored : anchored.lostTest = reacted.lostTest := by unfold anchored; split <;> rfl
  have hevaluated : evaluated.lostTest = anchored.lostTest := by unfold evaluated; split <;> exact sampleOut_lostTest ..
  have hm' : m'.lpe.loops = (setLoop m n ended).lpe.loops := reactSafe_loops ..
  have hloops : (if ok then m' else outputFault m' n).lpe.loops = m'.lpe.loops := by
    split
    · rfl
    · exact outputFault_loops ..
  have hbefore : ready.lostTest = l0.lostTest := hready.trans (hswapped.trans (hfreed.trans (hentered.trans (hleft.trans hl))))
  have hafter : ended.lostTest = tested.lostTest := (show ended.lostTest = evaluated.lostTest from rfl).trans (hevaluated.trans (hanchored.trans hreacted))
  obtain ⟨hrcd, hrun, -⟩ := lostTest_eq_iff.1 hbefore
  obtain ⟨hrcd', hrun', hlost'⟩ := lostTest_eq_iff.1 hafter
  obtain ⟨hkept, hbad, hgood⟩ := runTests_lostTest m ready x
  rw [← hy, ← hrcd, ← hrun]
  refine ⟨ended, _, by rw [hloops, hm', tget_setLoop_same], rfl, applyDue_of_rcd m (hrcd'.trans (hkept.trans hrcd)), ?_, ?_⟩
  · rw [hrun', hlost']; exact hbad
  · rw [hrun']; exact hgood

/-! ### LATE (R119) -/

/-- What a fault's reactions leave: the loops and LPE_EVENTS as they were, and every active bit that was set (R390, R437). -/
def LoopsStand (m m' : Mod) : Prop :=
  m'.lpe.loops = m.lpe.loops ∧ m'.lpe.events = m.lpe.events ∧ ∀ i, bitOf m.flt.active.toNat i = true → bitOf m'.flt.active.toNat i = true

theorem LoopsStand.of_eq {m m' : Mod} (hloops : m'.lpe.loops = m.lpe.loops) (hevents : m'.lpe.events = m.lpe.events)
    (hactive : m'.flt.active = m.flt.active) : LoopsStand m m' :=
  ⟨hloops, hevents, fun i h => by rwa [hactive]⟩

theorem LoopsStand.refl (m : Mod) : LoopsStand m m := .of_eq rfl rfl rfl

theorem LoopsStand.trans {a b c : Mod} (hab : LoopsStand a b) (hbc : LoopsStand b c) : LoopsStand a c := by
  obtain ⟨hl, he, ha⟩ := hab
  obtain ⟨hl', he', ha'⟩ := hbc
  exact ⟨hl'.trans hl, he'.trans he, fun i h => ha' i (ha i h)⟩

theorem LoopsStand.foldl {α : Type} {f : Mod → α → Mod} (h : ∀ m a, LoopsStand m (f m a)) (m : Mod) (l : List α) : LoopsStand m (l.foldl f m) := by
  induction l generalizing m with
  | nil => exact .refl m
  | cons a l ih => exact (h m a).trans (ih (f m a))

theorem LoopsStand.ite {c : Prop} [Decidable c] {m a b : Mod} (ha : LoopsStand m a) (hb : LoopsStand m b) : LoopsStand m (if c then a else b) := by
  split
  · exact ha
  · exact hb

theorem collect_loopsStand (m : Mod) (f : FaultInfo) : LoopsStand m (collect m f) := by
  refine ⟨by rw [collect_lpe], by rw [collect_lpe], fun i h => ?_⟩
  rw [collect_active, bitOf, BitVec.toNat_or, Nat.testBit_or, show m.flt.active.toNat.testBit i = true from h, Bool.true_or]

@[simp] theorem setAlive_active (m : Mod) (b : Bool) : (setAlive m b).flt.active = m.flt.active := by unfold setAlive; split <;> rfl
@[simp] theorem stopAlive_active (m : Mod) : (stopAlive m).flt.active = m.flt.active := by unfold stopAlive; split <;> simp
@[simp] theorem enterFail_active (m : Mod) (c : FailCause) : (enterFail m c).flt.active = m.flt.active := by simp [enterFail]

theorem beginServiceRestart_loopsStand (m : Mod) : LoopsStand m (beginServiceRestart m) := by
  unfold beginServiceRestart
  extract_lets lost m1 m2
  have h1 : LoopsStand m m1 := .foldl (by intros; exact .of_eq rfl rfl rfl) m lost
  have h2 : LoopsStand m1 m2 := .foldl (fun _ _ => .of_eq (by simp) (by simp) (by simp)) m1 _
  exact h1.trans (h2.trans (.of_eq rfl rfl rfl))

theorem beginProgramRestart_loopsStand (m : Mod) : LoopsStand m (beginProgramRestart m) := by
  unfold beginProgramRestart
  split
  · exact .ite (.of_eq (by simp) (by simp) (by simp)) (.refl m)
  · extract_lets m1
    have h : LoopsStand m m1 := .ite (.of_eq (by simp) (by simp) (by simp)) (.refl m)
    exact h.trans (.of_eq rfl rfl rfl)

theorem regionRestart_loopsStand (m : Mod) (n : Nat) (c : StartCause) : LoopsStand m (regionRestart m n c) := by
  unfold regionRestart
  refine .ite ?_ (.ite (beginServiceRestart_loopsStand m) (beginProgramRestart_loopsStand m))
  exact .of_eq (by simp [restartModule_]) (by simp [restartModule_]) (by simp [restartModule_])

theorem fallBackState_loopsStand (m : Mod) (n : Nat) : LoopsStand m (fallBackState m n) := by
  unfold fallBackState
  extract_lets
  refine LoopsStand.trans ?_ (collect_loopsStand ..)
  exact .of_eq rfl rfl rfl

theorem fallBackAll_loopsStand (m : Mod) : LoopsStand m (fallBackAll m) := by
  unfold fallBackAll
  extract_lets ns
  have hstates : LoopsStand m (ns.foldl fallBackState m) := .foldl fallBackState_loopsStand m ns
  exact hstates.trans (.foldl (fun m n => .ite (.refl m) (regionRestart_loopsStand m n _)) _ ns)

/-- A fault below F3 sets its source's active bit, and the loops and LPE_EVENTS stand, also where a trial ends (R390, R437). -/
theorem reportFault_loops {m : Mod} {f : FaultInfo} (hcls : f.cls ≠ 3) (hsrc : f.src < 64) :
    (reportFault m f).lpe.loops = m.lpe.loops ∧ (reportFault m f).lpe.events = m.lpe.events ∧ bitOf (reportFault m f).flt.active.toNat f.src = true := by
  have hc : LoopsStand (collect m f) (reportFault m f) := by
    simp only [reportFault, if_neg hcls]
    exact .ite (fallBackAll_loopsStand _) (.refl _)
  obtain ⟨hloops, hevents, hactive⟩ := hc
  rw [collect_lpe] at hloops hevents
  exact ⟨hloops, hevents, hactive _ (collect_sets_active m f hsrc)⟩

/-! ### The instants of a loop (R115, R117, R119, R129, R133) -/

theorem pumpLoops_idle {m : Mod} (hwait : m.lpe.waiting = []) (hfull : m.pnl.fullReq = none) : pumpLoops m = m := by
  simp [pumpLoops, pumpBurst, pumpPanel, hwait, hfull]

/-- A sample instant gives the sample of the loop by its enable and its mode (R115, R129). -/
theorem gives_loopSample {s : State} {t n : Nat} {l : Loop} (hon : On s) (hl : tget s.m.lpe.loops n = some l) (hruns : ctlRuns s.m = true)
    (hat : onInstant (seen s t) l.rcd.period l.rcd.phase = true) (hwait : s.m.lpe.waiting = []) (hfull : s.m.pnl.fullReq = none) :
    Gives (.loopSample t n) s t (if !l.enabled || loopMode s.m l == .off then sampleOff (seen s t) n l (loopMode s.m l)
      else sampleOn (seen s t) n l (loopMode s.m l)) := by
  have hg := gives_of_runOn (i := .loopSample t n) (t := t) hon (Eq.refl (execLoopSample t n s))
  have hl' : tget (seen s t).lpe.loops n = some l := hl
  simp only [hl', show ctlRuns (seen s t) = true from hruns, hat, pumpLoops_idle (m := seen s t) hwait hfull, Bool.and_self, if_true] at hg
  exact hg

/-- A disabled loop, or one of a unit in OFF, writes OFF_VALUE at its next sample and ends (R129). -/
theorem sampleOff_spec (m : Mod) (n : Nat) {l : Loop} (mode : Mode) (h : l.offPending = true) : ∃ x, tget (sampleOff m n l mode).lpe.loops n = some x ∧
    x.u = l.rcd.offValue ∧ x.closed = false ∧ x.offPending = false ∧ x.pendingOut = none := by
  simp only [sampleOff, h, Bool.not_true, Bool.false_eq_true, if_false, writeStatus_lpe, writeOut_lpe, tget_setLoop_same]
  exact ⟨_, rfl, rfl, rfl, rfl, rfl⟩

/-- An output that is applied is the output and the integrator of its loop (R117). -/
theorem applyOut_spec (m : Mod) (n : Nat) (l : Loop) (o : LoopOut) : ∃ x, tget (applyOut m n l o).lpe.loops n = some x ∧
    x.u = o.u ∧ x.i = o.i ∧ x.applied = true ∧ x.pendingOut = none := by
  unfold applyOut
  extract_lets l' m1 m2
  have hm2 : m2.lpe = m1.lpe := by unfold m2; split <;> simp
  refine ⟨l', ?_, rfl, rfl, rfl, rfl⟩
  rw [writeStatus_lpe, hm2]
  exact tget_setLoop_same ..

/-- The module as an evaluation that is late leaves it, before its fault: the output waits no more, and LATE is set (R119). -/
def lateNoted (m : Mod) (n : Nat) (l : Loop) : Mod :=
  { setLoop m n { l with pendingOut := none } with
    lpe := { (setLoop m n { l with pendingOut := none }).lpe with events := setBit32 m.lpe.events 0 } }

/-- The apply instant of a waiting output gives its application or, where the evaluation is late, the F2 fault (R117, R119). -/
theorem gives_loopApply {s : State} {t n : Nat} {l : Loop} {o : LoopOut} (late : Bool) (hon : On s) (hl : tget s.m.lpe.loops n = some l)
    (ho : l.pendingOut = some o) (hdue : o.due ≤ max s.m.clk t) :
    Gives (.loopApply t n late) s t (if late then reportFault (lateNoted (seen s t) n l) (faultOf 0x0B 2 n 0x0400 5 1)
      else applyOut (seen s t) n l o) := by
  have hg := gives_of_runOn (i := .loopApply t n late) (t := t) hon (Eq.refl (execLoopApply t n late s))
  simp only [show tget (seen s t).lpe.loops n = some l from hl, ho] at hg
  rwa [if_neg (show ¬ (seen s t).clk < o.due from Nat.not_lt.2 hdue)] at hg

/-- When MODEL_DRIVE expires REACT_AFTER takes its place (R133). -/
theorem makes_modelDriveExpiry {s : State} {t n : Nat} {l : Loop} (hon : On s) (hl : tget s.m.lpe.loops n = some l) (hr : l.reaction = some 2)
    (hexp : l.mdSince + 1000000 * l.rcd.mdTimeMs ≤ max s.m.clk t) :
    Makes (.modelDriveExpiry t n) s (fun m => ∃ x, tget m.lpe.loops n = some x ∧ x.reaction = some l.rcd.reactAfter ∧ x.mdExpired = true) := by
  have hg := gives_of_runOn (i := .modelDriveExpiry t n) (t := t) hon (Eq.refl (execModelDriveExpiry t n s))
  have hexp' : l.mdSince + ms l.rcd.mdTimeMs ≤ (seen s t).clk := by rw [ms, Nat.mul_comm]; exact hexp
  simp only [show tget (seen s t).lpe.loops n = some l from hl, hr, hexp', decide_true, BEq.rfl, Bool.and_self, if_true] at hg
  exact makes_of_gives hg ⟨_, (congrArg (tget · n) (reactSafe_loops ..)).trans (tget_setLoop_same ..), rfl, rfl⟩

/-- The rules of the instants of a loop. -/
theorem loopInstants_hold : Claims.LoopInstants := by
  intro s t n l o hon hl
  refine ⟨fun hruns hat hwait hfull hen hmode => ?sample, fun hruns hat hwait hfull hdis hpend => ?off, fun ho hdue => ⟨?apply, ?late⟩,
    makes_modelDriveExpiry hon hl⟩
  case sample =>
    have hg := gives_loopSample hon hl hruns hat hwait hfull
    rw [if_neg (by simp [hen, hmode])] at hg
    exact ⟨hg, makes_of_gives hg (sampleOn_spec (seen s t) n l (loopMode s.m l))⟩
  case off =>
    have hg := gives_loopSample hon hl hruns hat hwait hfull
    rw [if_pos (by simp [hdis])] at hg
    exact makes_of_gives hg (sampleOff_spec (seen s t) n _ hpend)
  case apply =>
    exact makes_of_gives (gives_loopApply false hon hl ho hdue) (applyOut_spec (seen s t) n l o)
  case late =>
    obtain ⟨hloops, hevents, hactive⟩ := reportFault_loops (m := lateNoted (seen s t) n l) (f := faultOf 0x0B 2 n 0x0400 5 1)
      (show 2 ≠ 3 by decide) (show 0x0B < 64 by decide)
    refine makes_of_gives (gives_loopApply true hon hl ho hdue) ⟨?_, hactive, { l with pendingOut := none }, ?_, rfl, rfl, rfl⟩
    · exact (congrArg (fun v : W32 => bitOf v.toNat 0) hevents).trans (bitOf_setBit32_same _ 0 (by decide))
    · exact (congrArg (tget · n) hloops).trans (tget_setLoop_same ..)

/-- The targets of the reactions, and their order (R132, R133). -/
theorem reactionsDrive_hold : Claims.ReactionsDrive := by
  intro l u
  exact ⟨rfl, rfl, rfl, fun hrate _ => if_neg (ne_true_of_eq_false hrate), fun _ _ => rfl, by decide, by decide, by decide⟩

/-- Settles O28: the instants of a loop, and its reactions. -/
theorem loopEvaluation : Obligations.LoopEvaluation := ⟨loopInstants_hold, reactionsDrive_hold⟩

end Sys2Proof.Machine
end


section
/-! SUPPORT. LOOP_ENABLE and the density test (R113, R118, R120, R242), and a configuration on which they part. -/

open Sys2Proof.Claims

namespace Sys2Proof.Machine

/-! ### LOOP_ENABLE (R120) -/

theorem none_missing {l : Tbl Loop} {ns : List Nat} (hdef : ∀ k ∈ ns, (tget l k).isSome = true) : ns.any (fun n => (tget l n).isNone) = false := by
  rw [List.any_eq_false]
  intro k hk
  simp [Option.isNone_eq_false_iff.2 (hdef k hk)]

/-- A LOOP_ENABLE that names at most 128 loops, all with a record, is tried at once (R120). -/
theorem gives_loopEnable {s : State} {t : Nat} {q : Req} {buf : List Byte} (b : Bool) (hs : Served s t 0x0024 q) (hlen : buf.length = 128)
    (hdef : ∀ k ∈ loopsNamed buf, (tget s.m.lpe.loops k).isSome = true) (hshort : (loopsNamed buf).length ≤ 128) :
    Gives (.loopEnable t q b buf) s t (post (tryEnable (seen s t) (loopsNamed buf) b).1 q (tryEnable (seen s t) (loopsNamed buf) b).2
      { r0 := BitVec.ofNat 32 (if (tryEnable (seen s t) (loopsNamed buf) b).2 = .ok then (loopsNamed buf).length else 0) }) := by
  have hg := gives_of_runCmd (i := .loopEnable t q b buf) hs (Eq.refl (execLoopEnable t q b buf s))
  have hnone : (loopsNamed buf).any (fun n => (tget (seen s t).lpe.loops n).isNone) = false := none_missing hdef
  simp only [hlen, bne_self_eq_false, hnone, Bool.or_self, Bool.false_eq_true, if_false] at hg
  rwa [if_neg (by simp [hshort])] at hg

/-- An enable that the density test refuses leaves the loop engine as it was (R242). -/
theorem tryEnable_dense {m : Mod} {ns : List Nat} {n : Nat} (hdef : ∀ k ∈ ns, (tget m.lpe.loops k).isSome = true) (h : firstDense m ns = some n) :
    tryEnable m ns true = (noteRefused m 2 n 0, .notAdmitted) := by
  simp [tryEnable, none_missing hdef, h]

/-- What a command gives is one module. -/
theorem gives_lpe_unique {i : Instr} {s : State} {t : Nat} {m m' : Mod} (h : Gives i s t m) (h' : Gives i s t m') : m.lpe = m'.lpe := by
  have hsame := h.symm.trans h'
  injection hsame with hstate
  exact congrArg (fun u : State => u.m.lpe) hstate

/-! ### A configuration on which the two density sums part -/

/-- A loop of one slot that applies 4 µs after its sample. -/
def fastLoop : Loop := { rcd := { apply := 4 } }

/-- An enabled loop with PERIOD_US 0, which R113 does not allow and the statement does not shut out. -/
def periodlessLoop : Loop := { rcd := { period := 0 }, enabled := true }

/-- 48 fast loops, whose slots fill 0.9996 of the engine before the longest evaluation is added, and after them the loop without a period. -/
def packed : State := { m := { lpe := { loops := (List.range 48).map (fun k => (k, fastLoop)) ++ [(48, periodlessLoop)] } } }

/-- A LOOP_ENABLE from ring 1 of the 48 fast loops. -/
def packedReq : Req := { ring := 1, index := 0, tag := 7, noCompl := false, cring := 0 }
def packedBuf : List Byte := List.replicate 6 0xFF ++ List.replicate 122 0

theorem packed_served : Served packed 0 0x0024 packedReq := ⟨by decide, by decide⟩

theorem packedBuf_length : packedBuf.length = 128 := by simp [packedBuf]

theorem packed_defined : ∀ k ∈ loopsNamed packedBuf, (tget packed.m.lpe.loops k).isSome = true := by decide +kernel

/-- In the table's order the loop without a period comes last and takes the least D to 0, so that the longest evaluation is not counted. -/
theorem packed_dense_enough : densityOk (countedLoops (enableLoops packed.m (loopsNamed packedBuf) true)) = true := by decide +kernel

/-- The command sums the loops already enabled first; the least D is then that of the fast loops, and the last of them is one too many. -/
theorem packed_refused : firstDense (seen packed 0) (loopsNamed packedBuf) = some 47 := by decide +kernel

/-- Refutes O27 in its clause on an enable that the density test passes: the states it speaks of may hold a record with PERIOD_US 0, for which the
density sum hangs on the order of the loops, so that LOOP_ENABLE refuses what the statement has it accept. -/
theorem not_loopCommands : ¬ Obligations.LoopCommands := by
  unfold Obligations.LoopCommands
  intro h
  obtain ⟨-, -, -, -, henable, -⟩ := h packed 0 0 0 packedReq fastLoop packedBuf false rfl
  obtain ⟨-, haccepted, -⟩ := henable packed_served packedBuf_length packed_defined
  have hshort : (loopsNamed packedBuf).length ≤ 128 := by decide +kernel
  have hrefused := gives_loopEnable true packed_served packedBuf_length packed_defined hshort
  rw [tryEnable_dense (m := seen packed 0) packed_defined packed_refused] at hrefused
  have hlpe := gives_lpe_unique (haccepted hshort packed_dense_enough) hrefused
  rw [post_lpe, post_lpe] at hlpe
  have henabled : (tget (enableLoops (seen packed 0) (loopsNamed packedBuf) true).lpe.loops 0).map Loop.enabled = some true := by decide +kernel
  rw [hlpe] at henabled
  exact absurd henabled (by decide)

end Sys2Proof.Machine
end

section
/-! SUPPORT. Plans: what their commands do at the tick, where a wait leaves to, how the host's plan commands are accepted or refused, and what
a plan tick counts (R146 to R158). -/

open Sys2Proof.Claims

namespace Sys2Proof.Machine

/-! ### What a transition leaves of PLN (R151, R153, R157 to R159) -/

@[simp] theorem journal_pln (m : Mod) (n : Nat) (p : Plan) (w : JWhat) : (journal m n p w).pln = m.pln := by simp [journal]

@[simp] theorem noteValue_pln (m : Mod) (n i : Nat) (r : Option Ramp) : (noteValue m n i r).pln = m.pln := by unfold noteValue; split <;> rfl

@[simp] theorem writePlanState_pln (m : Mod) (n : Nat) : (writePlanState m n).pln = m.pln := by unfold writePlanState; split <;> simp

@[simp] theorem tget_setPlan_same (m : Mod) (n : Nat) (p : Plan) : tget (setPlan m n p).pln.plans n = some p := by simp [setPlan]

/-! ### What the actions leave of their plan (R146, R153) -/

/-- A plan but for its ramps and ACTION_REFUSED, which are all that its own actions change. -/
def Plan.course (p : Plan) : Plan := { p with ramps := [], refused := false }

theorem updateRamp_course (m : Mod) (n : Nat) (p : Plan) (r : Ramp) : (updateRamp m n p r).2.course = p.course := by
  unfold updateRamp
  split
  · rfl
  · dsimp only; split <;> rfl

theorem act_course (m : Mod) (n : Nat) (p : Plan) (a : PAct) : (act m n p a).2.1.course = p.course := by
  unfold act
  dsimp only
  split
  · split <;> rfl
  · exact updateRamp_course ..
  · rfl
  · rfl
  · split <;> rfl
  · rfl
  · rfl
  · rfl
  · rfl

theorem runActs_course (m : Mod) (n : Nat) (p : Plan) (as : List PAct) : (runActs m n p as).2.course = p.course := by
  refine foldl_field (fun mp : Mod × Plan => mp.2.course) _ (fun mp a => ?_) (m, p) as
  dsimp only
  split
  · exact act_course mp.1 n mp.2 a
  · exact act_course mp.1 n mp.2 a

/-- The plan after it enters a step (R151): at that step, its ticks from 0, and in the state it entered with unless a refusal paused it (R153). -/
theorem enterStep_plan (m : Mod) (n : Nat) (p : Plan) (k : Nat) (w : JWhat) : ∃ p', tget (enterStep m n p k w).pln.plans n = some p' ∧
    p'.step = k ∧ p'.inStep = 0 ∧ p'.starts = p.starts ∧ p'.aborting = p.aborting ∧ (p'.st = p.st ∨ p'.st = .paused) := by
  unfold enterStep
  extract_lets p0 s p1 m1
  generalize hacts : runActs m1 n p1 _ = mp
  have hcourse : mp.2.course = p1.course := hacts ▸ runActs_course m1 n p1 _
  have hstep : mp.2.step = k := (congrArg Plan.step hcourse :)
  have hin : mp.2.inStep = 0 := (congrArg Plan.inStep hcourse :)
  have hstarts : mp.2.starts = p.starts := (congrArg Plan.starts hcourse :)
  have haborting : mp.2.aborting = p.aborting := (congrArg Plan.aborting hcourse :)
  have hst : mp.2.st = p.st := (congrArg Plan.st hcourse :)
  dsimp only
  rw [writePlanState_pln, tget_setPlan_same]
  refine ⟨_, rfl, ?_⟩
  split
  · exact ⟨hstep, hin, hstarts, haborting, .inr rfl⟩
  · exact ⟨hstep, hin, hstarts, haborting, .inl hst⟩

/-- A plan that ends is IDLE, its ramps gone (R154). -/
theorem endPlan_plan (m : Mod) (n : Nat) (p : Plan) (w : JWhat) : tget (endPlan m n p w).pln.plans n =
    some { p with st := .idle, aborting := false, ramps := [], pausedByUnit := false, pausedByCmd := false } := by simp [endPlan]

theorem pausePlan_plan (m : Mod) (n : Nat) (p : Plan) (cause source : Nat) : tget (pausePlan m n p cause source).pln.plans n = some p := by
  simp [pausePlan]

theorem resumePlan_plan (m : Mod) (n : Nat) (p : Plan) (cause source : Nat) : tget (resumePlan m n p cause source).pln.plans n =
    some { p with st := if p.aborting then .aborting else .running, pausedByUnit := false, pausedByCmd := false } := by simp [resumePlan]

/-! ### Commands at their tick (R154, R155) -/

section
variable {m : Mod} {c : PlanCmd} {p : Plan} (hp : tget m.pln.plans c.plan = some p)
include hp

theorem applyCmd_start (hop : c.op = 0) (hst : p.st = .idle) : applyCmd m c = enterStep m c.plan
    { p with st := .running, slot := freeSlot m, starts := p.starts + 1, resumed := false, altTaken := false, pausedByUnit := false,
             pausedByCmd := false, aborting := false } c.step
    { kind := 1, cause := 4, fromStep := 0xFFFF, toStep := c.step, source := c.source } := by simp [applyCmd, hp, hop, hst]

theorem applyCmd_pause (hop : c.op = 1) (hst : p.st = .running ∨ p.st = .aborting) :
    applyCmd m c = pausePlan m c.plan { p with st := .paused, pausedByCmd := true } 4 c.source := by simp [applyCmd, hp, hop, hst]

theorem applyCmd_resume (hop : c.op = 2) (hst : p.st = .paused) : applyCmd m c = resumePlan m c.plan p 4 c.source := by
  simp [applyCmd, hp, hop, hst]

theorem applyCmd_abort (hop : c.op = 3) (hst : p.st ≠ .idle) : applyCmd m c = abortPlan m c.plan p 4 c.source := by
  simp [applyCmd, hp, hop, hst]

end

theorem planTransitions_hold : Claims.PlanTransitions := by
  intro m c p hp
  refine ⟨fun hop hst => ?_, fun hop hst => ?_, fun hop hst => ?_, fun hop hst hends => ?_, fun hop hst hfirst hstep => ?_⟩
  · rw [applyCmd_start hp hop hst]
    obtain ⟨p', hget, hstep, hin, hstarts, -, hst'⟩ := enterStep_plan m c.plan _ c.step _
    exact ⟨p', hget, hstep, hstarts, hin, hst'⟩
  · rw [applyCmd_pause hp hop hst]
    exact ⟨_, pausePlan_plan .., rfl, rfl, rfl, rfl⟩
  · rw [applyCmd_resume hp hop hst]
    exact ⟨_, resumePlan_plan .., rfl, rfl⟩
  · rw [applyCmd_abort hp hop hst, abortPlan, if_pos (by simpa using hends)]
    exact ⟨_, endPlan_plan .., rfl, rfl⟩
  · rw [applyCmd_abort hp hop hst, abortPlan, if_neg (by simp [hfirst, hstep])]
    obtain ⟨p', hget, hat, -, -, haborting, hst'⟩ := enterStep_plan m c.plan _ p.abortStep _
    exact ⟨p', hget, hat, haborting, hst'⟩

/-! ### Where a wait leaves to (R147) -/

theorem waitKinds_hold : Claims.WaitKinds := by
  intro m p
  refine ⟨fun h => ?_, fun h => ?_, fun h => ?_, fun h hcond => ?_, fun h hcond => ?_, fun h hramp hticks => ?_, fun h => ?_⟩
  · simp only [waitLeaves, h]
  · simp only [waitLeaves, h]
  · simp only [waitLeaves, h]
  · simp [waitLeaves, h, hcond]
  · simp [waitLeaves, h, hcond]
  · have hrun : p.ramps.any Ramp.ofStep = true := List.any_eq_true.2 hramp
    simp [waitLeaves, h, hrun, hticks]
  · simp only [waitLeaves, h]

/-- Settles O23: the commands at their tick, and the wait kinds. -/
theorem planSteps : Obligations.PlanSteps := ⟨planTransitions_hold, waitKinds_hold⟩

/-! ### Plan commands as accepted or refused (R156, R158) -/

/-- A refusal is not the status OK. -/
theorem planRefusal_ne_ok (m : Mod) (n op k : Nat) : planRefusal m n op k ≠ some .ok := by
  unfold planRefusal
  split
  · simp
  · dsimp only
    split <;> split_ifs <;> simp

theorem hostPlanCmd_accepted {m : Mod} {n op k : Nat} (q : Req) (h : planRefusal m n op k = none) : hostPlanCmd m q n op k =
    startOp { m with pln := { m.pln with cmds := m.pln.cmds ++ [{ plan := n, op := op, step := k, source := 1, req := some q }] } } q := by
  simp only [hostPlanCmd, planCommand, h]

theorem hostPlanCmd_refused {m : Mod} {n op k : Nat} {e : Status} (q : Req) (h : planRefusal m n op k = some e) :
    hostPlanCmd m q n op k = post m q e := by
  have he : e ≠ .ok := fun hok => planRefusal_ne_ok m n op k (hok ▸ h)
  simp only [hostPlanCmd, planCommand, h]

/-- The clock is nothing that a plan command is refused by. -/
theorem planRefusal_seen (s : State) (t n op k : Nat) : planRefusal (seen s t) n op k = planRefusal s.m n op k := rfl

section
variable {i : Instr} {s : State} {t n op k : Nat} {q : Req} (hs : Served s t 0x0022 q)
  (hi : exec i s = s.runCmd t 0x0022 q (fun m => hostPlanCmd m q n op k))
include hs hi

theorem gives_planCmd_accepted (h : planRefusal s.m n op k = none) : Gives i s t
    (startOp { seen s t with pln := { s.m.pln with cmds := s.m.pln.cmds ++ [{ plan := n, op := op, step := k, source := 1, req := some q }] } } q) :=
  hostPlanCmd_accepted q ((planRefusal_seen s t n op k).trans h) ▸ gives_of_runCmd hs hi

theorem gives_planCmd_refused {e : Status} (h : planRefusal s.m n op k = some e) : Gives i s t (post (seen s t) q e) :=
  hostPlanCmd_refused q ((planRefusal_seen s t n op k).trans h) ▸ gives_of_runCmd hs hi

end

/-- A refresh writes the newest record of a slot again with the plan's tick counts, to the copy that is due, and not to the ring (R158). -/
theorem makes_resumeSlotRefresh {s : State} {t n : Nat} {p : Plan} {j : JRec} (hon : On s) (hp : tget s.m.pln.plans n = some p)
    (hst : p.st = .running ∨ p.st = .aborting) (hticks : p.now.ticks ≠ 0) (hin : p.inStep ≠ 0) (hdue : p.inStep % 1000 = 0)
    (hj : (if ((tget s.m.nv.slots n).getD {}).nextB then ((tget s.m.nv.slots n).getD {}).copyA else ((tget s.m.nv.slots n).getD {}).copyB) = some j) :
    Makes (.resumeSlotRefresh t n) s (fun m =>
      tget m.nv.slots n = some (((tget s.m.nv.slots n).getD {}).put { j with inStep := p.inStep, remain := p.remain }) ∧
      m.nv.journal = s.m.nv.journal) := by
  have hg := gives_of_runOn (i := .resumeSlotRefresh t n) hon (Eq.refl (execResumeSlotRefresh t n s))
  have hp' : tget (seen s t).pln.plans n = some p := hp
  have hj' : (if ((tget (seen s t).nv.slots n).getD {}).nextB then ((tget (seen s t).nv.slots n).getD {}).copyA
    else ((tget (seen s t).nv.slots n).getD {}).copyB) = some j := hj
  have hwaits : ((p.st == .running || p.st == .aborting) && p.now.ticks != 0 && p.inStep != 0 && p.inStep % 1000 == 0) = true := by
    simp [hst, hticks, hin, hdue]
  simp only [hp', hwaits, if_true, hj'] at hg
  exact makes_of_gives hg ⟨tget_tset_same .., rfl⟩

/-! ### What a plan tick counts (R150, R161) -/

/-- The number of ticks and START_EN in force: what only the tick itself changes. -/
def tickState (m : Mod) : Nat × Bool := (m.pln.ticks, m.pln.startEn)

theorem tickState_of_pln {m m' : Mod} (h : m'.pln = m.pln) : tickState m' = tickState m := by rw [tickState, h, tickState]

@[simp] theorem setUnit_pln (m : Mod) (i : Nat) (u : Machine.Unit) : (setUnit m i u).pln = m.pln := by unfold setUnit; split <;> rfl

@[simp] theorem enterMode_pln (m : Mod) (i : Nat) (x : Mode) : (enterMode m i x).pln = m.pln := by
  unfold enterMode
  split
  · rfl
  · dsimp only; split <;> simp

/-- What neither a unit's new mode nor a noted refusal changes, a mode command over its subtree keeps (R61, R63). -/
theorem walk_field {γ : Type} (g : Mod → γ) (hmode : ∀ m i x, g (enterMode m i x) = g m) (hrefused : ∀ m k, g (sigRefused m k) = g m)
    (m : Mod) (c : WalkCmd) : g (walk m c).1 = g m := by
  unfold walk
  extract_lets tree tree' judge ref ok none_ res m1
  have hm1 : g m1 = g m := by
    unfold m1
    split_ifs
    · rfl
    · refine foldl_field g _ (fun m i => ?_) m ok
      split
      · exact hmode ..
      · split
        · exact hmode ..
        · rfl
  dsimp only
  split_ifs
  · exact hm1
  · exact (hrefused ..).trans hm1

@[simp] theorem walk_pln (m : Mod) (c : WalkCmd) : (walk m c).1.pln = m.pln := walk_field Mod.pln enterMode_pln sigRefused_pln m c

@[simp] theorem unitCommand_pln (m : Mod) (h : W32) (mode : Option Mode) (aon c1 : Bool) : (unitCommand m h mode aon c1).1.pln = m.pln := by
  unfold unitCommand
  split
  · dsimp only; split <;> rfl
  · dsimp only
    split
    · rfl
    · exact walk_pln ..

@[simp] theorem swapRequest_pln (m : Mod) (n b src : Nat) : (swapRequest m n b src).1.pln = m.pln := by
  unfold swapRequest
  dsimp only
  split
  · rfl
  · split_ifs <;> rfl

theorem noteRefused_pln (m : Mod) (test obj kind : Nat) : (noteRefused m test obj kind).pln = m.pln := rfl

@[simp] theorem tryEnable_pln (m : Mod) (ns : List Nat) (on : Bool) : (tryEnable m ns on).1.pln = m.pln := by
  unfold tryEnable
  split
  · rfl
  · split
    · exact noteRefused_pln ..
    · exact foldl_field Mod.pln _ (fun m n => enableLoop_pln m n on) m ns

@[simp] theorem updateRamp_pln (m : Mod) (n : Nat) (p : Plan) (r : Ramp) : (updateRamp m n p r).1.pln = m.pln := by
  unfold updateRamp
  split
  · rfl
  · dsimp only; split <;> simp

@[simp] theorem setPlan_tickState (m : Mod) (n : Nat) (p : Plan) : tickState (setPlan m n p) = tickState m := rfl

@[simp] theorem writePlanState_tickState (m : Mod) (n : Nat) : tickState (writePlanState m n) = tickState m :=
  tickState_of_pln (writePlanState_pln m n)

@[simp] theorem journal_tickState (m : Mod) (n : Nat) (p : Plan) (w : JWhat) : tickState (journal m n p w) = tickState m :=
  tickState_of_pln (journal_pln m n p w)

@[simp] theorem planCommand_tickState (m : Mod) (n op k src : Nat) (q : Option Req) : tickState (planCommand m n op k src q).1 = tickState m := by
  unfold planCommand; split <;> rfl

theorem act_tickState (m : Mod) (n : Nat) (p : Plan) (a : PAct) : tickState (act m n p a).1 = tickState m := by
  unfold act
  dsimp only
  split
  · split
    · rfl
    · exact tickState_of_pln (by simp)
  · exact tickState_of_pln (updateRamp_pln ..)
  · exact tickState_of_pln (swapRequest_pln ..)
  · exact tickState_of_pln (tryEnable_pln ..)
  · split
    · rfl
    · exact tickState_of_pln (unitCommand_pln ..)
  · exact tickState_of_pln (leadEvent_pln ..)
  · exact planCommand_tickState ..
  · exact planCommand_tickState ..
  · rfl

theorem runActs_tickState (m : Mod) (n : Nat) (p : Plan) (as : List PAct) : tickState (runActs m n p as).1 = tickState m := by
  refine foldl_field (fun mp : Mod × Plan => tickState mp.1) _ (fun mp a => ?_) (m, p) as
  dsimp only
  split
  · exact act_tickState mp.1 n mp.2 a
  · refine (tickState_of_pln (journal_pln ..)).trans ?_
    exact act_tickState mp.1 n mp.2 a

@[simp] theorem enterStep_tickState (m : Mod) (n : Nat) (p : Plan) (k : Nat) (w : JWhat) : tickState (enterStep m n p k w) = tickState m := by
  unfold enterStep
  extract_lets p0 s p1 m1
  generalize hacts : runActs m1 n p1 _ = mp
  have hkept : tickState mp.1 = tickState m := hacts ▸ (runActs_tickState m1 n p1 _).trans (journal_tickState ..)
  dsimp only
  rw [writePlanState_tickState, setPlan_tickState]
  split
  · exact (journal_tickState ..).trans hkept
  · exact hkept

@[simp] theorem endPlan_tickState (m : Mod) (n : Nat) (p : Plan) (w : JWhat) : tickState (endPlan m n p w) = tickState m := by simp [endPlan]

@[simp] theorem pausePlan_tickState (m : Mod) (n : Nat) (p : Plan) (cause src : Nat) : tickState (pausePlan m n p cause src) = tickState m := by
  simp [pausePlan]

@[simp] theorem resumePlan_tickState (m : Mod) (n : Nat) (p : Plan) (cause src : Nat) : tickState (resumePlan m n p cause src) = tickState m := by
  simp [resumePlan]

@[simp] theorem abortPlan_tickState (m : Mod) (n : Nat) (p : Plan) (cause src : Nat) : tickState (abortPlan m n p cause src) = tickState m := by
  unfold abortPlan; split <;> simp

@[simp] theorem applyCmd_tickState (m : Mod) (c : PlanCmd) : tickState (applyCmd m c) = tickState m := by
  unfold applyCmd
  split
  · rfl
  · split <;> split_ifs <;> simp

theorem applyCmds_tickState (m : Mod) : tickState (applyCmds m) = tickState m := by
  refine foldl_field tickState _ (fun m' c => ?_) _ m.pln.cmds
  refine (tickState_of_pln (postOpt_pln ..)).trans ?_
  split_ifs
  · rfl
  · exact applyCmd_tickState ..

theorem unitOnPlan_tickState (m : Mod) (n : Nat) (mode : Mode) : tickState (unitOnPlan m n mode) = tickState m := by
  unfold unitOnPlan
  split
  · rfl
  · split
    · rfl
    · split
      · exact endPlan_tickState ..
      · split_ifs <;> simp
      · split_ifs <;> simp
      · split_ifs <;> simp

theorem commandsAndModes_tickState (m : Mod) (ns : List Nat) : tickState (commandsAndModes m ns) = tickState m := by
  refine (foldl_field tickState _ (fun m' n => ?_) (applyCmds m) ns).trans (applyCmds_tickState m)
  split
  · split
    · exact unitOnPlan_tickState ..
    · rfl
  · rfl

theorem tickRamps_tickState (m : Mod) (n : Nat) : tickState (tickRamps m n) = tickState m := by
  unfold tickRamps
  split
  · rfl
  · next p _ =>
    split
    · rfl
    · refine (setPlan_tickState ..).trans (foldl_field (fun mp : Mod × Plan => tickState mp.1) _ (fun mp r => ?_) (m, p) p.ramps)
      split
      · exact tickState_of_pln (updateRamp_pln ..)
      · rfl

theorem tickWait_tickState (m : Mod) (n : Nat) : tickState (tickWait m n) = tickState m := by
  unfold tickWait
  split
  · rfl
  · split
    · rfl
    · dsimp only
      split
      · rfl
      · split <;> simp

/-- A tick is counted, and START_EN as last written is in force from it (R150, R161). -/
theorem planTick_tickState (m : Mod) : tickState (planTick m) = (m.pln.ticks + 1, m.pln.startEnNew) := by
  unfold planTick
  extract_lets ns b m1 held m2 m3
  have hramps : tickState m2 = tickState m1 := foldl_field tickState _ tickRamps_tickState m1 _
  have hcmds : tickState m3 = tickState m2 := commandsAndModes_tickState m2 ns
  refine (foldl_field tickState _ (fun m' n => ?_) m3 ns).trans (hcmds.trans hramps)
  split
  · split
    · exact tickWait_tickState ..
    · rfl
  · rfl

/-- A granted burst of enables leaves the plans alone (R120). -/
theorem pumpBurst_pln (m : Mod) : (pumpBurst m).pln = m.pln := by
  unfold pumpBurst
  split
  · split
    · rfl
    · dsimp only; split <;> simp
  · rfl

theorem pumpPanel_pln (m : Mod) : (pumpPanel m).pln = m.pln := by
  unfold pumpPanel
  split
  · rfl
  · split <;> simp

theorem pumpLoops_pln (m : Mod) : (pumpLoops m).pln = m.pln := (pumpPanel_pln _).trans (pumpBurst_pln m)

/-- QUIET and RUN, taken at the tick, leave the plans alone (R292). -/
theorem powerAtTick_pln (m : Mod) : (powerAtTick m).pln = m.pln := by unfold powerAtTick; split <;> simp

theorem gives_planTick {s : State} {t : Nat} (hon : On s) (hruns : ctlRuns s.m = true) (hat : onInstant (seen s t) 100 0 = true) :
    Gives (.planTick t) s t (planTick (pumpLoops (powerAtTick (seen s t)))) := by
  have hg := gives_of_runOn (i := .planTick t) hon (Eq.refl (execPlanTick t s))
  have hruns' : ctlRuns (seen s t) = true := hruns
  rwa [hruns', hat] at hg

/-- Settles O22: commands accepted or refused, the tick's own record, and the refresh of a resume slot. -/
theorem planCommands : Obligations.PlanCommands := by
  intro s t n k q
  refine ⟨fun hs h => gives_planCmd_accepted hs rfl h, fun hs h => gives_planCmd_accepted hs rfl h, fun hs h => gives_planCmd_accepted hs rfl h,
    fun hs h => gives_planCmd_accepted hs rfl h, fun e hs h => gives_planCmd_refused hs rfl h, fun hon hruns hat => ?_,
    fun p j hon hp hst hticks hin hdue hj => makes_resumeSlotRefresh hon hp hst hticks hin hdue hj⟩
  have hg := gives_planTick hon hruns hat
  have hpln : (pumpLoops (powerAtTick (seen s t))).pln = s.m.pln := (pumpLoops_pln _).trans (powerAtTick_pln _)
  have htick := planTick_tickState (pumpLoops (powerAtTick (seen s t)))
  rw [hpln] at htick
  obtain ⟨hticks, hen⟩ := Prod.ext_iff.1 htick
  exact ⟨hg, makes_of_gives hg ⟨hticks, hen⟩⟩

end Sys2Proof.Machine
end

section
/-! SUPPORT. Field channels: what is read of a channel after each update of its table, and what a drive makes of it (R60, R171, R172, R184,
R195, R196). -/

open Sys2Proof.Claims

namespace Sys2Proof.Machine

theorem us_eq (n : Nat) : us n = 1000 * n := Nat.mul_comm n 1000

/-! ### A channel of the table -/

theorem chanOf_of_tget {m : Mod} {n : Nat} {c : Chan} (h : tget m.fio.chans n = some c) : chanOf m n = c := by simp [chanOf, h]

/-- A channel that is not inert has a record (R296). -/
theorem tget_of_chanOf {m : Mod} {n : Nat} {c : Chan} (h : chanOf m n = c) (hne : c ≠ {}) : tget m.fio.chans n = some c := by
  cases hc : tget m.fio.chans n with
  | none => exact absurd h (by simpa [chanOf, hc] using hne.symm)
  | some d => rw [← h, chanOf_of_tget hc]

theorem Chan.ne_inert_of_used {c : Chan} (h : c.used = true) : c ≠ {} := by rintro rfl; simp [Chan.used] at h

/-- A channel is what the field channels' tables say. -/
theorem chanOf_of_fio {m m' : Mod} (h : m'.fio = m.fio) (k : Nat) : chanOf m' k = chanOf m k := by rw [chanOf, h, chanOf]

/-- A channel that has a record is what it is replaced by. -/
theorem chanOf_setChan_same {m : Mod} {n : Nat} {c : Chan} (h : tget m.fio.chans n = some c) (d : Chan) : chanOf (setChan m n d) n = d := by
  simp [chanOf, h]

theorem chanOf_setChan_unlisted {m : Mod} {n : Nat} (h : tget m.fio.chans n = none) (d : Chan) : chanOf (setChan m n d) n = chanOf m n := by
  simp [chanOf, h]

theorem chanOf_setChan_other (m : Mod) {n k : Nat} (d : Chan) (h : k ≠ n) : chanOf (setChan m n d) k = chanOf m k := by
  simp [chanOf, tget_tmod_other _ _ _ _ h]

theorem tget_setChan_same {m : Mod} {n : Nat} {c : Chan} (h : tget m.fio.chans n = some c) (d : Chan) :
    tget (setChan m n d).fio.chans n = some d := by simp [h]

theorem setChan_isSome (m : Mod) (n k : Nat) (d : Chan) : (tget (setChan m n d).fio.chans k).isSome = (tget m.fio.chans k).isSome := by
  by_cases h : k = n
  · subst h; simp
  · rw [setChan_chans, tget_tmod_other _ _ _ _ h]

theorem setChan_setChan (m : Mod) (n : Nat) (c d : Chan) : setChan (setChan m n c) n d = setChan m n d := by
  have hlist : tmod (tmod m.fio.chans n (fun _ => c)) n (fun _ => d) = tmod m.fio.chans n (fun _ => d) := by
    simp only [tmod, List.map_map]
    refine List.map_congr_left fun e _ => ?_
    by_cases he : e.1 = n <;> simp [he]
  simp [setChan, hlist]

/-- What a channel publishes changes nothing of it but what it published last (R168). -/
theorem chanOf_publish (m : Mod) (n : Nat) : ∃ v q, chanOf (publish m n) n = { chanOf m n with smp := v, smpQ := q } := by
  unfold publish
  extract_lets c v q
  split
  · exact ⟨_, _, rfl⟩
  · rw [chanOf_of_fio (ownerWrite_fio ..)]
    cases h : tget m.fio.chans n with
    | none => exact ⟨_, _, chanOf_setChan_unlisted h _⟩
    | some d => exact ⟨v, q, chanOf_setChan_same h _⟩

/-- A fault of a diagnostic below F2 leaves the field channels alone (R182, R390). -/
theorem chanFault_fio (m : Mod) (n bit : Nat) {cls : Nat} (h : cls < 2) : (chanFault m n cls bit).fio = m.fio := by
  rw [chanFault, reportFault_minor h, collect_fio]

/-- A switch that opens changes of a channel at most its driver, its pulse and its need of an enable (R174, R220). -/
theorem chanOf_openSwitch (m : Mod) (b n : Nat) : chanOf (openSwitch m b) n = chanOf m n ∨
    chanOf (openSwitch m b) n = { chanOf m n with driver := false, pulse := none, needEnable := true } := by
  unfold openSwitch
  split
  · simp only [chanOf, tget_tmap]
    cases tget m.fio.chans n with
    | none => exact .inl rfl
    | some c => simp only [Option.map_some, Option.getD_some]; split <;> simp
  · exact .inl rfl

/-! ### What a drive makes of a channel (R60, R171, R172, R184, R195, R196) -/

/-- The channel as its drive finds it: OFF of its unit and its owner's first write are noted (R60, R296). -/
def notedChan (m : Mod) (n : Nat) : Chan :=
  { noteOff m n (chanOf m n) with written := (noteOff m n (chanOf m n)).written || firstSeen m (noteOff m n (chanOf m n)) }

/-- A condition of R184 stands for the channel at its drive. -/
def safeNow (m : Mod) (n : Nat) : Bool := safeStands m n (notedChan m n)

/-- The channel under the conditions that stand, or under none. -/
def enteredChan (m : Mod) (n : Nat) : Chan :=
  if safeNow m n then (notedChan m n).safeEntry else { notedChan m n with safeDriving := false }

/-- The state a DO, PWM or TEST_SOURCE channel is driven to, and the current an AO sets. -/
def onNow (m : Mod) (n : Nat) : Bool :=
  !(enteredChan m n).blocked && (if safeNow m n then (enteredChan m n).safeOn else wantOn m n (enteredChan m n))
def maNow (m : Mod) (n : Nat) : F32 :=
  if bitOf (enteredChan m n).status.toNat 10 then 0x40600000 else if safeNow m n then (enteredChan m n).safeMa_ else wantMa m n (enteredChan m n)

/-- What a drive notes is no part of the record, of the diagnostics, or of what is driven. -/
structure SameChan (c d : Chan) : Prop where
  rcd : d.rcd = c.rcd
  status : d.status = c.status
  pulse : d.pulse = c.pulse
  demand : d.demand = c.demand

theorem noteOff_same (m : Mod) (n : Nat) (c : Chan) : SameChan c (noteOff m n c) := by
  unfold noteOff; split_ifs <;> exact ⟨rfl, rfl, rfl, rfl⟩

theorem Chan.safeEntry_same (c : Chan) : SameChan c c.safeEntry := by unfold Chan.safeEntry; split_ifs <;> exact ⟨rfl, rfl, rfl, rfl⟩

theorem notedChan_same (m : Mod) (n : Nat) : SameChan (chanOf m n) (notedChan m n) := by
  obtain ⟨hrcd, hstatus, hpulse, hdemand⟩ := noteOff_same m n (chanOf m n)
  exact ⟨hrcd, hstatus, hpulse, hdemand⟩

theorem enteredChan_same (m : Mod) (n : Nat) : SameChan (chanOf m n) (enteredChan m n) := by
  obtain ⟨hrcd, hstatus, hpulse, hdemand⟩ := notedChan_same m n
  unfold enteredChan
  split
  · obtain ⟨hrcd', hstatus', hpulse', hdemand'⟩ := (notedChan m n).safeEntry_same
    exact ⟨hrcd'.trans hrcd, hstatus'.trans hstatus, hpulse'.trans hpulse, hdemand'.trans hdemand⟩
  · exact ⟨hrcd, hstatus, hpulse, hdemand⟩

/-- An AO sets its current (R195, R196). -/
theorem drive_ao {m : Mod} {n : Nat} (h : (chanOf m n).isAo = true) : drive m n = setChan m n
    (if maNow m n = (enteredChan m n).setMa then enteredChan m n else { enteredChan m n with setMa := maNow m n, setAt := m.clk }) :=
  if_pos (show (enteredChan m n).isAo = true by rw [Chan.isAo, (enteredChan_same m n).rcd]; exact h)

/-- A DO, PWM or TEST_SOURCE channel switches to what it has to drive, and its pulse goes on or ends (R171, R177, R179). -/
theorem drive_digital {m : Mod} {n : Nat} (hao : (chanOf m n).isAo = false) (hdig : ((chanOf m n).isDo || (chanOf m n).isSource) = true) :
    ∃ p r x, (p = none ∨ p = (enteredChan m n).pulse) ∧ drive m n = { m with fio := { m.fio with
      chans := tmod m.fio.chans n (fun _ => { (enteredChan m n).switchTo (onNow m n) m.clk with pulse := p, retest := r }), discards := x } } := by
  have hrcd := (enteredChan_same m n).rcd
  have hao' : (enteredChan m n).isAo = false := by rw [Chan.isAo, hrcd]; exact hao
  have hdig' : ((enteredChan m n).isDo || (enteredChan m n).isSource) = true := by rw [Chan.isDo, Chan.isSource, hrcd]; exact hdig
  have hdrive : drive m n = if onNow m n != (enteredChan m n).driver && (enteredChan m n).pulse.isSome then
      { setChan m n { (enteredChan m n).switchTo (onNow m n) m.clk with pulse := none, retest := true } with
        fio := { (setChan m n { (enteredChan m n).switchTo (onNow m n) m.clk with pulse := none, retest := true }).fio with
          discards := satInc m.fio.discards } }
      else setChan m n { (enteredChan m n).switchTo (onNow m n) m.clk with
        pulse := if safeNow m n && !onNow m n then none else (enteredChan m n).pulse } :=
    (if_neg (ne_true_of_eq_false hao')).trans (if_pos hdig')
  rw [hdrive]
  split
  · exact ⟨none, true, _, .inl rfl, rfl⟩
  · refine ⟨if safeNow m n && !onNow m n then none else (enteredChan m n).pulse, ((enteredChan m n).switchTo (onNow m n) m.clk).retest, _, ?_, rfl⟩
    split
    · exact .inl rfl
    · exact .inr rfl

/-- A channel of any other function is not driven. -/
theorem drive_undriven {m : Mod} {n : Nat} (hao : (chanOf m n).isAo = false) (hdig : ((chanOf m n).isDo || (chanOf m n).isSource) = false) :
    drive m n = m := by
  have hrcd := (enteredChan_same m n).rcd
  have hao' : (enteredChan m n).isAo = false := by rw [Chan.isAo, hrcd]; exact hao
  have hdig' : ((enteredChan m n).isDo || (enteredChan m n).isSource) = false := by rw [Chan.isDo, Chan.isSource, hrcd]; exact hdig
  exact (if_neg (ne_true_of_eq_false hao')).trans (if_neg (ne_true_of_eq_false hdig'))

/-- A drive leaves the table as it is or replaces its channel. -/
theorem drive_chans (m : Mod) (n : Nat) : (drive m n).fio.chans = m.fio.chans ∨ ∃ d, (drive m n).fio.chans = tmod m.fio.chans n (fun _ => d) := by
  cases hao : (chanOf m n).isAo with
  | true => rw [drive_ao hao]; exact .inr ⟨_, rfl⟩
  | false =>
    cases hdig : (chanOf m n).isDo || (chanOf m n).isSource with
    | true =>
      obtain ⟨p, r, x, -, hd⟩ := drive_digital hao hdig
      rw [hd]; exact .inr ⟨_, rfl⟩
    | false => rw [drive_undriven hao hdig]; exact .inl rfl

/-- The other channels are as they were. -/
theorem chanOf_drive_other (m : Mod) {n k : Nat} (h : k ≠ n) : chanOf (drive m n) k = chanOf m k := by
  rcases drive_chans m n with hd | ⟨d, hd⟩ <;> simp [chanOf, hd, tget_tmod_other _ _ _ _ h]

/-- A drive gives a channel no record and takes none away. -/
theorem drive_isSome (m : Mod) (n k : Nat) : (tget (drive m n).fio.chans k).isSome = (tget m.fio.chans k).isSome := by
  rcases drive_chans m n with hd | ⟨d, hd⟩
  · rw [hd]
  · rw [hd]
    by_cases h : k = n
    · subst h; simp
    · rw [tget_tmod_other _ _ _ _ h]

@[simp] theorem Chan.switchTo_driver (c : Chan) (on : Bool) (clk : Nat) : (c.switchTo on clk).driver = on := by
  unfold Chan.switchTo; split_ifs with h
  · exact h
  · rfl

/-- A switch of the driver ends NOT_ACHIEVED, bit 8, and no other diagnostic (R173). -/
theorem Chan.switchTo_status (c : Chan) (on : Bool) (clk : Nat) {i : Nat} (hi : i ≠ 8) :
    bitOf (c.switchTo on clk).status.toNat i = bitOf c.status.toNat i := by
  unfold Chan.switchTo
  split_ifs
  · rfl
  · rw [show ({ c with driver := on, switchedAt := clk, armed := c.armed || !on, status := c.status &&& ~~~0x00000100#32, naSince := none } : Chan).status
      = clr32 c.status 0x00000100#32 from rfl, bitOf_clr32,
      show bitOf (0x00000100#32).toNat i = false by
        rw [bitOf, show (0x00000100#32).toNat = 2 ^ 8 from rfl, Nat.testBit_two_pow]; simpa using hi.symm]
    simp

/-- A drive sets no diagnostic and clears NOT_ACHIEVED alone, and it begins no pulse (R173, R177). -/
theorem drive_keeps_diagnostics {m : Mod} {n : Nat} {c : Chan} (h : tget m.fio.chans n = some c) :
    (∀ i, i ≠ 8 → bitOf (chanOf (drive m n) n).status.toNat i = bitOf c.status.toNat i) ∧ (c.pulse = none → (chanOf (drive m n) n).pulse = none) := by
  obtain ⟨-, hstatus, hpulse, -⟩ := enteredChan_same m n
  rw [chanOf_of_tget h] at hstatus hpulse
  cases hao : (chanOf m n).isAo with
  | true =>
    rw [drive_ao hao, chanOf_setChan_same h]
    split <;> exact ⟨fun i _ => by rw [← hstatus], fun hp => hpulse.trans hp⟩
  | false =>
    cases hdig : (chanOf m n).isDo || (chanOf m n).isSource with
    | true =>
      obtain ⟨p, r, x, hp, hd⟩ := drive_digital hao hdig
      rw [hd, chanOf_of_tget (c := { (enteredChan m n).switchTo (onNow m n) m.clk with pulse := p, retest := r }) (by simp [h])]
      refine ⟨fun i hi => ?_, fun hnone => ?_⟩
      · exact ((enteredChan m n).switchTo_status _ _ hi).trans (by rw [hstatus])
      · rcases hp with rfl | rfl
        · rfl
        · exact hpulse.trans hnone
    | false => rw [drive_undriven hao hdig, chanOf_of_tget h]; exact ⟨fun _ _ => rfl, id⟩

end Sys2Proof.Machine
end

section
/-! SUPPORT. Digital inputs and the instants of digital channels: the yo-yo filter (R167), samples and readbacks (R163, R168), and PWM (R172). -/

open Sys2Proof.Claims

namespace Sys2Proof.Machine

/-! ### The yo-yo filter (R167) -/

/-- An input that is FALSE turns TRUE at FILT_THR, and one that is TRUE turns FALSE at FILT_CEIL − FILT_THR (R167). -/
theorem yoyo_q (c : Chan) (h : Bool) (clk : Nat) : (yoyo c h clk).q =
    if c.q then !decide ((yoyo c h clk).count + c.rcd.filtThr ≤ c.rcd.filtCeil) else decide (c.rcd.filtThr ≤ (yoyo c h clk).count) := by
  unfold yoyo
  cases c.q <;> simp

theorem yoyoFilter_holds : Claims.YoyoFilter := by
  intro c clk _
  refine ⟨rfl, rfl, fun hq => ?_, fun hq _ => ?_, fun hq => ?_, fun h => ⟨rfl, rfl⟩⟩ <;> rw [yoyo_q, hq] <;> rfl

/-! ### Samples (R163, R167, R168) -/

/-- No test source has a dark pulse going on where no channel that is one has. -/
theorem darkSource_setChan {m : Mod} {n : Nat} {c : Chan} (h : darkSource m = none) (hc : c.isSource = false) : darkSource (setChan m n c) = none := by
  simp only [darkSource, Option.map_eq_none_iff, List.find?_eq_none] at h ⊢
  intro e he
  obtain ⟨d, hd, rfl⟩ := List.mem_map.1 he
  by_cases hn : d.1 = n
  · rw [if_pos hn]; simp [hc]
  · rw [if_neg hn]; exact h d hd

/-- An input that has shown no foreign pulse, while none goes on, is as it was (R181). -/
theorem foreignPulse_quiet {m : Mod} {n : Nat} (high was : Bool) (hdark : darkSource m = none) (hshown : (chanOf m n).shown = none) :
    foreignPulse m n high was = m := by
  simp only [foreignPulse, hdark, hshown]

/-- An input after a sample of the filter alone, with no low run before it. -/
def Chan.sampled (c : Chan) (high : Bool) (clk : Nat) : Chan :=
  { yoyo c high clk with lastRaw := high, lowAt := if high then none else some clk }

/-- A sample outside test windows and pulses goes to the filter alone (R167). -/
theorem sampleInput_plain {m : Mod} {n : Nat} {c : Chan} (high : Bool) (hc : tget m.fio.chans n = some c) (hdi : c.isDi = true)
    (hwin : c.window = none) (hshadow : c.shadow = none) (hshown : c.shown = none) (hlow : c.lowAt = none) (hdark : darkSource m = none) :
    sampleInput m n high = publish (setChan m n (c.sampled high m.clk)) n := by
  have hsrc : c.isSource = false := by
    rcases (show c.rcd.function = 1 ∨ c.rcd.function = 2 by simpa [Chan.isDi] using hdi) with h | h <;> simp [Chan.isSource, h]
  have htake : takeFilter c = c := by simp [takeFilter, hshadow]
  unfold sampleInput
  rw [chanOf_of_tget hc, htake]
  simp only [hwin, hlow, ite_self, Bool.false_eq_true, if_false, Option.none_or]
  have hquiet : foreignPulse (setChan m n (c.sampled high m.clk)) n high c.lastRaw = setChan m n (c.sampled high m.clk) :=
    foreignPulse_quiet high c.lastRaw (darkSource_setChan hdark hsrc) (by rw [chanOf_setChan_same hc]; exact hshown)
  exact congrArg (fun m => publish m n) hquiet

/-- A sample is taken every 10 µs (R163). -/
theorem gives_diSample {s : State} {t n : Nat} {c : Chan} (h : Bool) (hon : On s) (hc : chanOf s.m n = c) : Gives (.diSample t n h) s t
    (if (max s.m.clk t - s.m.tim.zero) % 10000 != 0 || !c.used then seen s t
      else if c.isDi then sampleInput (seen s t) n h
      else if c.drives then (if c.pulse.isSome then seen s t else publish (setChan (seen s t) n { c with rbHigh := h }) n)
      else seen s t) := by
  have hg := gives_of_runOn (i := .diSample t n h) (t := t) hon (Eq.refl (execDiSample t n h s))
  rw [show chanOf (seen s t) n = c from hc] at hg
  exact hg

/-! ### Demands and PWM (R171, R172) -/

theorem command_isSome (m : Mod) (n k : Nat) (v : Val) (q : Qual) :
    (tget (command m n v q).fio.chans k).isSome = (tget m.fio.chans k).isSome := by
  unfold command takeCommand
  split
  · rw [drive_isSome, setChan_isSome]
  · rfl

@[simp] theorem readDemand_clk (m : Mod) (n : Nat) : (readDemand m n).clk = m.clk := by unfold readDemand; dsimp only; split <;> simp

theorem readDemand_isSome (m : Mod) (n k : Nat) : (tget (readDemand m n).fio.chans k).isSome = (tget m.fio.chans k).isSome := by
  unfold readDemand
  dsimp only
  split
  · exact setChan_isSome ..
  · rw [drive_isSome, command_isSome, setChan_isSome]

theorem Chan.switchTo_perAt (c : Chan) (on : Bool) (clk : Nat) : (c.switchTo on clk).perAt = c.perAt := by
  unfold Chan.switchTo; split_ifs <;> rfl

/-- A PWM period starts at the instant (R172). -/
theorem pwmStart_perAt {m : Mod} {n : Nat} {c : Chan} (hc : tget m.fio.chans n = some c) : (chanOf (pwmStart m n) n).perAt = some m.clk := by
  unfold pwmStart
  extract_lets m1 c1 r1 c2 d steps m2 onUs full on free c3
  have hsome : (tget m2.fio.chans n).isSome = true := by
    have h1 : (tget m1.fio.chans n).isSome = true := by rw [readDemand_isSome, hc]; rfl
    unfold m2; split <;> exact h1
  have hclk : m2.clk = m.clk := by unfold m2; split <;> exact readDemand_clk ..
  obtain ⟨x, hx⟩ := Option.isSome_iff_exists.1 hsome
  rw [chanOf_setChan_same hx, hclk]

/-- A PWM channel's period starts once the one before is over (R172). -/
theorem gives_pwmPeriodStart {s : State} {t n : Nat} {c : Chan} (hon : On s) (hc : chanOf s.m n = c) (hused : c.used = true)
    (hfn : c.rcd.function = 4) (hdue : ∀ x, c.perAt = some x → x + 1000 * c.rcd.pwmPeriodUs ≤ max s.m.clk t) :
    Gives (.pwmPeriodStart t n) s t (pwmStart (seen s t) n) := by
  have hg := gives_of_runOn (i := .pwmPeriodStart t n) (t := t) hon (Eq.refl (execPwmPeriodStart t n s))
  rw [show chanOf (seen s t) n = c from hc] at hg
  cases hper : c.perAt with
  | none =>
    simp only [hper, hused, hfn] at hg
    exact hg
  | some x =>
    have hover : x + us c.rcd.pwmPeriodUs ≤ (seen s t).clk := by rw [us_eq]; exact hdue x hper
    simp only [hper, hused, hfn, decide_eq_true hover] at hg
    exact hg

theorem digitalInstants_hold : Claims.DigitalInstants := by
  intro s t n h c hon hc hused
  have hlisted : tget (seen s t).fio.chans n = some c := tget_of_chanOf hc (Chan.ne_inert_of_used hused)
  refine ⟨fun hat hdi hwin hshadow hshown hlow hdark => ?input, fun hat hdi hdrives hp => ?readback, fun hoff => ?between, fun hfn hmember => ?demand,
    fun hfn hdue => ?period, fun x hend hdue hsafe => ?onTime⟩
  case input =>
    have hg : Gives (.diSample t n h) s t (publish (setChan (seen s t) n (c.sampled h (seen s t).clk)) n) := by
      have hsample := gives_diSample (t := t) h hon hc
      rw [hat, hused, hdi, sampleInput_plain h hlisted hdi hwin hshadow hshown hlow hdark] at hsample
      exact hsample
    obtain ⟨v, q, hpub⟩ := chanOf_publish (setChan (seen s t) n (c.sampled h (seen s t).clk)) n
    rw [chanOf_setChan_same hlisted] at hpub
    have hq := congrArg Chan.q hpub
    have hcount := congrArg Chan.count hpub
    have hraw := congrArg Chan.lastRaw hpub
    exact makes_of_gives hg ⟨hq, hcount, hraw⟩
  case readback =>
    have hg : Gives (.diSample t n h) s t (publish (setChan (seen s t) n { c with rbHigh := h }) n) := by
      have hsample := gives_diSample (t := t) h hon hc
      rw [hat, hused, hdi, hdrives, show c.pulse.isSome = false by rw [hp]; rfl] at hsample
      exact hsample
    obtain ⟨v, q, hpub⟩ := chanOf_publish (setChan (seen s t) n { c with rbHigh := h }) n
    rw [chanOf_setChan_same hlisted] at hpub
    have hrb := congrArg Chan.rbHigh hpub
    have hdriver := congrArg Chan.driver hpub
    exact makes_of_gives hg ⟨hrb, hdriver⟩
  case between =>
    have hg := gives_diSample (t := t) h hon hc
    rwa [bne_iff_ne.2 hoff, Bool.true_or, if_pos rfl] at hg
  case demand =>
    have hg := gives_of_runOn (i := .doDemandRead t n) (t := t) hon (Eq.refl (execDoDemandRead t n s))
    rw [show chanOf (seen s t) n = c from hc] at hg
    dsimp only at hg
    rwa [hused, hfn, hmember] at hg
  case period =>
    exact makes_of_gives (gives_pwmPeriodStart hon hc hused hfn hdue) (pwmStart_perAt hlisted)
  case onTime =>
    have hg := gives_of_runOn (i := .pwmOnTimeEnd t n) (t := t) hon (Eq.refl (execPwmOnTimeEnd t n s))
    rw [show chanOf (seen s t) n = c from hc] at hg
    simp only [hend] at hg
    rw [if_neg (show ¬ (seen s t).clk < x from Nat.not_lt.2 hdue), hsafe, if_neg Bool.false_ne_true] at hg
    have hchan := chanOf_setChan_same hlisted { c.switchTo false (seen s t).clk with onEnd := none }
    have hdriver := congrArg Chan.driver hchan
    have hended := congrArg Chan.onEnd hchan
    have hper := congrArg Chan.perAt hchan
    exact makes_of_gives hg ⟨hdriver.trans (Chan.switchTo_driver ..), hended, hper.trans (Chan.switchTo_perAt ..)⟩

/-- Settles O39: the filter by its count, and the instants by what each does to its channel. -/
theorem digitalInputs : Obligations.DigitalInputs := ⟨yoyoFilter_holds, digitalInstants_hold⟩

end Sys2Proof.Machine
end

section
/-! SUPPORT. Safe values of the outputs and their demands (R171, R184, R196, R199), and test pulses with what comes of them (R175 to R178). -/

open Sys2Proof.Claims

namespace Sys2Proof.Machine

/-! ### Safe values (R184, R196, R199) -/

theorem Chan.not_isAo {c : Chan} (h : c.isDo = true ∨ c.isSource = true) : c.isAo = false := by
  have hf : c.rcd.function = 3 ∨ c.rcd.function = 4 ∨ c.rcd.function = 5 := by simpa [Chan.isDo, Chan.isSource, or_assoc] using h
  rcases hf with h | h | h <;> simp [Chan.isAo, h]

/-- A DO, PWM or TEST_SOURCE channel drives what its drive gives it. -/
theorem drive_driver {m : Mod} {n : Nat} {c : Chan} (hc : tget m.fio.chans n = some c) (h : c.isDo = true ∨ c.isSource = true) :
    (chanOf (drive m n) n).driver = onNow m n := by
  obtain ⟨p, r, x, -, hd⟩ := drive_digital (m := m) (n := n) (by rw [chanOf_of_tget hc]; exact Chan.not_isAo h)
    (by rw [chanOf_of_tget hc]; simpa using h)
  rw [hd, chanOf_of_tget (c := { (enteredChan m n).switchTo (onNow m n) m.clk with pulse := p, retest := r }) (by simp [hc])]
  exact Chan.switchTo_driver ..

/-- An AO sets what its drive gives it. -/
theorem drive_setMa {m : Mod} {n : Nat} {c : Chan} (hc : tget m.fio.chans n = some c) (h : c.isAo = true) :
    (chanOf (drive m n) n).setMa = maNow m n := by
  rw [drive_ao (by rwa [chanOf_of_tget hc]), chanOf_setChan_same hc]
  split
  · next heq => exact heq.symm
  · rfl

/-- A condition of R184 that every output comes under, or full debug (R460). -/
def UnderSafe (m : Mod) (c : Chan) : Prop := m.flt.f3 = true ∨ m.pwr.st = .fail ∨ m.sec.debug = .full ∨ bitOf c.status.toNat 5 = true

theorem safeNow_of_underSafe {m : Mod} {n : Nat} {c : Chan} (hc : tget m.fio.chans n = some c) (h : UnderSafe m c) : safeNow m n = true := by
  have hstatus := (notedChan_same m n).status
  rw [chanOf_of_tget hc] at hstatus
  rw [safeNow, safeStands, hstatus]
  rcases h with h | h | h | h <;> simp [h]

/-- Under a condition of R184 a digital output follows SAFE_VAL, a latched diagnostic held off (R182, R184). -/
theorem onNow_safe {m : Mod} {n : Nat} {c : Chan} (hc : tget m.fio.chans n = some c) (h : UnderSafe m c) :
    (c.rcd.safeVal = 0 → onNow m n = false) ∧ (c.rcd.safeVal = 1 → onNow m n = !c.blocked) := by
  obtain ⟨hrcd, hstatus, -, -⟩ := enteredChan_same m n
  rw [chanOf_of_tget hc] at hrcd hstatus
  rw [onNow, safeNow_of_underSafe hc h, if_pos rfl, Chan.blocked, hstatus, Chan.safeOn, hrcd]
  exact ⟨fun hv => by rw [hv]; exact Bool.and_false _, fun hv => by rw [hv]; exact Bool.and_true _⟩

/-- Under a condition of R184 an AO without MISWIRE sets 3.5 mA or 21.5 mA (R196). -/
theorem maNow_safe {m : Mod} {n : Nat} {c : Chan} (hc : tget m.fio.chans n = some c) (h : UnderSafe m c) (hmis : bitOf c.status.toNat 10 = false) :
    (c.rcd.safeVal = 0 → maNow m n = 0x40600000) ∧ (c.rcd.safeVal = 1 → maNow m n = 0x41AC0000) := by
  obtain ⟨hrcd, hstatus, -, -⟩ := enteredChan_same m n
  rw [chanOf_of_tget hc] at hrcd hstatus
  rw [maNow, hstatus, hmis, safeNow_of_underSafe hc h, Chan.safeMa_, hrcd]
  exact ⟨fun hv => by rw [hv]; rfl, fun hv => by rw [hv]; rfl⟩

/-- An AO with MISWIRE sets 3.5 mA (R199). -/
theorem maNow_miswire {m : Mod} {n : Nat} {c : Chan} (hc : tget m.fio.chans n = some c) (hmis : bitOf c.status.toNat 10 = true) :
    maNow m n = 0x40600000 := by
  rw [maNow, (enteredChan_same m n).status, chanOf_of_tget hc, if_pos hmis]

/-- A channel outside OFF whose owner has written it has nothing to note. -/
theorem notedChan_eq {m : Mod} {n : Nat} {c : Chan} (hc : tget m.fio.chans n = some c) (hwritten : c.written = true) (hin : c.inOff = false)
    (hmode : chanMode m n c ≠ some .off) : notedChan m n = c := by
  have hnote : noteOff m n c = c := by simp [noteOff, hmode, hin]
  rw [notedChan, chanOf_of_tget hc, hnote, hwritten, Bool.true_or, ← hwritten]

/-- With no condition a DO drives its demand (R171). -/
theorem onNow_demand {m : Mod} {n : Nat} {c : Chan} (hc : tget m.fio.chans n = some c) (hfn : c.rcd.function = 3)
    (hmember : c.rcd.safetyMember = false) (hwritten : c.written = true) (hseen : c.offSeen = none) (hin : c.inOff = false)
    (hmode : chanMode m n c ≠ some .off) (hsafe : safeStands m n c = false) : onNow m n = (!c.blocked && c.demand) := by
  have hnoted := notedChan_eq hc hwritten hin hmode
  have hnow : safeNow m n = false := by rw [safeNow, hnoted, hsafe]
  have hentered : enteredChan m n = { c with safeDriving := false } := by rw [enteredChan, hnow, hnoted]; rfl
  rw [onNow, hnow, hentered]
  simp [wantOn, Chan.isSource, Chan.blocked, hfn, hmember, hseen, hin]

theorem safeValuesDrive_hold : Claims.SafeValuesDrive := by
  intro m n c hc
  refine ⟨fun hsafe hdig => ?_, fun hsafe hao hmis => ?_, fun hao hmis => ?_, fun hfn hmember hwritten hseen hin hmode hsafe => ?_,
    fun k hk => chanOf_drive_other m hk⟩
  · rw [drive_driver hc hdig]; exact onNow_safe hc hsafe
  · rw [drive_setMa hc hao]; exact maNow_safe hc hsafe hmis
  · rw [drive_setMa hc hao]; exact maNow_miswire hc hmis
  · rw [drive_driver hc (.inl (by simp [Chan.isDo, hfn]))]; exact onNow_demand hc hfn hmember hwritten hseen hin hmode hsafe

/-! ### Test frames and slots (R175, R177) -/

theorem gives_testFrameStart {s : State} {t : Nat} (hon : On s) (hstep : 4 ≤ s.m.pwr.startStep) (hdue : s.m.fio.frameAt + 128000000 ≤ max s.m.clk t) :
    Gives (.testFrameStart t) s t (frameStart (seen s t)) := by
  have hg := gives_of_runOn (i := .testFrameStart t) (t := t) hon (Eq.refl (execTestFrameStart t s))
  rwa [decide_eq_true (show (seen s t).pwr.startStep ≥ 4 from hstep), decide_eq_true (show (seen s t).fio.frameAt + ms 128 ≤ (seen s t).clk from hdue)]
    at hg

/-- A frame sets every 2^TEST_DIV-th test and those that were put off (R175, log 169). -/
theorem chanOf_frameStart {m : Mod} {n : Nat} {c : Chan} (hc : tget m.fio.chans n = some c) (hshadow : c.shadow = none) :
    chanOf (frameStart m) n = { c with due := c.retest || decide ((m.fio.frame + 1).toNat % 2 ^ c.rcd.testDiv = 0), retest := false } := by
  simp [chanOf, frameStart, hc, hshadow]

/-- What lets a channel's slot test it (R175, R176, R177). -/
structure SlotTests (m : Mod) (n : Nat) (c : Chan) : Prop where
  listed : tget m.fio.chans n = some c
  free : m.fio.slotEnd ≤ m.clk
  due : c.due = true
  on : testsOn m c = true
  checked : blockSuspended m n = false
  unblocked : c.blocked = false
  notPwm : c.rcd.function ≠ 4

/-- The channel with a pulse begun in its slot. -/
def Chan.pulsed (c : Chan) (dark : Bool) (stop : Nat) : Chan := { c with due := false, pulse := some { dark := dark, stop := stop } }

theorem setChan_pulsed {m : Mod} {n : Nat} {d : Chan} (hc : tget m.fio.chans n = some d) (c : Chan) (dark : Bool) (width : Nat) :
    (chanOf (setChan m n (c.pulsed dark (m.clk + us width))) n).pulse = some { dark := dark, stop := m.clk + 1000 * width } := by
  rw [chanOf_setChan_same hc, us_eq]; rfl

/-- A slot that tests gives an output that is ON a dark pulse, and one that is OFF with no condition of R184 a bright one (R177). -/
theorem slotStart_of_tests {m : Mod} {n : Nat} {c : Chan} (h : SlotTests m n c) :
    slotStart m n = if c.driver then
        (if c.isSource then openWindows (setChan m n (c.pulsed true (m.clk + us c.rcd.darkUs))) n
          else setChan m n (c.pulsed true (m.clk + us c.rcd.darkUs)))
      else if c.safeDriving then setChan m n { c with due := false } else setChan m n (c.pulsed false (m.clk + us c.rcd.brightUs)) := by
  obtain ⟨hc, hfree, hdue, htests, hchecked, hblocked, hfn⟩ := h
  have hslot : ¬ (setChan m n { c with due := false }).clk < (setChan m n { c with due := false }).fio.slotEnd := Nat.not_lt.2 hfree
  have hskip : (!c.due || !testsOn (setChan m n { c with due := false }) c || blockSuspended (setChan m n { c with due := false }) n || c.blocked ||
      decide (c.rcd.function = 4)) = false := by
    rw [show testsOn (setChan m n { c with due := false }) c = true from htests,
      show blockSuspended (setChan m n { c with due := false }) n = false from hchecked]
    simp [hdue, hblocked, hfn]
  unfold slotStart
  rw [chanOf_of_tget hc]
  dsimp only
  rw [if_neg hslot, hskip, if_neg Bool.false_ne_true, setChan_setChan, setChan_setChan]
  rfl

/-- The slot of a channel in use begins at its place in the frame (R175). -/
theorem gives_testSlotStart {s : State} {t n : Nat} {c : Chan} (hon : On s) (hc : chanOf s.m n = c) (hused : c.used = true) (hdrives : c.drives = true)
    (hframe : s.m.fio.frame ≠ 0) (hat : max s.m.clk t = s.m.fio.frameAt + 500000 * n) : Gives (.testSlotStart t n) s t (slotStart (seen s t) n) := by
  have hg := gives_of_runOn (i := .testSlotStart t n) (t := t) hon (Eq.refl (execTestSlotStart t n s))
  have hplace : (seen s t).clk = (seen s t).fio.frameAt + us (500 * n) := by
    rw [us_eq, ← Nat.mul_assoc]; exact hat
  have hstarted : ((seen s t).fio.frame != 0) = true := bne_iff_ne.2 hframe
  rw [show chanOf (seen s t) n = c from hc] at hg
  dsimp only at hg
  rwa [hused, hdrives, hstarted, decide_eq_true hplace] at hg

/-! ### The ends of pulses and windows (R177, R178) -/

/-- A marked diagnostic stands. -/
theorem Chan.mark_status (c : Chan) {bit : Nat} (h : bit < 32) : bitOf (c.mark bit true).status.toNat bit = true :=
  bitOf_setBit32_same c.status bit h

theorem publish_status (m : Mod) (n : Nat) : (chanOf (publish m n) n).status = (chanOf m n).status := by
  obtain ⟨v, q, h⟩ := chanOf_publish m n
  rw [h]

theorem publish_pulse (m : Mod) (n : Nat) : (chanOf (publish m n) n).pulse = (chanOf m n).pulse := by
  obtain ⟨v, q, h⟩ := chanOf_publish m n
  rw [h]

/-- A switch that opens sets and clears no diagnostic, and begins no pulse. -/
theorem openSwitch_keeps_diagnostics (m : Mod) (b n : Nat) : (chanOf (openSwitch m b) n).status = (chanOf m n).status ∧
    ((chanOf m n).pulse = none → (chanOf (openSwitch m b) n).pulse = none) := by
  rcases chanOf_openSwitch m b n with h | h <;> rw [h]
  · exact ⟨rfl, id⟩
  · exact ⟨rfl, fun _ => rfl⟩

/-- An output made suspect is marked so, and no pulse of it goes on (R180). -/
theorem makeSuspect_spec {m : Mod} {n : Nat} {c : Chan} (hc : tget m.fio.chans n = some c) (hp : c.pulse = none) :
    bitOf (chanOf (makeSuspect m n) n).status.toNat 7 = true ∧ (chanOf (makeSuspect m n) n).pulse = none := by
  unfold makeSuspect
  extract_lets c' others m1 m2
  rw [publish_status, publish_pulse]
  obtain ⟨hstatus, hpulse⟩ := drive_keeps_diagnostics (tget_setChan_same hc ({ c' with partners := others }.mark 7 true))
  have hsuspect : bitOf (chanOf m1 n).status.toNat 7 = true := by rw [hstatus 7 (by decide)]; exact Chan.mark_status _ (by decide)
  have hended : (chanOf m1 n).pulse = none := hpulse (by rw [← hp, ← chanOf_of_tget hc]; rfl)
  unfold m2
  split
  · obtain ⟨hstatus', hpulse'⟩ := openSwitch_keeps_diagnostics m1 (n / 32) n
    exact ⟨by rw [hstatus']; exact hsuspect, hpulse' hended⟩
  · exact ⟨hsuspect, hended⟩

/-- TEST_FAIL, bit 4, latches on a channel that has a record (R177, R182). -/
theorem latchDiag_testFail {m : Mod} {n : Nat} {c : Chan} (hc : tget m.fio.chans n = some c) :
    bitOf (chanOf (latchDiag m n 4) n).status.toNat 4 = true := by
  unfold latchDiag
  extract_lets c' c1 c2 c3 m1 m2 m3
  rw [if_neg (show ¬ (4 : Nat) = 5 by decide)]
  split
  · next hset => rw [chanOf_setChan_same hc]; exact hset
  · rw [chanOf_of_fio (chanFault_fio m3 n 4 (by decide : 1 < 2))]
    have hm3 : m3 = m2 := if_neg (by simp)
    have hlatched := (drive_keeps_diagnostics (tget_setChan_same hc { c3 with latchTime := time32 m, latchWrap := wrap16 m })).1 4 (by decide)
    rw [hm3]
    exact hlatched.trans (Chan.mark_status c1 (by decide))

/-- What a pulse that has ended leaves: nothing where it was seen, else a suspect output or a latched diagnostic (R177). -/
theorem gives_testPulseEnd {s : State} {t n : Nat} {c : Chan} {p : Pulse} (ok : Bool) (hon : On s) (hc : chanOf s.m n = c) (hp : c.pulse = some p)
    (hend : p.stop ≤ max s.m.clk t) : Gives (.testPulseEnd t n ok) s t
      (if ok || blockSuspended s.m n then setChan (seen s t) n { c with pulse := none }
        else if p.dark then makeSuspect (setChan (seen s t) n { c with pulse := none }) n
        else publish (latchDiag (setChan (seen s t) n { c with pulse := none }) n 4) n) := by
  have hg := gives_of_runOn (i := .testPulseEnd t n ok) (t := t) hon (Eq.refl (execTestPulseEnd t n ok s))
  rw [show chanOf (seen s t) n = c from hc] at hg
  simp only [hp] at hg
  rwa [if_neg (show ¬ (seen s t).clk < p.stop from Nat.not_lt.2 hend)] at hg

theorem Chan.ne_inert_of_pulse {c : Chan} {p : Pulse} (h : c.pulse = some p) : c ≠ {} := by rintro rfl; simp at h

theorem Chan.ne_inert_of_window {c : Chan} {w : TestWin} (h : c.window = some w) : c ≠ {} := by rintro rfl; simp at h

/-- The end of the samples in which an input has to show its source's pulse (R178). -/
def windowCut (m : Mod) (c : Chan) (w : TestWin) : Nat := w.start + 1000 * ((chanOf m c.rcd.testSrc).rcd.darkUs + 100)

/-- An input that was high and shows no real change is suspect where it did not show the pulse (R178). -/
theorem judgeWindow_spec {m : Mod} {n : Nat} {c : Chan} {w : TestWin} (hc : tget m.fio.chans n = some c) (hbefore : w.before = true)
    (hquiet : ∀ x ∈ w.samples, windowCut m c w ≤ x.1 → x.2 = true) :
    (chanOf (judgeWindow m n w) n).window = none ∧ bitOf (chanOf (judgeWindow m n w) n).status.toNat 7 =
      (!twoLow (w.samples.filter (fun x => decide (x.1 ≤ windowCut m c w))) || bitOf c.status.toNat 7) := by
  have hrcd : ∀ k, (chanOf (setChan m n { chanOf m n with window := none }) k).rcd = (chanOf m k).rcd := by
    intro k
    by_cases hk : k = n
    · rw [hk, chanOf_setChan_same hc]
    · rw [chanOf_setChan_other _ _ hk]
  have hcut : w.start + us ((chanOf (setChan m n { chanOf m n with window := none }) (chanOf m n).rcd.testSrc).rcd.darkUs + 100) = windowCut m c w := by
    rw [hrcd, chanOf_of_tget hc, us_eq, windowCut]
  have hsame : (w.samples.filter (fun x => decide (windowCut m c w ≤ x.1))).any (fun x => x.2 != w.before) = false := by
    rw [List.any_eq_false]
    intro x hx
    obtain ⟨hmem, hlate⟩ := List.mem_filter.1 hx
    simp [hbefore, hquiet x hmem (of_decide_eq_true hlate)]
  unfold judgeWindow
  dsimp only
  rw [hcut, hsame, if_neg Bool.false_ne_true, hbefore, Bool.true_and, chanOf_setChan_same hc]
  cases twoLow (w.samples.filter (fun x => decide (x.1 ≤ windowCut m c w))) with
  | true =>
    rw [Bool.not_true, if_neg Bool.false_ne_true, chanOf_setChan_same hc, chanOf_of_tget hc]
    exact ⟨rfl, rfl⟩
  | false =>
    rw [Bool.not_false, if_pos rfl, setChan_setChan]
    obtain ⟨v, q, h⟩ := chanOf_publish (setChan m n ({ chanOf m n with window := none }.mark 7 true)) n
    rw [h, chanOf_setChan_same hc]
    exact ⟨rfl, Chan.mark_status { chanOf m n with window := none } (by decide)⟩

theorem gives_inputTestWindowEnd {s : State} {t n : Nat} {c : Chan} {w : TestWin} (hon : On s) (hc : chanOf s.m n = c) (hw : c.window = some w)
    (hend : w.start + 400000 ≤ max s.m.clk t) : Gives (.inputTestWindowEnd t n) s t (judgeWindow (seen s t) n w) := by
  have hg := gives_of_runOn (i := .inputTestWindowEnd t n) (t := t) hon (Eq.refl (execInputTestWindowEnd t n s))
  rw [show chanOf (seen s t) n = c from hc] at hg
  simp only [hw] at hg
  rwa [if_neg (show ¬ (seen s t).clk < w.start + us 400 from Nat.not_lt.2 hend)] at hg

theorem testPulses_hold : Claims.TestPulses := by
  intro s t n c b hon hc
  refine ⟨fun hstep hdue => ?frame, fun hused hdrives hframe hat hfree hdue htests hchecked hblocked hfn => ?slot, fun p hp hend => ?pulse,
    fun w hw hend hbefore hquiet hlow => ?window⟩
  case frame =>
    refine makes_of_gives (gives_testFrameStart hon hstep hdue) ⟨rfl, rfl, fun hlisted hshadow => ?_⟩
    have hchan := chanOf_frameStart (m := seen s t) hlisted hshadow
    exact ⟨congrArg Chan.retest hchan, congrArg Chan.due hchan⟩
  case slot =>
    have hlisted : tget (seen s t).fio.chans n = some c := tget_of_chanOf hc (Chan.ne_inert_of_used hused)
    have hslot := slotStart_of_tests ⟨hlisted, hfree, hdue, htests, hchecked, hblocked, hfn⟩
    have hg := gives_testSlotStart hon hc hused hdrives hframe hat
    refine ⟨fun hdriven hsrc => ?_, fun hoff hsafe => ?_⟩
    · rw [hslot, hdriven, hsrc, if_pos rfl, if_neg Bool.false_ne_true] at hg
      exact makes_of_gives hg (setChan_pulsed hlisted c true c.rcd.darkUs)
    · rw [hslot, hoff, hsafe, if_neg Bool.false_ne_true, if_neg Bool.false_ne_true] at hg
      exact makes_of_gives hg (setChan_pulsed hlisted c false c.rcd.brightUs)
  case pulse =>
    have hlisted : tget (seen s t).fio.chans n = some c := tget_of_chanOf hc (Chan.ne_inert_of_pulse hp)
    refine ⟨gives_testPulseEnd true hon hc hp hend, fun hchecked hdark => ?_, fun hchecked hbright => ?_⟩
    · have hg := gives_testPulseEnd false hon hc hp hend
      rw [hchecked, hdark] at hg
      exact makes_of_gives hg (makeSuspect_spec (tget_setChan_same hlisted _) rfl)
    · have hg := gives_testPulseEnd false hon hc hp hend
      rw [hchecked, hbright] at hg
      refine makes_of_gives hg ?_
      show bitOf (chanOf (publish _ n) n).status.toNat 4 = true
      rw [publish_status]
      exact latchDiag_testFail (tget_setChan_same hlisted _)
  case window =>
    have hlisted : tget (seen s t).fio.chans n = some c := tget_of_chanOf hc (Chan.ne_inert_of_window hw)
    refine makes_of_gives (gives_inputTestWindowEnd hon hc hw hend) ?_
    have hjudged := judgeWindow_spec (m := seen s t) hlisted hbefore hquiet
    rw [show twoLow (w.samples.filter (fun x => decide (x.1 ≤ windowCut (seen s t) c w))) = b from hlow] at hjudged
    exact hjudged

/-- Settles O40: safe values and demands by what a drive makes of an output, and the tests by their frame, their slot and their end. -/
theorem outputSafety : Obligations.OutputSafety := ⟨safeValuesDrive_hold, testPulses_hold⟩

end Sys2Proof.Machine
end

section
/-! SUPPORT. The group safety switches (R174), and a channel table on which a close request is judged differently by the end of the write. -/

open Sys2Proof.Claims

namespace Sys2Proof.Machine

/-- What a command makes holds of the module it gives. -/
theorem holds_of_makes {i : Instr} {s : State} {t : Nat} {m : Mod} {p : Mod → Prop} (hg : Gives i s t m) (hm : Makes i s p) :
    p { m with clk := max s.m.clk t } := by
  obtain ⟨u, hu, hp, -⟩ := hm
  obtain rfl : { s with m := { m with clk := max s.m.clk t } } = u := by injection hg.symm.trans hu
  exact hp

/-- A write to FIO_GSW_CLOSE asks each switch it names to close, in their order (R174). -/
theorem gives_gswCloseRequest {s : State} (t : Nat) (w : W32) (hon : On s) (hboot : bootHeld s.m = false) (hsoft : s.m.gen.softLock = false) :
    Gives (.gswCloseRequest t w) s t (closeSwitches (seen s t) w.toNat) :=
  gives_of_runReg (i := .gswCloseRequest t w) (f := fun m => closeSwitches m w.toNat) hon hboot hsoft (Eq.refl (execGswCloseRequest t w s))

/-- A DO that no diagnostic holds, and a safety DO with a latched OVERLOAD. -/
def plainDo : Chan := { enabled := true, rcd := { function := 3 } }
def overloadedDo : Chan := { enabled := true, rcd := { function := 3, safetyMember := true }, status := 0x00000002 }

/-- A table that lists channel 32 twice, which R164's one record per channel does not allow and the statement does not shut out. -/
def listedTwice : State := { m := { fio := { chans := [(32, plainDo), (32, overloadedDo)] } } }

/-- The second entry bars the switch of block 1. -/
theorem listedTwice_barred : closeBarred listedTwice.m 1 = true := by decide +kernel

/-- The switch of block 0 closes first, and the drive that follows puts the first entry in the place of both: block 1 is then asked with nothing to
bar it. -/
theorem listedTwice_closes : bitOf (closeSwitches (seen listedTwice 0) 3).fio.closeRefused.toNat 1 = false := by decide +kernel

/-- Refutes O41 in its clause on a write that closes switches: the states it speaks of may list a channel twice, and then the close of one block's
switch takes away what bars the next, so that the write closes a switch which the statement has it refuse. -/
theorem not_digitalHealth : ¬ Obligations.DigitalHealth := by
  rintro ⟨-, hswitches⟩
  have hon : On listedTwice := by simp [On, listedTwice]
  obtain ⟨-, -, -, hclose, -⟩ := hswitches listedTwice 0 1 0 3 hon (by decide)
  have hrefused := holds_of_makes (gives_gswCloseRequest 0 3 hon rfl rfl) (hclose rfl rfl (by decide))
  rw [if_pos listedTwice_barred] at hrefused
  exact absurd hrefused (by rw [show (3 : W32).toNat = 3 from rfl, listedTwice_closes]; decide)

end Sys2Proof.Machine
end

section
/-! SUPPORT. The start of the module (R291, R294, R295): what reset brings, and the steps 3 and 4 that follow it. -/

open Sys2Proof.Claims

namespace Sys2Proof.Machine

/-! ### What the rest of step 2 keeps of a start -/

/-- What the release of reset settles: the state and the step of the start, its cause and its count, and the four blocks that DRAM held (R291, R294,
R501). -/
def startPart (m : Mod) : (PState × Bool × Nat) × (StartCause × Nat) × PgeBlk × LpeBlk × PlnBlk × FioBlk :=
  ((m.pwr.st, m.pwr.starting, m.pwr.startStep), (m.gen.cause, m.nv.startCount), m.pge, m.lpe, m.pln, m.fio)

theorem collect_startPart (m : Mod) (f : FaultInfo) : startPart (collect m f) = startPart m := by simp [startPart, collect]

/-- A field that each step of a fold over the list keeps, the fold keeps. -/
theorem foldl_field_of_mem {α β γ : Type} (g : β → γ) (f : β → α → β) (l : List α) (h : ∀ b, ∀ a ∈ l, g (f b a) = g b) (b : β) :
    g (l.foldl f b) = g b := by
  induction l generalizing b with
  | nil => rfl
  | cons a l ih =>
    rw [List.foldl_cons, ih (fun b x hx => h b x (List.mem_cons_of_mem _ hx)), h b a (List.mem_cons_self ..)]

theorem setDeg_startPart (m : Mod) (c : DegCause) (d : Deg) : startPart (setDeg m c d) = startPart m := by cases c <;> rfl

theorem degUpdate_startPart (m : Mod) (c : DegCause) : startPart (degUpdate m c) = startPart m := by
  unfold degUpdate
  dsimp only
  split
  · split
    · split
      · exact setDeg_startPart ..
      · rfl
    · rw [reportFault_minor (show 1 < 2 by decide), collect_startPart]
      exact setDeg_startPart m c _
  · split
    · exact setDeg_startPart ..
    · rfl

theorem setSafetyForce_startPart (m : Mod) (v : Bool) : startPart (setSafetyForce m v) = startPart m := by
  unfold setSafetyForce; dsimp only; split <;> rfl

/-- A field that is no part of what a start settles. -/
def Field.KeepsStart (f : Field) : Prop := ∀ v x, startPart (f.set v x) = startPart x

/-- No RWP field is part of what a start settles (R452). -/
theorem rwpFields_keepStart (m : Mod) (off : Nat) : ∀ f ∈ rwpFields m off, f.KeepsStart := by
  have hone : ∀ {f : Field}, f.KeepsStart → ∀ g ∈ [f], g.KeepsStart := List.forall_mem_singleton.2
  have htwo : ∀ {f g : Field}, f.KeepsStart → g.KeepsStart → ∀ h ∈ [f, g], h.KeepsStart := fun hf hg => List.forall_mem_cons.2 ⟨hf, hone hg⟩
  unfold rwpFields
  split
  · exact hone fun _ x => setSafetyForce_startPart x _
  · exact htwo (fun _ _ => rfl) fun _ _ => rfl
  · exact htwo (fun _ _ => degUpdate_startPart ..) fun _ _ => degUpdate_startPart ..
  · exact List.forall_mem_map.2 fun _ _ _ _ => rfl
  · exact List.forall_mem_map.2 fun _ _ _ _ => rfl
  · exact List.forall_mem_cons.2 ⟨fun _ _ => rfl, htwo (fun _ _ => rfl) fun _ _ => rfl⟩
  · exact hone fun _ _ => rfl
  · exact hone fun _ _ => rfl
  · exact htwo (fun _ _ => rfl) fun _ _ => rfl
  · exact hone fun _ _ => rfl
  · exact fun _ h => absurd h List.not_mem_nil

theorem setProt_startPart (m : Mod) (off : Nat) (v : W32) : startPart (setProt m off v) = startPart m := by
  refine (foldl_field_of_mem startPart _ (rwpFields m off) (fun x f hf => ?_) m :)
  split
  · rfl
  · exact rwpFields_keepStart m off f hf _ x

theorem eraseReturned_startPart (m : Mod) : startPart (eraseReturned m) = startPart m := by unfold eraseReturned; split <;> rfl

theorem restoreProt_startPart (m : Mod) : startPart (restoreProt m) = startPart m :=
  (foldl_field startPart _ (fun m e => setProt_startPart m e.1 e.2) m m.nv.protRegs :)

theorem fallBackState_startPart (m : Mod) (n : Nat) : startPart (fallBackState m n) = startPart m := by
  unfold fallBackState
  extract_lets r r0 r1 r2 m1 nv0 nv upd m2
  have hcount : nv.startCount = m.nv.startCount := by
    unfold nv
    split
    · split <;> rfl
    · rfl
  have hm2 : startPart m2 = ((m.pwr.st, m.pwr.starting, m.pwr.startStep), (m.gen.cause, nv.startCount), m.pge, m.lpe, m.pln, m.fio) := rfl
  rw [collect_startPart, hm2, hcount, startPart]

theorem interruptedRegion_startPart (m : Mod) (n : Nat) : startPart (interruptedRegion m n) = startPart m := by
  unfold interruptedRegion
  dsimp only
  split
  · rw [reportFault_minor (show 0 < 2 by decide), collect_startPart]; rfl
  · rfl

theorem copyStaged_startPart (m : Mod) (n : Nat) : startPart (copyStaged m n) = startPart m := by
  unfold copyStaged
  split
  · dsimp only
    split
    · rfl
    · split
      · rfl
      · exact fallBackState_startPart ..
  · rfl

theorem bootCheck_startPart (m : Mod) (n : Nat) : startPart (bootCheck m n) = startPart m := by
  unfold bootCheck
  extract_lets r m1 r1
  have hm1 : startPart m1 = startPart m := by
    unfold m1
    split
    · exact fallBackState_startPart ..
    · rfl
  split <;> exact hm1

theorem beginTrial_startPart (m : Mod) (n : Nat) : startPart (beginTrial m n) = startPart m := by
  unfold beginTrial
  dsimp only
  split
  · rfl
  · split <;> rfl

/-- What a region finds at a start is no part of what the start settles (R435 to R438, R446). -/
theorem bootRegion_startPart (old : Mod) (cause : StartCause) (m : Mod) (n : Nat) : startPart (bootRegion old cause m n) = startPart m := by
  unfold bootRegion
  extract_lets m1 m2
  have hm1 : startPart m1 = startPart m := (copyStaged_startPart ..).trans (interruptedRegion_startPart ..)
  have hm2 : startPart m2 = startPart m1 := by
    unfold m2
    split
    · exact fallBackState_startPart ..
    · rfl
  rw [beginTrial_startPart, bootCheck_startPart, hm2, hm1]

theorem serviceNow_startPart (m : Mod) : startPart (serviceNow m) = startPart m := rfl

/-- Reset is released in HOLD, STARTING, with step 2 done, the cause and the count of the start, and DRAM lost (R291, R294, R295, R501). -/
theorem startModule_startPart (m : Mod) (uj : Nat) : startPart (startModule m uj) =
    ((.hold, true, 2), (startCause m, min (m.nv.startCount + 1) 0xFFFF), {}, {}, {}, {}) := by
  unfold startModule
  dsimp only
  rw [serviceNow_startPart, foldl_field startPart _ (bootRegion_startPart m (startCause m)), restoreProt_startPart, eraseReturned_startPart]
  rfl

/-! ### Steps 1 and 2 (R295, R307, R308) -/

/-- A start answers the module it starts, with the panel's memories and what G1 wrote lost (R294, R477). -/
theorem next_of_runStart {i : Instr} {s : State} {t : Nat} {due : Mod → Bool} {f : Mod → Mod} (hi : exec i s = s.runStart t due f)
    (hdue : due (seen s t) = true) :
    exec i s = .next { s with m := { f (seen s t) with clk := max s.m.clk t }, frame := [], image := [], dbg := [] } := by
  rw [hi, State.runStart]
  exact if_pos hdue

/-- A supply that rises starts the charging of the store (R295 step 1). -/
theorem gives_supplyApplied {s : State} {t mv : Nat} (hoff : s.m.pwr.st = .off) (hmv : 18000 < mv) (hremoved : s.m.pwr.needRemoval = false)
    (hcharging : s.m.pwr.charging = none) (hrestart : restarting s.m = false) : Gives (.supplyApplied t mv) s t
      { seen s t with gen := { s.m.gen with supplyMv := mv }, pwr := { (seen s t).pwr with charging := some (max s.m.clk t) } } := by
  have hdue : ((seen s t).pwr.st == .off && decide (mv > 18000) && !(seen s t).pwr.needRemoval && (seen s t).pwr.charging.isNone &&
      !restarting { seen s t with gen := { (seen s t).gen with supplyMv := mv } }) = true := by
    rw [show (seen s t).pwr.st = .off from hoff, decide_eq_true hmv, show (seen s t).pwr.needRemoval = false from hremoved,
      show (seen s t).pwr.charging = none from hcharging,
      show restarting { seen s t with gen := { (seen s t).gen with supplyMv := mv } } = false from hrestart]
    rfl
  have hg := gives_of_run (i := .supplyApplied t mv) (s := s) (t := t) (Eq.refl (execSupplyApplied t mv s))
  exact (if_pos hdue).subst (motive := Gives (.supplyApplied t mv) s t) hg

/-- A charged store starts the module, and a MODULE restart goes on with it (R295, R307, log 118). -/
theorem next_storeCharged {s : State} {t uj : Nat} (hoff : s.m.pwr.st = .off) (hdue : s.m.pwr.charging.isSome = true ∨ restarting s.m = true) :
    exec (.storeCharged t uj) s =
      .next { s with m := { startModule (seen s t) uj with clk := max s.m.clk t }, frame := [], image := [], dbg := [] } := by
  refine next_of_runStart (i := .storeCharged t uj) (f := fun m => startModule m uj) (Eq.refl (execStoreCharged t uj s)) ?_
  rw [show (seen s t).pwr.st = .off from hoff, Bool.and_eq_true, Bool.or_eq_true]
  exact ⟨rfl, hdue⟩

/-- What starts in spite of an uncharged store notes HOLDUP_LOW and reports its fault (R308). -/
def lowStart (m : Mod) : Mod := reportFault { m with pwr := { m.pwr with holdupLow := true } } (faultOf 0x17 1 0 0x0E00 6)

/-- A store that is not charged within 1 s does not hold the start up (R308). -/
theorem next_holdupLowStart {s : State} {t uj x : Nat} (hoff : s.m.pwr.st = .off) (hx : s.m.pwr.charging = some x)
    (hlate : x + 1000000000 ≤ max s.m.clk t) : exec (.holdupLowStart t uj) s =
      .next { s with m := { lowStart (startModule (seen s t) uj) with clk := max s.m.clk t }, frame := [], image := [], dbg := [] } := by
  refine next_of_runStart (i := .holdupLowStart t uj) (f := fun m => lowStart (startModule m uj)) (Eq.refl (execHoldupLowStart t uj s)) ?_
  rw [show (seen s t).pwr.st = .off from hoff, show (seen s t).pwr.charging = some x from hx, Bool.and_eq_true]
  exact ⟨rfl, decide_eq_true hlate⟩

theorem lowStart_spec (m : Mod) :
    startPart (lowStart m) = startPart m ∧ (lowStart m).pwr.holdupLow = true ∧ bitOf (lowStart m).flt.active.toNat 0x17 = true := by
  rw [lowStart, reportFault_minor (show 1 < 2 by decide)]
  exact ⟨collect_startPart .., by rw [collect_pwr], collect_sets_active _ _ (by decide)⟩

/-- What `startPart` says, field by field. -/
theorem startPart_eq {m : Mod} {st : PState} {starting : Bool} {step count : Nat} {cause : StartCause} {pge : PgeBlk} {lpe : LpeBlk} {pln : PlnBlk}
    {fio : FioBlk} (h : startPart m = ((st, starting, step), (cause, count), pge, lpe, pln, fio)) :
    m.pwr.st = st ∧ m.pwr.starting = starting ∧ m.pwr.startStep = step ∧ m.gen.cause = cause ∧ m.nv.startCount = count ∧ m.pge = pge ∧
      m.lpe = lpe ∧ m.pln = pln ∧ m.fio = fio := by
  simpa only [startPart, Prod.mk.injEq, and_assoc] using h

theorem startBringsHold_holds : Claims.StartBringsHold := by
  intro s t mv uj
  have hstart := startModule_startPart (seen s t) uj
  refine ⟨gives_supplyApplied, fun hoff hdue => ?charged, fun x hoff hx hlate => ?low⟩
  case charged =>
    have hnext := next_storeCharged (t := t) (uj := uj) hoff hdue
    generalize startModule (seen s t) uj = m at hstart hnext
    obtain ⟨hst, hstarting, hstep, hcause, hcount, hpge, hlpe, hpln, hfio⟩ := startPart_eq hstart
    exact ⟨_, hnext, hst, hstarting, hstep, hcause, hcount, hpge, hlpe, hpln, hfio, rfl, rfl, rfl, rfl⟩
  case low =>
    have hnext := next_holdupLowStart (uj := uj) hoff hx hlate
    generalize startModule (seen s t) uj = m at hstart hnext
    obtain ⟨hpart, hlow, hactive⟩ := lowStart_spec m
    rw [hstart] at hpart
    generalize lowStart m = m' at hnext hpart hlow hactive
    obtain ⟨hst, hstarting, hstep, -⟩ := startPart_eq hpart
    exact ⟨_, hnext, hst, hstarting, hstep, hlow, hactive⟩

/-! ### Steps 3 to 5 (R203, R262, R295, R343) -/

/-- What a step of the start does (R295). -/
def startStepDone (m : Mod) (k : Nat) : Mod :=
  if k = 3 then stepThree { m with pwr := { m.pwr with startStep := k } }
  else if k = 4 then stepFour { m with pwr := { m.pwr with startStep := k } }
  else stepFive { m with pwr := { m.pwr with startStep := k } }

/-- What a happening that may start the panel makes of a powered module. -/
theorem next_of_runPanel {i : Instr} {s : State} {t : Nat} {f : Mod → Mod} (hi : exec i s = s.runPanel t f) (hon : ¬ (seen s t).pwr.st = .off) :
    ∃ u, exec i s = .next u ∧ u.m = { f (seen s t) with clk := max s.m.clk t } :=
  ⟨_, hi, congrArg (fun x : Mod => { x with clk := max s.m.clk t }) (if_neg hon)⟩

/-- A step of the start that is next in its order is done (R295). -/
theorem next_startSequenceStep {s : State} {t k : Nat} (hst : s.m.pwr.st = .hold) (hstarting : s.m.pwr.starting = true)
    (hboot : s.m.sec.bootFail = none) (hk : s.m.pwr.startStep + 1 = k) (h3 : 3 ≤ k) (h5 : k ≤ 5) :
    ∃ u, exec (.startSequenceStep t k) s = .next u ∧ u.m = { startStepDone (seen s t) k with clk := max s.m.clk t } := by
  have hdue : ¬ ((seen s t).pwr.st != .hold || !(seen s t).pwr.starting || (seen s t).pwr.startStep + 1 != k || decide (k < 3) ||
      decide (k > 5) || (seen s t).sec.bootFail.isSome) = true := by
    rw [show (seen s t).pwr.st = .hold from hst, show (seen s t).pwr.starting = true from hstarting,
      show (seen s t).pwr.startStep + 1 = k from hk, show (seen s t).sec.bootFail = none from hboot]
    simp [h3, h5]
  have hon : ¬ (seen s t).pwr.st = .off := by rw [show (seen s t).pwr.st = .hold from hst]; decide
  obtain ⟨u, hu, hm⟩ := next_of_runPanel (i := .startSequenceStep t k) (Eq.refl (execStartSequenceStep t k s)) hon
  rw [if_neg hdue] at hm
  exact ⟨u, hu, hm⟩

/-- The check of a calibration record changes neither the power state nor module time (R203). -/
theorem checkCal_pwr_tim (m : Mod) (n : Nat) : ((checkCal m n).pwr, (checkCal m n).tim) = (m.pwr, m.tim) := by
  unfold checkCal goNominal
  split
  · rfl
  · dsimp only
    split
    · rfl
    · rw [reportFault_minor (show 1 < 2 by decide), collect_pwr, collect_tim]; rfl

/-- With step 3 module time starts at 0 (R343). -/
theorem stepThree_spec (m : Mod) : (stepThree m).pwr = m.pwr ∧ (stepThree m).tim.zero = m.clk := by
  have hkept : ∀ (l : List Nat) (m : Mod), ((l.foldl checkCal m).pwr, (l.foldl checkCal m).tim) = (m.pwr, m.tim) :=
    fun l m => foldl_field (fun m => (m.pwr, m.tim)) checkCal checkCal_pwr_tim m l
  unfold stepThree
  generalize List.range 256 = l
  obtain ⟨hpwr, htim⟩ := Prod.mk.inj (hkept l { m with tim := { m.tim with zero := m.clk } })
  exact ⟨hpwr, congrArg TimBlk.zero htim⟩

/-- The service pairs stand while the application pairs change. -/
theorem pairOf_stopPairs_service (m : Mod) (st : PairSt) {p : Nat} (hp : 6 ≤ p) : pairOf (stopPairs m st) p = pairOf m p :=
  foldl_field_of_mem (fun m => pairOf m p) _ (List.range 6)
    (fun b q hq => by
      have hne : ¬ p = q := by have := List.mem_range.1 hq; omega
      rw [pairOf_setPair, if_neg hne]) m

/-- A start of the panel, where it is asked for, changes neither a pair, nor a channel, nor the power state (R477). -/
theorem panelStart_keeps (m : Mod) (asked : Bool) : (if asked then panelStart m else m).lks = m.lks ∧
    (if asked then panelStart m else m).fio = m.fio ∧ (if asked then panelStart m else m).pwr = m.pwr := by
  unfold panelStart
  split
  · split <;> exact ⟨rfl, rfl, rfl⟩
  · exact ⟨rfl, rfl, rfl⟩

/-- The service pairs run as LKS_SERVICE_MODE had them at the start (R262). -/
def servicePairsRun (m : Mod) : Mod :=
  setPair (setPair m 6 { pairOf m 6 with st := if svcSplit m 6 then .split else .joined }) 7
    { pairOf m 7 with st := if svcSplit m 7 then .split else .joined }

theorem pairOf_servicePairsRun (m : Mod) {p : Nat} (hp : p = 6 ∨ p = 7) :
    (pairOf (servicePairsRun m) p).st = if svcSplit m p then .split else .joined := by
  unfold servicePairsRun
  obtain rfl | rfl := hp
  · rw [pairOf_setPair, if_neg (by decide), pairOf_setPair, if_pos rfl]
  · rw [pairOf_setPair, if_pos rfl]

theorem servicePairsRun_kept {m : Mod} : (servicePairsRun m).pwr = m.pwr ∧ (servicePairsRun m).fio = m.fio ∧ (servicePairsRun m).clk = m.clk :=
  ⟨rfl, rfl, rfl⟩

/-- The test frame that begins with step 4, and the release epoch it sets (R175). -/
def epochStart (m : Mod) : Mod :=
  let x := frameStart m
  { x with pwr := { x.pwr with epoch := nowNs x } }

theorem epochStart_spec (m : Mod) : (epochStart m).lks = m.lks ∧ (epochStart m).pwr.startStep = m.pwr.startStep ∧
    (epochStart m).fio.frame = m.fio.frame + 1 ∧ (epochStart m).fio.frameAt = m.clk := ⟨rfl, rfl, rfl, rfl⟩

/-- With step 4 the pairs run as LKS_SERVICE_MODE had them at the start, and a test frame begins (R175, R262, R263). -/
theorem stepFour_spec (m : Mod) : (stepFour m).pwr.startStep = m.pwr.startStep ∧ (∀ p, p < 6 → (pairOf (stepFour m) p).st = .selftest) ∧
    (∀ p, p = 6 ∨ p = 7 → (pairOf (stepFour m) p).st = if svcSplit m p then .split else .joined) ∧
    (stepFour m).fio.frame = m.fio.frame + 1 ∧ (stepFour m).fio.frameAt = m.clk := by
  obtain ⟨hlks, hfio, hpwr⟩ :=
    panelStart_keeps (epochStart (stopPairs (servicePairsRun m) .selftest)) (epochStart (stopPairs (servicePairsRun m) .selftest)).pnl.en
  obtain ⟨hlks', hstep, hframe, hframeAt⟩ := epochStart_spec (stopPairs (servicePairsRun m) .selftest)
  have hpair := pairOf_of_lks (hlks.trans hlks')
  rw [show stepFour m = if (epochStart (stopPairs (servicePairsRun m) .selftest)).pnl.en then
    panelStart (epochStart (stopPairs (servicePairsRun m) .selftest)) else epochStart (stopPairs (servicePairsRun m) .selftest) from rfl]
  refine ⟨?step, fun p hp => ?app, fun p hp => ?svc, ?frame, ?frameAt⟩
  case step => rw [hpwr, hstep, stopPairs_pwr, servicePairsRun_kept.1]
  case app => rw [hpair, pairOf_stopPairs _ _ hp]
  case svc => rw [hpair, pairOf_stopPairs_service _ _ (by omega), pairOf_servicePairsRun m hp]
  case frame => rw [hfio, hframe, stopPairs_fio, servicePairsRun_kept.2.1]
  case frameAt => rw [hfio, hframeAt, stopPairs_clk, servicePairsRun_kept.2.2]

theorem startStepsInOrder_holds : Claims.StartStepsInOrder := by
  intro s t hst hstarting hboot
  have hnext := fun k => next_startSequenceStep (t := t) (k := k) hst hstarting hboot
  refine ⟨fun h => ?three, fun h => ?four, fun h => ?five⟩
  case three =>
    obtain ⟨u, hu, hm⟩ := hnext 3 (congrArg (· + 1) h) (by decide) (by decide)
    obtain ⟨hpwr, hzero⟩ := stepThree_spec { seen s t with pwr := { (seen s t).pwr with startStep := 3 } }
    rw [startStepDone, if_pos rfl] at hm
    generalize stepThree _ = m at hm hpwr hzero
    exact ⟨u, hu, by rw [hm]; exact congrArg PwrBlk.startStep hpwr, by rw [hm]; exact hzero⟩
  case four =>
    obtain ⟨u, hu, hm⟩ := hnext 4 (congrArg (· + 1) h) (by decide) (by decide)
    obtain ⟨hstep, happ, hsvc, hframe, hframeAt⟩ := stepFour_spec { seen s t with pwr := { (seen s t).pwr with startStep := 4 } }
    rw [startStepDone, if_neg (by decide), if_pos rfl] at hm
    generalize stepFour _ = m at hm hstep happ hsvc hframe hframeAt
    exact ⟨u, hu, by rw [hm]; exact hstep, by rw [hm]; exact happ, by rw [hm]; exact hsvc, by rw [hm]; exact hframe, by rw [hm]; exact hframeAt⟩
  case five =>
    obtain ⟨u, hu, hm⟩ := hnext 5 (congrArg (· + 1) h) (by decide) (by decide)
    rw [startStepDone, if_neg (by decide), if_neg (by decide)] at hm
    exact ⟨u, hu, hm⟩

/-- Settles O11: the release of reset settles the state, the cause and the count of the start and loses DRAM, and what the rest of step 2 restores
(protected registers, boot checks and regions) is no part of these; each later step is done in its order. -/
theorem powerStart : Obligations.PowerStart := ⟨startBringsHold_holds, startStepsInOrder_holds⟩

end Sys2Proof.Machine
end

section
/-! SUPPORT. Analogue channels (R192 to R200), what is read of them after their diagnostics are judged, and their calibration (R203, R204). -/

open Sys2Proof.Claims

namespace Sys2Proof.Machine

/-! ### What no diagnostic changes of an analogue channel -/

/-- What is measured of an analogue channel, and the current it sets. -/
def Chan.reading (c : Chan) : F32 × F32 × F32 × Option F32 := (c.currentMa, c.vt, c.setMa, c.filtI)

/-- What `Chan.reading` says, field by field. -/
theorem Chan.reading_eq_iff {c d : Chan} : d.reading = c.reading ↔
    d.currentMa = c.currentMa ∧ d.vt = c.vt ∧ d.setMa = c.setMa ∧ d.filtI = c.filtI := by
  simp only [Chan.reading, Prod.mk.injEq]

theorem setChan_reading {m : Mod} {n : Nat} {d : Chan} (h : d.reading = (chanOf m n).reading) :
    (chanOf (setChan m n d) n).reading = (chanOf m n).reading := by
  cases hc : tget m.fio.chans n with
  | none => rw [chanOf_setChan_unlisted hc]
  | some c => rw [chanOf_setChan_same hc, h]

/-- A fault of a diagnostic below F2 changes no channel (R182, R390). -/
theorem chanOf_chanFault (m : Mod) (n bit k : Nat) {cls : Nat} (h : cls < 2) : chanOf (chanFault m n cls bit) k = chanOf m k :=
  chanOf_of_fio (chanFault_fio m n bit h) k

/-- A diagnostic that is set with an F0, or cleared, leaves what is measured (R197, R200). -/
theorem setDiag_reading (m : Mod) (n bit : Nat) (on : Bool) {cls : Option Nat} (hcls : ∀ k, cls = some k → k < 2) :
    (chanOf (setDiag m n bit on cls) n).reading = (chanOf m n).reading := by
  unfold setDiag
  extract_lets c m1
  have hm1 : (chanOf m1 n).reading = (chanOf m n).reading := setChan_reading rfl
  split
  · rfl
  · split
    · next k hk =>
      have hsome : cls = some k := by cases on <;> simp_all
      rw [chanOf_chanFault _ _ _ _ (hcls k hsome), hm1]
    · exact hm1

/-- A diagnostic judged by its runs of readbacks (R197). -/
theorem judgeDiag_reading (m : Mod) (n bit a b x y : Nat) :
    (chanOf (if a ≥ x then setDiag m n bit true (some 0) else if b ≥ y then setDiag m n bit false none else m) n).reading =
      (chanOf m n).reading := by
  split
  · exact setDiag_reading m n bit true (by simp)
  · split
    · exact setDiag_reading m n bit false (by simp)
    · rfl

theorem takeBand_reading (m : Mod) (n b : Nat) : (chanOf (takeBand m n b) n).reading = (chanOf m n).reading := by
  unfold takeBand
  extract_lets c c0
  split
  · exact setChan_reading rfl
  · next k _ =>
    dsimp only
    have hmarked : (chanOf (setChan m n (c0.mark k true)) n).reading = (chanOf m n).reading := setChan_reading rfl
    split
    · rw [chanOf_chanFault _ _ _ _ (by decide), hmarked]
    · exact hmarked

theorem banding_reading (m : Mod) (n : Nat) (i : F32) (first : Bool) : (chanOf (banding m n i first) n).reading = (chanOf m n).reading := by
  unfold banding
  extract_lets c b since m1
  split
  · rw [takeBand_reading]; exact setChan_reading rfl
  · split
    · exact setChan_reading rfl
    · have hm1 : (chanOf m1 n).reading = (chanOf m n).reading := setChan_reading rfl
      split
      · rw [takeBand_reading, hm1]
      · exact hm1

theorem judgeReadback_reading (m : Mod) (n : Nat) : (chanOf (judgeReadback m n) n).reading = (chanOf m n).reading := by
  unfold judgeReadback
  extract_lets c m1 m2 m3 c3
  have hm1 : (chanOf m1 n).reading = (chanOf m n).reading := setChan_reading rfl
  have hm2 : (chanOf m2 n).reading = (chanOf m1 n).reading := judgeDiag_reading m1 n 0 c.owRun c.owOkRun 20 20
  have hm3 : (chanOf m3 n).reading = (chanOf m2 n).reading := judgeDiag_reading m2 n 9 c.lcRun c.lcOkRun 10 10
  rw [← hm1, ← hm2, ← hm3]
  split
  · exact setChan_reading rfl
  · split
    · exact setChan_reading rfl
    · rfl

theorem publishReal_reading (m : Mod) (n : Nat) (v : F32) : (chanOf (publishReal m n v) n).reading = (chanOf m n).reading := by
  unfold publishReal
  extract_lets c q
  rw [chanOf_of_fio (ownerWrite_fio ..)]
  exact setChan_reading rfl

/-! ### Conversions and readbacks (R192, R197) -/

/-- The channel with a conversion's current, filtered (R192). -/
def Chan.converted (c : Chan) (i : F32) : Chan := { c with currentMa := i, filtI := some (filtered c i) }

/-- The channel with a readback's current and terminal voltage (R197). -/
def Chan.readBack (c : Chan) (i v : F32) : Chan := { c with currentMa := i, vt := v }

/-- A conversion leaves its current, formed and filtered, when its band and its value are out (R192, R193). -/
theorem gives_aiConversion {s : State} {t n : Nat} {a : F32} {c : Chan} (hon : On s) (hc : chanOf s.m n = c) (hused : c.used = true)
    (hfn : c.rcd.function = 6) (hshadow : c.shadow = none) : ∃ m, Gives (.aiConversion t n a) s t m ∧
      (chanOf m n).reading = (c.converted (formCurrent s.m c.coeffs c.coeffs.aiGain c.coeffs.aiOffset a)).reading := by
  have hg := gives_of_runOn (i := .aiConversion t n a) (t := t) hon (Eq.refl (execAiConversion t n a s))
  rw [show chanOf (seen s t) n = c from hc] at hg
  dsimp only at hg
  rw [if_neg (by simp [hused, hfn]), hshadow] at hg
  refine ⟨_, hg, ?_⟩
  rw [publishReal_reading, banding_reading]
  exact congrArg Chan.reading (chanOf_setChan_same (m := (seen s t).tick) (tget_of_chanOf hc (Chan.ne_inert_of_used hused)) _)

/-- A readback leaves its current and terminal voltage when it is judged and its value is out (R197). -/
theorem gives_aoReadback {s : State} {t n : Nat} {a b : F32} {c : Chan} (hon : On s) (hc : chanOf s.m n = c) (hused : c.used = true)
    (hao : c.isAo = true) (hshadow : c.shadow = none) : ∃ m, Gives (.aoReadback t n a b) s t m ∧
      (chanOf m n).reading = (c.readBack (formCurrent s.m c.coeffs c.coeffs.rbGain c.coeffs.rbOffset a)
        (add32 (mul32 c.coeffs.vtGain b) c.coeffs.vtOffset)).reading := by
  have hg := gives_of_runOn (i := .aoReadback t n a b) (t := t) hon (Eq.refl (execAoReadback t n a b s))
  rw [show chanOf (seen s t) n = c from hc] at hg
  dsimp only at hg
  rw [if_neg (by simp [hused, hao]), hshadow] at hg
  refine ⟨_, hg, ?_⟩
  rw [publishReal_reading, judgeReadback_reading]
  exact congrArg Chan.reading (chanOf_setChan_same (m := (seen s t).tick) (tget_of_chanOf hc (Chan.ne_inert_of_used hused)) _)

/-! ### Latched diagnostics of an analogue channel (R194, R198, R199) -/

/-- The channel with a diagnostic that latches now (R182). -/
def Chan.latchAt (c : Chan) (m : Mod) (bit : Nat) : Chan := { c.mark bit true with latchTime := time32 m, latchWrap := wrap16 m }

theorem Chan.latchAt_status (c : Chan) (m : Mod) {bit : Nat} (h : bit < 32) : bitOf (c.latchAt m bit).status.toNat bit = true :=
  c.mark_status h

/-- A diagnostic that opens no switch latches, is driven for, and raises its F1 (R182, R200). -/
theorem latchDiag_new {m : Mod} {n bit : Nat} {c : Chan} (hc : chanOf m n = c) (hbit : bitOf c.status.toNat bit = false) (h2 : bit ≠ 2)
    (h3 : bit ≠ 3) (h5 : bit ≠ 5) : latchDiag m n bit = chanFault (drive (setChan m n (c.latchAt m bit)) n) n 1 bit := by
  simp [latchDiag, Chan.latchAt, hc, hbit, h2, h3, h5]

/-- A diagnostic that stands does not latch anew. -/
theorem latchDiag_again {m : Mod} {n bit : Nat} {c : Chan} (hc : chanOf m n = c) (hbit : bitOf c.status.toNat bit = true) :
    latchDiag m n bit = setChan m n c := by
  simp [latchDiag, hc, hbit]

theorem latchDiag_undriven {m : Mod} {n bit : Nat} {c : Chan} (hc : tget m.fio.chans n = some c) (hfn : c.rcd.function = 6) (hlt : bit < 32)
    (h2 : bit ≠ 2) (h3 : bit ≠ 3) (h5 : bit ≠ 5) : bitOf (chanOf (latchDiag m n bit) n).status.toNat bit = true ∧
      (chanOf (latchDiag m n bit) n).loopSupply = c.loopSupply := by
  cases hbit : bitOf c.status.toNat bit with
  | true => rw [latchDiag_again (chanOf_of_tget hc) hbit, chanOf_setChan_same hc]; exact ⟨hbit, rfl⟩
  | false =>
    have hlatched := chanOf_setChan_same hc (c.latchAt m bit)
    have hrcd : (c.latchAt m bit).rcd.function = 6 := hfn
    rw [latchDiag_new (chanOf_of_tget hc) hbit h2 h3 h5, chanOf_chanFault _ _ _ _ (by decide),
      drive_undriven (by rw [hlatched, Chan.isAo, hrcd]; rfl) (by rw [hlatched, Chan.isDo, Chan.isSource, hrcd]; rfl), hlatched]
    exact ⟨c.latchAt_status m hlt, rfl⟩

/-- A powered AI in overload loses its loop supply until it is cleared (R194). -/
theorem gives_aiOverload {s : State} {t n : Nat} {c : Chan} (hon : On s) (hc : chanOf s.m n = c) (hused : c.used = true)
    (hfn : c.rcd.function = 6) (hpowered : c.rcd.powered = true) (hsupply : c.loopSupply = true) :
    Gives (.aiOverload t n) s t (latchDiag (setChan (seen s t) n { c with loopSupply := false }) n 1) := by
  have hg := gives_of_runOn (i := .aiOverload t n) (t := t) hon (Eq.refl (execAiOverload t n s))
  rw [show chanOf (seen s t) n = c from hc] at hg
  simp only [hused, hfn, hpowered, hsupply] at hg
  exact hg

/-- A fault below F2 of a channel's diagnostic sets the field channels' active bit (R182, R390). -/
theorem chanFault_active (m : Mod) (n bit : Nat) {cls : Nat} (h : cls < 2) : bitOf (chanFault m n cls bit).flt.active.toNat 0x0D = true := by
  rw [chanFault, reportFault_minor h]
  exact collect_sets_active _ _ (show 0x0D < 64 by decide)

/-- The module with an event set in FIO_AN_EVENTS (R206). -/
def noteAnEvent (m : Mod) (i : Nat) : Mod := { m with fio := { m.fio with anEvents := setBit32 m.fio.anEvents i } }

/-- NOT_ACHIEVED that has stood for PERSIST_MS is reported, once (R198). -/
theorem gives_compliancePersist {s : State} {t n x : Nat} {c : Chan} (hon : On s) (hc : chanOf s.m n = c) (hused : c.used = true)
    (hao : c.isAo = true) (hsince : c.naSince = some x) (hna : bitOf c.status.toNat 8 = true) (hraised : c.complianceRaised = false)
    (hdue : x + 1000000 * c.rcd.persistMs ≤ max s.m.clk t) :
    Gives (.compliancePersist t n) s t (chanFault (noteAnEvent (setChan (seen s t) n { c with complianceRaised := true }) 1) n 1 8) := by
  have hlate : x + ms c.rcd.persistMs ≤ (seen s t).clk := by rw [ms, Nat.mul_comm]; exact hdue
  have hg := gives_of_runOn (i := .compliancePersist t n) (t := t) hon (Eq.refl (execCompliancePersist t n s))
  rw [show chanOf (seen s t) n = c from hc] at hg
  dsimp only at hg
  split at hg
  · next x' hx =>
    obtain rfl : x = x' := Option.some.inj (hsince.symm.trans hx)
    rw [if_pos (by simp [hused, hao, hna, hraised, hlate])] at hg
    exact hg
  · next hnone => rw [hsince] at hnone; cases hnone

/-- A compliance loss that is reported is so marked, with COMPLIANCE and an F1 (R198). -/
theorem complianceFault_spec {m : Mod} {n : Nat} {c : Chan} (hc : tget m.fio.chans n = some c) (d : Chan) :
    chanOf (chanFault (noteAnEvent (setChan m n d) 1) n 1 8) n = d ∧
      bitOf (chanFault (noteAnEvent (setChan m n d) 1) n 1 8).fio.anEvents.toNat 1 = true ∧
      bitOf (chanFault (noteAnEvent (setChan m n d) 1) n 1 8).flt.active.toNat 0x0D = true := by
  refine ⟨?chan, ?event, chanFault_active _ _ _ (by decide)⟩
  case chan => rw [chanOf_chanFault _ _ _ _ (by decide)]; exact chanOf_setChan_same hc d
  case event => rw [chanFault_fio _ _ _ (by decide)]; exact bitOf_setBit32_same _ 1 (by decide)

theorem gives_miswireLatch {s : State} {t n : Nat} {c : Chan} (hon : On s) (hc : chanOf s.m n = c) (hused : c.used = true)
    (hao : c.isAo = true) (hmis : bitOf c.status.toNat 10 = false) :
    Gives (.miswireLatch t n) s t (latchDiag (noteAnEvent (seen s t) 2) n 10) := by
  have hg := gives_of_runOn (i := .miswireLatch t n) (t := t) hon (Eq.refl (execMiswireLatch t n s))
  rw [show chanOf (seen s t) n = c from hc] at hg
  simp only [hused, hao, hmis] at hg
  exact hg

/-- An AO that latches MISWIRE sets 3.5 mA, and the events stay (R199). -/
theorem latchDiag_miswire {m : Mod} {n : Nat} {c : Chan} (hc : tget m.fio.chans n = some c) (hao : c.isAo = true)
    (hmis : bitOf c.status.toNat 10 = false) : bitOf (chanOf (latchDiag m n 10) n).status.toNat 10 = true ∧
      (chanOf (latchDiag m n 10) n).setMa = 0x40600000 ∧ (latchDiag m n 10).fio.anEvents = m.fio.anEvents := by
  have hlatched := tget_setChan_same hc (c.latchAt m 10)
  have hstatus := c.latchAt_status m (bit := 10) (by decide)
  have hao' : (c.latchAt m 10).isAo = true := hao
  rw [latchDiag_new (chanOf_of_tget hc) hmis (by decide) (by decide) (by decide), chanOf_chanFault _ _ _ _ (by decide),
    chanFault_fio _ _ _ (by decide)]
  refine ⟨?status, ?current, ?events⟩
  case status =>
    obtain ⟨hkept, -⟩ := drive_keeps_diagnostics hlatched
    rw [hkept 10 (by decide)]; exact hstatus
  case current => rw [drive_setMa hlatched hao']; exact maNow_miswire hlatched hstatus
  case events => rw [drive_ao (by rw [chanOf_of_tget hlatched]; exact hao')]; rfl

theorem analogueInstants_hold : Claims.AnalogueInstants := by
  intro s t n a b c hon hc hused
  have hlisted : tget (seen s t).fio.chans n = some c := tget_of_chanOf hc (Chan.ne_inert_of_used hused)
  refine ⟨fun hfn hshadow => ?conversion, fun hfn hpowered hsupply => ?overload, fun hao => ?demand, fun hao hshadow => ?readback,
    fun x hao hsince hna hraised hdue => ?compliance, fun hao hmis => ?miswire⟩
  case conversion =>
    obtain ⟨m, hg, hreading⟩ := gives_aiConversion (t := t) (a := a) hon hc hused hfn hshadow
    obtain ⟨hcurrent, -, hset, hfilt⟩ := Chan.reading_eq_iff.1 hreading
    exact makes_of_gives hg ⟨hcurrent, hfilt, hset⟩
  case overload =>
    exact makes_of_gives (gives_aiOverload hon hc hused hfn hpowered hsupply) (latchDiag_undriven
      (tget_setChan_same hlisted { c with loopSupply := false }) hfn (by decide) (by decide) (by decide) (by decide))
  case demand =>
    have hg := gives_of_runOn (i := .aoDemandRead t n) (t := t) hon (Eq.refl (execAoDemandRead t n s))
    rw [show chanOf (seen s t) n = c from hc] at hg
    simp only [hused, hao] at hg
    exact hg
  case readback =>
    obtain ⟨m, hg, hreading⟩ := gives_aoReadback (t := t) (a := a) (b := b) hon hc hused hao hshadow
    obtain ⟨hcurrent, hvt, hset, -⟩ := Chan.reading_eq_iff.1 hreading
    exact makes_of_gives hg ⟨hcurrent, hvt, hset⟩
  case compliance =>
    obtain ⟨hchan, hevent, hactive⟩ := complianceFault_spec hlisted { c with complianceRaised := true }
    exact makes_of_gives (gives_compliancePersist hon hc hused hao hsince hna hraised hdue)
      ⟨congrArg Chan.complianceRaised hchan, hevent, hactive⟩
  case miswire =>
    obtain ⟨hstatus, hset, hevents⟩ := latchDiag_miswire (m := noteAnEvent (seen s t) 2) hlisted hao hmis
    have hnoted : bitOf (latchDiag (noteAnEvent (seen s t) 2) n 10).fio.anEvents.toNat 2 = true := by
      rw [hevents]; exact bitOf_setBit32_same _ 2 (by decide)
    exact makes_of_gives (gives_miswireLatch hon hc hused hao hmis) ⟨hstatus, hset, hnoted⟩

/-! ### The background pass (R203) -/

@[simp] theorem chanOf_putChan_same (m : Mod) (n : Nat) (c : Chan) : chanOf (putChan m n c) n = c := by simp [chanOf]

theorem chanOf_putChan_other (m : Mod) {n k : Nat} (c : Chan) (h : k ≠ n) : chanOf (putChan m n c) k = chanOf m k := by
  simp [chanOf, tget_tset_other _ _ _ _ h]

@[simp] theorem collect_cal (m : Mod) (f : FaultInfo) : (collect m f).nv.cal = m.nv.cal := by simp [collect]

/-- A channel that goes on nominal coefficients is marked so, the others and the records stay (R203). -/
theorem goNominal_spec (m : Mod) (n : Nat) : (chanOf (goNominal m n) n).nominal = true ∧
    (∀ k, k ≠ n → chanOf (goNominal m n) k = chanOf m k) ∧ (goNominal m n).nv.cal = m.nv.cal := by
  unfold goNominal
  extract_lets c c1 c2 m1 v m2
  split
  · next h => exact ⟨h, fun _ _ => rfl, rfl⟩
  · have hfio : (reportFault m2 (faultOf 0x0A 1 n (BitVec.ofNat 16 (0x0300 + n / 32)) 0 1)).fio = m2.fio := by
      rw [reportFault_minor (by decide : 1 < 2), collect_fio]
    have hmarked : c2.nominal = true := by unfold c2; split <;> rfl
    refine ⟨?same, fun k hk => ?other, ?records⟩
    case same =>
      rw [chanOf_of_fio hfio]
      exact (congrArg Chan.nominal (chanOf_putChan_same m n c2)).trans hmarked
    case other =>
      rw [chanOf_of_fio hfio]
      exact chanOf_putChan_other m c2 hk
    case records => rw [reportFault_minor (by decide : 1 < 2), collect_cal]; rfl

theorem checkCal_cal (m : Mod) (n : Nat) : (checkCal m n).nv.cal = m.nv.cal := by
  obtain ⟨-, -, hcal⟩ := goNominal_spec m n
  unfold checkCal
  split
  · rfl
  · exact hcal

theorem checkCal_invalid {m : Mod} {n : Nat} (h : (calOf m n).valid n = false) : (chanOf (checkCal m n) n).nominal = true := by
  obtain ⟨hsame, -, -⟩ := goNominal_spec m n
  rw [checkCal, if_neg (ne_true_of_eq_false h)]
  exact hsame

/-- No check puts a channel back from nominal coefficients (R203). -/
theorem checkCal_keeps_nominal (m : Mod) (n k : Nat) (h : (chanOf m k).nominal = true) : (chanOf (checkCal m n) k).nominal = true := by
  obtain ⟨hsame, hother, -⟩ := goNominal_spec m n
  unfold checkCal
  split
  · exact h
  · by_cases hk : k = n
    · rw [hk]; exact hsame
    · rw [hother k hk]; exact h

theorem foldl_checkCal_cal (l : List Nat) (m : Mod) : (l.foldl checkCal m).nv.cal = m.nv.cal :=
  foldl_field (fun m => m.nv.cal) checkCal checkCal_cal m l

theorem calOf_of_cal {m m' : Mod} (h : m'.nv.cal = m.nv.cal) (n : Nat) : calOf m' n = calOf m n := by rw [calOf, h, calOf]

/-- A channel without a valid record is on nominal coefficients once the pass has come to it (R203). -/
theorem foldl_checkCal_nominal (l : List Nat) (m : Mod) {n : Nat}
    (h : (chanOf m n).nominal = true ∨ n ∈ l ∧ (calOf m n).valid n = false) : (chanOf (l.foldl checkCal m) n).nominal = true := by
  induction l generalizing m with
  | nil => exact h.resolve_right (by simp)
  | cons k l ih =>
    rw [List.foldl_cons]
    refine ih (checkCal m k) ?_
    rcases h with h | ⟨hmem, hinvalid⟩
    · exact .inl (checkCal_keeps_nominal m k n h)
    · rcases List.mem_cons.1 hmem with rfl | hmem
      · exact .inl (checkCal_invalid hinvalid)
      · exact .inr ⟨hmem, by rw [calOf_of_cal (checkCal_cal m k)]; exact hinvalid⟩

/-! ### The calibration commands (R204, R320) -/

/-- A calibration descriptor for an enabled channel is LOCKED (R204). -/
theorem gives_onCal_locked {i : Instr} {s : State} {t op ch : Nat} {q : Req} {f : Mod → Chan → Mod} (hs : Served s t op q) (hch : ch < 256)
    (hused : (chanOf s.m ch).used = true) (hi : exec i s = s.runCmd t op q (fun m => onCal m q ch (f m))) :
    Gives i s t (post (seen s t) q .locked) := by
  have hg := gives_of_runCmd hs hi
  rwa [onCal, if_neg (Nat.not_le.2 hch), if_pos (show (chanOf (seen s t) ch).used = true from hused)] at hg

/-- One for a channel that is not enabled gives what its operation does. -/
theorem gives_onCal {i : Instr} {s : State} {t op ch : Nat} {q : Req} {f : Mod → Chan → Mod} (hs : Served s t op q) (hch : ch < 256)
    (hused : (chanOf s.m ch).used = false) (hi : exec i s = s.runCmd t op q (fun m => onCal m q ch (f m))) :
    Gives i s t (f (seen s t) (chanOf s.m ch)) := by
  have hg := gives_of_runCmd hs hi
  rwa [onCal, if_neg (Nat.not_le.2 hch),
    if_neg (ne_true_of_eq_false (show (chanOf (seen s t) ch).used = false from hused))] at hg

@[simp] theorem chanOf_post (m : Mod) (q : Req) (st : Status) (r : Res) (k : Nat) : chanOf (post m q st r) k = chanOf m k :=
  chanOf_of_fio (post_fio ..) k

/-- A point of a channel that is being calibrated waits for its average; an AO drives the point's current (R204). -/
theorem gives_calPoint {s : State} {t ch n : Nat} {q : Req} {a b : F32} {c : Chan} (hs : Served s t 0x0011 q) (hch : ch < 256)
    (hc : chanOf s.m ch = c) (hused : c.used = false) (hn : n ≤ 1) (hfn : c.calFn ≠ 0) (hwait : c.calWait = none) :
    Gives (.calPoint t q ch n a b) s t (startOp (putChan (seen s t) ch
      { c with calWait := some (n, q, a, b), setMa := if c.calFn = 7 then pointMa n else c.setMa }) q) := by
  subst hc
  have hg := gives_onCal (i := .calPoint t q ch n a b) hs hch hused (Eq.refl (execCalPoint t q ch n a b s))
  have hready : (decide ((chanOf s.m ch).calFn = 0) || (chanOf s.m ch).calWait.isSome) = false := by simp [hfn, hwait]
  rwa [if_neg (Nat.not_lt.2 hn), hready, if_neg Bool.false_ne_true] at hg

theorem gives_calPointAveraged {s : State} {t ch p : Nat} {q : Req} {a b y z : F32} {c : Chan} (hon : On s) (hc : chanOf s.m ch = c)
    (hwait : c.calWait = some (p, q, y, z)) : Gives (.calPointAveraged t ch a b) s t
      (post (setChan (seen s t) ch { c with calWait := none, calPts := tset c.calPts p (y, z, a, b) }) q .ok) := by
  have hg := gives_of_runOn (i := .calPointAveraged t ch a b) (t := t) hon (Eq.refl (execCalPointAveraged t ch a b s))
  rw [show chanOf (seen s t) ch = c from hc] at hg
  simp only [hwait] at hg
  exact hg

/-- The module with a record committed: the points are dropped, and the record is in its place (R204). -/
def committed (m : Mod) (ch : Nat) (c : Chan) (r : CalRec) : Mod :=
  noteAnEvent { putChan m.tick ch { c with calFn := 0, calPts := [] } with nv := { m.nv with cal := tset m.nv.cal ch r } } 3

theorem gives_calCommit {s : State} {t ch : Nat} {q : Req} {g x : W32} {c : Chan} {p0 p1 : F32 × F32 × F32 × F32}
    (hs : Served s t 0x0012 q) (hch : ch < 256) (hc : chanOf s.m ch = c) (hused : c.used = false) (hen : s.m.fio.calEn = true)
    (h0 : tget c.calPts 0 = some p0) (h1 : tget c.calPts 1 = some p1) (hrange : (fitRecord s.m ch c.calFn p0 p1 g x).inRange = true) :
    Gives (.calCommit t q ch g x) s t (post (committed (seen s t) ch c (fitRecord s.m ch c.calFn p0 p1 g x)) q .ok) := by
  subst hc
  have hg := gives_onCal (i := .calCommit t q ch g x) hs hch hused (Eq.refl (execCalCommit t q ch g x s))
  simp only [show (seen s t).fio.calEn = true from hen, h0, h1] at hg
  exact (if_pos hrange).subst (motive := Gives (.calCommit t q ch g x) s t) hg

/-- The channel with its points discarded (R204). -/
def Chan.uncalibrating (c : Chan) : Chan := { c with calFn := 0, calPts := [], calWait := none }

/-- An abort discards the points; a point that waits is answered first (R204). -/
theorem gives_calAbort {s : State} {t ch : Nat} {q : Req} (hs : Served s t 0x0013 q) (hch : ch < 256) (hused : (chanOf s.m ch).used = false) :
    Gives (.calAbort t q ch) s t (post (postOpt (setChan (seen s t) ch (chanOf s.m ch).uncalibrating)
      ((chanOf s.m ch).calWait.map fun w => w.2.1) .notReady) q .ok) := by
  have hg := gives_onCal (i := .calAbort t q ch) hs hch hused (Eq.refl (execCalAbort t q ch s))
  dsimp only at hg
  split at hg
  · next w hw => rw [hw]; exact hg
  · next hw => rw [hw]; exact hg

/-- The answers to a point that waits and to the abort change neither a channel nor a record. -/
theorem answers_keep (m : Mod) (w : Option Req) (q : Req) : (post (postOpt m w .notReady) q .ok).fio = m.fio ∧
    (post (postOpt m w .notReady) q .ok).nv = m.nv := ⟨by simp, by simp⟩

/-- The channel of an aborted calibration, listed or not. -/
theorem chanOf_setChan_uncalibrating (m : Mod) (n : Nat) :
    chanOf (setChan m n (chanOf m n).uncalibrating) n = (chanOf m n).uncalibrating := by
  cases h : tget m.fio.chans n with
  | none => rw [chanOf_setChan_unlisted h]; simp [chanOf, h, Chan.uncalibrating]
  | some c => rw [chanOf_setChan_same h]

theorem calibration_holds : Claims.Calibration := by
  intro s t ch n q a b g x hch
  refine ⟨fun hs hused => ?locked, fun hs hused hfn => ?start, fun hs hused hn hfn hwait => ?point, fun p y z hon hwait => ?averaged,
    fun p0 p1 hs hused hen h0 h1 hrange => ?commit, fun hs hused hen => ?disabled, fun hs hused => ?abort, fun hs hused => ?read,
    fun hon _ hinvalid => ?pass⟩
  case locked => exact gives_onCal_locked (i := .calStart t q ch n) hs hch hused (Eq.refl (execCalStart t q ch n s))
  case start =>
    have hg := gives_onCal (i := .calStart t q ch n) hs hch hused (Eq.refl (execCalStart t q ch n s))
    rcases hfn with rfl | rfl <;> exact hg
  case point =>
    refine makes_of_gives (gives_calPoint hs hch rfl hused hn hfn hwait) ?_
    have hchan := chanOf_putChan_same (seen s t) ch
      { chanOf s.m ch with calWait := some (n, q, a, b), setMa := if (chanOf s.m ch).calFn = 7 then pointMa n else (chanOf s.m ch).setMa }
    exact ⟨congrArg Chan.calWait hchan, congrArg Chan.setMa hchan⟩
  case averaged =>
    have hlisted : tget (seen s t).fio.chans ch = some (chanOf s.m ch) :=
      tget_of_chanOf (m := seen s t) rfl (by intro h; rw [h] at hwait; cases hwait)
    have hchan := (chanOf_post _ q .ok {} ch).trans
      (chanOf_setChan_same hlisted { chanOf s.m ch with calWait := none, calPts := tset (chanOf s.m ch).calPts p (y, z, a, b) })
    exact makes_of_gives (gives_calPointAveraged hon rfl hwait)
      ⟨(congrArg (fun c : Chan => tget c.calPts p) hchan).trans (tget_tset_same ..), congrArg Chan.calWait hchan⟩
  case commit =>
    refine makes_of_gives (gives_calCommit hs hch rfl hused hen h0 h1 hrange) ?_
    generalize fitRecord s.m ch (chanOf s.m ch).calFn p0 p1 g x = r
    have hnv := post_nv (committed (seen s t) ch (chanOf s.m ch) r) q .ok {}
    have hfio := post_fio (committed (seen s t) ch (chanOf s.m ch) r) q .ok {}
    refine ⟨?same, fun k hk => ?other, ?event⟩
    case same => exact (congrArg (fun v : NvBlk => tget v.cal ch) hnv).trans (tget_tset_same ..)
    case other => exact (congrArg (fun v : NvBlk => tget v.cal k) hnv).trans (tget_tset_other _ _ _ _ hk)
    case event => exact (congrArg (fun f : FioBlk => bitOf f.anEvents.toNat 3) hfio).trans (bitOf_setBit32_same _ 3 (by decide))
  case disabled =>
    have hg := gives_onCal (i := .calCommit t q ch g x) hs hch hused (Eq.refl (execCalCommit t q ch g x s))
    simp only [show (seen s t).fio.calEn = false from hen] at hg
    exact hg
  case abort =>
    have hchan : chanOf (setChan (seen s t) ch (chanOf s.m ch).uncalibrating) ch = (chanOf s.m ch).uncalibrating :=
      chanOf_setChan_uncalibrating (seen s t) ch
    obtain ⟨hfio, hnv⟩ := answers_keep (setChan (seen s t) ch (chanOf s.m ch).uncalibrating) ((chanOf s.m ch).calWait.map fun w => w.2.1) q
    have hkept := (chanOf_of_fio hfio ch).trans hchan
    exact makes_of_gives (gives_calAbort hs hch hused)
      ⟨congrArg Chan.calFn hkept, congrArg Chan.calPts hkept, congrArg Chan.calWait hkept, congrArg NvBlk.cal hnv⟩
  case read => exact gives_onCal (i := .calRead t q ch) hs hch hused (Eq.refl (execCalRead t q ch s))
  case pass =>
    have hg := gives_of_runOn (i := .calCheckPass t) (t := t) hon (Eq.refl (execCalCheckPass t s))
    have hmem : ch ∈ List.range 256 := List.mem_range.2 hch
    generalize List.range 256 = l at hg hmem
    exact makes_of_gives hg ⟨foldl_checkCal_nominal l (seen s t) (.inr ⟨hmem, hinvalid⟩), foldl_checkCal_cal l (seen s t)⟩

/-- Settles O42: what is measured of an analogue channel passes through the judging of its diagnostics, what latches is driven for and reported, and
a calibration descriptor acts on a channel that is not enabled. -/
theorem analogueChannels : Obligations.AnalogueChannels := ⟨analogueInstants_hold, calibration_holds⟩

end Sys2Proof.Machine
end

section
/-! SUPPORT. Safety functions: what an evaluation leaves as it was, the state a function enters, the fault conditions that stand through it, and the
ones of a write to SAF_FAULT (R212, R213, R216 to R219). -/

open Sys2Proof.Claims

namespace Sys2Proof.Machine

/-! ### What a function's transition leaves of SAF (R59, R61, R215, R220) -/

@[simp] theorem setUnit_saf (m : Mod) (i : Nat) (u : Machine.Unit) : (setUnit m i u).saf = m.saf := by unfold setUnit; split <;> rfl

@[simp] theorem enterMode_saf (m : Mod) (i : Nat) (x : Mode) : (enterMode m i x).saf = m.saf := by
  unfold enterMode
  split
  · rfl
  · dsimp only; split <;> simp

@[simp] theorem walk_saf (m : Mod) (c : WalkCmd) : (walk m c).1.saf = m.saf := walk_field Mod.saf enterMode_saf sigRefused_saf m c

@[simp] theorem startWalk_saf (m : Mod) (c : WalkCmd) : (startWalk m c).saf = m.saf := by simp [startWalk, walkDone]

@[simp] theorem commandSafe_saf (m : Mod) (h : W32) : (commandSafe m h).saf = m.saf := by
  unfold commandSafe; dsimp only; split_ifs <;> simp

@[simp] theorem onEnabled_saf (m : Mod) (f : Func) : (onEnabled m f).saf = m.saf := by
  unfold onEnabled
  extract_lets freed
  have hfreed : freed.saf = m.saf := foldl_field Mod.saf _ (fun m c => by dsimp only; split <;> rfl) m f.outCh
  split
  · exact (ownerWrite_saf ..).trans hfreed
  · exact hfreed

@[simp] theorem driveOuts_saf (m : Mod) (f : Func) : (driveOuts m f).saf = m.saf := by
  unfold driveOuts
  extract_lets driven
  have hdriven : driven.saf = m.saf := foldl_field Mod.saf _ (fun m c => by dsimp only; split <;> simp) m f.outCh
  split
  · exact (command_saf ..).trans hdriven
  · exact hdriven

/-! ### The state a function enters (R212, R215) -/

@[simp] theorem tget_setFunc_same (m : Mod) (n : Nat) (f : Func) : tget (setFunc m n f).saf.funcs n = some f := by simp [setFunc]

/-- Showing its word leaves a function in its state, with its cause (R215). -/
theorem showState_func {m : Mod} {n : Nat} {f : Func} (hf : tget m.saf.funcs n = some f) :
    ∃ h, tget (showState m n).saf.funcs n = some h ∧ h.st = f.st ∧ h.cause = f.cause := by
  simp only [showState, hf]
  split
  · split
    · exact ⟨f, hf, rfl, rfl⟩
    · exact ⟨_, tget_setFunc_same .., rfl, rfl⟩
  · exact ⟨_, (congrArg (fun b : SafBlk => tget b.funcs n) ((event_saf ..).trans (ownerWrite_saf ..))).trans (tget_setFunc_same ..), rfl, rfl⟩

/-- A function that moves is in the state it moves to, with the cause given (R212). -/
theorem enterState_func (m : Mod) (n : Nat) (f : Func) (st : FState) (cause : FCause) :
    ∃ h, tget (enterState m n f st cause).saf.funcs n = some h ∧ h.st = st ∧ h.cause = cause := by
  unfold enterState
  extract_lets g m0 saf noted enabled stopped driven commanded shown
  have hnoted : tget noted.saf.funcs n = some g := tget_setFunc_same ..
  have henabled : enabled.saf = noted.saf := by unfold enabled; split <;> simp
  have hstopped : stopped.saf = enabled.saf := by unfold stopped; split <;> simp
  have hcommanded : commanded.saf = stopped.saf := by unfold commanded; split <;> simp [driven]
  obtain ⟨h, hh, hst, hcause⟩ := showState_func (m := commanded) (n := n) (f := g) (by rw [hcommanded, hstopped, henabled, hnoted])
  refine ⟨h, ?_, hst, hcause⟩
  split
  · rw [reportFault_minor (show 1 < 2 by decide), collect_saf]; exact hh
  · exact hh

/-! ### Fault conditions through an evaluation (R216, R218) -/

/-- The step of a lock changes nothing of a function but whether the lock is released (R217). -/
theorem lockStep_eq (m : Mod) (f : Func) : ∃ b, lockStep m f = { f with lockReleased := b } := by
  unfold lockStep
  split_ifs <;> exact ⟨_, rfl⟩

/-- Channels that differ for DISC_MS are a discrepancy, before any other condition (R216). -/
theorem faultCond_discrepancy {m : Mod} {f : Func} (hd : differ m f = true) (hp : passed f.discSince (ms f.discMs) m.clk = true) :
    faultCond m f = .discrepancy := by simp [faultCond, hd, hp]

/-- CONTACT is a hand of a TWO_HAND in transit for DISC_MS (R218). -/
theorem faultCond_contact_iff (m : Mod) (f : Func) : faultCond m f = .contact ↔
    f.kind = 4 ∧ ((inTransit m f 0 && passed f.leftSince (ms f.discMs) m.clk) ||
      (inTransit m f 2 && passed f.rightSince (ms f.discMs) m.clk)) = true := by
  constructor
  · intro h
    by_contra hno
    unfold faultCond at h
    rw [if_neg (c := f.kind = 4 && _) (by simpa using hno)] at h
    split_ifs at h
  · rintro ⟨hk, hc⟩
    simp [faultCond, differ, hk, hc]

/-- A timer that has passed goes on as its condition stands. -/
theorem passed_or {since : Option Nat} {d clk : Nat} (h : passed since d clk = true) : since.or (some clk) = since := by
  cases since with
  | none => simp [passed] at h
  | some x => rfl

/-- A discrepancy that has lasted DISC_MS is the fault condition of the evaluation (R216). -/
theorem faultCond_evaluated_discrepancy {m : Mod} {f : Func} (hd : differ m f = true) (hp : passed f.discSince (ms f.discMs) m.clk = true) :
    faultCond m (lockStep m (trackTimers m f)) = .discrepancy := by
  obtain ⟨b, hb⟩ := lockStep_eq m (trackTimers m f)
  have hrun : (trackTimers m f).discSince = f.discSince := (if_pos hd).trans (passed_or hp)
  rw [hb]
  exact faultCond_discrepancy hd ((congrArg (passed · (ms f.discMs) m.clk) hrun).trans hp)

/-- A CONTACT that stands is the fault condition of the evaluation (R218). -/
theorem faultCond_evaluated_contact {m : Mod} {f : Func} (h : faultCond m f = .contact) :
    faultCond m (lockStep m (trackTimers m f)) = .contact := by
  obtain ⟨hk, hc⟩ := (faultCond_contact_iff m f).1 h
  obtain ⟨b, hb⟩ := lockStep_eq m (trackTimers m f)
  rw [hb]
  refine (faultCond_contact_iff ..).2 ⟨hk, ?_⟩
  simp only [Bool.or_eq_true, Bool.and_eq_true] at hc ⊢
  refine hc.imp (fun ⟨htr, hp⟩ => ⟨htr, ?_⟩) (fun ⟨htr, hp⟩ => ⟨htr, ?_⟩)
  · have hrun : (trackTimers m f).leftSince = f.leftSince := (if_pos (by simp [hk, htr])).trans (passed_or hp)
    exact (congrArg (passed · (ms f.discMs) m.clk) hrun).trans hp
  · have hrun : (trackTimers m f).rightSince = f.rightSince := (if_pos (by simp [hk, htr])).trans (passed_or hp)
    exact (congrArg (passed · (ms f.discMs) m.clk) hrun).trans hp

/-- A fault condition that stands takes a function to FAULT with its cause (R212). -/
theorem evaluate_faults {m : Mod} {n : Nat} {f : Func} {c : FCause} (hf : tget m.saf.funcs n = some f) (hinit : f.st ≠ .init)
    (hfault : f.st ≠ .fault) (hc : faultCond m (lockStep m (trackTimers m f)) = c) (hne : c ≠ .none) :
    ∃ h, tget (evaluate m n).saf.funcs n = some h ∧ h.st = .fault ∧ h.cause = c := by
  obtain ⟨b, hb⟩ := lockStep_eq m (trackTimers m f)
  have hst : (lockStep m (trackTimers m f)).st = f.st := by rw [hb]; rfl
  unfold evaluate
  simp only [hf, hst, hc, show (f.st == .fault || f.st == .init) = false by simp [hinit, hfault], show (c != .none) = true by simp [hne],
    Bool.false_eq_true, if_false, if_true]
  exact enterState_func ..

/-! ### The instants of an evaluation (R213) -/

/-- Where the evaluators run, a timer of a function that is due evaluates it (R213). -/
theorem gives_evaluateIf {i : Instr} {s : State} {t n : Nat} {f : Func} {due : Mod → Func → Bool} (hon : On s) (hruns : evaluatorsRun s.m = true)
    (hf : tget s.m.saf.funcs n = some f) (hdue : due (seen s t) f = true)
    (hi : exec i s = s.runOn t (fun m => evaluateIf m n (due m))) : Gives i s t (evaluate (seen s t) n) := by
  have hg := gives_of_runOn hon hi
  simp only [evaluateIf, show tget (seen s t).saf.funcs n = some f from hf, hdue, show evaluatorsRun (seen s t) = true from hruns, Bool.and_self,
    if_true] at hg
  exact hg

/-- A timer that ends at or before the clock has passed. -/
theorem passed_some {x d clk : Nat} (h : x + d ≤ clk) : passed (some x) d clk = true := decide_eq_true h

theorem ms_eq (n : Nat) : ms n = 1000000 * n := Nat.mul_comm n 1000000

/-! ### Clearing FAULT (R212, R231) -/

/-- A one in SAF_FAULT m names one function (R231). -/
theorem clearFaults_one (m : Mod) (n : Nat) : clearFaults m (n / 32) (BitVec.ofNat 32 (2 ^ (n % 32))).toNat = clearFault m n := by
  have hbit : ∀ k ∈ List.range 32, bitOf (BitVec.ofNat 32 (2 ^ (n % 32))).toNat ((k + 32 * (n / 32)) % 32) = (k == n % 32) := fun k hk => by
    have hk32 : k < 32 := List.mem_range.1 hk
    simp only [bitOf, BitVec.toNat_ofNat, Nat.testBit_mod_two_pow, Nat.testBit_two_pow, show (k + 32 * (n / 32)) % 32 = k by omega, hk32, decide_true,
      Bool.true_and, beq_eq_decide, eq_comm]
  have hone : ∀ i < 32, (List.range 32).filter (· == i) = [i] := by decide
  have hspan : (span (32 * (n / 32)) 32).filter (fun k => bitOf (BitVec.ofNat 32 (2 ^ (n % 32))).toNat (k % 32)) = [n] := by
    refine List.filter_map.trans ((congrArg (List.map _) ((List.filter_congr hbit).trans (hone _ (Nat.mod_lt _ (by decide))))).trans ?_)
    exact congrArg (fun k => [k]) (Nat.mod_add_div n 32)
  rw [clearFaults, hspan]; rfl

/-- A function whose cause is gone leaves FAULT for TRIPPED (R212). -/
theorem clearFault_func {m : Mod} {n : Nat} {f : Func} (hf : tget m.saf.funcs n = some f) (hst : f.st = .fault)
    (hc : faultCond m (trackTimers m f) = .none) : ∃ h, tget (clearFault m n).saf.funcs n = some h ∧ h.st = .tripped ∧ h.cause = .none := by
  simp only [clearFault, hf, hc, show (trackTimers m f).st = .fault from hst, beq_self_eq_true, Bool.and_self, if_true]
  exact enterState_func ..

/-- A write of W1C bits acts outside boot recovery, under SOFT_LOCK too (R446, R502). -/
theorem gives_of_runW1c {i : Instr} {s : State} {t off : Nat} {f : Mod → Mod} (hon : On s) (hboot : bootHeld s.m = false)
    (hi : exec i s = s.runW1c t off f) : Gives i s t (f (seen s t)) := by
  have hg := gives_of_runOn hon hi
  rwa [regHeld_of_not_bootHeld (m := seen s t) hboot, if_neg Bool.false_ne_true] at hg

/-- A write to SAF_FAULT clears what its ones name, outside boot recovery (R212, R502). -/
theorem gives_safFaultClear {s : State} {t n : Nat} (hon : On s) (hboot : bootHeld s.m = false) (hn : n < 256) :
    Gives (.safFaultClear t (n / 32) (BitVec.ofNat 32 (2 ^ (n % 32)))) s t (clearFault (seen s t) n) := by
  have hg := gives_of_runW1c (i := .safFaultClear t (n / 32) (BitVec.ofNat 32 (2 ^ (n % 32)))) hon hboot
    (Eq.refl (execSafFaultClear t (n / 32) (BitVec.ofNat 32 (2 ^ (n % 32))) s))
  rw [if_pos (show n / 32 < 8 by omega), clearFaults_one] at hg
  exact hg

/-- Settles O44: the evaluations of R213, where each timer that is due evaluates its function, and the fault a function enters or leaves. -/
theorem safetyEvaluations : Obligations.SafetyEvaluations := by
  intro s t n b f hon hruns hf
  have hruns' : evaluatorsRun (seen s t) = true := hruns
  refine ⟨?evaluation, fun hat => ?tick, fun x hd hx hlate hinit hfault => ?discrepancy, fun x hst hx hlate => ?stop,
    fun x hk hst hx hlate => ?sync, fun hc hinit hfault => ?contact, fun hk hlate => ?ossd, fun x hk hlock hreq hpermit hout hx hlate => ?lock,
    fun hboot hn hst hc => ?clear⟩
  case evaluation =>
    have hg := gives_of_runOn (i := .safetyEvaluation t n) (t := t) hon (Eq.refl (execSafetyEvaluation t n s))
    rwa [if_pos hruns'] at hg
  case tick =>
    have hg := gives_of_runOn (i := .safetyTick t) (t := t) hon (Eq.refl (execSafetyTick t s))
    rwa [if_pos (by simp only [hruns', Bool.true_and, decide_eq_true_eq]; exact hat)] at hg
  case discrepancy =>
    have hp : passed f.discSince (ms f.discMs) (seen s t).clk = true := by rw [hx, ms_eq]; exact passed_some hlate
    exact makes_of_gives (gives_evaluateIf hon hruns hf (by simp only [hp, Bool.and_true]; exact hd) (Eq.refl (execDiscrepancyExpiry t n s)))
      (evaluate_faults hf hinit hfault (faultCond_evaluated_discrepancy hd hp) (by decide))
  case stop =>
    exact gives_evaluateIf hon hruns hf (by rw [hst, hx, ms_eq]; exact passed_some hlate) (Eq.refl (execStopDelayExpiry t n s))
  case sync =>
    exact gives_evaluateIf hon hruns hf (by rw [hk, hst, hx, ms_eq]; exact passed_some hlate) (Eq.refl (execSyncExpiry t n s))
  case contact =>
    exact makes_of_gives (gives_evaluateIf hon hruns hf (beq_iff_eq.2 hc) (Eq.refl (execHandContact t n s)))
      (evaluate_faults hf hinit hfault (faultCond_evaluated_contact hc) (by decide))
  case ossd =>
    exact gives_evaluateIf hon hruns hf (by rw [hk]; exact hlate) (Eq.refl (execOssdTestExpiry t n b s))
  case lock =>
    have hp : passed f.outsLowSince (ms 10) (seen s t).clk = true := by rw [hx]; exact passed_some hlate
    have hreleased : (lockStep (seen s t) f).lockReleased = true := by
      simp [lockStep, hk, hlock, show counts (seen s t) f.unlockReq = true from hreq,
        show counts (seen s t) f.unlockPermit = true from hpermit, hout, hp]
    exact ⟨gives_evaluateIf hon hruns hf (by simp [hreleased, hlock]) (Eq.refl (execLockReleaseReady t n s)), hreleased⟩
  case clear =>
    exact makes_of_gives (gives_safFaultClear hon hboot hn) (clearFault_func hf hst hc)

end Sys2Proof.Machine
end

section
/-! SUPPORT. Safe telegrams: records read field by field, the unit a peer accepts, the copies a connection takes or discards, and the signals of a
connection that fails (R222 to R227). -/

open Sys2Proof.Claims

namespace Sys2Proof.Machine

/-! ### Records read field by field (R9) -/

/-- A field that lies in the front part of a record is read from there. -/
theorem slice_append_left {a : List Byte} (b : List Byte) {o n : Nat} (h : o + n ≤ a.length) : slice (a ++ b) o n = slice a o n := by
  simp only [slice, List.drop_append_of_le_length (show o ≤ a.length by omega),
    List.take_append_of_le_length (show n ≤ (a.drop o).length by rw [List.length_drop]; omega)]

/-- A field that lies past the front part of a record is read from the rest. -/
theorem slice_append_right {a : List Byte} (b : List Byte) {o n : Nat} (h : a.length ≤ o) : slice (a ++ b) o n = slice b (o - a.length) n := by
  simp only [slice, List.drop_append, List.drop_eq_nil_of_le h, List.nil_append]

/-- A field that takes up a whole part of a record is that part. -/
theorem slice_whole {a : List Byte} {n : Nat} (h : a.length = n) : slice a 0 n = a := by simp [slice, ← h]

/-- A number written in `n` bytes reads back modulo 256 to the `n`. -/
theorem leNat_leBytes (n v : Nat) : leNat (leBytes n v) = v % 256 ^ n := by
  induction n generalizing v with
  | zero => simp [leBytes, leNat, Nat.mod_one]
  | succ n ih =>
    rw [leBytes, leNat, ih, BitVec.toNat_ofNat, pow_succ' 256 n, Nat.mod_mul]

theorem u16_bytes16_append (v : Nat) (b : List Byte) : u16 (bytes16 v ++ b) 0 = v % 65536 := by
  rw [u16, slice_append_left b (by simp), slice_whole (length_bytes16 v)]
  exact leNat_leBytes 2 v

theorem w32_bytes32_append (v : W32) (b : List Byte) : w32 (bytes32 v ++ b) 0 = v := by
  rw [w32, u32, slice_append_left b (by simp), slice_whole (length_bytes32 v)]
  have hle : leNat (bytes32 v) = v.toNat := (leNat_leBytes 4 _).trans (Nat.mod_eq_of_lt v.isLt)
  rw [hle, BitVec.ofNat_toNat, BitVec.setWidth_eq]

theorem u16_append_right {a : List Byte} (b : List Byte) {o : Nat} (h : a.length ≤ o) : u16 (a ++ b) o = u16 b (o - a.length) := by
  rw [u16, slice_append_right b h, u16]

theorem w32_append_right {a : List Byte} (b : List Byte) {o : Nat} (h : a.length ≤ o) : w32 (a ++ b) o = w32 b (o - a.length) := by
  rw [w32, u32, slice_append_right b h, w32, u32]

/-! ### A telegram and its peer (R222, R223, R225) -/

/-- The first 60 bytes of a telegram without a tag, field after field (R223). -/
def telegramHead (m : Mod) (n : Nat) (p : List Byte) (seq net : Nat) : List Byte :=
  bytes16 1 ++ (bytes16 n ++ (bytes32 (speakId m) ++ (bytes16 seq ++ (leBytes 1 net ++ (leBytes 1 (b2n (anyDegraded m)) ++
    (bytes32 (time32 m) ++ (p ++ List.replicate 8 0)))))))

/-- A telegram without a tag is its 60 bytes and their CRC with the SEED (R223). -/
theorem buildPdu_untagged (m : Mod) (n : Nat) {c : Conn} (p : List Byte) (seq net : Nat) (h : c.gmac = false) : buildPdu m n c p seq net =
    telegramHead m n p seq net ++ bytes32 (crc32c (bytes32 c.seed ++ telegramHead m n p seq net)) := by
  simp [buildPdu, telegramHead, h, b2n]

section
variable (m : Mod) {n x : Nat} (net : Nat) {p : List Byte}

theorem length_telegramHead (n x : Nat) (hp : p.length = 36) : (telegramHead m n p x net).length = 60 := by
  simp [telegramHead, hp]

/-- VERSION, CONN, SRC_ID, SEQ and the payload of a telegram, as a peer reads them (R223). -/
theorem telegramHead_fields (b : List Byte) (hp : p.length = 36) (hn : n < 65536) (hx : x < 65536) :
    u16 (telegramHead m n p x net ++ b) 0 = 1 ∧ u16 (telegramHead m n p x net ++ b) 2 = n ∧ w32 (telegramHead m n p x net ++ b) 4 = speakId m ∧
      u16 (telegramHead m n p x net ++ b) 8 = x ∧ slice (telegramHead m n p x net ++ b) 16 36 = p := by
  simp only [telegramHead, List.append_assoc]
  refine ⟨u16_bytes16_append 1 _, ?conn, ?source, ?seq, ?payload⟩
  case conn => rw [u16_append_right _ (by simp), length_bytes16, u16_bytes16_append, Nat.mod_eq_of_lt hn]
  case source => rw [w32_append_right _ (by simp), w32_append_right _ (by simp)]; exact w32_bytes32_append ..
  case seq =>
    rw [u16_append_right _ (by simp), u16_append_right _ (by simp), u16_append_right _ (by simp)]
    exact (u16_bytes16_append ..).trans (Nat.mod_eq_of_lt hx)
  case payload =>
    iterate 7 rw [slice_append_right _ (by simp)]
    simp only [length_bytes16, length_bytes32, length_leBytes]
    rw [slice_append_left _ (by omega), slice_whole hp]

/-- A peer with the same SEED that expects this connection of this module finds its copy valid (R225). -/
theorem copyValid_buildPdu {c d : Conn} (hp : p.length = 36) (hn : n < 65536) (hx : x < 65536) (hc : c.gmac = false) (hd : d.gmac = false)
    (hreq : m.saf.gmacReq = false) (hseed : d.seed = c.seed) (hconn : d.peerConn = n) (hid : d.peerId = speakId m) :
    copyValid m d (buildPdu m n c p x net) = true := by
  have hlen := length_telegramHead m net n x hp
  obtain ⟨hversion, hfrom, hsource, -, -⟩ := telegramHead_fields m net
    (bytes32 (crc32c (bytes32 c.seed ++ telegramHead m n p x net))) hp hn hx
  have hcrc : w32 (telegramHead m n p x net ++ bytes32 (crc32c (bytes32 c.seed ++ telegramHead m n p x net))) 60 =
      crc32c (bytes32 c.seed ++ telegramHead m n p x net) := by
    rw [w32_append_right _ (by omega), hlen, ← List.append_nil (bytes32 _)]
    exact w32_bytes32_append ..
  rw [buildPdu_untagged m n p x net hc, copyValid, hcrc, hversion, hfrom, hsource, List.take_left' hlen]
  simp [hlen, hd, hreq, hseed, hconn, hid]

end

/-! ### Sending (R224) -/

@[simp] theorem tget_setConn_same (m : Mod) (n : Nat) (c : Conn) : tget (setConn m n c).saf.conns n = some c := by simp [setConn]

@[simp] theorem enqueueAt_saf (m : Mod) (src p : Nat) (f : EthFrame) : (enqueueAt m src p f).saf = m.saf := by
  unfold enqueueAt; dsimp only; split <;> rfl

/-- What a telegram sent leaves in its connection (R224). -/
theorem sendTelegram_conn (m : Mod) (n : Nat) (c : Conn) (p : List Byte) : tget (sendTelegram m n c p).saf.conns n =
    some { c with seq := (c.seq + 1) % 65536, lastSend := some m.clk, sentBytes := buildPdu m n c p c.seq 0 } := by
  unfold sendTelegram
  extract_lets pdu noted queuedA
  have hnoted := tget_setConn_same m n { c with seq := (c.seq + 1) % 65536, lastSend := some m.clk, sentBytes := pdu }
  have hqueuedA : queuedA.saf = noted.saf := by unfold queuedA; split <;> simp
  split
  · split
    · rw [hqueuedA]; exact hnoted
    · rw [enqueueAt_saf, hqueuedA]; exact hnoted
  · exact hnoted

/-- A connection that is due sends while SAF_NET names a port and its NET time has not expired (R224, R228). -/
theorem gives_telegramSend {s : State} {t n : Nat} {c : Conn} {p : List Byte} (hon : On s) (hc : tget s.m.saf.conns n = some c)
    (hsend : c.send = true) (hport : aPort s.m ≠ 0 ∨ bPort s.m ≠ 0) (hexp : s.m.saf.degNet.expired = false)
    (hp : sendPayload (seen s t) n c = some p) (hdue : sendDue (seen s t) c p = true) :
    Gives (.telegramSend t n) s t (sendTelegram (seen s t) n c p) := by
  have hg := gives_of_runOn (i := .telegramSend t n) (t := t) hon (Eq.refl (execTelegramSend t n s))
  have hport' : (aPort s.m != 0 || bPort s.m != 0) = true := by simpa using hport
  simp only [show tget (seen s t).saf.conns n = some c from hc, hp, hsend,
    show (aPort (seen s t) != 0 || bPort (seen s t) != 0) = true from hport', show (seen s t).saf.degNet.expired = false from hexp, hdue,
    Bool.not_false, Bool.and_self, if_true] at hg
  exact hg

/-! ### A copy is seen (R227) -/

/-- What neither a cause's record, nor SAF_EVENTS, nor a collected fault changes, a cause of degraded mode keeps (R227). -/
theorem degUpdate_field {γ : Type} (g : Mod → γ) (hdeg : ∀ m c d, g (setDeg m c d) = g m)
    (hevents : ∀ (m : Mod) e, g { m with saf := { m.saf with events := e } } = g m) (hcollect : ∀ m f, g (collect m f) = g m)
    (m : Mod) (c : DegCause) : g (degUpdate m c) = g m := by
  unfold degUpdate
  dsimp only
  split
  · split
    · split
      · exact hdeg ..
      · rfl
    · rw [reportFault_minor (by decide)]
      exact (hcollect ..).trans ((hevents ..).trans (hdeg ..))
  · split
    · exact hdeg ..
    · rfl

@[simp] theorem degUpdate_sig (m : Mod) (c : DegCause) : (degUpdate m c).sig = m.sig :=
  degUpdate_field Mod.sig (fun _ c _ => by cases c <;> rfl) (fun _ _ => rfl) collect_sig m c

@[simp] theorem degUpdate_conns (m : Mod) (c : DegCause) : (degUpdate m c).saf.conns = m.saf.conns :=
  degUpdate_field (fun m => m.saf.conns) (fun _ c _ => by cases c <;> rfl) (fun _ _ => rfl) (fun m f => by rw [collect_saf]) m c

@[simp] theorem seeNet_sig (m : Mod) (n : Nat) (c : Conn) (net : Bool) : (seeNet m n c net).sig = m.sig := degUpdate_sig ..

/-- A copy that is seen is noted for its network alone (R227). -/
theorem seeNet_conn (m : Mod) (n : Nat) (c : Conn) (net : Bool) :
    ∃ a b x, tget (seeNet m n c net).saf.conns n = some { c with seenA := a, seenB := b, single := x } := by
  unfold seeNet
  simp only [degUpdate_conns, tget_setConn_same]
  split <;> exact ⟨_, _, _, rfl⟩

/-! ### A copy received (R225, R226) -/

/-- What a valid copy does to its connection, state by state (R225, R226). -/
def validCopy (m : Mod) (n : Nat) (c : Conn) (net : Bool) (pdu : List Byte) : Mod :=
  match c.st with
  | .starting => startCopy m n c net pdu
  | .active => activeCopy m n c net pdu
  | .failed => setConn m n { c with st := .starting, good := 0, lastAccept := m.clk }

section
variable (m : Mod) (n : Nat) {c : Conn} (net : Bool) (pdu : List Byte)

theorem validCopy_starting (h : c.st = .starting) : validCopy m n c net pdu = startCopy m n c net pdu := by rw [validCopy, h]

theorem validCopy_active (h : c.st = .active) : validCopy m n c net pdu = activeCopy m n c net pdu := by rw [validCopy, h]

theorem validCopy_failed (h : c.st = .failed) :
    validCopy m n c net pdu = setConn m n { c with st := .starting, good := 0, lastAccept := m.clk } := by rw [validCopy, h]

end

section
variable {s : State} {t n : Nat} {net : Bool} {pdu : List Byte} {c : Conn}

theorem gives_telegramReceive_invalid (hon : On s) (hc : tget s.m.saf.conns n = some c) (hsend : c.send = false) (hruns : evaluatorsRun s.m = true)
    (hvalid : copyValid s.m c pdu = false) : Gives (.telegramReceive t n net pdu) s t (discardCopy (seen s t)) := by
  have hg := gives_of_runOn (i := .telegramReceive t n net pdu) (t := t) hon (Eq.refl (execTelegramReceive t n net pdu s))
  simp only [show tget (seen s t).saf.conns n = some c from hc, hsend, show evaluatorsRun (seen s t) = true from hruns,
    show copyValid (seen s t) c pdu = false from hvalid, Bool.not_true, Bool.not_false, Bool.or_self, Bool.false_eq_true, if_false, if_true] at hg
  exact hg

theorem gives_telegramReceive_valid (hon : On s) (hc : tget s.m.saf.conns n = some c) (hsend : c.send = false) (hruns : evaluatorsRun s.m = true)
    (hvalid : copyValid s.m c pdu = true) : Gives (.telegramReceive t n net pdu) s t (validCopy (seen s t) n c net pdu) := by
  have hg := gives_of_runOn (i := .telegramReceive t n net pdu) (t := t) hon (Eq.refl (execTelegramReceive t n net pdu s))
  have hheard : (c.send || !evaluatorsRun (seen s t)) = false := by rw [hsend, show evaluatorsRun (seen s t) = true from hruns]; rfl
  simp only [show tget (seen s t).saf.conns n = some c from hc, hheard, show copyValid (seen s t) c pdu = true from hvalid, Bool.not_true,
    Bool.false_eq_true, if_false] at hg
  exact hg

end

section
variable {m : Mod} {n : Nat} {c : Conn} {net : Bool} {pdu : List Byte}

/-- The third telegram in sequence makes a connection ACTIVE; its signals are as they were (R226). -/
theorem startCopy_third (hgood : 2 ≤ c.good) (hseq : u16 pdu 8 = (c.lastSeq + 1) % 65536) :
    (∃ d, tget (startCopy m n c net pdu).saf.conns n = some d ∧ d.st = .active ∧ d.lastSeq = u16 pdu 8) ∧
      (startCopy m n c net pdu).sig = m.sig := by
  have hnew : ¬ (c.good != 0 && decide (u16 pdu 8 = c.lastSeq)) = true := by simp; omega
  have hnext : (c.good != 0 && decide (u16 pdu 8 = (c.lastSeq + 1) % 65536)) = true := by simp [hseq]; omega
  unfold startCopy
  simp only [hnext, if_neg hnew, if_true, show c.good + 1 ≥ 3 by omega]
  obtain ⟨a, b, x, hd⟩ := seeNet_conn m n
    { c with good := c.good + 1, lastSeq := u16 pdu 8, lastNet := net, lastCopy := pdu, lastAccept := m.clk, st := .active } net
  exact ⟨⟨_, hd, rfl, rfl⟩, seeNet_sig ..⟩

@[simp] theorem takeTelegram_saf (m : Mod) (c : Conn) (pdu : List Byte) : (takeTelegram m c pdu).saf = m.saf :=
  foldl_field Mod.saf _ (fun m e => by split <;> exact ownerWrite_saf ..) m c.map

/-- A copy 1 to 32 after the last one is accepted (R225). -/
theorem activeCopy_newer (hd : (u16 pdu 8 + 65536 - c.lastSeq) % 65536 ∈ List.range' 1 32) :
    ∃ d, tget (activeCopy m n c net pdu).saf.conns n = some d ∧ d.st = c.st ∧ d.lastSeq = u16 pdu 8 ∧ d.lastAccept = m.clk := by
  obtain ⟨h1, h32⟩ := List.mem_range'_1.1 hd
  unfold activeCopy
  simp only [show (decide (1 ≤ (u16 pdu 8 + 65536 - c.lastSeq) % 65536) && decide ((u16 pdu 8 + 65536 - c.lastSeq) % 65536 ≤ 32)) = true by
    simp; omega, if_true, takeTelegram_saf]
  obtain ⟨a, b, x, hd⟩ := seeNet_conn m n { c with lastSeq := u16 pdu 8, lastNet := net, lastCopy := pdu, lastAccept := m.clk } net
  exact ⟨_, hd, rfl, rfl, rfl⟩

/-- A copy farther off is discarded (R225). -/
theorem activeCopy_beyond (hd : 32 < (u16 pdu 8 + 65536 - c.lastSeq) % 65536) : activeCopy m n c net pdu = discardCopy m := by
  unfold activeCopy
  simp [show ¬ (u16 pdu 8 + 65536 - c.lastSeq) % 65536 ≤ 32 by omega, show (u16 pdu 8 + 65536 - c.lastSeq) % 65536 ≠ 0 by omega]

/-- COPY_MISMATCH is latched (R225). -/
def noteCopyMismatch (m : Mod) : Mod := { m with saf := { m.saf with events := setBit32 m.saf.events 4 } }

/-- A second copy that disagrees fails its connection with COPY_MISMATCH and an F2 (R225). -/
theorem activeCopy_differs (hseq : u16 pdu 8 = c.lastSeq) (hnet : net ≠ c.lastNet) (hdiff : slice pdu 11 41 ≠ slice c.lastCopy 11 41) :
    activeCopy m n c net pdu = reportFault (failConn (noteCopyMismatch m) n) (faultOf 0x10 2 n 0x0600 4 0) := by
  unfold activeCopy noteCopyMismatch
  simp [hseq, hnet, hdiff]

end

/-! ### A connection fails (R226) -/

/-- What a mapped signal of a connection that fails becomes (R226). -/
def failSignal (c : Conn) (m : Mod) (e : W32 × Nat) : Mod :=
  let m := if e.2 < 64 then ownerWrite m e.1 (boolVal (bitOf c.safeBits.toNat e.2)) 0x0001 else m
  if e.2 < 64 && m.tri.mode != 0 then m else staleSig m e.1

theorem failSignals_eq (m : Mod) (c : Conn) : failSignals m c = c.map.foldl (failSignal c) m := rfl

/-- What owner writes and staling keep, the signals of a failed connection keep. -/
theorem failSignal_field {γ : Type} (g : Mod → γ) (hwrite : ∀ m h v q, g (ownerWrite m h v q) = g m)
    (hstale : ∀ m h, g (staleSig m h) = g m) (c : Conn) (m : Mod) (e : W32 × Nat) : g (failSignal c m e) = g m := by
  unfold failSignal
  extract_lets written
  have hwritten : g written = g m := by unfold written; split; exacts [hwrite .., rfl]
  split
  · exact hwritten
  · exact (hstale ..).trans hwritten

@[simp] theorem failSignals_saf (m : Mod) (c : Conn) : (failSignals m c).saf = m.saf :=
  foldl_field Mod.saf _ (failSignal_field Mod.saf (fun m h v q => ownerWrite_saf m h v q false) staleSig_saf c) m c.map

@[simp] theorem failSignals_nv (m : Mod) (c : Conn) : (failSignals m c).nv = m.nv :=
  foldl_field Mod.nv _ (failSignal_field Mod.nv (fun m h v q => ownerWrite_nv m h v q false) staleSig_nv c) m c.map

@[simp] theorem ownerWrite_mode (m : Mod) (h : W32) (v : Val) (q : Qual) : (ownerWrite m h v q).tri.mode = m.tri.mode := by
  unfold ownerWrite ownerWriteAt; (repeat' split) <;> rfl

@[simp] theorem staleSig_mode (m : Mod) (h : W32) : (staleSig m h).tri.mode = m.tri.mode := by
  unfold staleSig
  split
  · rfl
  · split
    · rfl
    · split_ifs
      · rfl
      · exact ownerWrite_mode ..
      · rfl

@[simp] theorem failSignal_mode (c : Conn) (m : Mod) (e : W32 × Nat) : (failSignal c m e).tri.mode = m.tri.mode :=
  failSignal_field (fun m => m.tri.mode) ownerWrite_mode staleSig_mode c m e

/-- A connection that fails, in SAF: FAILED, and CONN_FAILED set (R226). -/
theorem failConn_saf {m : Mod} {n : Nat} {c : Conn} (hc : tget m.saf.conns n = some c) : (failConn m n).saf =
    { m.saf with conns := tset m.saf.conns n { c with st := .failed, good := 0 }, events := setBit32 m.saf.events 5 } := by
  simp only [failConn, hc, failSignals_saf]
  rfl

@[simp] theorem failConn_nv (m : Mod) (n : Nat) : (failConn m n).nv = m.nv := by
  unfold failConn
  split
  · rfl
  · exact failSignals_nv ..

/-- A second copy that disagrees, without a trial: the connection FAILED, COPY_MISMATCH set, and the fault active (R225, R390, R436). -/
theorem activeCopy_differs_spec {m : Mod} {n : Nat} {c : Conn} {net : Bool} {pdu : List Byte} (hc : tget m.saf.conns n = some c)
    (hseq : u16 pdu 8 = c.lastSeq) (hnet : net ≠ c.lastNet) (hdiff : slice pdu 11 41 ≠ slice c.lastCopy 11 41) (htrial : anyTrial m = false) :
    (∃ d, tget (activeCopy m n c net pdu).saf.conns n = some d ∧ d.st = .failed) ∧
      bitOf (activeCopy m n c net pdu).saf.events.toNat 4 = true ∧ bitOf (activeCopy m n c net pdu).flt.active.toNat 0x10 = true := by
  have hkept : anyTrial (failConn (noteCopyMismatch m) n) = false := by rw [anyTrial, failConn_nv]; exact htrial
  have hsaf := failConn_saf (m := noteCopyMismatch m) hc
  rw [activeCopy_differs hseq hnet hdiff, reportFault_no_trial (show 2 ≠ 3 by decide) hkept, collect_saf, hsaf]
  refine ⟨⟨{ c with st := .failed, good := 0 }, tget_tset_same .., rfl⟩, ?_,
    collect_sets_active _ (faultOf 0x10 2 n 0x0600 4 0) (show 0x10 < 64 by decide)⟩
  simp [noteCopyMismatch, bitOf_setBit32]

/-! ### The signals of a connection that fails (R226) -/

/-- The signal at an index is BAD, STALE (R226). -/
def StaleAt (m : Mod) (i : Nat) : Prop := ∃ r, sigAt m i = some r ∧ r.qual = 0x0001 ∧ r.stale = true

theorem sigAt_staleSig_other {m : Mod} {h : W32} (hmode : m.tri.mode = 0) {j : Nat} (hj : h = 0 ∨ j ≠ hIdx h) :
    sigAt (staleSig m h) j = sigAt m j := by
  by_cases hnull : h = 0
  · simp [staleSig, hnull]
  · cases hr : sigAt m (hIdx h) with
    | none => simp [staleSig, hr]
    | some r => rw [staleSig_alone hnull hr hmode, sigAt_setSig_other _ _ (hj.resolve_left hnull)]

/-- An owner write leaves every signal defined that was. -/
theorem sigAt_ownerWrite_isSome {m : Mod} (h : W32) (v : Val) (q : Qual) {i : Nat} (hi : (sigAt m i).isSome = true) :
    (sigAt (ownerWrite m h v q) i).isSome = true := by
  unfold ownerWrite ownerWriteAt
  split
  · exact hi
  · split
    · exact hi
    · split_ifs
      · exact hi
      · exact hi
      · exact hi
      · exact hi
      · by_cases hih : i = hIdx h
        · rw [hih, sigAt_setSig_same]; rfl
        · rw [sigAt_setSig_other _ _ hih]; exact hi

section
variable {c : Conn} {m : Mod} {e : W32 × Nat} {i : Nat}

/-- Outside a triad the signal of an entry is BAD, STALE once its connection has failed. -/
theorem failSignal_stales (hmode : m.tri.mode = 0) (hnull : e.1 ≠ 0) (hdef : (sigAt m (hIdx e.1)).isSome = true) :
    StaleAt (failSignal c m e) (hIdx e.1) := by
  unfold failSignal
  extract_lets written
  have hwmode : written.tri.mode = 0 := by unfold written; split <;> simp [hmode]
  have hwdef : (sigAt written (hIdx e.1)).isSome = true := by
    unfold written
    split
    · exact sigAt_ownerWrite_isSome _ _ _ hdef
    · exact hdef
  obtain ⟨r, hr⟩ := Option.isSome_iff_exists.1 hwdef
  rw [if_neg (by simp [hwmode]), staleSig_alone hnull hr hwmode]
  exact ⟨r.toStale, sigAt_setSig_same .., rfl, rfl⟩

/-- The other signals are as they were. -/
theorem sigAt_failSignal_other (hmode : m.tri.mode = 0) (hi : e.1 = 0 ∨ i ≠ hIdx e.1) : sigAt (failSignal c m e) i = sigAt m i := by
  unfold failSignal
  extract_lets written
  have hwmode : written.tri.mode = 0 := by unfold written; split <;> simp [hmode]
  have hwritten : sigAt written i = sigAt m i := by
    unfold written
    split
    · rcases hi with hnull | hne
      · simp [hnull, ownerWrite, ownerWriteAt]
      · exact sigAt_ownerWrite_other _ _ _ hne
    · rfl
  rw [if_neg (by simp [hwmode]), sigAt_staleSig_other hwmode hi, hwritten]

/-- A signal that is BAD, STALE stays so, and one that an entry names becomes so, through all entries. -/
theorem foldl_failSignal_stale (l : List (W32 × Nat)) (m : Mod) (hmode : m.tri.mode = 0) (hdef : (sigAt m i).isSome = true)
    (h : StaleAt m i ∨ ∃ e ∈ l, e.1 ≠ 0 ∧ hIdx e.1 = i) : StaleAt (l.foldl (failSignal c) m) i := by
  induction l generalizing m with
  | nil => simpa using h
  | cons e l ih =>
    by_cases he : e.1 ≠ 0 ∧ hIdx e.1 = i
    · obtain ⟨hnull, rfl⟩ := he
      have hstale := failSignal_stales (c := c) hmode hnull hdef
      obtain ⟨r, hr, -⟩ := id hstale
      exact ih _ (by rw [failSignal_mode, hmode]) (by rw [hr]; rfl) (.inl hstale)
    · have hkept := sigAt_failSignal_other (c := c) (m := m) (e := e) (i := i) hmode (by tauto)
      refine ih _ (by rw [failSignal_mode, hmode]) (by rw [hkept]; exact hdef) (h.imp (fun hs => ?_) fun ⟨x, hx, hxi⟩ => ?_)
      · rwa [StaleAt, hkept]
      · rcases List.mem_cons.1 hx with rfl | hx
        · exact absurd hxi he
        · exact ⟨x, hx, hxi⟩

end

/-- Outside a triad every signal of a failed connection is BAD, STALE (R226). -/
theorem failConn_stales {m : Mod} {n : Nat} {c : Conn} (hc : tget m.saf.conns n = some c) (hmode : m.tri.mode = 0) {e : W32 × Nat} (he : e ∈ c.map)
    (hnull : e.1 ≠ 0) (hdef : (sigAt m (hIdx e.1)).isSome = true) : StaleAt (failConn m n) (hIdx e.1) := by
  simp only [failConn, hc, failSignals_eq]
  exact foldl_failSignal_stale c.map _ hmode hdef (.inr ⟨e, he, hnull, rfl⟩)

/-- The watchdog fails a connection that has accepted nothing for its time (R226). -/
theorem gives_connectionWatchdogExpiry {s : State} {t n : Nat} {c : Conn} (hon : On s) (hc : tget s.m.saf.conns n = some c) (hsend : c.send = false)
    (hst : c.st ≠ .failed) (hlate : c.lastAccept + 1000 * c.watchdogUs ≤ max s.m.clk t) :
    Gives (.connectionWatchdogExpiry t n) s t (failConn (seen s t) n) := by
  have hg := gives_of_runOn (i := .connectionWatchdogExpiry t n) (t := t) hon (Eq.refl (execConnectionWatchdogExpiry t n s))
  have hdue : (!c.send && c.st != .failed && decide (c.lastAccept + us c.watchdogUs ≤ (seen s t).clk)) = true := by
    rw [us_eq, hsend]
    simp [hst, show c.lastAccept + 1000 * c.watchdogUs ≤ (seen s t).clk from hlate]
  simp only [show tget (seen s t).saf.conns n = some c from hc, hdue, if_true] at hg
  exact hg

/-- Settles O45: the telegram as its peer reads it, the copies by what each does to its connection, and the signals of one that fails. -/
theorem safeTelegrams : Obligations.SafeTelegrams := by
  intro s t n net b pdu p c hon hc
  have hc' : tget (seen s t).saf.conns n = some c := hc
  refine ⟨fun d x hp hn hx hgc hgd hreq hseed hconn hid => ?peer, fun hsend hport hexp hp hdue => ?send, fun hsend hruns =>
    ⟨fun hv => gives_telegramReceive_invalid hon hc hsend hruns hv, fun hv hst => ?failed, fun hv hst hgood hseq => ?third,
      fun hv hst hd _ => ?newer, fun hv hst hseq hnet hdiff htrial => ?differs, fun hv hst hd => ?beyond, fun hst hlate => ?watchdog⟩⟩
  case peer =>
    refine ⟨?_, copyValid_buildPdu s.m net hp hn hx hgc hgd hreq hseed hconn hid, ?_⟩
    · rw [buildPdu_untagged s.m n p x net hgc, List.length_append, length_telegramHead s.m net n x hp, length_bytes32]
    · obtain ⟨-, -, -, hseq, hpayload⟩ := telegramHead_fields s.m net
        (bytes32 (crc32c (bytes32 c.seed ++ telegramHead s.m n p x net))) hp hn hx
      rw [buildPdu_untagged s.m n p x net hgc]
      exact ⟨hseq, hpayload⟩
  case send => exact ⟨gives_telegramSend hon hc hsend hport hexp hp hdue, sendTelegram_conn ..⟩
  case failed =>
    have hg := gives_telegramReceive_valid (t := t) (net := b) hon hc hsend hruns hv
    rwa [validCopy_failed _ _ _ _ hst] at hg
  case third =>
    have hg := gives_telegramReceive_valid (t := t) (net := b) hon hc hsend hruns hv
    rw [validCopy_starting _ _ _ _ hst] at hg
    obtain ⟨⟨d, hd, hactive, hlast⟩, hsig⟩ := startCopy_third (m := seen s t) (n := n) (net := b) hgood hseq
    exact makes_of_gives hg ⟨d, hd, hactive, hlast, hsig⟩
  case newer =>
    have hg := gives_telegramReceive_valid (t := t) (net := b) hon hc hsend hruns hv
    rw [validCopy_active _ _ _ _ hst] at hg
    obtain ⟨d, hd, hactive, hlast⟩ := activeCopy_newer (m := seen s t) (n := n) (net := b) hd
    exact makes_of_gives hg ⟨d, hd, hactive.trans hst, hlast⟩
  case differs =>
    have hg := gives_telegramReceive_valid (t := t) (net := b) hon hc hsend hruns hv
    rw [validCopy_active _ _ _ _ hst] at hg
    exact makes_of_gives hg (activeCopy_differs_spec hc' hseq hnet hdiff htrial)
  case beyond =>
    have hg := gives_telegramReceive_valid (t := t) (net := b) hon hc hsend hruns hv
    rwa [validCopy_active _ _ _ _ hst, activeCopy_beyond hd] at hg
  case watchdog =>
    have hsaf := failConn_saf hc'
    refine makes_of_gives (gives_connectionWatchdogExpiry hon hc hsend hst hlate)
      ⟨⟨{ c with st := .failed, good := 0 }, ?_, rfl, rfl⟩, ?_, ?_⟩
    · exact (congrArg (fun b : SafBlk => tget b.conns n) hsaf).trans (tget_tset_same ..)
    · exact (congrArg (fun b : SafBlk => bitOf b.events.toNat 5) hsaf).trans (bitOf_setBit32_same _ 5 (by decide))
    · intro hmode e he hnull r hr
      exact failConn_stales hc' hmode he hnull (by rw [show sigAt (seen s t) (hIdx e.1) = some r from hr]; rfl)

end Sys2Proof.Machine
end

section
/-! SUPPORT. The arbiter of the winding permits: its heads, its grants and what a decision keeps (R244 to R248), and the obligation about
the permits' commands. -/

open Sys2Proof.Claims

namespace Sys2Proof.Machine

/-! ### The heads of the levels (R246) -/

/-- A fold each of whose steps keeps what was chosen or chooses the element it meets ends at its start or at an element of the list. -/
theorem mem_of_foldl_choice {α : Type} {f : Option α → α → Option α} (hf : ∀ a x, f a x = a ∨ f a x = some x) {l : List α} {a : Option α} {y : α}
    (h : l.foldl f a = some y) : a = some y ∨ y ∈ l := by
  induction l generalizing a with
  | nil => exact .inl h
  | cons x l ih =>
    rcases ih h with hy | hy
    · rcases hf a x with hx | hx
      · exact .inl (hx.symm.trans hy)
      · exact .inr (by simp [Option.some.inj (hx.symm.trans hy)])
    · exact .inr (List.mem_cons_of_mem x hy)

theorem mem_of_nextOf {ps : List Permit} {rr : Nat} {p : Permit} (h : nextOf ps rr = some p) : p ∈ ps := by
  unfold nextOf at h
  split at h
  · next q hq => cases h; exact List.mem_of_find?_eq_some hq
  · extract_lets later least at h
    have hleast {l : List Permit} {q : Permit} (hq : least l = some q) : q ∈ l := by
      refine (mem_of_foldl_choice (fun a x => ?_) hq).resolve_left (by simp)
      cases a with
      | none => exact .inr rfl
      | some b => exact (ite_eq_or_eq (x.who < b.who) (some x) (some b)).symm
    split at h
    · next q hq => cases h; exact List.mem_of_mem_filter (hleast hq)
    · exact hleast h

theorem nextOf_singleton (p : Permit) (rr : Nat) : nextOf [p] rr = some p := by
  by_cases hagain : p.again = true <;> by_cases hlater : rr < p.who <;> simp [nextOf, hagain, hlater]

/-- The head of a level is a request that waits in that level. -/
theorem mem_of_headOf {m : Mod} {c1 : Bool} {p : Permit} (h : headOf m c1 = some p) : p ∈ m.adm.waiting ∧ p.c1 = c1 := by
  suffices hp : p ∈ m.adm.waiting.filter (fun p => p.c1 == c1) by simpa using hp
  unfold headOf at h
  extract_lets ps held c3 at h
  split at h
  · next q hq =>
    cases h
    obtain ⟨w, -, hw⟩ := Option.bind_eq_some_iff.1 hq
    exact List.mem_of_find?_eq_some hw
  · split at h
    · exact mem_of_nextOf h
    · split at h
      · exact List.mem_of_mem_filter (mem_of_nextOf h)
      · exact mem_of_nextOf h

/-- A level where nothing waits has no head. -/
theorem headOf_of_level_empty {m : Mod} {c1 : Bool} (h : ∀ p ∈ m.adm.waiting, p.c1 ≠ c1) : headOf m c1 = none :=
  Option.eq_none_iff_forall_ne_some.2 fun p hp => h p (mem_of_headOf hp).1 (mem_of_headOf hp).2

/-- A request that waits alone is the head of its level, noted before or not. -/
theorem headOf_of_waiting_singleton {m : Mod} {p : Permit} (h : m.adm.waiting = [p]) : headOf m p.c1 = some p := by
  unfold headOf
  extract_lets ps held c3
  have hps : ps = [p] := by simp [ps, h]
  split
  · next q hq =>
    obtain ⟨w, -, hw⟩ := Option.bind_eq_some_iff.1 hq
    rw [hps] at hw
    rw [List.mem_singleton.1 (List.mem_of_find?_eq_some hw)]
  · split
    · rw [hps, nextOf_singleton]
    · split
      · next hc3 =>
        have hc3' : c3 = [p] := by
          cases hp : p.isC2 with
          | true => simp [c3, hps, hp] at hc3
          | false => simp [c3, hps, hp]
        rw [hc3', nextOf_singleton]
      · rw [hps, nextOf_singleton]

/-! ### One decision (R246, R248) -/

theorem granted_add_units_le_of_fits {m : Mod} {p : Permit} (h : fits m p = true) : granted m + p.units ≤ pool m := by
  simp only [fits, Bool.and_eq_true, decide_eq_true_eq] at h
  exact h.1

/-- Without a hold-back a request fits where its units do (R246). -/
theorem fits_of_free {m : Mod} {p : Permit} (hfree : m.adm.holdBack = false) : fits m p = decide (granted m + p.units ≤ pool m) := by
  simp [fits, hfree]

/-- The module with the heads of its levels noted (R246). -/
def withHeads (m : Mod) : Mod :=
  { m with adm := { m.adm with head1 := (headOf m true).map Permit.who, head2 := (headOf m false).map Permit.who } }

/-- While a hold-back stands, the oldest RESYNC request is considered first (R248). -/
def resyncFirst (m : Mod) : Option Permit := if m.adm.holdBack then m.adm.waiting.find? Permit.resync else none

/-- The head that may be granted now: of C1, or of the lower level where no C1 request came before (R246). -/
def headToGrant (m : Mod) : Option Permit :=
  ((headOf m true).filter (fits m)).or ((headOf m false).filter (fun p => fits m p && !c1Before m p))

/-- One step of the arbiter: a RESYNC request under a hold-back, else a head, else nothing. -/
theorem arbitrate_succ (m : Mod) (k : Nat) : arbitrate m (k + 1) =
    (resyncFirst m).elim ((headToGrant m).elim (withHeads m) fun p => arbitrate (grant (withHeads m) p) k)
      fun p => if fits m p then arbitrate (grant m p) k else m := by
  rw [headToGrant]
  conv_lhs => unfold arbitrate
  change (match resyncFirst m with | some p => _ | none => _) = _
  cases resyncFirst m with
  | some p => rfl
  | none =>
    change (match (headOf m true).filter (fits m) with
      | some p => _
      | none => match (headOf m false).filter (fun p => fits m p && !c1Before m p) with | some p => _ | none => _) = _
    cases (headOf m true).filter (fits m) with
    | some p => rfl
    | none => cases (headOf m false).filter (fun p => fits m p && !c1Before m p) <;> rfl

theorem mem_of_resyncFirst {m : Mod} {p : Permit} (h : resyncFirst m = some p) : p ∈ m.adm.waiting := by
  rw [resyncFirst, Option.ite_none_right_eq_some] at h
  exact List.mem_of_find?_eq_some h.2

theorem mem_and_fits_of_headToGrant {m : Mod} {p : Permit} (h : headToGrant m = some p) : p ∈ m.adm.waiting ∧ fits m p = true := by
  rcases Option.or_eq_some_iff.1 h with h | ⟨-, h⟩ <;> obtain ⟨hhead, hfit⟩ := Option.filter_eq_some_iff.1 h
  · exact ⟨(mem_of_headOf hhead).1, hfit⟩
  · exact ⟨(mem_of_headOf hhead).1, (Bool.and_eq_true_iff.1 hfit).1⟩

/-- What the notes of the heads and the grant of a waiting request that fits keep, the arbiter keeps. -/
theorem arbitrate_induct {P : Mod → Prop} (hheads : ∀ m, P m → P (withHeads m))
    (hgrant : ∀ m p, p ∈ m.adm.waiting → fits m p = true → P m → P (grant m p)) (n : Nat) {m : Mod} (h : P m) : P (arbitrate m n) := by
  induction n generalizing m with
  | zero => exact h
  | succ k ih =>
    rw [arbitrate_succ]
    cases hr : resyncFirst m with
    | some p =>
      dsimp only [Option.elim_some]
      split
      · next hfit => exact ih (hgrant m p (mem_of_resyncFirst hr) hfit h)
      · exact h
    | none =>
      cases hp : headToGrant m with
      | none => exact hheads m h
      | some p =>
        obtain ⟨hmem, hfit⟩ := mem_and_fits_of_headToGrant hp
        exact ih (hgrant (withHeads m) p hmem hfit (hheads m h))

theorem decide_induct {P : Mod → Prop} (hheads : ∀ m, P m → P (withHeads m))
    (hgrant : ∀ m p, p ∈ m.adm.waiting → fits m p = true → P m → P (grant m p)) {m : Mod} (h : P m) : P (decide_ m) :=
  arbitrate_induct hheads hgrant _ h

/-- A grant takes no more than its units: an earlier grant of its requester ends (R247). -/
theorem granted_grant_le (m : Mod) (p : Permit) : granted (grant m p) ≤ granted m + p.units := by
  have hsub : ((m.adm.grants.filter (fun g => g.who != p.who)).map Permit.units).sum ≤ (m.adm.grants.map Permit.units).sum :=
    (List.filter_sublist.map Permit.units).sum_le_sum (by simp)
  simpa [granted, grant] using hsub

/-- The arbiter never grants beyond the pool (R244, R246). -/
theorem decide_granted_le_pool {m : Mod} (h : granted m ≤ pool m) : granted (decide_ m) ≤ pool (decide_ m) :=
  decide_induct (P := fun m => granted m ≤ pool m) (fun _ h => h)
    (fun m p _ hfit _ => (granted_grant_le m p).trans (granted_add_units_le_of_fits hfit)) h

/-- A decision changes the arbiter alone. -/
theorem decide_frame (m : Mod) : { decide_ m with adm := m.adm } = m :=
  arbitrate_field (fun x : Mod => { x with adm := m.adm }) (fun _ _ => rfl) _ m

/-- A decision leaves ADM_EVENTS alone. -/
@[simp] theorem decide_adm_events (m : Mod) : (decide_ m).adm.events = m.adm.events :=
  decide_induct (P := fun x => x.adm.events = m.adm.events) (fun _ h => h) (fun _ _ _ _ h => h) rfl

/-- A requester with neither a grant nor a request has no grant after a decision. -/
theorem decide_no_grant {m : Mod} {who : Nat} (hwait : ∀ w ∈ m.adm.waiting, w.who ≠ who) (hgrants : ∀ g ∈ m.adm.grants, g.who ≠ who) :
    ∀ g ∈ (decide_ m).adm.grants, g.who ≠ who := by
  refine (decide_induct (P := fun x => (∀ w ∈ x.adm.waiting, w.who ≠ who) ∧ ∀ g ∈ x.adm.grants, g.who ≠ who)
    (fun _ h => h) (fun x p hp _ ⟨hw, hg⟩ => ⟨fun w h => hw w (List.mem_of_mem_filter h), fun g h => ?_⟩) ⟨hwait, hgrants⟩).2
  rcases List.mem_append.1 h with h | h
  · exact hg g (List.mem_of_mem_filter h)
  · rw [List.mem_singleton.1 h]
    exact hw p hp

/-! ### A decision on no request and on one -/

/-- With nothing waiting the arbiter grants nothing. -/
theorem arbitrate_of_waiting_nil {m : Mod} (h : m.adm.waiting = []) (n : Nat) :
    (arbitrate m n).adm.waiting = [] ∧ (arbitrate m n).adm.grants = m.adm.grants :=
  arbitrate_induct (P := fun x => x.adm.waiting = [] ∧ x.adm.grants = m.adm.grants) (fun _ h => h)
    (fun x p hp _ hx => absurd hp (by simp [hx.1])) n ⟨h, rfl⟩

/-- A request that waits alone is the head to grant where it fits, whatever its level. -/
theorem headToGrant_of_waiting_singleton {m : Mod} {p : Permit} (h : m.adm.waiting = [p]) : headToGrant m = if fits m p then some p else none := by
  have hfirst : c1Before m p = false := by simp [c1Before, h]
  have hhead : headOf m p.c1 = some p := headOf_of_waiting_singleton h
  have hother : headOf m (!p.c1) = none := headOf_of_level_empty (by simp [h])
  cases hc : p.c1 with
  | true =>
    rw [hc] at hhead hother
    simp [headToGrant, hhead, show headOf m false = none from hother, Option.filter]
  | false =>
    rw [hc] at hhead hother
    simp [headToGrant, hhead, show headOf m true = none from hother, Option.filter, hfirst]

/-- Without a hold-back the arbiter grants the one request that waits where its units fit (R246). -/
theorem arbitrate_of_waiting_singleton {m : Mod} {p : Permit} (h : m.adm.waiting = [p]) (hfree : m.adm.holdBack = false) (k : Nat) :
    arbitrate m (k + 1) = if granted m + p.units ≤ pool m then arbitrate (grant (withHeads m) p) k else withHeads m := by
  rw [arbitrate_succ, show resyncFirst m = none by simp [resyncFirst, hfree], headToGrant_of_waiting_singleton h, fits_of_free hfree]
  by_cases hfit : granted m + p.units ≤ pool m <;> simp [hfit]

/-- A request that waits alone, and whose units do not fit, goes on waiting (R246). -/
theorem decide_of_waiting_singleton_unfit {m : Mod} {p : Permit} (h : m.adm.waiting = [p]) (hfree : m.adm.holdBack = false)
    (hfit : pool m < granted m + p.units) : (decide_ m).adm.waiting = [p] ∧ (decide_ m).adm.grants = m.adm.grants := by
  rw [decide_, arbitrate_of_waiting_singleton h hfree, if_neg (by omega)]
  exact ⟨h, rfl⟩

/-- A request that waits alone, and whose units fit, is granted (R246, R247). -/
theorem decide_of_waiting_singleton_fits {m : Mod} {p : Permit} (h : m.adm.waiting = [p]) (hfree : m.adm.holdBack = false)
    (hfit : granted m + p.units ≤ pool m) : (decide_ m).adm.waiting = [] ∧
      { p with stop := m.clk + ms p.durMs, again := false } ∈ (decide_ m).adm.grants := by
  rw [decide_, arbitrate_of_waiting_singleton h hfree, if_pos hfit]
  have hnone : (grant (withHeads m) p).adm.waiting = [] := by simp [grant, withHeads, h]
  obtain ⟨hwait, hgrants⟩ := arbitrate_of_waiting_nil hnone m.adm.waiting.length
  exact ⟨hwait, hgrants ▸ List.mem_append_right _ (List.mem_singleton_self _)⟩

/-! ### The commands (R246, R247) -/

/-- Where no operation waits to go on with its grant, a command of the permits gives what it does to the arbiter (R120, R475). -/
theorem gives_of_pumpLoops {i : Instr} {s : State} {t : Nat} {m : Mod} (h : Gives i s t (pumpLoops m)) (hlpe : m.lpe = s.m.lpe) (hpnl : m.pnl = s.m.pnl)
    (hloops : s.m.lpe.waiting = []) (hpanel : s.m.pnl.fullReq = none) : Gives i s t m := by
  rwa [pumpLoops_idle (hlpe ▸ hloops) (hpnl ▸ hpanel)] at h

/-- The request of a heavy operation for a time within its longest grant (R245). -/
def permitFor (who : Nat) (op : HeavyOp) (c1 : Bool) (d : Nat) : Permit :=
  { who := who, op := op, c1 := c1, units := opUnits op, durMs := d, resync := op == .resyncBulk }

/-- The queue with a request more. -/
def queued (m : Mod) (p : Permit) : Mod := { m with adm := { m.adm with waiting := m.adm.waiting ++ [p] } }

theorem queued_alone {m : Mod} (h : m.adm.waiting = []) (p : Permit) : (queued m p).adm.waiting = [p] := congrArg (· ++ [p]) h

/-- A requester that neither waits nor holds a grant joins the queue, and the arbiter decides. -/
theorem request_queues {m : Mod} {who d : Nat} {op : HeavyOp} (c1 : Bool) (hwait : ∀ w ∈ m.adm.waiting, w.who ≠ who)
    (hgrants : ∀ g ∈ m.adm.grants, g.who ≠ who) (h1 : 1 ≤ d) (hd : d ≤ opMaxMs op) :
    request m who op c1 d = decide_ (queued m (permitFor who op c1 d)) := by
  have hidle : (m.adm.waiting.any (fun w => w.who == who) || m.adm.grants.any (fun g => g.who == who)) = false := by
    simpa using ⟨hwait, hgrants⟩
  simp only [request, hidle, Bool.false_eq_true, if_false, show d ≠ 0 by omega, Nat.min_eq_left hd, permitFor, queued]

/-- A request outside FAIL gives the decision on it. -/
theorem gives_permitRequest {s : State} {t who d : Nat} {op : HeavyOp} {c1 : Bool} (hon : On s) (hloops : s.m.lpe.waiting = [])
    (hpanel : s.m.pnl.fullReq = none) (hfail : s.m.pwr.st ≠ .fail) (hwait : ∀ w ∈ s.m.adm.waiting, w.who ≠ who)
    (hgrants : ∀ g ∈ s.m.adm.grants, g.who ≠ who) (h1 : 1 ≤ d) (hd : d ≤ opMaxMs op) :
    Gives (.permitRequest t who op c1 d) s t (decide_ (queued (seen s t) (permitFor who op c1 d))) := by
  have hg := gives_of_runOn (i := .permitRequest t who op c1 d) (t := t) hon (Eq.refl (execPermitRequest t who op c1 d s))
  have hserved : ((seen s t).pwr.st == .fail) = false := beq_eq_false_iff_ne.2 hfail
  simp only [hserved, Bool.false_eq_true, if_false, request_queues (m := seen s t) c1 hwait hgrants h1 hd] at hg
  exact gives_of_pumpLoops hg (decide_lpe _) (decide_pnl _) hloops hpanel

/-- A released requester that does not wait holds no grant. -/
theorem releasePermit_no_grant {m : Mod} {who : Nat} (h : ∀ w ∈ m.adm.waiting, w.who ≠ who) : ∀ g ∈ (releasePermit m who).adm.grants, g.who ≠ who :=
  decide_no_grant (m := { m with adm := { m.adm with grants := m.adm.grants.filter (fun g => g.who != who) } }) h
    fun g hg => by simpa using (List.mem_filter.1 hg).2

theorem gives_permitRelease {s : State} (t who : Nat) (hon : On s) (hloops : s.m.lpe.waiting = []) (hpanel : s.m.pnl.fullReq = none) :
    Gives (.permitRelease t who) s t (releasePermit (seen s t) who) :=
  gives_of_pumpLoops (gives_of_runOn (i := .permitRelease t who) (t := t) hon (Eq.refl (execPermitRelease t who s)))
    (releasePermit_lpe ..) (releasePermit_pnl ..) hloops hpanel

/-- The grant of a requester replaced. -/
def regranted (m : Mod) (who : Nat) (r : Permit) : Mod :=
  { m with adm := { m.adm with grants := m.adm.grants.map (fun x => if x.who == who then r else x) } }

/-- A renewal for no more units runs anew at once (R247). -/
theorem renew_runs_anew {m : Mod} {who units d : Nat} {g : Permit} (hg : m.adm.grants.find? (fun x => x.who == who) = some g)
    (hfree : m.adm.holdBack = false) (hunits : units ≤ g.units) (h1 : 1 ≤ d) (hd : d ≤ opMaxMs g.op) :
    renew m who units d = decide_ (regranted m who { g with units := units, durMs := d, stop := m.clk + ms d }) := by
  simp [renew, regranted, hg, hfree, hunits, Nat.min_eq_left hd, Nat.max_eq_right h1]

theorem gives_permitRenew {s : State} {t who units d : Nat} {g : Permit} (hon : On s) (hloops : s.m.lpe.waiting = []) (hpanel : s.m.pnl.fullReq = none)
    (hg : s.m.adm.grants.find? (fun x => x.who == who) = some g) (hfree : s.m.adm.holdBack = false) (hunits : units ≤ g.units) (h1 : 1 ≤ d)
    (hd : d ≤ opMaxMs g.op) : Gives (.permitRenew t who units d) s t
      (decide_ (regranted (seen s t) who { g with units := units, durMs := d, stop := max s.m.clk t + ms d })) := by
  have hgives := gives_of_runOn (i := .permitRenew t who units d) (t := t) hon (Eq.refl (execPermitRenew t who units d s))
  rw [renew_runs_anew (m := seen s t) hg hfree hunits h1 hd] at hgives
  exact gives_of_pumpLoops hgives (decide_lpe _) (decide_pnl _) hloops hpanel

/-- The operation of a grant that has run out: queued again ahead of the others, and GRANT_EXPIRED set (R247). -/
def suspended (m : Mod) (who : Nat) (g : Permit) : Mod :=
  { m with adm := { m.adm with
      grants := m.adm.grants.filter (fun x => x.who != who)
      waiting := { g with again := true } :: m.adm.waiting.filter (fun x => x.who != who)
      events := setBit32 m.adm.events 2 } }

/-- A grant not ended in its time, but the panel's, suspends its operation and is reported as an F0 fault (R247). -/
theorem gives_grantExpiry {s : State} {t who : Nat} {g : Permit} (hon : On s) (hloops : s.m.lpe.waiting = []) (hpanel : s.m.pnl.fullReq = none)
    (hg : s.m.adm.grants.find? (fun x => x.who == who) = some g) (hlate : g.stop ≤ max s.m.clk t) (hwho : who ≠ whoPanel) :
    Gives (.grantExpiry t who) s t (decide_ (collect (suspended (seen s t) who g) (faultOf 0x16 0 0 0 0 (if g.c1 then 1 else if g.isC2 then 2 else 3)))) := by
  have hgives := gives_of_runOn (i := .grantExpiry t who) (t := t) hon (Eq.refl (execGrantExpiry t who s))
  simp only [show (seen s t).adm.grants.find? (fun x => x.who == who) = some g from hg, beq_eq_false_iff_ne.2 hwho,
    show g.stop ≤ (seen s t).clk from hlate, decide_true, Bool.and_false, Bool.false_eq_true, if_false, if_true] at hgives
  rw [reportFault_minor (show 0 < 2 by decide)] at hgives
  exact gives_of_pumpLoops hgives ((decide_lpe _).trans (collect_lpe ..)) ((decide_pnl _).trans (collect_pnl ..)) hloops hpanel

/-- Settles O47: what no decision of the arbiter breaks, and the decision each of the permits' commands comes to. -/
theorem windingPermits : Obligations.WindingPermits := by
  refine ⟨fun m h => ⟨decide_granted_le_pool h, decide_frame m⟩, fun s t who units d op c1 hon hloops hpanel =>
    ⟨fun hfail hwait hgrants hfree h1 hd => ⟨fun hfit => ?granted, fun hfit => ?waits⟩, fun hwait => ?released,
      fun g hg hwait hfree hunits h1 hd => ?renewed, fun g hg hlate hwho => ?expired⟩⟩
  case granted =>
    obtain ⟨hnone, hmem⟩ := decide_of_waiting_singleton_fits (queued_alone (m := seen s t) hwait (permitFor who op c1 d)) hfree hfit
    exact makes_of_gives (gives_permitRequest hon hloops hpanel hfail (by simp [hwait]) hgrants h1 hd)
      ⟨hnone, _, hmem, rfl, rfl, rfl, congrArg (max s.m.clk t + ·) (ms_eq d)⟩
  case waits =>
    obtain ⟨hstill, hsame⟩ := decide_of_waiting_singleton_unfit (queued_alone (m := seen s t) hwait (permitFor who op c1 d)) hfree hfit
    exact makes_of_gives (gives_permitRequest hon hloops hpanel hfail (by simp [hwait]) hgrants h1 hd) ⟨hsame, _, hstill, rfl⟩
  case released => exact makes_of_gives (gives_permitRelease t who hon hloops hpanel) (releasePermit_no_grant (m := seen s t) hwait)
  case renewed =>
    have hwho : (g.who == who) = true := List.find?_some (p := fun x : Permit => x.who == who) hg
    refine makes_of_gives (gives_permitRenew hon hloops hpanel hg hfree hunits h1 hd)
      ⟨{ g with units := units, durMs := d, stop := max s.m.clk t + ms d }, ?_, by simpa using hwho, rfl, congrArg (max s.m.clk t + ·) (ms_eq d)⟩
    rw [decide_, (arbitrate_of_waiting_nil (m := regranted (seen s t) who _) hwait _).2]
    exact List.mem_map.2 ⟨g, List.mem_of_find?_eq_some hg, if_pos hwho⟩
  case expired =>
    refine makes_of_gives (gives_grantExpiry hon hloops hpanel hg hlate hwho) ?_
    rw [decide_adm_events, collect_adm]
    exact bitOf_setBit32_same _ 2 (by decide)

end Sys2Proof.Machine
end

section
/-! SUPPORT. What every command answers: a next state, with the queue left to the step, the clock not turned back and the three memories
kept (R458, R468, R469, R477); and what reaches a module in OFF (R290). -/

open Sys2Proof.Claims

namespace Sys2Proof.Machine

/-! ### The shapes of a next state -/

/-- The commands the manual gives an effect on one of the three memories. -/
def touchesMemory (c : Instr) : Bool := touchesFrame c || touchesImage c || touchesDebug c

/-- A happening of a powered module, or a descriptor's operation: what each does in OFF is nothing but to let the clock go on. -/
inductive Guarded (s : State) : Host.Outcome State Fault Refusal → Prop
  | on (t : Nat) (f : Mod → Mod) : Guarded s (s.runOn t f)
  | op (t op : Nat) (q : Req) (f : Mod → Mod) (boot : Bool) : Guarded s (s.runOp t op q f boot)

theorem guarded_runCmd (s : State) (t op : Nat) (q : Req) (f : Mod → Mod) : Guarded s (s.runCmd t op q f) := .op ..
theorem guarded_runW1c (s : State) (t off : Nat) (f : Mod → Mod) : Guarded s (s.runW1c t off f) := .on ..

/-- A command that names no memory is one of a core, a happening of a powered module, a descriptor's operation, or one of the supply. -/
theorem exec_guarded_or_supply {c : Instr} (hcore : coreOf? c = none) (hmem : touchesMemory c = false) (s : State) :
    Guarded s (exec c s) ∨ (actsInOff c = true ∧ ∃ t f, exec c s = s.run t f) := by
  unfold exec
  cases c
  case supplyApplied | okContactDrop | supplyRemoved => exact .inr ⟨rfl, _, _, rfl⟩
  case powerRun | powerHold | powerQuiet | powerShutdown | restartService | restartProgram | tableLoad | tableDelete | changePost
    | changeAbort | pairSplit | pairJoin | pairRestart | triadEpoch | calStart | calPoint | calCommit | calAbort | calRead |
    unitCmd | unitResume | planStart | planPause | planResume | planAbort | loopBank | loopEnable | bankWrite | forceSet |
    releaseForce | signalWrite | taskStart | taskStop | taskClear | stationLoad | stationDelete | navLoad | ptpPort | stationRead
    | stationWrite | canPortLoad | canSend | canRecover | recClassLoad | recListLoad | updActivate | updCancel | updReject |
    secPropose | secConfirm | secWithdraw | secProposalRead | secIdentityRead | secRoleInit =>
    exact .inl (guarded_runCmd ..)
  case restartModule | triadRetry | signalRead | taskStatus | channelStatus | signalBlock | directoryBlock | journalRead |
    valueArea | changeRecord | tableRead | canRead | recFreeze | recFreezeRelease | recRead | updReceive | pnlBands | pnlFull |
    pnlFullRelease | pnlIdRead =>
    exact .inl (.op ..)
  case hostWdKick | latchedClear | safFaultClear | fltAck | capturedClear | priorClear | activeClear => exact .inl (guarded_runW1c ..)
  all_goals first | (cases hcore; done) | (cases hmem; done) | exact .inl (.on ..)

/-- A command that names a memory may start the module, may start the panel, or is one of the three with a memory of its own. -/
inductive MemoryShape (s : State) : Instr → Prop
  | start {c : Instr} (t : Nat) (due : Mod → Bool) (f : Mod → Mod) (hexec : exec c s = s.runStart t due f) (hframe : touchesFrame c = true)
      (himage : touchesImage c = true) (hdebug : touchesDebug c = true) (hoff : actsInOff c = true) : MemoryShape s c
  | panel {c : Instr} (t : Nat) (f : Mod → Mod) (hexec : exec c s = s.runPanel t f) (hframe : touchesFrame c = true) : MemoryShape s c
  | frameStart (t : Nat) : MemoryShape s (.panelFrameStart t)
  | frame (t : Nat) (q : Req) (crc : W32) (img : List Byte) : MemoryShape s (.pnlFrame t q crc img)
  | debug (t : Nat) (a : DebugAccess) : MemoryShape s (.debugAccess t a)

theorem memoryShape {c : Instr} (hmem : touchesMemory c = true) (s : State) : MemoryShape s c := by
  cases c
  case storeCharged t uj => exact .start t _ _ (Eq.refl (execStoreCharged t uj s)) rfl rfl rfl rfl
  case holdupLowStart t uj => exact .start t _ _ (Eq.refl (execHoldupLowStart t uj s)) rfl rfl rfl rfl
  case startSequenceStep t n => exact .panel t _ (Eq.refl (execStartSequenceStep t n s)) rfl
  case registerWrite t off v => exact .panel t _ (Eq.refl (execRegisterWrite t off v s)) rfl
  case pnlEnWriteOn t => exact .panel t _ (Eq.refl (execPnlEnWriteOn t s)) rfl
  case panelRetry t => exact .panel t _ (Eq.refl (execPanelRetry t s)) rfl
  case panelFrameStart t => exact .frameStart t
  case pnlFrame t q crc img => exact .frame t q crc img
  case debugAccess t a => exact .debug t a
  all_goals cases hmem

/-! ### What a command leaves of the clock, the queue and the memories -/

/-- A next state leaves the queue to the step and does not turn the clock back; it keeps the memories its command does not name, and the
form of each. -/
structure KeepsMemories (c : Instr) (s u : State) : Prop where
  pending : u.pending = s.pending
  clock : s.m.clk ≤ u.m.clk
  frame : touchesFrame c = false → u.frame = s.frame
  image : touchesImage c = false → u.image = s.image
  debug : touchesDebug c = false → u.dbg = s.dbg
  form : MemoryForm s → MemoryForm u

/-- The command answers a next state that keeps these. -/
def Completes (c : Instr) (s : State) : Prop := ∃ u, exec c s = .next u ∧ KeepsMemories c s u

theorem keepsMemories_of_module (c : Instr) {s : State} {m : Mod} (h : s.m.clk ≤ m.clk) : KeepsMemories c s { s with m := m } :=
  ⟨rfl, h, fun _ => rfl, fun _ => rfl, fun _ => rfl, id⟩

theorem completes_of_run {c : Instr} {s : State} {t : Nat} {f : Mod → Mod} (h : exec c s = s.run t f) : Completes c s :=
  ⟨_, h, keepsMemories_of_module c (le_max_left ..)⟩

theorem completes_of_core {c : Instr} {core : Nat} (hc : coreOf? c = some core) (s : State) : Completes c s := by
  rcases exec_dic_or_end hc s with h | ⟨words, steps, f, h⟩ <;> exact ⟨_, h, keepsMemories_of_module c le_rfl⟩

theorem completes_of_guarded {c : Instr} {s : State} {o : Host.Outcome State Fault Refusal} (h : Guarded s o) (hc : exec c s = o) :
    Completes c s := by
  cases h <;> exact completes_of_run hc

theorem memory_wf_nil : Memory.wf [] := ⟨.nil, by simp⟩

/-- A table's keys rise where its entries do. -/
theorem tsorted_iff {α : Type} (t : Tbl α) : tsorted t ↔ List.Pairwise (fun x y => x.1 < y.1) t := List.pairwise_map

/-- A start of the module loses what was in the three memories (R294, R477). -/
theorem completes_of_runStart {c : Instr} {s : State} {t : Nat} {due : Mod → Bool} {f : Mod → Mod} (hexec : exec c s = s.runStart t due f)
    (hframe : touchesFrame c = true) (himage : touchesImage c = true) (hdebug : touchesDebug c = true) : Completes c s := by
  rw [State.runStart] at hexec
  dsimp only at hexec
  split_ifs at hexec with hdue
  · exact ⟨_, hexec, rfl, le_max_left .., by simp [hframe], by simp [himage], by simp [hdebug], fun _ => ⟨memory_wf_nil, memory_wf_nil, .nil⟩⟩
  · exact ⟨_, hexec, keepsMemories_of_module c (le_max_left ..)⟩

/-- A start of the panel clears the frame memory and nothing else (R477). -/
theorem completes_of_runPanel {c : Instr} {s : State} {t : Nat} {f : Mod → Mod} (hexec : exec c s = s.runPanel t f)
    (hframe : touchesFrame c = true) : Completes c s :=
  ⟨_, hexec, rfl, le_max_left .., by simp [hframe], fun _ => rfl, fun _ => rfl, fun ⟨hf, hi, hd⟩ =>
    ⟨iteInduction (motive := Memory.wf) (fun _ => hf) (fun _ => memory_wf_nil), hi, hd⟩⟩

/-- A frame start that is due copies an accepted image whole, and none waits after it (R469, R470). -/
theorem exec_panelFrameStart_due {s : State} {t : Nat} (hon : On s) (hdue : frameDue (seen s t) = true) :
    exec (.panelFrameStart t) s = .next { s with
      m := { panelFrameStart (seen s t) with clk := max s.m.clk t }
      frame := if s.m.pnl.crcNew.isSome then s.image else s.frame
      image := [] } :=
  if_pos (Bool.and_eq_true_iff.2 ⟨bne_iff_ne.2 hon, hdue⟩)

theorem exec_panelFrameStart_idle {s : State} (t : Nat) (h : s.m.pwr.st = .off ∨ frameDue (seen s t) = false) :
    exec (.panelFrameStart t) s = s.runOn t fun m => m :=
  if_neg (by rw [seen] at h; rcases h with h | h <;> simp [h])

theorem completes_panelFrameStart (s : State) (t : Nat) : Completes (.panelFrameStart t) s := by
  by_cases hdue : s.m.pwr.st ≠ .off ∧ frameDue (seen s t) = true
  · exact ⟨_, exec_panelFrameStart_due hdue.1 hdue.2, rfl, le_max_left .., nofun, nofun, fun _ => rfl, fun ⟨hf, hi, hd⟩ =>
      ⟨iteInduction (motive := Memory.wf) (fun _ => hi) (fun _ => hf), memory_wf_nil, hd⟩⟩
  · exact completes_of_run (exec_panelFrameStart_idle t (by simpa [Classical.or_iff_not_imp_left] using hdue))

/-- An image is accepted where the panel is up and its bytes have the CRC named (R469). -/
def imageFits (m : Mod) (crc : W32) (img : List Byte) : Bool := panelUp m.pnl && img.length = frameBytes && crc32c img = crc

/-- An image accepted waits in the form of a memory, with its CRC (R469). -/
theorem exec_pnlFrame_accepted {s : State} {t : Nat} {q : Req} {crc : W32} {img : List Byte} (hon : On s)
    (hready : opReady (seen s t) 0x0380 q = true) (hfit : imageFits s.m crc img = true) :
    exec (.pnlFrame t q crc img) s = .next { s with
      m := { post { seen s t with pnl := { s.m.pnl with crcNew := some crc, patternNew := s.m.pnl.patternDue } } q .ok with clk := max s.m.clk t }
      image := Memory.ofBytes 0 img } :=
  if_pos (Bool.and_eq_true_iff.2 ⟨Bool.and_eq_true_iff.2 ⟨bne_iff_ne.2 hon, hready⟩, hfit⟩)

/-- Any other image is refused (R469). -/
theorem exec_pnlFrame_refused {s : State} {t : Nat} {q : Req} {crc : W32} {img : List Byte}
    (h : s.m.pwr.st = .off ∨ opReady (seen s t) 0x0380 q = false ∨ imageFits s.m crc img = false) :
    exec (.pnlFrame t q crc img) s = s.runOp t 0x0380 q (fun m =>
      if img.length != frameBytes then refuse m q .badField
      else if !panelUp m.pnl then refuse m q .pnlAbsent
      else refuse m q .pnlCrc) :=
  if_neg (by rw [seen] at h; rw [imageFits] at h; rcases h with h | h | h <;> simp_all)

theorem completes_pnlFrame (s : State) (t : Nat) (q : Req) (crc : W32) (img : List Byte) : Completes (.pnlFrame t q crc img) s := by
  by_cases hfit : s.m.pwr.st ≠ .off ∧ opReady (seen s t) 0x0380 q = true ∧ imageFits s.m crc img = true
  · obtain ⟨hon, hready, hfit⟩ := hfit
    exact ⟨_, exec_pnlFrame_accepted hon hready hfit, rfl, le_max_left .., fun _ => rfl, nofun, fun _ => rfl,
      fun ⟨hf, _, hd⟩ => ⟨hf, (Memory.ofBytes_wf 0 img).1, hd⟩⟩
  · exact completes_of_run (exec_pnlFrame_refused (by simpa [Classical.or_iff_not_imp_left] using hfit))

/-- What G1 has written after an access: in FULL a write reaches its address (R458). -/
def writtenByG1 (s : State) (a : DebugAccess) : List Host.Cell :=
  match a with
  | .write x v => if g1Up s.m && s.m.sec.debug == .full then tset s.dbg x v else s.dbg
  | _ => s.dbg

theorem writtenByG1_closed {s : State} (h : g1Up s.m = false ∨ s.m.sec.debug ≠ .full) (a : DebugAccess) : writtenByG1 s a = s.dbg := by
  cases a with
  | write x v => exact if_neg (by rcases h with h | h <;> simp [h])
  | _ => rfl

theorem exec_debugAccess (s : State) (t : Nat) (a : DebugAccess) : exec (.debugAccess t a) s = .next { s with
    m := { (if (s.m.advance t).pwr.st = .off then s.m.advance t else g1Access (s.m.advance t) s.dbg a) with clk := max s.m.clk t }
    dbg := writtenByG1 s a } := rfl

/-- A write through G1 keeps the cells in the order of their addresses (R458). -/
theorem writtenByG1_sorted {s : State} (h : tsorted s.dbg) (a : DebugAccess) : tsorted (writtenByG1 s a) := by
  cases a with
  | write x v =>
    show tsorted (if _ then tset s.dbg x v else s.dbg)
    split
    · exact tset_sorted _ _ _ h
    · exact h
  | _ => exact h

theorem completes_debugAccess (s : State) (t : Nat) (a : DebugAccess) : Completes (.debugAccess t a) s :=
  ⟨_, exec_debugAccess s t a, rfl, le_max_left .., fun _ => rfl, fun _ => rfl, nofun,
    fun ⟨hf, hi, hd⟩ => ⟨hf, hi, (tsorted_iff _).1 (writtenByG1_sorted ((tsorted_iff _).2 hd) a)⟩⟩

/-- Every command answers a next state, keeps the memories it does not name, and the form of all three. -/
theorem completes (c : Instr) (s : State) : Completes c s := by
  cases hmem : touchesMemory c
  case true =>
    cases memoryShape hmem s with
    | start t due f hexec hframe himage hdebug hoff => exact completes_of_runStart hexec hframe himage hdebug
    | panel t f hexec hframe => exact completes_of_runPanel hexec hframe
    | frameStart t => exact completes_panelFrameStart s t
    | frame t q crc img => exact completes_pnlFrame s t q crc img
    | debug t a => exact completes_debugAccess s t a
  case false =>
    cases hcore : coreOf? c with
    | some core => exact completes_of_core hcore s
    | none =>
      rcases exec_guarded_or_supply hcore hmem s with h | ⟨-, t, f, h⟩
      · exact completes_of_guarded h rfl
      · exact completes_of_run h

/-- Settles O4: the command at the front keeps the form, and an idle step keeps all. -/
theorem stepKeepsInv : Obligations.StepKeepsInv := by
  intro s u hform hstep
  unfold step at hstep
  split at hstep
  · cases hstep
    exact ⟨hform, le_rfl⟩
  next c rest _ =>
    obtain ⟨v, hv, hkeeps⟩ := completes c { s with pending := rest }
    cases hv.symm.trans hstep
    exact ⟨hkeeps.form hform, hkeeps.clock⟩

/-- Settles O3: each command's next state, and the memories it does not name. -/
theorem commandsComplete : Obligations.CommandsComplete := by
  refine ⟨fun c s => ?_, fun c s u hu => ?_⟩
  · obtain ⟨u, hu, hkeeps⟩ := completes c s
    exact ⟨u, hu, hkeeps.pending, hkeeps.clock⟩
  · obtain ⟨v, hv, hkeeps⟩ := completes c s
    cases hv.symm.trans hu
    exact ⟨hkeeps.frame, hkeeps.image, hkeeps.debug⟩

/-- Settles O1: the step is defined by the queue's first command. -/
theorem stepTakesFirst : Obligations.StepTakesFirst := fun s c rest h => by rw [step, h]

/-! ### In OFF (R290) -/

/-- Nothing but the clock changes. -/
def ClockOnly (s u : State) : Prop := u = { s with m := { s.m with clk := u.m.clk } }

/-- In OFF the clock goes on and no RUN time with it (R290, R436). -/
theorem advance_off {m : Mod} (hoff : m.pwr.st = .off) (t : Nat) : m.advance t = { m with clk := max m.clk t } := by
  have hruns : countsRun m = false := by simp [countsRun, hoff]
  rw [Mod.advance, hruns]
  rfl

/-- A happening of a powered module and a descriptor's operation change nothing but the clock in OFF (R290, R305). -/
theorem clockOnly_of_guarded {s u : State} {o : Host.Outcome State Fault Refusal} (hoff : s.m.pwr.st = .off) (h : Guarded s o)
    (hu : o = .next u) : ClockOnly s u := by
  cases h with
  | on t f =>
    rw [State.runOn, State.run, advance_off hoff, if_pos hoff] at hu
    cases hu; rfl
  | op t op q f boot =>
    rw [State.runOp, State.run, advance_off hoff, if_neg (by simp [opReady, hoff]), if_pos (by simp [hoff])] at hu
    cases hu; rfl

theorem clockOnly_of_runPanel {s u : State} {t : Nat} {f : Mod → Mod} (hoff : s.m.pwr.st = .off) (hu : s.runPanel t f = .next u) :
    ClockOnly s u := by
  rw [State.runPanel, advance_off hoff] at hu
  simp only [hoff, if_true] at hu
  cases hu; rfl

/-- Settles O5: what is guarded by the power lets the clock go on, and what names a memory reaches none. -/
theorem offIsStill : Obligations.OffIsStill := by
  intro c s u hoff hcore hacts hu
  cases hmem : touchesMemory c
  case false =>
    rcases exec_guarded_or_supply hcore hmem s with h | ⟨hsupply, -⟩
    · exact clockOnly_of_guarded hoff h hu
    · simp [hacts] at hsupply
  case true =>
    cases memoryShape hmem s with
    | start t due f hexec hframe himage hdebug hsupply => simp [hacts] at hsupply
    | panel t f hexec hframe => exact clockOnly_of_runPanel hoff (hexec.symm.trans hu)
    | frameStart t => exact clockOnly_of_guarded hoff (.on t fun m => m) ((exec_panelFrameStart_idle t (.inl hoff)).symm.trans hu)
    | frame t q crc img => exact clockOnly_of_guarded hoff (.op ..) ((exec_pnlFrame_refused (.inl hoff)).symm.trans hu)
    | debug t a =>
      rw [exec_debugAccess, advance_off hoff, if_pos hoff, writtenByG1_closed (.inl (by simp [g1Up, hoff]))] at hu
      cases hu; rfl

end Sys2Proof.Machine
end

section
/-! SUPPORT. The release of reset (R291, R295, R505), and an empty queue. -/

open Sys2Proof.Claims

namespace Sys2Proof.Machine

/-- Every register listed reads its reset value (R505): a finite check, one register at a time. -/
theorem registerRead_reset : ∀ e ∈ resetRegisters, registerRead State.reset.m e.1 &&& e.2.1 = e.2.2 := by decide +kernel

theorem memoryForm_reset : MemoryForm State.reset := ⟨memory_wf_nil, memory_wf_nil, .nil⟩

/-- With nothing waiting the block idles (log 30). -/
theorem step_idle {s : State} (h : s.pending = []) : step s = .next s := by rw [step, h]

/-- Settles O2: the fields of State.reset, the registers from them, and the idle step. -/
theorem resetHolds : Obligations.ResetHolds :=
  ⟨rfl, rfl, rfl, rfl, rfl, rfl, rfl, rfl, rfl, rfl, memoryForm_reset, registerRead_reset, fun _ => step_idle⟩

end Sys2Proof.Machine
end

section
/-! SUPPORT. A lockstep mismatch (R255), and a task table on which a HALTED task still holds an instance. -/

open Sys2Proof.Claims

namespace Sys2Proof.Machine

/-- A mismatch of a joined application pair is handled as R255 says. -/
theorem gives_pairMismatch_joined {s : State} {t p : Nat} (c : Nat) (hon : On s) (hp : p < 6) (hst : (pairOf s.m p).st = .joined) :
    Gives (.pairMismatch t p c) s t (mismatchApp (seen s t) p c) := by
  have hgives := gives_of_runOn (i := .pairMismatch t p c) (t := t) hon (Eq.refl (execPairMismatch t p c s))
  simpa only [show (pairOf (seen s t) p).st = .joined from hst, if_pos hp] using hgives

/-- A HALTED task that still holds an instance, which R83 does not allow and the statement does not shut out. -/
def haltedWithInstance : Task := { rcd := { cls := 3 }, home := 0, pair := 0, st := .halted, inst := some { release := 0 } }

/-- Pair 0 is joined and carries that task. -/
def haltedOnJoined : State := { m := {
  lks := { pairs := [(0, { st := .joined })] }
  pge := { tasks := [(0, haltedWithInstance)] } } }

/-- The mismatch drops the instances in progress alone, and the migration leaves a HALTED task as it is. -/
theorem mismatchApp_keeps_instance : (tget (mismatchApp (seen haltedOnJoined 0) 0 0).pge.tasks 0).bind Task.inst ≠ none := by decide +kernel

/-- Refutes O17 in its clause on the mismatch of an application pair: the states it speaks of may hold a HALTED task with an instance, and neither
the abort of what is in progress nor the migration touches that one. -/
theorem not_lockstepPairs : ¬ Obligations.LockstepPairs := by
  rintro ⟨-, hmismatch, -⟩
  have hon : On haltedOnJoined := by simp [On, haltedOnJoined]
  obtain ⟨happ, -⟩ := hmismatch haltedOnJoined 0 0 0 hon (by decide +kernel)
  have hjoined : (pairOf haltedOnJoined.m 0).st = .joined := rfl
  obtain ⟨-, -, -, -, htasks⟩ := holds_of_makes (gives_pairMismatch_joined 0 hon (by decide) hjoined)
    (happ (by decide) hjoined rfl (by decide +kernel) (by decide +kernel))
  obtain ⟨w, hw, -, hnone⟩ := htasks 0 haltedWithInstance rfl rfl (by decide)
  simp only [taskAt] at hw
  have hkept := mismatchApp_keeps_instance
  rw [hw] at hkept
  exact hkept hnone

end Sys2Proof.Machine
end

section
/-! SUPPORT. The votes of a triad over input copies and the comparison of commanded outputs (R272, R274). -/

open Sys2Proof.Claims

namespace Sys2Proof.Machine

/-- A GOOD copy is not BAD (R38). -/
theorem isBad_of_isGood {q : Qual} (h : isGood q = true) : isBad q = false := by
  simp only [isGood, isBad, beq_iff_eq] at h ⊢
  simp [h]

/-- With a copy that is the running maximum so far, the latest one is it or a later member of the list. -/
theorem latestOf_foldl_mem (cs : List View) (o : Option View) {v : View}
    (h : cs.foldl (fun a v => match a with | none => some v | some b => if b.ext < v.ext then some v else some b) o = some v) :
    o = some v ∨ v ∈ cs := by
  induction cs generalizing o with
  | nil => exact .inl h
  | cons c cs ih =>
    rcases ih _ h with hc | hmem
    · cases o with
      | none => exact .inr (by simp_all)
      | some b =>
        simp only at hc
        split at hc
        · exact .inr (by simp_all)
        · exact .inl hc
    · exact .inr (List.mem_cons_of_mem _ hmem)

theorem mem_of_latestOf {cs : List View} {v : View} (h : latestOf cs = some v) : v ∈ cs :=
  (latestOf_foldl_mem cs none h).resolve_left nofun

/-- Outside SOLO a signal that is no real number is voted bit for bit, and a REAL one by its numbers. -/
theorem voteOf_bits {m : Mod} {r : SigRec} (hmode : m.tri.mode ≠ 1) (h4 : r.ty ≠ 4) (h5 : r.ty ≠ 5) (cs : List View) :
    voteOf m r cs = voteBits m cs := by
  unfold voteOf
  split
  · contradiction
  · simp [h4, h5]

theorem voteOf_real {m : Mod} {r : SigRec} (hmode : m.tri.mode ≠ 1) (h4 : r.ty = 4) (cs : List View) :
    voteOf m r cs = voteReal m r cs := by
  unfold voteOf
  split
  · contradiction
  · simp [h4]

/-- A copy of the list holds a strict majority of it. -/
def leads (cs : List View) (v : View) : Bool := 2 ≤ cs.length && cs.length < 2 * (cs.filter (fun w => w.val == v.val)).length

/-- Of GOOD copies the first that holds a strict majority gives the value, GOOD. -/
theorem voteBits_majority (m : Mod) {cs : List View} {v : View} (hgood : ∀ w ∈ cs, isGood w.qual = true) (hfind : cs.find? (leads cs) = some v) :
    (voteBits m cs).val = v.val ∧ (voteBits m cs).qual = 0xC000 := by
  have hall : cs.filter (fun v => isGood v.qual) = cs := List.filter_eq_self.mpr hgood
  have hvote : voteBits m cs = { (latestOf (cs.filter (fun w => w.val == v.val))).getD v with qual := 0xC000 } := by
    unfold leads at hfind
    simp only [voteBits, hall, hfind]
  refine ⟨?_, by rw [hvote]⟩
  rw [hvote]
  cases hlast : latestOf (cs.filter (fun w => w.val == v.val)) with
  | none => rfl
  | some w => simpa using (List.mem_filter.mp (mem_of_latestOf hlast)).2

/-- Of two or more GOOD copies none of which holds a strict majority the result is zero, BAD. -/
theorem voteBits_without_majority (m : Mod) {cs : List View} (hgood : ∀ w ∈ cs, isGood w.qual = true) (hfind : cs.find? (leads cs) = none)
    (hlen : cs.length ≠ 1) : voteBits m cs = noCopy m 0 := by
  have hall : cs.filter (fun v => isGood v.qual) = cs := List.filter_eq_self.mpr hgood
  unfold leads at hfind
  simp only [voteBits, hall, hfind]
  split
  · simp at hlen
  · rfl

/-- One GOOD copy alone is UNCERTAIN. -/
theorem voteBits_alone (m : Mod) {v : View} (hgood : isGood v.qual = true) : voteBits m [v] = { v with qual := 0x4000 } := by
  simp [voteBits, hgood]

/-- A copy that is BAD leaves a REAL signal its value, BAD. -/
theorem voteReal_of_bad (m : Mod) (r : SigRec) {v : View} (hbad : isBad v.qual = true) : voteReal m r [v] = noCopy m r.val := by
  simp [voteReal, hbad]

theorem votedValues : VotedValues := by
  intro m r a b c ha hb hc hmode
  have hgood : ∀ w, w = a ∨ w = b ∨ w = c → isGood w.qual = true := by rintro w (rfl | rfl | rfl) <;> assumption
  refine ⟨fun h4 h5 => ?_, fun h4 => ?_, rfl⟩
  · simp only [voteOf_bits hmode h4 h5]
    refine ⟨fun hab => ?_, fun hab => ?_, ?_, ?_, ?_⟩
    · have habc := voteBits_majority m (cs := [a, b, c]) (v := a) (by simp_all)
        (by by_cases hcb : c.val = b.val <;> simp [leads, hab, hcb])
      have hacb := voteBits_majority m (cs := [a, c, b]) (v := a) (by simp_all) (by by_cases hca : c.val = b.val <;> simp [leads, hab, hca])
      have hpair := voteBits_majority m (cs := [a, b]) (v := a) (by simp_all) (by simp [leads, hab])
      have hcab : (voteBits m [c, a, b]).val = a.val := by
        by_cases hca : c.val = a.val
        · exact (voteBits_majority m (cs := [c, a, b]) (v := c) (by simp_all) (by simp [leads, ← hab, hca])).1.trans hca
        · exact (voteBits_majority m (cs := [c, a, b]) (v := a) (by simp_all) (by simp [leads, ← hab, hca, Ne.symm hca])).1
      exact ⟨habc.1, hacb.1, hcab, habc.2, hpair⟩
    · have hpair := voteBits_without_majority m (cs := [a, b]) (by simp_all) (by simp [leads, hab, Ne.symm hab]) (by simp)
      refine ⟨by rw [hpair]; rfl, by rw [hpair]; rfl, fun hca hcb => ?_⟩
      have htriple := voteBits_without_majority m (cs := [a, b, c]) (by simp_all)
        (by simp [leads, hab, Ne.symm hab, hca, hcb, Ne.symm hca, Ne.symm hcb]) (by simp)
      rw [htriple]
      rfl
    · exact voteBits_alone m ha
    · rfl
    · rfl
  · have hbad : ∀ w, w = a ∨ w = b ∨ w = c → isBad w.qual = false := fun w h => isBad_of_isGood (hgood w h)
    have hab : isBad a.qual = false := hbad a (by simp)
    have hbb : isBad b.qual = false := hbad b (by simp)
    have hcb : isBad c.qual = false := hbad c (by simp)
    simp only [voteOf_real hmode h4]
    refine ⟨fun hne hai => ?_, fun hle hle' hna hnb hnc => ?_, ?_, ?_, ?_⟩
    · simp [voteReal, hab, hbb, agreeReal, agree32, h4, hai, hne]
    · simp [voteReal, hab, hbb, hcb, median, realNan, realLe, h4, hle, hle', hna, hnb, hnc]
    · simp [voteReal, hab]
    · exact congrArg View.val (voteReal_of_bad m r (v := { a with qual := 0x0000 }) (show isBad 0x0000 = true by decide))
    · exact congrArg View.qual (voteReal_of_bad m r (v := { a with qual := 0x0000 }) (show isBad 0x0000 = true by decide))

theorem outputsCompared : OutputsCompared := by
  intro o f g h x y z
  refine ⟨fun hfg => ⟨by simp [compareOut, hfg], fun hh => ?_⟩, fun hfg => ⟨by simp [compareOut, hfg], fun hhf hhg => ?_⟩⟩
  · rw [hfg] at hh
    simp [compareOut, hfg, hh, Ne.symm hh]
  · simp [compareOut, hfg, Ne.symm hhf, Ne.symm hhg]

/-- Settles O18. -/
theorem triadVotes : Obligations.TriadVotes := ⟨votedValues, outputsCompared⟩

end Sys2Proof.Machine
end

section
/-! SUPPORT. The rings of the host interface: their indices, the descriptors fetched from them, and the completions and events written into them
(R314 to R319, R325, R329 to R333). -/

open Sys2Proof.Claims

namespace Sys2Proof.Machine

/-! ### Indices (R314) -/

/-- The phase of an index is whether it is in the upper half of the 16-bit numbers. -/
theorem ixPhase_iff (i : BitVec 16) : ixPhase i = decide (2 ^ 15 ≤ i.toNat) := by
  have := i.isLt
  simp only [ixPhase, bitOf]
  grind

theorem ringIndicesWrap : RingIndicesWrap := by
  intro n i j h4 h15 hi hj hlow hhigh
  have hsize : 2 ^ n ≤ 2 ^ 15 := Nat.pow_le_pow_right (by decide) h15
  have hpos : 0 < 2 ^ n := Nat.two_pow_pos n
  have hcast : (2 : Int) ^ n = ((2 ^ n : Nat) : Int) := by push_cast; rfl
  rw [hcast] at hhigh
  clear hcast
  generalize 2 ^ n = size at *
  have hii := i.isLt
  have hjj := j.isLt
  by_cases hwrap : ixPos j + 1 < size
  · have hnext : (j + 1).toNat = j.toNat + 1 := by
      simp only [ixPos] at hwrap
      bv_omega
    have hphase : ixPhase (j + 1) = ixPhase j := by
      simp only [ixPhase_iff, hnext, decide_eq_decide]
      simp only [ixPos] at hwrap
      omega
    have hpos : ixPos (j + 1) = ixPos j + 1 := by
      simp only [ixPos, hnext] at hwrap ⊢
      omega
    simp only [ixNext, if_pos hwrap, dist, hphase, hpos, bne_self_eq_false]
    refine ⟨by push_cast; ring, by simpa using hwrap, by simp⟩
  · have hlast : ixPos j + 1 = size := by omega
    have hsame : ixPhase i = ixPhase j := by
      by_contra hne
      simp only [dist, bne_iff_ne, ne_eq, hne, not_false_eq_true, if_true] at hhigh
      omega
    have hnext : ixPhase (ixNext size j) = !ixPhase j ∧ ixPos (ixNext size j) = 0 := by
      rw [ixNext, if_neg hwrap]
      cases ixPhase j <;> decide
    simp only [dist, hnext, hsame]
    simp
    omega

/-! ### Completions and events (R325, R329, R331) -/

theorem u8_append_right {a : List Byte} (b : List Byte) {o : Nat} (h : a.length ≤ o) : u8 (a ++ b) o = u8 b (o - a.length) :=
  u8_append_of_le b h

theorem w64_append_right {a : List Byte} (b : List Byte) {o : Nat} (h : a.length ≤ o) : w64 (a ++ b) o = w64 b (o - a.length) := by
  rw [w64, slice_append_right b h, w64]

theorem w64_bytes64 (v : Val) : w64 (bytes64 v) 0 = v := by
  rw [w64, slice_whole (length_bytes64 v)]
  have hle : leNat (bytes64 v) = v.toNat := (leNat_leBytes 8 _).trans (Nat.mod_eq_of_lt v.isLt)
  rw [hle, BitVec.ofNat_toNat, BitVec.setWidth_eq]

/-- The number of every status fits the field that carries it. -/
theorem statusCode_lt (st : Status) : st.code < 65536 := by cases st <;> decide

theorem completionLayout : CompletionLayout := by
  intro r c hring
  have hflags : phaseOf r + 2 * b2n c.register < 65536 := by
    cases hp : ixPhase r.index <;> cases c.register <;> simp [phaseOf, hp, b2n]
  have hword : u16 (complBytes r c) 6 = phaseOf r + 2 * b2n c.register := by
    simp only [complBytes, List.append_assoc]
    rw [u16_append_right _ (by simp), u16_append_right _ (by simp)]
    exact (u16_bytes16_append ..).trans (Nat.mod_eq_of_lt hflags)
  rw [hword]
  simp only [complBytes, List.append_assoc]
  refine ⟨by simp, w32_bytes32_append .., ?_, ?_, ?_, ?_, ?_, ?_, ?_, ?_⟩
  · exact (u16_append_right _ (by simp)).trans ((u16_bytes16_append ..).trans (Nat.mod_eq_of_lt (statusCode_lt _)))
  · rw [bitOf, Nat.testBit_zero]
    cases hp : ixPhase r.index <;> cases c.register <;> simp [phaseOf, hp, b2n]
  · rw [bitOf]
    cases hp : ixPhase r.index <;> cases c.register <;> simp [phaseOf, hp, b2n] <;> decide
  · rw [u8_append_right _ (by simp), u8_append_right _ (by simp), u8_append_right _ (by simp)]
    exact (u8_leBytes_append ..).trans (Nat.mod_eq_of_lt hring)
  · iterate 6 rw [w32_append_right _ (by simp)]
    exact w32_bytes32_append ..
  · iterate 7 rw [w32_append_right _ (by simp)]
    exact w32_bytes32_append ..
  · iterate 8 rw [w32_append_right _ (by simp)]
    exact w32_bytes32_append ..
  · iterate 9 rw [w64_append_right _ (by simp)]
    exact w64_bytes64 _

/-- What OVERFLOW says once it has taken an event that its full queue lost (R331). -/
def lostInto (v : Option Overflow) (o : Event) : Overflow :=
  match v with
  | none => { merged := 1, mask := BitVec.ofNat 16 (2 ^ o.kind), time := o.time, wrap := o.wrap, newest := o.time }
  | some v => { v with merged := satInc v.merged, mask := v.mask ||| BitVec.ofNat 16 (2 ^ o.kind), newest := o.time }

/-- A full queue loses its oldest event into OVERFLOW. -/
theorem enqueue_full {r : Ring} (e : Event) {o : Event} {rest : List Event} (hq : r.queue = o :: rest) (hfull : 8192 ≤ r.queue.length) :
    enqueue r e = { r with overflow := some (lostInto r.overflow o), queue := rest ++ [e], before := r.before - 1 } := by
  rw [enqueue, if_neg (Nat.not_lt.mpr hfull)]
  simp only [hq]
  rfl

/-- OVERFLOW keeps the kind of what it takes. -/
theorem lostInto_mask (v : Option Overflow) {o : Event} (h : o.kind < 16) : bitOf (lostInto v o).mask.toNat o.kind = true := by
  cases v <;> simp only [lostInto, bitOf, BitVec.testBit_toNat, BitVec.getLsbD_or, BitVec.getLsbD_ofNat, Nat.testBit_two_pow_self, h, decide_true,
    Bool.and_true, Bool.or_true]

theorem eventQueuesBounded : EventQueuesBounded := by
  intro r e
  refine ⟨fun hroom => ?_, fun hbound => ?_, fun o rest hq hfull => ?_⟩
  · simp [enqueue, hroom]
  · unfold enqueue
    split
    · simp only [List.length_append, List.length_singleton]
      omega
    · split
      · exact hbound
      · rename_i o rest hq
        simpa [hq] using hbound
  · rw [enqueue_full e hq hfull]
    refine ⟨rfl, _, rfl, fun hov => ?_, fun w hov => ?_, ?_, lostInto_mask _⟩
    · rw [hov]; exact ⟨rfl, rfl, rfl⟩
    · rw [hov]; exact ⟨rfl, rfl⟩
    · cases r.overflow <;> rfl

/-! ### Descriptors (R316 to R319) -/

theorem ringOf_setRing (m : Mod) (n k : Nat) (r : Ring) : ringOf (setRing m n r) k = if k = n then r else ringOf m k := by
  simp only [ringOf, setRing, tget_tset]
  split <;> rfl

@[simp] theorem ringOf_setRing_same (m : Mod) (n : Nat) (r : Ring) : ringOf (setRing m n r) n = r := by simp [ringOf_setRing]

/-- The end of an operation is no ring's affair. -/
@[simp] theorem post_rings (m : Mod) (q : Req) (st : Status) (r : Res) : (post m q st r).hif.rings = m.hif.rings := by
  unfold post
  dsimp only
  split_ifs <;> rfl

/-- Where no host operation was left behind by a detach, an operation that fails leaves its completion to be written. -/
theorem post_failed {m : Mod} {q : Req} {st : Status} (r : Res) (hattached : m.hif.attached = true) (horphans : m.hif.orphans = [])
    (hst : st ≠ .ok) : (post m q st r).hif.compl = m.hif.compl ++ [{
      cring := cringOf m q, tag := q.tag, status := st, ring := q.ring
      index := q.index, res0 := r.r0, res1 := r.r1, res2 := r.r2, res64 := r.r64, data := r.data }] := by
  simp [post, hattached, horphans, hst]

/-- A fetch asks of its ring that it is in service and attached. -/
theorem attached_of_fetchable {m : Mod} {n : Nat} (h : fetchable m n = true) : m.hif.attached = true := by
  simp only [fetchable, Bool.and_eq_true] at h
  obtain ⟨⟨⟨⟨⟨⟨⟨-, hattached⟩, -⟩, -⟩, -⟩, -⟩, -⟩, -⟩ := h
  exact hattached

/-- The operation that a descriptor puts in flight (R318). -/
def flightOf (m : Mod) (q : Req) (d : List Byte) : Flight :=
  { ring := q.ring, index := q.index, tag := q.tag, cring := cringOf m q, noCompl := q.noCompl, opcode := u16 d 0, fence := bitOf (u16 d 2) 1 }

/-- The module with a descriptor fetched: the ring's index has gone on and the operation is in flight (R319). -/
def fetched (m : Mod) (n : Nat) (d : List Byte) : Mod :=
  let r := ringOf m n
  let v := setRing m n { r with
    index := ixNext r.size r.index
    fetches := if isC1Ring m n then r.fetches.filter (fun x => m.clk < x + ms 1) ++ [m.clk] else [] }
  { v with hif := { v.hif with flights := v.hif.flights ++ [flightOf v (descReq n r d) d] } }

/-- The checks of CRING and OPCODE find the rings as they were before the fetch (R318). -/
theorem ringOf_fetched (m : Mod) (n : Nat) (d : List Byte) (k : Nat) :
    (ringOf (fetched m n d) k).st = (ringOf m k).st ∧ (ringOf (fetched m n d) k).cls = (ringOf m k).cls ∧
    (ringOf (fetched m n d) k).defCring = (ringOf m k).defCring := by
  have hring : ringOf (fetched m n d) k = ringOf (setRing m n { ringOf m n with
    index := ixNext (ringOf m n).size (ringOf m n).index
    fetches := if isC1Ring m n then (ringOf m n).fetches.filter (fun x => m.clk < x + ms 1) ++ [m.clk] else [] }) k := rfl
  rw [hring, ringOf_setRing]
  by_cases hk : k = n <;> simp [hk]

theorem cringOk_fetched (m : Mod) (n : Nat) (d : List Byte) (q : Req) : cringOk (fetched m n d) q = cringOk m q := by
  simp only [cringOk, (ringOf_fetched m n d _).1]

theorem permitted_fetched (m : Mod) (n : Nat) (d : List Byte) (op k : Nat) : permitted (fetched m n d) op k = permitted m op k := by
  simp only [permitted, (ringOf_fetched m n d _).2.1]

theorem takeDescriptor_eq (m : Mod) (n : Nat) (d : List Byte) : takeDescriptor m n d =
    let q := descReq n (ringOf m n) d
    if !cringOk m q then post (fetched m n d) { q with cring := 0 } .badField
    else if (ringUse (u16 d 0)).isNone then post (fetched m n d) q .badOpcode
    else if !permitted m (u16 d 0) n then post (fetched m n d) q .ringClass
    else fetched m n d := by
  simp only [← cringOk_fetched m n d, ← permitted_fetched m n d]
  rfl

theorem descriptorsAreFetched : DescriptorsAreFetched := by
  intro s t n d hon hfetch hfirst
  have hattached : (seen s t).hif.attached = true := attached_of_fetchable hfetch
  have hgives : ∀ ok, Gives (.descriptorFetch t n d ok) s t
      (if ok then takeDescriptor (seen s t) n d else setRing (seen s t) n { ringOf s.m n with st := .error }) := fun ok => by
    have hg := gives_of_runOn (i := .descriptorFetch t n d ok) (t := t) hon (Eq.refl (execDescriptorFetch t n d ok s))
    rwa [hfetch, hfirst] at hg
  have hring : ringOf (fetched (seen s t) n d) n = { ringOf s.m n with
      index := ixNext (ringOf s.m n).size (ringOf s.m n).index
      fetches := if isC1Ring (seen s t) n then (ringOf s.m n).fetches.filter (fun x => (seen s t).clk < x + ms 1) ++ [(seen s t).clk] else [] } :=
    ringOf_setRing_same ..
  have hindex : (ringOf (takeDescriptor (seen s t) n d) n).index = ixNext (ringOf s.m n).size (ringOf s.m n).index := by
    have hpost : ∀ q st, (ringOf (post (fetched (seen s t) n d) q st) n).index = ixNext (ringOf s.m n).size (ringOf s.m n).index := fun q st => by
      rw [ringOf, post_rings, ← ringOf, hring]
    rw [takeDescriptor_eq]
    dsimp only
    split_ifs
    · exact hpost ..
    · exact hpost ..
    · exact hpost ..
    · rw [hring]
  refine ⟨makes_of_gives (hgives false) ⟨?_, rfl⟩, makes_of_gives (hgives true) hindex, fun hcring hperm huse => ?_, fun hcring huse horphans => ?_⟩
  · exact congrArg Ring.st (ringOf_setRing_same ..)
  · have htake : takeDescriptor (seen s t) n d = fetched (seen s t) n d := by
      simp [takeDescriptor_eq, show ringOf (seen s t) n = ringOf s.m n from rfl, hcring, hperm, Option.isSome_iff_ne_none.mp huse]
    refine makes_of_gives (hgives true) ?_
    rw [if_pos rfl, htake]
    exact ⟨rfl, _, rfl, rfl, rfl, rfl, rfl, rfl, rfl, rfl⟩
  · have htake : takeDescriptor (seen s t) n d = post (fetched (seen s t) n d) (descReq n (ringOf s.m n) d) .badOpcode := by
      simp [takeDescriptor_eq, show ringOf (seen s t) n = ringOf s.m n from rfl, hcring, huse]
    refine makes_of_gives (hgives true) ?_
    rw [if_pos rfl, htake]
    exact ⟨_, post_failed {} hattached horphans (by decide), rfl, rfl, rfl, rfl⟩

/-- Settles O36. -/
theorem descriptorFlow : Obligations.DescriptorFlow := ⟨descriptorsAreFetched, ringIndicesWrap⟩

/-! ### What the module writes (R319, R331, R333) -/

/-- The end of a ring's last operation may change its state, and no completion. -/
@[simp] theorem settle_compl (m : Mod) (n : Nat) : (settle m n).hif.compl = m.hif.compl := by
  unfold settle
  dsimp only
  split <;> rfl

theorem writeCompletion_compl (m : Mod) (n : Nat) (c : Compl) : (writeCompletion m n c).hif.compl = m.hif.compl.erase c :=
  settle_compl ..

/-- Of the host interface an event changes the rings alone. -/
theorem postEvent_hif (m : Mod) (e : Event) : { (postEvent m e).hif with rings := m.hif.rings } = m.hif :=
  foldl_field (fun v : Mod => { v.hif with rings := m.hif.rings }) _ (by intro v n; dsimp only; split <;> rfl) m eventRings

/-- A field of the host interface that the rings are no part of. -/
theorem discovery_hif {γ : Type} (g : HifBlk → γ) (hg : ∀ h r, g { h with rings := r } = g h) (m : Mod) (w : Nat) (p : W32) (b : Bool) :
    g (discovery m w p b).hif = g m.hif := by
  rw [← hg _ m.hif.rings, discovery, event, postEvent_hif]

theorem gives_completionWrite {s : State} {t n : Nat} {c : Compl} (ok : Bool) (hon : On s) (hc : s.m.hif.compl.find? (fun c => c.cring == n) = some c)
    (hattached : s.m.hif.attached = true) (hroom : hasRoom (ringOf s.m n) = true) : Gives (.completionWrite t n ok) s t
      (if ok then writeCompletion (seen s t) n c else discovery (detach (seen s t) false) 6 0 false) := by
  have hg := gives_of_runOn (i := .completionWrite t n ok) (t := t) hon (Eq.refl (execCompletionWrite t n ok s))
  rw [show (seen s t).hif.compl.find? (fun c => c.cring == n) = some c from hc] at hg
  simpa only [show (seen s t).hif.attached = true from hattached, show hasRoom (ringOf (seen s t) n) = true from hroom, Bool.and_self,
    if_true] using hg

theorem gives_eventDelivery {s : State} {t n : Nat} {e : Event} {r : Ring} (hon : On s) (hn : isEvent n = true) (hattached : s.m.hif.attached = true)
    (hready : s.m.hif.ready = true) (hactive : (ringOf s.m n).st = .active) (hroom : hasRoom (ringOf s.m n) = true)
    (hnext : nextEntry (seen s t) (ringOf s.m n) = some (e, r)) : Gives (.eventDelivery t n true) s t
      (setRing (seen s t) n { putEntry r (eventBytes (ringOf s.m n) e) with seq := (ringOf s.m n).seq + 1 }) := by
  have hg := gives_of_runOn (i := .eventDelivery t n true) (t := t) hon (Eq.refl (execEventDelivery t n true s))
  simpa only [show ringOf (seen s t) n = ringOf s.m n from rfl, hn, show (seen s t).hif.attached = true from hattached,
    show (seen s t).hif.ready = true from hready, hactive, hroom, hnext, Bool.and_self, beq_self_eq_true, if_true] using hg

/-- No MSI-X message went out within MOD_US (R319). -/
theorem msiFree {r : Ring} {now : Nat} (h : ∀ x, r.lastMsi = some x → x + 1000 * r.modUs ≤ now) :
    (match r.lastMsi with | none => true | some x => decide (x + us r.modUs ≤ now)) = true := by
  split
  · rfl
  · rename_i x hx
    exact decide_eq_true (by simpa only [us_eq] using h x hx)

theorem gives_msixMessage {s : State} {t n : Nat} (hon : On s) (hdue : (ringOf s.m n).msiDue = true) (hattached : s.m.hif.attached = true)
    (hspaced : ∀ x, (ringOf s.m n).lastMsi = some x → x + 1000 * (ringOf s.m n).modUs ≤ max s.m.clk t) : Gives (.msixMessage t n) s t
      (setRing (seen s t) n { ringOf s.m n with
        msiDue := false, lastMsi := some (max s.m.clk t), modUs := (ringOf s.m n).modUsNew }) := by
  have hg := gives_of_runOn (i := .msixMessage t n) (t := t) hon (Eq.refl (execMsixMessage t n s))
  refine (if_pos ?_).subst (motive := Gives (.msixMessage t n) s t) hg
  rw [show (ringOf (seen s t) n).msiDue = true from hdue, show (seen s t).hif.attached = true from hattached, Bool.true_and, Bool.and_true]
  exact msiFree hspaced

theorem entriesAreWritten : EntriesAreWritten := by
  intro s t n c e r' hon
  refine ⟨fun hc hattached hroom => ⟨?_, ?_, ?_⟩, fun hn hattached hready hactive hroom hnext => ?_, fun hov hreplay x rest hq => ?_,
    fun hdue hattached hspaced => ?_⟩
  · exact gives_completionWrite true hon hc hattached hroom
  · exact makes_of_gives (gives_completionWrite true hon hc hattached hroom) (writeCompletion_compl ..)
  · refine makes_of_gives (gives_completionWrite false hon hc hattached hroom) ⟨?_, ?_, ?_, ?_⟩
    · exact discovery_hif HifBlk.attached (fun _ _ => rfl) ..
    · exact discovery_hif HifBlk.ready (fun _ _ => rfl) ..
    · exact discovery_hif HifBlk.flights (fun _ _ => rfl) ..
    · exact discovery_hif HifBlk.compl (fun _ _ => rfl) ..
  · exact gives_eventDelivery hon hn hattached hready hactive hroom hnext
  · exact ⟨{ ringOf s.m n with queue := rest, before := (ringOf s.m n).before - 1 }, by simp [nextEntry, hov, hreplay, hq], rfl⟩
  · exact gives_msixMessage hon hdue hattached hspaced

/-- Settles O37. -/
theorem completionsAndEvents : Obligations.CompletionsAndEvents := ⟨entriesAreWritten, completionLayout, eventQueuesBounded⟩

end Sys2Proof.Machine
end

section
/-! SUPPORT. The host that comes and goes, rings in and out of service, and doorbells (R315, R316, R332 to R336). -/

open Sys2Proof.Claims

namespace Sys2Proof.Machine

/-! ### What an event leaves of a ring (R331) -/

/-- What an event that joins a queue does not change of a ring, no posted event changes. -/
theorem ringOf_postEvent {γ : Type} (g : Ring → γ) (hg : ∀ r e, g (enqueue r e) = g r) (m : Mod) (e : Event) (k : Nat) :
    g (ringOf (postEvent m e) k) = g (ringOf m k) := by
  refine foldl_field (fun v : Mod => g (ringOf v k)) _ (fun v n => ?_) m eventRings
  dsimp only
  split
  · rw [ringOf_setRing]
    split
    · rename_i hk
      rw [hg, hk]
    · rfl
  · rfl

theorem enqueue_st (r : Ring) (e : Event) : (enqueue r e).st = r.st := by
  unfold enqueue
  split
  · rfl
  · split <;> rfl

theorem enqueue_enable (r : Ring) (e : Event) : (enqueue r e).enable = r.enable := by
  unfold enqueue
  split
  · rfl
  · split <;> rfl

/-! ### Attach, detach, watchdog (R332 to R336) -/

/-- A detach leaves no ring in service. -/
theorem ringOf_detach_st (m : Mod) (flr : Bool) (k : Nat) : (ringOf (detach m flr) k).st = .disabled := by
  simp only [ringOf, detach, tget_tmap]
  cases tget m.hif.rings k with
  | none => rfl
  | some r => cases flr <;> rfl

/-- A ring that the table lists is that ring. -/
theorem ringOf_of_tget {m : Mod} {k : Nat} {r : Ring} (h : tget m.hif.rings k = some r) : ringOf m k = r := by rw [ringOf, h]; rfl

theorem makes_hostAttach {s : State} (t a b : Nat) (hon : On s) (hoff : s.m.hif.attached = false) (hfail : s.m.pwr.st ≠ .fail) :
    Makes (.hostAttach t a b) s (fun m => m.hif.attached = true ∧ m.hif.speed = a ∧ m.hif.width = b ∧ bitOf m.hif.events.toNat 1 = true) := by
  have hg := gives_of_runOn (i := .hostAttach t a b) (t := t) hon (Eq.refl (execHostAttach t a b s))
  rw [show (seen s t).hif.attached = false from hoff, show ((seen s t).pwr.st == .fail) = false from beq_eq_false_iff_ne.2 hfail] at hg
  refine makes_of_gives hg ⟨?_, ?_, ?_, ?_⟩
  · exact discovery_hif HifBlk.attached (fun _ _ => rfl) ..
  · exact discovery_hif HifBlk.speed (fun _ _ => rfl) ..
  · exact discovery_hif HifBlk.width (fun _ _ => rfl) ..
  · exact (discovery_hif (fun h => bitOf h.events.toNat 1) (fun _ _ => rfl) ..).trans (bitOf_setBit32_same _ _ (by decide))

/-- The module once its host has gone, before what a cause does to the link (R334). -/
def hostGone (m : Mod) (c : DetachCause) : Mod := discovery (detach m (c == .functionReset)) 6 0 false

/-- A cause that ends the link leaves no speed or width (R334). -/
def linkGone (m : Mod) (c : DetachCause) : Mod :=
  if c == .linkDown || c == .perst then { hostGone m c with hif := { (hostGone m c).hif with speed := 0, width := 0 } } else hostGone m c

theorem gives_hostDetach {s : State} {t : Nat} (c : DetachCause) (hon : On s) (hattached : s.m.hif.attached = true) :
    Gives (.hostDetach t c) s t (linkGone (seen s t) c) := by
  have hg := gives_of_runOn (i := .hostDetach t c) (t := t) hon (Eq.refl (execHostDetach t c s))
  rwa [show (seen s t).hif.attached = true from hattached] at hg

/-- What neither the rings nor the link's speed and width are part of, a cause does nothing more to. -/
theorem linkGone_hif {γ : Type} (g : HifBlk → γ) (hring : ∀ h r, g { h with rings := r } = g h)
    (hlink : ∀ h : HifBlk, g { h with speed := 0, width := 0 } = g h) (m : Mod) (c : DetachCause) :
    g (linkGone m c).hif = g (detach m (c == .functionReset)).hif := by
  have hgone : g (hostGone m c).hif = g (detach m (c == .functionReset)).hif := discovery_hif g hring ..
  unfold linkGone
  split
  · exact (hlink _).trans hgone
  · exact hgone

theorem linkGone_field {γ : Type} (g : Mod → γ) (hhif : ∀ (m : Mod) h, g { m with hif := h } = g m) (hevent : ∀ m w p b, g (discovery m w p b) = g m)
    (m : Mod) (c : DetachCause) : g (linkGone m c) = g m := by
  have hgone : g (hostGone m c) = g m := (hevent ..).trans (hhif ..)
  unfold linkGone
  split
  · exact (hhif ..).trans hgone
  · exact hgone

theorem linkGone_rings (m : Mod) (c : DetachCause) (k : Nat) : (ringOf (linkGone m c) k).st = .disabled := by
  have hgone : (ringOf (hostGone m c) k).st = .disabled := by
    rw [hostGone, discovery, event, ringOf_postEvent Ring.st enqueue_st]
    exact ringOf_detach_st ..
  unfold linkGone
  split <;> exact hgone

/-- An operation started before the detach and not finished is left to end (R334). -/
theorem detach_orphans {m : Mod} {f : Flight} (flr : Bool) (hf : f ∈ m.hif.flights) (hstarted : f.started = true) (hfinished : f.finished = false) :
    (f.ring, f.index) ∈ (detach m flr).hif.orphans :=
  List.mem_append_right _ (List.mem_map_of_mem (List.mem_filter.mpr ⟨hf, by simp [hstarted, hfinished]⟩))

theorem makes_hostDetach {s : State} (t : Nat) (c : DetachCause) (hon : On s) (hattached : s.m.hif.attached = true) :
    Makes (.hostDetach t c) s (fun m => m.hif.attached = false ∧ m.hif.ready = false ∧ m.hif.flights = [] ∧ m.hif.compl = [] ∧
      bitOf m.hif.events.toNat 0 = true ∧ (∀ n r, tget m.hif.rings n = some r → r.st = .disabled) ∧
      (∀ f ∈ s.m.hif.flights, f.started = true → f.finished = false → (f.ring, f.index) ∈ m.hif.orphans) ∧
      (m.pge = s.m.pge ∧ m.lpe = s.m.lpe ∧ m.pln = s.m.pln ∧ m.fio = s.m.fio)) := by
  refine makes_of_gives (gives_hostDetach c hon hattached) ⟨?_, ?_, ?_, ?_, ?_, fun n r hr => ?_, fun f hf hstarted hfinished => ?_, ?_, ?_, ?_, ?_⟩
  · exact linkGone_hif HifBlk.attached (fun _ _ => rfl) (fun _ => rfl) ..
  · exact linkGone_hif HifBlk.ready (fun _ _ => rfl) (fun _ => rfl) ..
  · exact linkGone_hif HifBlk.flights (fun _ _ => rfl) (fun _ => rfl) ..
  · exact linkGone_hif HifBlk.compl (fun _ _ => rfl) (fun _ => rfl) ..
  · exact (linkGone_hif (fun h => bitOf h.events.toNat 0) (fun _ _ => rfl) (fun _ => rfl) ..).trans (bitOf_setBit32_same _ _ (by decide))
  · rw [← ringOf_of_tget (m := linkGone (seen s t) c) hr]
    exact linkGone_rings ..
  · have horphans := linkGone_hif HifBlk.orphans (fun _ _ => rfl) (fun _ => rfl) (seen s t) c
    exact horphans ▸ detach_orphans (m := seen s t) _ hf hstarted hfinished
  · exact linkGone_field Mod.pge (fun _ _ => rfl) discovery_pge ..
  · exact linkGone_field Mod.lpe (fun _ _ => rfl) discovery_lpe ..
  · exact linkGone_field Mod.pln (fun _ _ => rfl) discovery_pln ..
  · exact linkGone_field Mod.fio (fun _ _ => rfl) discovery_fio ..

/-- A replay of the units of module `m` waits behind the queue of a ring, where its mask asks for one (R335). -/
structure Replays (m : Mod) (r : Ring) : Prop where
  replaying : r.replaying = true
  before : r.before = r.queue.length
  units : r.replay = if bitOf r.mask.toNat 1 then subtree m 0 else []

/-- A ring with the replay begun, if it is in service (R335). -/
def replayOn (m : Mod) (n : Nat) : Mod :=
  let r := ringOf m n
  if r.st == .active then
    setRing m n { r with
      replaying := true, before := r.queue.length, replayed := 0
      replay := if bitOf r.mask.toNat 1 then subtree m 0 else [] }
  else m

theorem replayOn_sig (m : Mod) (n : Nat) : (replayOn m n).sig = m.sig := by
  unfold replayOn
  dsimp only
  split <;> rfl

/-- What a replay does not change of a ring. -/
theorem ringOf_replayOn {γ : Type} (g : Ring → γ) (hg : ∀ (r : Ring) p b n l, g { r with replaying := p, before := b, replayed := n, replay := l } = g r)
    (m : Mod) (n k : Nat) : g (ringOf (replayOn m n) k) = g (ringOf m k) := by
  unfold replayOn
  dsimp only
  split
  · rw [ringOf_setRing]
    split
    · rename_i hk
      rw [hk]
      exact hg ..
    · rfl
  · rfl

/-- Every ring in service among those named replays in the end. -/
theorem foldl_replayOn (l : List Nat) (m v : Mod) {n : Nat} (hsig : v.sig = m.sig) (hactive : (ringOf v n).st = .active)
    (h : n ∈ l ∨ Replays m (ringOf v n)) : Replays m (ringOf (l.foldl replayOn v) n) := by
  induction l generalizing v with
  | nil => simpa using h
  | cons k l ih =>
    refine ih (replayOn v k) ((replayOn_sig v k).trans hsig) ((ringOf_replayOn Ring.st (fun _ _ _ _ _ => rfl) v k n).trans hactive) ?_
    by_cases hk : n = k
    · subst hk
      right
      simp only [replayOn, hactive, beq_self_eq_true, if_true, ringOf_setRing_same, subtree_of_sig hsig]
      exact ⟨rfl, rfl, rfl⟩
    · have hother : ringOf (replayOn v k) n = ringOf v n := by
        simp only [replayOn]
        split
        · rw [ringOf_setRing, if_neg hk]
        · rfl
      rw [hother]
      exact h.imp (fun hmem => (List.mem_cons.mp hmem).resolve_left hk) id

/-- A register that boot recovery does not hold gives what it does to the module it finds (R446). -/
theorem gives_of_runReg_open {i : Instr} {s : State} {t off : Nat} {v : W32} {chg : Mod → Bool} {f : Mod → Mod} (hon : On s)
    (hheld : regHeld s.m off = false) (hsoft : s.m.gen.softLock = false) (hi : exec i s = s.runReg t off v chg f) : Gives i s t (f (seen s t)) := by
  have hg := gives_of_runOn hon hi
  rwa [regGate, show regHeld (seen s t) off = false from hheld, show (seen s t).gen.softLock = false from hsoft] at hg

/-- A W1C register that boot recovery does not hold gives what it does to the module it finds (R446, R502). -/
theorem gives_of_runW1c_open {i : Instr} {s : State} {t off : Nat} {f : Mod → Mod} (hon : On s) (hheld : regHeld s.m off = false)
    (hi : exec i s = s.runW1c t off f) : Gives i s t (f (seen s t)) := by
  have hg := gives_of_runOn hon (hi.trans rfl)
  rwa [show regHeld (seen s t) off = false from hheld] at hg

/-- A host that is ready is told of the units on each event ring in service, behind what is queued (R335). -/
theorem hostReadyOn_spec {m : Mod} (hready : m.hif.ready = false) : (hostReadyOn m).hif.ready = true ∧ ∀ n ∈ eventRings, (ringOf m n).st = .active →
    (ringOf (hostReadyOn m) n).replaying = true ∧ (ringOf (hostReadyOn m) n).before = (ringOf m n).queue.length ∧
    (ringOf (hostReadyOn m) n).replay = if bitOf (ringOf m n).mask.toNat 1 then subtree m 0 else [] := by
  have hon : hostReadyOn m = eventRings.foldl replayOn { m with hif := { m.hif with ready := true } } := by
    rw [hostReadyOn, if_neg (by simp [hready])]
    rfl
  rw [hon]
  generalize hv : { m with hif := { m.hif with ready := true } } = v
  have hring : ∀ n, ringOf v n = ringOf m n := by subst hv; exact fun _ => rfl
  have hsig : v.sig = m.sig := by subst hv; rfl
  refine ⟨?_, fun n hn hactive => ?_⟩
  · have hkept : (eventRings.foldl replayOn v).hif.ready = v.hif.ready := foldl_field (fun v : Mod => v.hif.ready) replayOn (fun v n => by
      simp only [replayOn]
      split <;> rfl) v eventRings
    rw [hkept, ← hv]
  · have hkept : ∀ {γ : Type} (g : Ring → γ), (∀ (r : Ring) p b n l, g { r with replaying := p, before := b, replayed := n, replay := l } = g r) →
        g (ringOf (eventRings.foldl replayOn v) n) = g (ringOf m n) := fun g hg =>
      (foldl_field (fun v : Mod => g (ringOf v n)) replayOn (fun v k => ringOf_replayOn g hg v k n) v eventRings).trans (congrArg g (hring n))
    obtain ⟨hreplaying, hbefore, hunits⟩ := foldl_replayOn eventRings m v hsig ((congrArg Ring.st (hring n)).trans hactive) (.inl hn)
    rw [hkept Ring.queue (fun _ _ _ _ _ => rfl)] at hbefore
    rw [hkept Ring.mask (fun _ _ _ _ _ => rfl)] at hunits
    exact ⟨hreplaying, hbefore, hunits⟩

theorem mem_eventRings {n : Nat} (hlow : 32 ≤ n) (hhigh : n ≤ 47) : n ∈ eventRings := by
  simp only [eventRings, span, List.mem_map, List.mem_range]
  exact ⟨n - 32, by omega, by omega⟩

theorem makes_hostReadySet {s : State} {t : Nat} (hon : On s) (hboot : bootHeld s.m = false) (hsoft : s.m.gen.softLock = false)
    (hattached : s.m.hif.attached = true) (hready : s.m.hif.ready = false) :
    Makes (.hostReadySet t) s (fun m => m.hif.ready = true ∧ ∀ n, 32 ≤ n → n ≤ 47 → (ringOf s.m n).st = .active →
      (ringOf m n).replaying = true ∧ (ringOf m n).before = (ringOf s.m n).queue.length ∧
      (ringOf m n).replay = if bitOf (ringOf s.m n).mask.toNat 1 then subtree s.m 0 else []) := by
  have hg := gives_of_runReg (i := .hostReadySet t) (t := t) hon hboot hsoft (Eq.refl (execHostReadySet t s))
  rw [show (seen s t).hif.attached = true from hattached, if_pos rfl] at hg
  obtain ⟨hset, hrings⟩ := hostReadyOn_spec (m := seen s t) hready
  rw [subtree_of_sig (show (seen s t).sig = s.m.sig from rfl)] at hrings
  exact makes_of_gives hg ⟨hset, fun n hlow hhigh hactive => hrings n (mem_eventRings hlow hhigh) hactive⟩

theorem hostReadyOff_rings (m : Mod) (n : Nat) : tget (hostReadyOff m).hif.rings n =
    (tget m.hif.rings n).map (fun r => { r with replaying := false, replay := [], before := 0 }) := by
  rw [hostReadyOff, tget_tmap]

theorem makes_hostReadyClear {s : State} (t : Nat) (hon : On s) (hsoft : s.m.gen.softLock = false) :
    Makes (.hostReadyClear t) s (fun m => m.hif.ready = false ∧
      (∀ n r, tget s.m.hif.rings n = some r → ∃ x, tget m.hif.rings n = some x ∧ x.queue = r.queue ∧ x.replaying = false)) := by
  have hg := gives_of_runReg_open (i := .hostReadyClear t) (t := t) hon (by simp [regHeld]) hsoft (Eq.refl (execHostReadyClear t s))
  refine makes_of_gives hg ⟨rfl, fun n r hr => ⟨{ r with replaying := false, replay := [], before := 0 }, ?_, rfl, rfl⟩⟩
  exact (hostReadyOff_rings (seen s t) n).trans (congrArg _ hr)

theorem hostAttachment : HostAttachment := by
  intro s t a b c hon
  refine ⟨makes_hostAttach t a b hon, makes_hostDetach t c hon, makes_hostReadySet hon, makes_hostReadyClear t hon, ?_, fun hattached hset hlate => ?_⟩
  · exact makes_of_gives (gives_of_runW1c_open (i := .hostWdKick t) (t := t) hon (by simp [regHeld]) (Eq.refl (execHostWdKick t s))) rfl
  · have hg := gives_of_runOn (i := .hostWdExpiry t) (t := t) hon (Eq.refl (execHostWdExpiry t s))
    have hdue : ((seen s t).hif.attached && (seen s t).hif.wdMs != 0 && decide ((seen s t).hif.wdAt + ms (seen s t).hif.wdMs ≤ (seen s t).clk)) = true := by
      rw [ms_eq, show (seen s t).hif.attached = true from hattached, Bool.true_and, Bool.and_eq_true]
      exact ⟨bne_iff_ne.2 hset, decide_eq_true hlate⟩
    rw [if_pos hdue] at hg
    refine makes_of_gives hg ⟨?_, ?_⟩
    · exact discovery_hif HifBlk.attached (fun _ _ => rfl) ..
    · exact (discovery_hif (fun h => bitOf h.events.toNat 4) (fun _ _ => rfl) ..).trans (bitOf_setBit32_same _ _ (by decide))

/-! ### Rings in and out of service (R316) -/

@[simp] theorem ringOf_regRefuse (m : Mod) (st : Status) (off : Nat) (v : W32) (k : Nat) : ringOf (regRefuse m st off v) k = ringOf m k := by
  rw [ringOf, regRefuse_rings, ringOf]

/-- A ring taken out of service is DISABLED at once with nothing in flight, and otherwise drains (R316). -/
theorem settle_draining {m : Mod} {n : Nat} (h : (ringOf m n).st = .draining) :
    (ringOf (settle m n) n).enable = (ringOf m n).enable ∧ (ringOf (settle m n) n).st = if flightsOf m n = 0 then .disabled else .draining := by
  unfold settle
  by_cases hidle : flightsOf m n = 0 <;> simp [h, hidle]

@[simp] theorem ringOf_noteRefused (m : Mod) (test obj kind k : Nat) : ringOf (noteRefused m test obj kind) k = ringOf m k := rfl

/-- A C1 ring is ACTIVE or DISABLED as its rate is judged (R316). -/
def ringJudged (m : Mod) (n : Nat) : Mod :=
  if rateAdmitted m then setRing m.tick n (ringOf m n).activate
  else regRefuse (noteRefused (setRing m.tick n { ringOf m n with st := .disabled, enable := false }) 10 n 0) .notAdmitted (ringCtrlOff n) 1

theorem ringOf_ringJudged (m : Mod) (n : Nat) : (ringOf (ringJudged m n) n).st = (if rateAdmitted m then .active else .disabled) ∧
    (ringOf (ringJudged m n) n).enable = rateAdmitted m := by
  unfold ringJudged
  cases rateAdmitted m
  · simp only [Bool.false_eq_true, if_false, ringOf_regRefuse, ringOf_noteRefused, ringOf_setRing_same, and_self]
  · simp only [if_true, ringOf_setRing_same]
    exact ⟨rfl, rfl⟩

theorem ringsInService : RingsInService := by
  intro s t n hon hn hheld hsoft
  have henable := gives_of_runReg_open (i := .ringEnable t n) (t := t) (off := ringCtrlOff n) hon hheld hsoft (Eq.refl (execRingEnable t n s))
  have hdisable := gives_of_runReg_open (i := .ringDisable t n) (t := t) (off := ringCtrlOff n) hon hheld hsoft (Eq.refl (execRingDisable t n s))
  rw [if_pos hn] at henable hdisable
  rw [ringOn, show (ringOf (seen s t) n) = ringOf s.m n from rfl, show enableOk (seen s t) n = enableOk s.m n from rfl,
    show isC1Ring (seen s t) n = isC1Ring s.m n from rfl] at henable
  rw [ringOff, show (ringOf (seen s t) n) = ringOf s.m n from rfl, show cringInUse (seen s t) n = cringInUse s.m n from rfl] at hdisable
  refine ⟨fun hoff hok hc1 => ?_, fun hoff hok hc1 => ?_, fun hoff hok => ?_, fun hpending => ?_, fun hset hactive hfree => ?_, fun hset hcompl huse => ?_⟩
  · simp only [hoff, hok, hc1, Bool.false_eq_true, if_false, if_true] at henable
    refine makes_of_gives henable ?_
    have hring := ringOf_setRing_same (seen s t) n (ringOf s.m n).activate
    exact ⟨congrArg Ring.st hring, congrArg Ring.index hring, congrArg Ring.doorbell hring, congrArg Ring.enable hring⟩
  · simp only [hoff, hok, hc1, Bool.false_eq_true, if_false, if_true] at henable
    exact makes_of_gives henable (congrArg Ring.st (ringOf_setRing_same (seen s t) n _))
  · simp only [hoff, hok, Bool.false_eq_true, if_false] at henable
    exact henable
  · have hg := gives_of_runOn (i := .ringAdmissionDone t n) (t := t) hon (Eq.refl (execRingAdmissionDone t n s))
    simp only [show (ringOf (seen s t) n).st = .pending from hpending, bne_self_eq_false, Bool.false_eq_true, if_false] at hg
    exact makes_of_gives hg (ringOf_ringJudged (seen s t) n)
  · simp only [hset, hfree, Bool.not_true, Bool.false_eq_true, if_false, hactive] at hdisable
    have hdrain := settle_draining (m := setRing (seen s t) n { ringOf s.m n with enable := false, st := .draining })
      (congrArg Ring.st (ringOf_setRing_same ..))
    rw [ringOf_setRing_same] at hdrain
    exact makes_of_gives hdisable hdrain
  · simp only [hset, hcompl, huse, Bool.not_true, Bool.false_eq_true, if_false, Bool.and_self, if_true] at hdisable
    exact hdisable

/-! ### Doorbells (R315) -/

/-- A doorbell of a ring that is ACTIVE is taken, or leaves the ring in ERROR (R315). -/
theorem doorbell_active {m : Mod} {n : Nat} (v : W32) (consumer : Bool) (h : (ringOf m n).st = .active) : doorbell m n v consumer =
    if bellOk (ringOf m n) consumer v then setRing m n { ringOf m n with doorbell := v.truncate 16 }
    else
      let w := setRing m n { ringOf m n with st := .error }
      { w with hif := { w.hif with events := setBit32 w.hif.events 2 } } := by
  simp [doorbell, h]

/-- A refused doorbell of an ACTIVE ring. -/
theorem doorbell_refused {m : Mod} {n : Nat} {v : W32} {consumer : Bool} (h : (ringOf m n).st = .active)
    (hbad : bellOk (ringOf m n) consumer v = false) : (ringOf (doorbell m n v consumer) n).st = .error ∧
    (ringOf (doorbell m n v consumer) n).doorbell = (ringOf m n).doorbell ∧ bitOf (doorbell m n v consumer).hif.events.toNat 2 = true := by
  rw [doorbell_active v consumer h, hbad, if_neg Bool.false_ne_true]
  have hring := ringOf_setRing_same m n { ringOf m n with st := .error }
  exact ⟨(congrArg Ring.st hring :), (congrArg Ring.doorbell hring :), bitOf_setBit32_same _ _ (by decide)⟩

theorem gives_doorbellSubmit {s : State} {t n : Nat} (v : W32) (hon : On s) (hn : isSubmission n = true) :
    Gives (.doorbellSubmit t n v) s t (doorbell (seen s t) n v false) := by
  have hg := gives_of_runOn (i := .doorbellSubmit t n v) (t := t) hon (Eq.refl (execDoorbellSubmit t n v s))
  rwa [if_pos hn] at hg

theorem gives_doorbellConsume {s : State} {t n : Nat} (v : W32) (hon : On s) (hn : (isCompletion n || isEvent n) = true) :
    Gives (.doorbellConsume t n v) s t (doorbell (seen s t) n v true) := by
  have hg := gives_of_runOn (i := .doorbellConsume t n v) (t := t) hon (Eq.refl (execDoorbellConsume t n v s))
  rwa [if_pos hn] at hg

theorem doorbells : Doorbells := by
  intro s t n v hon
  refine ⟨fun hn hidle => ?_, fun hn hactive hok => ?_, fun hn hactive hbad => ?_, fun hn hactive hok => ?_, fun hn hactive hbad => ?_⟩
  · have hg := gives_doorbellSubmit (t := t) v hon hn
    rwa [doorbell, if_pos (by rcases hidle with h | h <;> simp [show (ringOf (seen s t) n).st = _ from h])] at hg
  · have hg := gives_doorbellSubmit (t := t) v hon hn
    rwa [doorbell_active (m := seen s t) v false hactive, if_pos (show bellOk (ringOf (seen s t) n) false v = true from hok)] at hg
  · exact makes_of_gives (gives_doorbellSubmit v hon hn) (doorbell_refused (m := seen s t) hactive hbad)
  · have hg := gives_doorbellConsume (t := t) v hon hn
    rwa [doorbell_active (m := seen s t) v true hactive, if_pos (show bellOk (ringOf (seen s t) n) true v = true from hok)] at hg
  · obtain ⟨hst, -, hevent⟩ := doorbell_refused (m := seen s t) (n := n) (v := v) (consumer := true) hactive hbad
    exact makes_of_gives (gives_doorbellConsume v hon hn) ⟨hst, hevent⟩

/-- Settles O35. -/
theorem hostRings : Obligations.HostRings := ⟨hostAttachment, ringsInService, doorbells⟩

end Sys2Proof.Machine
end

section
/-! SUPPORT. What entry to FAIL (R305) and the F3 reaction (R398) do to the outputs, the pairs, the tasks and the rest, and the loss of supply that
leads to FAIL (R305 to R307, R487). -/

open Sys2Proof.Claims

namespace Sys2Proof.Machine

/-! ### The steps both reactions take -/

/-- A bit of the switches that are closed, after one of them has opened (R174). -/
theorem openSwitch_closed (m : Mod) (b i : Nat) : (openSwitch m b).fio.closed.getLsbD i = (m.fio.closed.getLsbD i && decide (i ≠ b)) := by
  unfold openSwitch
  split
  · rename_i hb
    simp only [setBit8, Bool.false_eq_true, if_false, BitVec.getLsbD_and, BitVec.getLsbD_not, BitVec.getLsbD_ofNat, Nat.testBit_two_pow]
    by_cases hi : i < 8
    · simp [hi, eq_comm]
    · simp [BitVec.getLsbD_of_ge _ _ (Nat.not_lt.mp hi)]
  · rename_i hb
    by_cases hi : i = b
    · subst hi
      simpa [bitOf, BitVec.testBit_toNat] using hb
    · simp [hi]

/-- With every switch open, none is closed. -/
@[simp] theorem openAll_closed (m : Mod) : (openAll m).fio.closed = 0 := by
  have hfold : ∀ (l : List Nat) (v : Mod) (i : Nat), (l.foldl openSwitch v).fio.closed.getLsbD i = (v.fio.closed.getLsbD i && decide (i ∉ l)) := by
    intro l
    induction l with
    | nil => simp
    | cons b l ih =>
      intro v i
      rw [List.foldl_cons, ih, openSwitch_closed]
      by_cases hib : i = b <;> simp [hib]
  refine BitVec.eq_of_getLsbD_eq fun i hi => ?_
  rw [openAll, hfold]
  simp [hi]

/-- Once every instance is aborted no task has one in progress. -/
theorem abortAll_idle (m : Mod) {k : Nat} {x : Task} (h : taskAt (abortAll m) k = some x) : x.busy = false := by
  simp only [taskAt, abortAll, tget_tmap, Option.map_eq_some_iff] at h
  obtain ⟨v, -, rfl⟩ := h
  split
  · rfl
  · rename_i hbusy
    simpa using hbusy

/-- ALIVE stands still once it has stopped (R400). -/
@[simp] theorem stopAlive_alive (m : Mod) : (stopAlive m).flt.alive = false := by
  unfold stopAlive
  split
  · rfl
  · rename_i halive
    simpa using halive

/-! ### Entry to FAIL (R305) -/

theorem enterFail_tri (m : Mod) (c : FailCause) : (enterFail m c).tri = { m.tri with t1 := false, t2 := false } := by simp [enterFail]
theorem enterFail_pge (m : Mod) (c : FailCause) : (enterFail m c).pge = (abortAll m).pge := by simp [enterFail, abortAll]
theorem enterFail_fio (m : Mod) (c : FailCause) : (enterFail m c).fio = (openAll (allSafe m)).fio := by simp [enterFail]
theorem enterFail_sec (m : Mod) (c : FailCause) : (enterFail m c).sec = (closeDebug m).sec := by simp [enterFail, closeDebug]
theorem enterFail_adm (m : Mod) (c : FailCause) : (enterFail m c).adm = { m.adm with grants := [], waiting := [], head1 := none, head2 := none } := by
  simp [enterFail]

/-- Of the non-volatile memory a flush changes the archives alone (R416). -/
theorem flushBuffered_nv {γ : Type} (g : NvBlk → γ) (hg : ∀ (v : NvBlk) a b, g { v with archive2 := a, archive3 := b } = g v) (m : Mod) :
    g (flushBuffered m).nv = g m.nv := by
  have htier : ∀ (m : Mod) (n : Nat), g (flushTier m n).nv = g m.nv := fun m n => by
    simp only [flushTier, setTier_nv, tick_nv]
    split
    · exact hg m.nv _ m.nv.archive3
    · exact hg m.nv m.nv.archive2 _
  unfold flushBuffered
  dsimp only
  split_ifs <;> simp only [htier]

/-- Of the non-volatile memory entry to FAIL changes its record, the remainders of degraded mode and the archives (R229, R305). -/
theorem enterFail_nv {γ : Type} (g : NvBlk → γ) (hfail : ∀ (v : NvBlk) c t w, g { v with failCause := c, failTime := t, failWrap := w } = g v)
    (hdeg : ∀ (v : NvBlk) l b, g { v with degLeft := l, degSaved := b } = g v)
    (hflush : ∀ (v : NvBlk) a b, g { v with archive2 := a, archive3 := b } = g v) (m : Mod) (c : FailCause) : g (enterFail m c).nv = g m.nv := by
  simp only [enterFail, hfail, stopPairs_nv, flushBuffered_nv g hflush, saveDegraded, hdeg, closeDebug_nv, stopAlive_nv, abortAll_nv, openAll_nv,
    allSafe_nv]

theorem failMakesSafe : FailMakesSafe := by
  intro m c
  refine ⟨by simp, by simp, by simp [enterFail_fio], by simp [enterFail_adm], by simp [enterFail_adm], by simp [enterFail_sec, closeDebug],
    by simp [enterFail], fun p hp => pairOf_stopPairs _ .down hp, fun k x hx => abortAll_idle m (by rwa [taskAt, enterFail_pge] at hx), rfl, ?_, ?_⟩
  · exact enterFail_nv NvBlk.capture (fun _ _ _ _ => rfl) (fun _ _ _ => rfl) (fun _ _ _ => rfl) m c
  · exact enterFail_nv NvBlk.store (fun _ _ _ _ => rfl) (fun _ _ _ => rfl) (fun _ _ _ => rfl) m c

/-! ### Loss of supply (R305, R307, R487) -/

theorem dipLen_eq (uj : Nat) : dipLen uj = min 10000000 ((uj - 600000) * 50) := by rw [dipLen, ms_eq]

/-- A fall of the supply starts the dip timer, and enters FAIL at once where the store holds too little (R487). -/
theorem gives_supplyDip {s : State} {t mv : Nat} (uj : Nat) (hon : On s) (hmv : mv < 16000) (hfail : s.m.pwr.st ≠ .fail) (hdip : s.m.pwr.dip = none) :
    Gives (.supplyDip t mv uj) s t
      (let m := { seen s t with gen := { s.m.gen with supplyMv := mv }, pwr := { (seen s t).pwr with storeUj := uj, dip := some (max s.m.clk t) } }
       if uj ≤ 600000 then enterFail m .supply else m) := by
  have hg := gives_of_runOn (i := .supplyDip t mv uj) (t := t) hon (Eq.refl (execSupplyDip t mv uj s))
  refine (if_pos ?_).subst (motive := Gives (.supplyDip t mv uj) s t) hg
  rw [show (seen s t).pwr.st = s.m.pwr.st from rfl, show (seen s t).pwr.dip = none from hdip, Bool.and_eq_true, Bool.and_eq_true]
  exact ⟨⟨decide_eq_true hmv, bne_iff_ne.2 hfail⟩, rfl⟩

theorem gives_flushComplete {s : State} {t : Nat} (hfail : s.m.pwr.st = .fail) : Gives (.flushComplete t) s t (flushDone (seen s t)) := by
  have hg := gives_of_runOn (i := .flushComplete t) (t := t) (show On s by simp [On, hfail]) (Eq.refl (execFlushComplete t s))
  rwa [show (seen s t).pwr.st = .fail from hfail] at hg

/-- The flush is done with no host attached (R305). -/
theorem flushDone_attached (m : Mod) : (flushDone m).hif.attached = false := by
  unfold flushDone
  dsimp only
  split
  · rfl
  · rename_i h
    simpa using h

theorem flushDone_pwr (m : Mod) : (flushDone m).pwr = { m.pwr with st := .off, charging := none, needRemoval := m.pwr.failCause == .shutdown } := by
  unfold flushDone
  dsimp only
  split <;> rfl

theorem supplyFailure : SupplyFailure := by
  intro s t mv uj q hon
  refine ⟨fun hmv hfail hdip huj => ?_, fun hmv hfail hdip huj => ?_, fun l hl hmv hearly => ?_, fun l hl hlate => ?_, fun hfail => ?_, fun hs => ?_⟩
  · have hg := gives_supplyDip (t := t) uj hon hmv hfail hdip
    rwa [if_neg (Nat.not_le.mpr huj)] at hg
  · have hg := gives_supplyDip (t := t) uj hon hmv hfail hdip
    rw [if_pos huj] at hg
    exact makes_of_gives hg ⟨rfl, rfl, rfl⟩
  · have hg := gives_of_runOn (i := .dipEnd t mv uj) (t := t) hon (Eq.refl (execDipEnd t mv uj s))
    dsimp only at hg
    rw [show (seen s t).pwr.dip = some l from hl] at hg
    refine (if_pos ?_).subst (motive := Gives (.dipEnd t mv uj) s t) hg
    rw [dipLen_eq, Bool.and_eq_true]
    exact ⟨decide_eq_true hmv, decide_eq_true hearly⟩
  · have hg := gives_of_runOn (i := .dipTimerExpiry t) (t := t) hon (Eq.refl (execDipTimerExpiry t s))
    rw [show (seen s t).pwr.dip = some l from hl] at hg
    simp only [dipLen_eq, if_pos (show l + min 10000000 (((seen s t).pwr.storeUj - 600000) * 50) ≤ (seen s t).clk from hlate)] at hg
    exact makes_of_gives hg ⟨rfl, rfl, rfl, rfl⟩
  · exact makes_of_gives (gives_flushComplete hfail)
      ⟨congrArg PwrBlk.st (flushDone_pwr _), flushDone_attached _, rfl, rfl, congrArg PwrBlk.needRemoval (flushDone_pwr _)⟩
  · exact makes_of_gives (gives_of_runCmd (i := .powerShutdown t q) hs (Eq.refl (execPowerShutdown t q s))) ⟨rfl, rfl, rfl⟩

/-- Settles O13. -/
theorem powerFailure : Obligations.PowerFailure := ⟨supplyFailure, failMakesSafe⟩

end Sys2Proof.Machine
end

section
/-! SUPPORT. The fault collector: what a report does (R388 to R395, R398), and how faults are acknowledged, cleared and escalated (R257, R393,
R395 to R397, R400, R401). -/

open Sys2Proof.Claims

namespace Sys2Proof.Machine

/-! ### The collector (R390, R391, R393 to R395) -/

/-- A capture stands once a fault of class F2 or F3 is collected, and what stood takes the fault in (R393, R394). -/
def captured (m : Mod) (f : FaultInfo) : Option Capture :=
  match m.nv.capture with
  | some c => some (mergeInto c f.cls)
  | none => if 2 ≤ f.cls then some (openCapture m f) else none

theorem collect_capture (m : Mod) (f : FaultInfo) :
    (collect m f).nv.capture = (captured m f).map (fun c => { c with acked := m.flt.awaiting.isEmpty && f.cls != 2 }) := by
  rw [collect, event_nv]
  simp only [captured]
  cases m.nv.capture with
  | none => by_cases h : 2 ≤ f.cls <;> simp [h]
  | some c => rfl

theorem collect_counts (m : Mod) (f : FaultInfo) : (collect m f).flt.counts = lmod m.flt.counts f.cls satInc16 := by rw [collect, event_flt]

theorem collect_awaiting (m : Mod) (f : FaultInfo) : (collect m f).flt.awaiting =
    if f.cls = 2 then m.flt.awaiting ++ [{ src := f.src, addr := f.addr, contained := containedAtOnce f }] else m.flt.awaiting := by
  rw [collect, event_flt]

theorem collect_f3 (m : Mod) (f : FaultInfo) : (collect m f).flt.f3 = m.flt.f3 := by rw [collect, event_flt]

theorem collect_jib (m : Mod) (f : FaultInfo) : (collect m f).flt.jib =
    if f.cls = 2 && m.flt.awaiting.isEmpty && !m.flt.f3 then some (ms m.flt.jibMs, m.clk) else m.flt.jib := by rw [collect, event_flt]

/-! ### The F3 reaction (R398) -/

/-- Of the collector's own state the F3 reaction settles F3_TAKEN, FLT_EVENTS, the timer and ALIVE (R398, R400). -/
theorem f3Reaction_flt {γ : Type} (g : FltBlk → γ)
    (hg : ∀ (v : FltBlk) f e j a l x o, g { v with f3 := f, events := e, jib := j, alive := a, aliveLevel := l, aliveAt := x, okContact := o } = g v)
    (m : Mod) : g (f3Reaction m).flt = g m.flt := by
  have hset : ∀ (m : Mod) b, g (setAlive m b).flt = g m.flt := fun m b => by
    unfold setAlive
    dsimp only
    split
    · rfl
    · exact hg m.flt m.flt.f3 m.flt.events m.flt.jib m.flt.alive _ _ _
  have hstop : ∀ m : Mod, g (stopAlive m).flt = g m.flt := fun m => by
    unfold stopAlive
    dsimp only
    split
    · exact (hg (setAlive m false).flt (setAlive m false).flt.f3 _ (setAlive m false).flt.jib _ (setAlive m false).flt.aliveLevel
        (setAlive m false).flt.aliveAt (setAlive m false).flt.okContact).trans (hset ..)
    · rfl
  unfold f3Reaction
  split
  · rfl
  · rw [hstop, faultFlush_flt, stopPairs_flt, abortAll_flt, openAll_flt, allSafe_flt]
    exact hg m.flt _ _ _ m.flt.alive m.flt.aliveLevel m.flt.aliveAt m.flt.okContact

/-- F3_TAKEN noted, in the collector and in the capture (R398). -/
def f3Noted (m : Mod) : Mod :=
  { m with
    flt := { m.flt with f3 := true, events := setBit32 m.flt.events 3, jib := none }
    nv := { m.nv with capture := m.nv.capture.map (fun c => { c with f3Taken := true, level := 3 }) } }

/-- What the reaction then does: the outputs safe, the instances aborted, the pairs down and ALIVE still (R398). -/
def stoppedByF3 (m : Mod) : Mod := stopAlive (faultFlush (stopPairs (abortAll (openAll (allSafe m))) .down))

theorem f3Reaction_eq {m : Mod} (h : m.flt.f3 = false) : f3Reaction m = stoppedByF3 (f3Noted m) := by
  rw [f3Reaction, if_neg (by simp [h])]
  rfl

theorem stoppedByF3_nv (m : Mod) : (stoppedByF3 m).nv = m.nv := by simp [stoppedByF3]

theorem stoppedByF3_pge (m : Mod) : (stoppedByF3 m).pge = (abortAll m).pge := by simp [stoppedByF3, abortAll]

/-- The outputs are safe, the pairs down, the instances aborted and ALIVE still (R398). -/
structure MadeSafe (m : Mod) : Prop where
  closed : m.fio.closed = 0
  alive : m.flt.alive = false
  pairs : ∀ p, p < 6 → (pairOf m p).st = .down
  tasks : ∀ k x, taskAt m k = some x → x.busy = false

theorem madeSafe_stoppedByF3 (m : Mod) : MadeSafe (stoppedByF3 m) where
  closed := by simp [stoppedByF3]
  alive := stopAlive_alive _
  pairs p hp := by
    rw [stoppedByF3, pairOf_of_lks (stopAlive_lks _), pairOf_of_lks (faultFlush_lks _)]
    exact pairOf_stopPairs _ .down hp
  tasks k x hx := abortAll_idle m ((taskAt_of_pge (stoppedByF3_pge m) k).symm.trans hx)

/-- The F3 reaction where none was taken before (R398). -/
theorem f3Reaction_madeSafe {m : Mod} (h : m.flt.f3 = false) : MadeSafe (f3Reaction m) ∧ (f3Reaction m).flt.jib = none := by
  rw [f3Reaction_eq h]
  exact ⟨madeSafe_stoppedByF3 _, by simp [stoppedByF3, f3Noted]⟩

theorem f3Reaction_f3 (m : Mod) : (f3Reaction m).flt.f3 = true := by
  unfold f3Reaction
  split
  · assumption
  · simp

theorem f3Reaction_taken {m : Mod} (h : m.flt.f3 = true) : f3Reaction m = m := by rw [f3Reaction, if_pos h]

theorem f3Reaction_capture {m : Mod} (h : m.flt.f3 = false) :
    (f3Reaction m).nv.capture = m.nv.capture.map (fun c => { c with f3Taken := true, level := 3 }) := by
  rw [f3Reaction_eq h, stoppedByF3_nv]
  rfl

theorem f3Reaction_regions (m : Mod) : (f3Reaction m).nv.regions = m.nv.regions := by
  by_cases h : m.flt.f3 = true
  · rw [f3Reaction_taken h]
  · rw [f3Reaction_eq (by simpa using h), stoppedByF3_nv]
    rfl

/-- A task without an instance in progress stays as it is: the reaction has nothing of it to abort. -/
theorem f3Reaction_taskAt_of_idle {m : Mod} {k : Nat} {x : Task} (h : taskAt m k = some x) (hidle : x.busy = false) : taskAt (f3Reaction m) k = some x := by
  by_cases hf3 : m.flt.f3 = true
  · rwa [f3Reaction_taken hf3]
  · rw [f3Reaction_eq (by simpa using hf3), taskAt_of_pge (stoppedByF3_pge _) k]
    have hnoted : tget (f3Noted m).pge.tasks k = some x := h
    simp [taskAt, abortAll, hnoted, hidle]

/-! ### A report (R390, R398) -/

theorem anyTrial_of_regions {m m' : Mod} (h : m'.nv.regions = m.nv.regions) : anyTrial m' = anyTrial m := by
  simp only [anyTrial, h]

/-- Where no update is on trial a report is collected and an F3 reacted to. -/
theorem reportFault_of_no_trial {m : Mod} (f : FaultInfo) (h : anyTrial m = false) :
    reportFault m f = if f.cls = 3 then f3Reaction (collect m f) else collect m f := by
  have hafter : anyTrial (if f.cls = 3 then f3Reaction (collect m f) else collect m f) = false := by
    rw [← h]
    refine anyTrial_of_regions ?_
    split
    · rw [f3Reaction_regions, collect_regions]
    · rw [collect_regions]
  rw [reportFault]
  split
  · exact fallBackAll_of_no_trial hafter
  · rfl

/-- A report of another source than the bus halts no task (R261). -/
theorem haltIssuers_of_other {m : Mod} {f : FaultInfo} (h7 : f.src ≠ 0x07) (h8 : f.src ≠ 0x08) : haltIssuers m f = m := by
  simp [haltIssuers, h7, h8]

theorem gives_faultReport {s : State} {t : Nat} {f : FaultInfo} (hon : On s) (hsrc : f.src < 64) (hcls : f.cls < 4) :
    Gives (.faultReport t f) s t (reportFault (haltIssuers (seen s t) f) f) := by
  have hg := gives_of_runOn (i := .faultReport t f) (t := t) hon (Eq.refl (execFaultReport t f s))
  rwa [if_pos (by simp [hsrc, hcls])] at hg

/-- What a report leaves as it was collected, whatever its class: FLT_ACTIVE, the counts and what awaits acknowledgement. -/
theorem reportFault_flt {γ : Type} (g : FltBlk → γ)
    (hg : ∀ (v : FltBlk) f e j a l x o, g { v with f3 := f, events := e, jib := j, alive := a, aliveLevel := l, aliveAt := x, okContact := o } = g v)
    {m : Mod} (f : FaultInfo) (h : anyTrial m = false) : g (reportFault m f).flt = g (collect m f).flt := by
  rw [reportFault_of_no_trial f h]
  split
  · exact f3Reaction_flt g hg _
  · rfl

/-- A fault of class F2 or F3 opens the capture where none stands (R393). -/
theorem reportFault_opens {m : Mod} {f : FaultInfo} (h : anyTrial m = false) (hcls : 2 ≤ f.cls) (hnone : m.nv.capture = none) :
    ∃ c, (reportFault m f).nv.capture = some c ∧ c.src = f.src ∧ c.cls = f.cls ∧ c.addr = f.addr ∧ c.master = f.master ∧ c.level = f.cls ∧
      c.mergeCount = 0 ∧ (f.cls = 3 → m.flt.f3 = false → c.f3Taken = true) := by
  have hcap : (collect m f).nv.capture = some { openCapture m f with acked := m.flt.awaiting.isEmpty && f.cls != 2 } := by
    rw [collect_capture, captured, hnone, if_pos hcls]
    rfl
  rw [reportFault_of_no_trial f h]
  split
  · rename_i h3
    by_cases hf3 : m.flt.f3 = true
    · rw [f3Reaction_taken ((collect_f3 ..).trans hf3)]
      exact ⟨_, hcap, rfl, rfl, rfl, rfl, rfl, rfl, fun _ hno => by simp [hf3] at hno⟩
    · rw [f3Reaction_capture ((collect_f3 ..).trans (by simpa using hf3)), hcap]
      exact ⟨_, rfl, rfl, rfl, rfl, rfl, h3.symm, rfl, fun _ _ => rfl⟩
  · rename_i h3
    exact ⟨_, hcap, rfl, rfl, rfl, rfl, rfl, rfl, fun h => absurd h h3⟩

/-- A fault below class F3 merges into the capture that stands (R394). -/
theorem reportFault_merges {m : Mod} {f : FaultInfo} {c : Capture} (h : anyTrial m = false) (hcls : f.cls < 3) (hc : m.nv.capture = some c) :
    ∃ d, (reportFault m f).nv.capture = some d ∧ d.src = c.src ∧ d.addr = c.addr ∧ d.level = max c.level f.cls ∧
      d.mergeCount = min (c.mergeCount + 1) 65535 := by
  rw [reportFault_of_no_trial f h, if_neg (by omega), collect_capture, captured, hc]
  exact ⟨_, rfl, rfl, rfl, rfl, rfl⟩

/-- A task that is halted is HALTED with its instance gone (R83, R261). -/
theorem taskAt_haltTask {m : Mod} {k : Nat} {v : Task} (hv : taskAt m k = some v) :
    ∃ x, taskAt (haltTask m k) k = some x ∧ x.st = .halted ∧ x.inst = none := by
  have hdrop : taskAt (unrun (setTask m k (dropInst v .halted)) k) k = some (dropInst v .halted) := taskAt_setTask_same ..
  simp only [haltTask, hv, stopInstant, hdrop]
  split
  · exact ⟨_, taskAt_setTask_same .., rfl, rfl⟩
  · exact ⟨_, taskAt_setTask_same .., rfl, rfl⟩

/-- A failed transfer of a joined pair's core halts the task that runs there (R261). -/
theorem haltIssuers_of_bus {m : Mod} {f : FaultInfo} {p k : Nat} (hbus : f.src = 0x07 ∨ f.src = 0x08) (hp : p < 6)
    (hmaster : f.master = BitVec.ofNat 16 (0x0100 + p)) (hsplit : (pairOf m p).st ≠ .split) (hrun : tget m.pge.running (2 * p) = some k) :
    haltIssuers m f = haltTask m k := by
  have hnum : f.master.toNat = 256 + p := by
    rw [hmaster, BitVec.toNat_ofNat]
    omega
  have hpair : f.master.toNat % 256 = p := by omega
  have hcore : f.master.toNat / 256 = 1 := by omega
  have hsource : (f.src == 0x07 || f.src == 0x08) = true := by simpa using hbus
  simp [haltIssuers, hpair, hcore, hsource, hp, hsplit, hrun]

/-- A HALTED task without an instance is still so after the report that halted it. -/
theorem taskAt_reportFault_of_halted {m : Mod} {k : Nat} {x : Task} (f : FaultInfo) (h : anyTrial m = false) (hx : taskAt m k = some x)
    (hhalted : x.st = .halted) : taskAt (reportFault m f) k = some x := by
  have hcollect : taskAt (collect m f) k = some x := (taskAt_of_pge (collect_pge ..) k).trans hx
  rw [reportFault_of_no_trial f h]
  split
  · exact f3Reaction_taskAt_of_idle hcollect (by simp [Task.busy, hhalted])
  · exact hcollect

/-- Settles O52. -/
theorem faultsCollected : Obligations.FaultsCollected := by
  intro s t f hon hsrc hcls htrial
  have hgives := gives_faultReport (t := t) hon hsrc hcls
  refine ⟨fun h7 h8 => ?_, fun p k v hbus hp hmaster hsplit hrun hv => ?_⟩
  · rw [haltIssuers_of_other h7 h8] at hgives
    have hseen : anyTrial (seen s t) = false := htrial
    have hreport := reportFault_of_no_trial f hseen
    have hawaiting : (reportFault (seen s t) f).flt.awaiting = (collect (seen s t) f).flt.awaiting :=
      reportFault_flt FltBlk.awaiting (fun _ _ _ _ _ _ _ _ => rfl) f hseen
    rw [collect_awaiting] at hawaiting
    refine makes_of_gives hgives ⟨?_, ?_, fun hminor hnone => ?_, fun h2 => ?_, fun hmajor hnone => ?_, fun c h3 hc => ?_, fun h2 => ⟨?_, fun hfirst hf3 => ?_⟩,
      fun h3 => ⟨?_, fun hf3 => ?_⟩⟩
    · have hactive : (reportFault (seen s t) f).flt.active = (collect (seen s t) f).flt.active :=
        reportFault_flt FltBlk.active (fun _ _ _ _ _ _ _ _ => rfl) f hseen
      exact (congrArg (fun v => bitOf v.toNat f.src) hactive).trans (collect_sets_active _ f hsrc)
    · have hcounts : (reportFault (seen s t) f).flt.counts = (collect (seen s t) f).flt.counts :=
        reportFault_flt FltBlk.counts (fun _ _ _ _ _ _ _ _ => rfl) f hseen
      refine (congrArg (fun l => l[f.cls]?) (hcounts.trans (collect_counts ..))).trans ?_
      simp [lmod, seen]
    · have hnocap : (reportFault (seen s t) f).nv.capture = none := by
        rw [reportFault_minor hminor, collect_capture, captured, show (seen s t).nv.capture = none from hnone]
        simp [Nat.not_le.mpr hminor]
      exact hnocap
    · rw [if_neg h2] at hawaiting
      exact hawaiting
    · obtain ⟨c, hc, hsrc, hcls, haddr, hmaster, hlevel, hmerge, -⟩ := reportFault_opens hseen hmajor hnone
      exact ⟨c, hc, hsrc, hcls, haddr, hmaster, hlevel, hmerge⟩
    · exact reportFault_merges hseen h3 hc
    · rw [if_pos h2] at hawaiting
      exact hawaiting
    · have hjib : (reportFault (seen s t) f).flt.jib = some (ms s.m.flt.jibMs, max s.m.clk t) := by
        rw [hreport, if_neg (by omega), collect_jib, h2, show (seen s t).flt.awaiting = [] from hfirst, show (seen s t).flt.f3 = false from hf3]
        rfl
      rw [ms_eq] at hjib
      exact hjib
    · have hset : (reportFault (seen s t) f).flt.f3 = true := by rw [hreport, if_pos h3, f3Reaction_f3]
      exact hset
    · have hnotyet : (collect (seen s t) f).flt.f3 = false := (collect_f3 ..).trans hf3
      obtain ⟨⟨hclosed, halive, hpairs, htasks⟩, hjib⟩ := f3Reaction_madeSafe hnotyet
      have hcap : ∃ c, (f3Reaction (collect (seen s t) f)).nv.capture = some c ∧ c.level = 3 ∧ c.f3Taken = true := by
        rw [f3Reaction_capture hnotyet, collect_capture, captured]
        cases (seen s t).nv.capture with
        | none => exact ⟨_, by rw [if_pos (show 2 ≤ f.cls by omega)]; rfl, rfl, rfl⟩
        | some c => exact ⟨_, rfl, rfl, rfl⟩
      rw [hreport, if_pos h3]
      exact ⟨hclosed, hjib, halive, hpairs, htasks, hcap⟩
  · rw [haltIssuers_of_bus (m := seen s t) hbus hp hmaster hsplit hrun] at hgives
    obtain ⟨x, hx, hhalted, hinst⟩ := taskAt_haltTask (m := seen s t) hv
    have htrial' : anyTrial (haltTask (seen s t) k) = false := (anyTrial_of_regions (by rw [haltTask_nv]; rfl)).trans htrial
    exact makes_of_gives hgives ⟨x, taskAt_reportFault_of_halted f htrial' hx hhalted, hhalted, hinst⟩

end Sys2Proof.Machine
end

section
/-! SUPPORT. What no fall-back of an update changes (R437), and how faults are acknowledged, cleared and escalated (R257, R393, R395 to R397, R400,
R401). -/

open Sys2Proof.Claims

namespace Sys2Proof.Machine

/-! ### What a fall-back leaves (R437) -/

/-- What neither a restart of a region nor its fall-back touches: the general block, the triad but for its links, and F3_TAKEN. -/
def restartPart (m : Mod) : GenBlk × TriBlk × Bool := (m.gen, { m.tri with t1 := false, t2 := false }, m.flt.f3)

theorem collect_restartPart (m : Mod) (f : FaultInfo) : restartPart (collect m f) = restartPart m := by
  simp [restartPart, collect_f3]

theorem fallBackState_restartPart (m : Mod) (n : Nat) : restartPart (fallBackState m n) = restartPart m := by
  have hf3 : (fallBackState m n).flt.f3 = m.flt.f3 := by
    unfold fallBackState
    exact collect_f3 ..
  simp [restartPart, hf3]

theorem enterFail_restartPart (m : Mod) (c : FailCause) : restartPart (enterFail m c) = restartPart m := by
  have hf3 : (enterFail m c).flt.f3 = m.flt.f3 := by simp [enterFail]
  simp [restartPart, hf3, enterFail_tri]

theorem beginServiceRestart_restartPart (m : Mod) : restartPart (beginServiceRestart m) = restartPart m := by
  unfold beginServiceRestart
  extract_lets lost m1 m2
  have h1 : restartPart m1 = restartPart m := foldl_field restartPart _ (by intros; rfl) m lost
  have h2 : restartPart m2 = restartPart m1 := foldl_field restartPart _ (fun m w => by simp [restartPart]) m1 _
  exact (h2.trans h1 :)

theorem beginProgramRestart_restartPart (m : Mod) : restartPart (beginProgramRestart m) = restartPart m := by
  unfold beginProgramRestart
  split
  · split
    · simp [restartPart]
    · rfl
  · extract_lets m1
    have h : restartPart m1 = restartPart m := by
      unfold m1
      split
      · simp [restartPart]
      · rfl
    exact h

theorem restartModule_restartPart (m : Mod) (c : StartCause) : restartPart (restartModule_ m c) = restartPart m := by
  have hcause : restartPart (restartModule_ m c) = restartPart (enterFail m .restart) := by simp only [restartPart, restartModule_]
  rw [hcause, enterFail_restartPart]

theorem regionRestart_restartPart (m : Mod) (n : Nat) (c : StartCause) : restartPart (regionRestart m n c) = restartPart m := by
  unfold regionRestart
  split
  · exact restartModule_restartPart m c
  · split
    · exact beginServiceRestart_restartPart m
    · exact beginProgramRestart_restartPart m

theorem fallBackAll_restartPart (m : Mod) : restartPart (fallBackAll m) = restartPart m := by
  unfold fallBackAll
  dsimp only
  rw [foldl_field restartPart _ (fun v n => by split; exacts [rfl, regionRestart_restartPart ..]), foldl_field restartPart _ fallBackState_restartPart]

/-- A report changes of these F3_TAKEN alone, and sets it for a fault of class F3 (R398). -/
theorem reportFault_restartPart (m : Mod) (f : FaultInfo) :
    restartPart (reportFault m f) = (m.gen, { m.tri with t1 := false, t2 := false }, m.flt.f3 || f.cls == 3) := by
  have hreact : restartPart (if f.cls = 3 then f3Reaction (collect m f) else collect m f) =
      (m.gen, { m.tri with t1 := false, t2 := false }, m.flt.f3 || f.cls == 3) := by
    split
    · rename_i h3
      simp [restartPart, f3Reaction_f3, h3]
    · rename_i h3
      rw [collect_restartPart]
      simp [restartPart, h3]
  rw [reportFault]
  split
  · exact (fallBackAll_restartPart _).trans hreact
  · exact hreact

theorem reportFault_gen (m : Mod) (f : FaultInfo) : (reportFault m f).gen = m.gen := congrArg Prod.fst (reportFault_restartPart m f)

/-- A report keeps of the triad everything but its links. -/
theorem reportFault_tri {γ : Type} (g : TriBlk → γ) (hg : ∀ (v : TriBlk) a b, g { v with t1 := a, t2 := b } = g v) (m : Mod) (f : FaultInfo) :
    g (reportFault m f).tri = g m.tri := by
  have h := congrArg (fun x => g x.2.1) (reportFault_restartPart m f)
  simpa only [restartPart, hg] using h

theorem reportFault_f3 {m : Mod} {f : FaultInfo} (h : f.cls = 3) : (reportFault m f).flt.f3 = true := by
  have hpart := congrArg (fun x => x.2.2) (reportFault_restartPart m f)
  simpa only [restartPart, h, beq_self_eq_true, Bool.or_true] using hpart

/-- A report sets its source's active bit, whatever falls back (R390). -/
theorem reportFault_active (m : Mod) {f : FaultInfo} (h : f.src < 64) : bitOf (reportFault m f).flt.active.toNat f.src = true := by
  have hreact : bitOf (if f.cls = 3 then f3Reaction (collect m f) else collect m f).flt.active.toNat f.src = true := by
    split
    · rw [f3Reaction_flt FltBlk.active (fun _ _ _ _ _ _ _ _ => rfl)]
      exact collect_sets_active m f h
    · exact collect_sets_active m f h
  rw [reportFault]
  split
  · exact (fallBackAll_loopsStand _).2.2 _ hreact
  · exact hreact

/-! ### Acknowledgement (R257, R396) -/

/-- An acknowledgement while every fault it names is contained takes them from what awaits it (R396). -/
theorem acknowledge_contained {m : Mod} {cov : Awaiting → Bool} (h : ∀ a ∈ m.flt.awaiting, a.contained = true) : (acknowledge m cov).flt =
    { m.flt with
      awaiting := m.flt.awaiting.filter (fun a => !cov a)
      jib := if (m.flt.awaiting.filter (fun a => !cov a)).isEmpty then none else m.flt.jib } := by
  have hall : m.flt.awaiting.any (fun a => cov a && !a.contained) = false := by
    simp only [List.any_eq_false, Bool.and_eq_true, Bool.not_eq_true', not_and, Bool.not_eq_false]
    exact fun a ha _ => h a ha
  rw [acknowledge, hall]
  rfl

theorem acknowledge_pwr (m : Mod) (cov : Awaiting → Bool) : (acknowledge m cov).pwr = m.pwr := by
  unfold acknowledge
  split <;> rfl

theorem acknowledge_lks (m : Mod) (cov : Awaiting → Bool) : (acknowledge m cov).lks = m.lks := by
  unfold acknowledge
  split <;> rfl

/-- One pair that is LOST and was not restarted is tested again (R257). -/
def restartPair (m : Mod) (p : Nat) : Mod :=
  let x := pairOf m p
  if x.st == .lost && !x.restarted then setPair m p { x with st := .selftest, restarted := true } else m

theorem restartLost_eq {m : Mod} (hf3 : m.flt.f3 = false) (hfail : m.pwr.st ≠ .fail) : restartLost m = (List.range 6).foldl restartPair m := by
  rw [restartLost, if_neg (by simp [hf3, hfail])]
  rfl

theorem restartLost_flt (m : Mod) : (restartLost m).flt = m.flt := by
  unfold restartLost
  split
  · rfl
  · exact foldl_field Mod.flt restartPair (fun v p => by simp only [restartPair]; split <;> rfl) m _

/-- Of the pairs named, one that is LOST and was not restarted is in SELFTEST in the end, its restart noted. -/
theorem foldl_restartPair (l : List Nat) (m : Mod) {p : Nat}
    (h : (p ∈ l ∧ (pairOf m p).st = .lost ∧ (pairOf m p).restarted = false) ∨ ((pairOf m p).st = .selftest ∧ (pairOf m p).restarted = true)) :
    (pairOf (l.foldl restartPair m) p).st = .selftest ∧ (pairOf (l.foldl restartPair m) p).restarted = true := by
  induction l generalizing m with
  | nil => simpa using h
  | cons q l ih =>
    refine ih (restartPair m q) ?_
    by_cases hq : p = q
    · subst hq
      right
      rcases h with ⟨-, hlost, hnew⟩ | ⟨hst, hdone⟩
      · simp [restartPair, hlost, hnew, pairOf_setPair]
      · simp [restartPair, hst, hdone]
    · have hother : pairOf (restartPair m q) p = pairOf m p := by
        simp only [restartPair]
        split
        · rw [pairOf_setPair, if_neg hq]
        · rfl
      rw [hother]
      exact h.imp (fun ⟨hmem, hlost⟩ => ⟨(List.mem_cons.mp hmem).resolve_left hq, hlost⟩) id

/-- What FIRMWARE_ACK does (R257, R396). -/
theorem gives_firmwareAck {s : State} {t : Nat} (hon : On s) (hruns : s.m.pwr.svcStopped = false) : Gives (.firmwareAck t) s t
    (restartLost (acknowledge (seen s t) (fun a => !s.m.flt.hostAck || a.src == 0x02))) := by
  have hg := gives_of_runOn (i := .firmwareAck t) (t := t) hon (Eq.refl (execFirmwareAck t s))
  rwa [show (seen s t).pwr.svcStopped = false from hruns] at hg

/-! ### Clearing (R401) -/

/-- A fold that acts at one of its numbers alone acts once. -/
theorem foldl_at {α : Type} (f : α → α) (k : Nat) (l : List Nat) (hnodup : l.Nodup) (a : α) :
    l.foldl (fun a i => if i = k then f a else a) a = if k ∈ l then f a else a := by
  induction l generalizing a with
  | nil => rfl
  | cons i l ih =>
    obtain ⟨hi, hl⟩ := List.nodup_cons.mp hnodup
    rw [List.foldl_cons, ih hl]
    by_cases hik : i = k
    · subst hik
      simp [hi]
    · simp [hik, Ne.symm hik]

/-- A single one written to FLT_ACTIVE clears that source's bit (R401). -/
theorem clearActives_one (m : Mod) (n : Nat) : clearActives m (n / 32) (BitVec.ofNat 32 (2 ^ (n % 32))).toNat = clearActive m n := by
  have hbit : ∀ i, bitOf (BitVec.ofNat 32 (2 ^ (n % 32))).toNat i = decide (i = n % 32) := fun i => by
    have hlt : 2 ^ (n % 32) < 2 ^ 32 := Nat.pow_lt_pow_right (by decide) (Nat.mod_lt _ (by decide))
    rw [BitVec.toNat_ofNat, Nat.mod_eq_of_lt hlt, bitOf, Nat.testBit_two_pow]
    exact decide_eq_decide.mpr eq_comm
  have hfold : clearActives m (n / 32) (BitVec.ofNat 32 (2 ^ (n % 32))).toNat =
      (List.range 32).foldl (fun v i => if i = n % 32 then clearActive v n else v) m := by
    unfold clearActives
    congr 1
    funext v i
    by_cases hi : i = n % 32
    · rw [if_pos hi, if_pos (by rw [hbit]; exact decide_eq_true hi), hi, Nat.div_add_mod]
    · rw [if_neg hi, if_neg (by rw [hbit]; simpa using hi)]
  rw [hfold, foldl_at (fun v => clearActive v n) _ _ List.nodup_range, if_pos (List.mem_range.mpr (Nat.mod_lt n (by decide)))]

/-! ### Escalation (R395, R397, R398) -/

theorem setAlive_events (m : Mod) (b : Bool) : (setAlive m b).flt.events = m.flt.events := by
  unfold setAlive
  dsimp only
  split <;> rfl

/-- An event of the collector that is noted stays so as ALIVE stops. -/
theorem stopAlive_event {m : Mod} {i : Nat} (hi : i < 32) (h : bitOf m.flt.events.toNat i = true) : bitOf (stopAlive m).flt.events.toNat i = true := by
  unfold stopAlive
  dsimp only
  split
  · rw [bitOf_setBit32 _ _ _ hi, setAlive_events, h]
    simp
  · exact h

/-- An event of the collector that is noted stays so in the F3 reaction. -/
theorem f3Reaction_event {m : Mod} {i : Nat} (hi : i < 32) (h : bitOf m.flt.events.toNat i = true) : bitOf (f3Reaction m).flt.events.toNat i = true := by
  by_cases hf3 : m.flt.f3 = true
  · rwa [f3Reaction_taken hf3]
  · rw [f3Reaction_eq (by simpa using hf3)]
    refine stopAlive_event hi ?_
    simp [f3Noted, bitOf_setBit32 _ _ _ hi, h]

/-- The reaction leaves a capture at LEVEL 3 there, and keeps what else it says (R398). -/
theorem f3Reaction_keeps_capture {m : Mod} {c : Capture} (hc : m.nv.capture = some c) (hlevel : c.level = 3) :
    ∃ e, (f3Reaction m).nv.capture = some e ∧ e.level = 3 ∧ e.escalated = c.escalated := by
  by_cases hf3 : m.flt.f3 = true
  · exact ⟨c, by rw [f3Reaction_taken hf3, hc], hlevel, rfl⟩
  · rw [f3Reaction_capture (by simpa using hf3), hc]
    exact ⟨_, rfl, rfl, rfl⟩

/-- The end of the timer notes ESCALATED and takes the capture to LEVEL 3 (R395). -/
theorem escalate_timer (m : Mod) : bitOf (escalate m true).flt.events.toNat 0 = true ∧
    ∀ c, m.nv.capture = some c → ∃ e, (escalate m true).nv.capture = some e ∧ e.level = 3 ∧ e.escalated = true := by
  unfold escalate
  refine ⟨f3Reaction_event (by decide) (bitOf_setBit32_same _ _ (by decide)), fun c hc => ?_⟩
  obtain ⟨e, he, hlevel, hesc⟩ := f3Reaction_keeps_capture (m := { m with
    flt := { m.flt with jib := none, events := orBit m.flt.events true 0 }
    nv := { m.nv with capture := m.nv.capture.map (fun c => { c with level := 3, escalated := c.escalated || true }) } })
    (c := { c with level := 3, escalated := c.escalated || true }) (by rw [hc]; rfl) rfl
  exact ⟨e, he, hlevel, hesc.trans (Bool.or_true _)⟩

/-- The timer at its end escalates, and does nothing before (R395). -/
theorem gives_jibExpiry {s : State} {t l x : Nat} (hon : On s) (hjib : s.m.flt.jib = some (l, x)) (hsvc : s.m.pwr.svcRestart = none) :
    Gives (.jibExpiry t) s t (if l ≤ max s.m.clk t - x then escalate (seen s t) true else seen s t) := by
  have hg := gives_of_runOn (i := .jibExpiry t) (t := t) hon (Eq.refl (execJibExpiry t s))
  have hleft : jibLeft (seen s t) = some (l - (max s.m.clk t - x)) := by
    rw [jibLeft, show (seen s t).flt.jib = some (l, x) from hjib, show (seen s t).pwr.svcRestart = none from hsvc]
    rfl
  rw [hleft] at hg
  by_cases hend : l ≤ max s.m.clk t - x
  · rw [Nat.sub_eq_zero_of_le hend] at hg
    rw [if_pos hend]
    simpa [show (seen s t).pwr.svcRestart = none from hsvc] using hg
  · rw [if_neg hend]
    obtain ⟨k, hk⟩ : ∃ k, l - (max s.m.clk t - x) = k + 1 := ⟨l - (max s.m.clk t - x) - 1, by omega⟩
    rwa [hk] at hg

/-! ### ALIVE (R400, R485) -/

/-- A change of level closes the contact where it follows the last one in time (R485). -/
theorem setAlive_toggled (m : Mod) : (setAlive m (!m.flt.aliveLevel)).flt.aliveLevel = (!m.flt.aliveLevel) ∧
    (∀ x, m.flt.aliveAt = some x → m.clk ≤ x + 1500000 → (setAlive m (!m.flt.aliveLevel)).flt.okContact = true) := by
  rw [setAlive, if_neg (by cases m.flt.aliveLevel <;> decide)]
  refine ⟨rfl, fun x hx hquick => ?_⟩
  simp only [hx]
  exact decide_eq_true (by rw [us_eq]; exact hquick)

theorem stopAlive_level {m : Mod} (h : m.flt.alive = true) : (stopAlive m).flt.aliveLevel = false ∧ bitOf (stopAlive m).flt.events.toNat 4 = true := by
  rw [stopAlive, if_pos h]
  refine ⟨?_, bitOf_setBit32_same _ _ (by decide)⟩
  simp only [setAlive]
  split
  · assumption
  · rfl

theorem gives_aliveToggle {s : State} {t : Nat} (hon : On s) (hinstant : (max s.m.clk t - s.m.tim.zero) % 500000 = 0) : Gives (.aliveToggle t) s t
    (if aliveOk s.m then
      let m := setAlive (seen s t) (!s.m.flt.aliveLevel)
      { m with flt := { m.flt with alive := true } }
    else stopAlive (seen s t)) := by
  have hg := gives_of_runOn (i := .aliveToggle t) (t := t) hon (Eq.refl (execAliveToggle t s))
  have hdue : ¬ (((seen s t).clk - (seen s t).tim.zero) % us 500 != 0) = true := by
    rw [us_eq, show ((seen s t).clk - (seen s t).tim.zero) % (1000 * 500) = 0 from hinstant]
    decide
  rw [if_neg hdue] at hg
  exact hg

theorem gives_thermalTrip {s : State} {t : Nat} (d : Int) (hon : On s) : Gives (.thermalTrip t d) s t
    (if 125 ≤ d then reportFault { seen s t with gen := { s.m.gen with dieC := d } } (faultOf 0x18 3 0 0x0E00 6)
     else { seen s t with gen := { s.m.gen with dieC := d } }) :=
  gives_of_runOn (i := .thermalTrip t d) (t := t) hon (Eq.refl (execThermalTrip t d s))

/-- Settles O53. -/
theorem faultsSettled : Obligations.FaultsSettled := by
  intro s t n d hon
  refine ⟨fun hboot hall => ?_, fun hboot hopen => ?_, fun hruns hall => ?_, fun c hboot hc => ⟨fun hstands => ?_, fun hgone hfree => ?_⟩, fun hboot => ?_,
    fun hboot hn => ?_, fun l x hjib hsvc => ⟨fun hend => ?_, fun hearly => ?_⟩, fun hinstant => ⟨fun hok => ?_, fun hno halive => ?_⟩, fun hd => ?_, fun hd => ?_⟩
  · have hack := acknowledge_contained (m := seen s t) (cov := fun _ => true) hall
    have hg := gives_of_runW1c (i := .fltAck t) (t := t) hon hboot (Eq.refl (execFltAck t s))
    refine makes_of_gives hg ?_
    rw [hack]
    simp [seen]
  · have hg := gives_of_runW1c (i := .fltAck t) (t := t) hon hboot (Eq.refl (execFltAck t s))
    rwa [acknowledge, if_pos (by simpa [seen] using hopen)] at hg
  · have hack := acknowledge_contained (m := seen s t) (cov := fun a => !s.m.flt.hostAck || a.src == 0x02) hall
    refine makes_of_gives (gives_firmwareAck hon hruns) ⟨fun hfirm => ?_, fun hhost => ?_, fun hf3 hfail p hp hlost hnew => ?_⟩
    · rw [restartLost_flt, hack, hfirm]
      simp
    · rw [restartLost_flt, hack, hhost]
      simp [seen, bne]
    · have hpair := fun p => pairOf_of_lks (acknowledge_lks (seen s t) (fun a => !s.m.flt.hostAck || a.src == 0x02)) p
      have hrestart := foldl_restartPair (List.range 6) (acknowledge (seen s t) (fun a => !s.m.flt.hostAck || a.src == 0x02)) (p := p)
        (.inl ⟨List.mem_range.mpr hp, by rw [hpair]; exact hlost, by rw [hpair]; exact hnew⟩)
      rw [← restartLost_eq (by rw [hack]; exact hf3) (by rw [acknowledge_pwr]; exact hfail)] at hrestart
      exact hrestart
  · have hg := gives_of_runW1c (i := .capturedClear t) (t := t) hon hboot (Eq.refl (execCapturedClear t s))
    rw [clearCapture, show (seen s t).nv.capture = some c from hc] at hg
    dsimp only at hg
    rwa [hstands] at hg
  · have hg := gives_of_runW1c (i := .capturedClear t) (t := t) hon hboot (Eq.refl (execCapturedClear t s))
    have hidle : (!(seen s t).flt.awaiting.isEmpty && !(seen s t).flt.f3) = false := by
      rcases hfree with h | h
      · simp [show (seen s t).flt.awaiting = [] from h]
      · simp [show (seen s t).flt.f3 = true from h]
    rw [clearCapture, show (seen s t).nv.capture = some c from hc] at hg
    dsimp only at hg
    rwa [hgone, hidle] at hg
  · exact gives_of_runW1c (i := .priorClear t) (t := t) hon hboot (Eq.refl (execPriorClear t s))
  · have hg := gives_of_runW1c (i := .activeClear t (n / 32) (BitVec.ofNat 32 (2 ^ (n % 32)))) (t := t) hon hboot
      (Eq.refl (execActiveClear t (n / 32) (BitVec.ofNat 32 (2 ^ (n % 32))) s))
    rw [if_pos (show n / 32 < 2 by omega), clearActives_one (seen s t) n] at hg
    refine makes_of_gives hg ⟨fun hgone => ?_, fun hstands => ?_⟩
    · rw [clearActive, if_neg (by simp [hgone])]
      rfl
    · rw [clearActive, if_pos hstands]
      rfl
  · have hg := gives_jibExpiry (t := t) hon hjib hsvc
    rw [if_pos hend] at hg
    obtain ⟨hf3, hjib'⟩ := escalate_spec (seen s t) true
    obtain ⟨hevent, hcap⟩ := escalate_timer (seen s t)
    exact makes_of_gives hg ⟨hf3, hjib', hevent, hcap⟩
  · have hg := gives_jibExpiry (t := t) hon hjib hsvc
    rwa [if_neg (Nat.not_le.mpr hearly)] at hg
  · have hg := gives_aliveToggle hon hinstant
    rw [if_pos hok] at hg
    obtain ⟨hlevel, hcontact⟩ := setAlive_toggled (seen s t)
    exact makes_of_gives hg ⟨hlevel, rfl, hcontact⟩
  · have hg := gives_aliveToggle hon hinstant
    rw [if_neg (by simp [hno])] at hg
    obtain ⟨hlevel, hevent⟩ := stopAlive_level (m := seen s t) halive
    exact makes_of_gives hg ⟨stopAlive_alive (seen s t), hlevel, hevent⟩
  · have hg := gives_thermalTrip (t := t) d hon
    rwa [if_neg (not_le.mpr hd)] at hg
  · have hg := gives_thermalTrip (t := t) d hon
    rw [if_pos hd] at hg
    refine makes_of_gives hg ⟨?_, reportFault_f3 rfl, reportFault_active _ (by decide)⟩
    exact congrArg GenBlk.dieC (reportFault_gen ..)

end Sys2Proof.Machine
end

section
/-! SUPPORT. The rounds of a triad (R268), the seats excluded from them (R275, R278) and the links (R266). -/

open Sys2Proof.Claims

namespace Sys2Proof.Machine

/-! ### Reports about a seat (R289) -/

@[simp] theorem triEvent_tri (m : Mod) (bit seat : Nat) :
    (triEvent m bit seat).tri = { m.tri with events := setBit32 m.tri.events bit } := by rw [triEvent, event_tri]

@[simp] theorem triEvent_pwr (m : Mod) (bit seat : Nat) : (triEvent m bit seat).pwr = m.pwr := by rw [triEvent, event_pwr]
@[simp] theorem triEvent_nv (m : Mod) (bit seat : Nat) : (triEvent m bit seat).nv = m.nv := by rw [triEvent, event_nv]
@[simp] theorem triEvent_clk (m : Mod) (bit seat : Nat) : (triEvent m bit seat).clk = m.clk := by rw [triEvent, event_clk]

theorem leave_mem (m : Mod) (n : Nat) : n ∈ (leave m n).tri.leaving := by
  simp only [leave]
  split
  · rename_i h
    simpa using h
  · simp

/-- A seat's exclusion of itself keeps of the triad everything but the events and the links (R275). -/
theorem excludeSelf_tri {γ : Type} (g : TriBlk → γ) (hevents : ∀ (v : TriBlk) e, g { v with events := e } = g v)
    (hlinks : ∀ (v : TriBlk) a b, g { v with t1 := a, t2 := b } = g v) (m : Mod) : g (excludeSelf m).tri = g m.tri := by
  have hfault : g (triFault (noteOut (triEvent m 2 m.tri.seat)) 2 m.tri.seat).tri = g m.tri := by
    rw [triFault, reportFault_tri g hlinks, noteOut, triEvent_tri, hevents]
  unfold excludeSelf
  dsimp only
  split
  · exact hfault
  · rw [restartModule_, enterFail_tri, hlinks, hfault]

theorem exclude_tri {γ : Type} (g : TriBlk → γ) (hevents : ∀ (v : TriBlk) e, g { v with events := e } = g v)
    (hlinks : ∀ (v : TriBlk) a b, g { v with t1 := a, t2 := b } = g v) (hleaving : ∀ (v : TriBlk) l, g { v with leaving := l } = g v)
    (m : Mod) (n : Nat) : g (exclude m n).tri = g m.tri := by
  unfold exclude
  split
  · exact excludeSelf_tri g hevents hlinks m
  · rw [triEvent_tri, hevents, leave, hleaving]

/-! ### The rounds that stand (R268) -/

/-- The rounds that stand, and the clock. -/
def roundPart (m : Mod) : List Round × Nat := (m.tri.rounds, m.clk)

theorem degUpdate_roundPart (m : Mod) (c : DegCause) : roundPart (degUpdate m c) = roundPart m :=
  degUpdate_field roundPart (fun _ c _ => by cases c <;> rfl) (fun _ _ => rfl) (fun m f => by simp [roundPart]) m c

theorem hostReadyOn_roundPart (m : Mod) : roundPart (hostReadyOn m) = roundPart m := by
  unfold hostReadyOn
  split
  · rfl
  · exact foldl_field roundPart _ (fun v n => by dsimp only; split <;> rfl) _ eventRings

theorem setRoster_roundPart (m : Mod) (ns : List Nat) (roles : Tbl Role) : roundPart (setRoster m ns roles) = roundPart m := by
  unfold setRoster
  extract_lets old new tri m1 m2 m3
  have h1 : roundPart m1 = roundPart m := rfl
  have h2 : roundPart m2 = roundPart m1 := degUpdate_roundPart ..
  have h3 : roundPart m3 = roundPart m2 := by
    unfold m3
    split
    · rfl
    · simp [roundPart]
  rw [← h1, ← h2, ← h3]
  split
  · rw [replayUnits]
    split
    · exact hostReadyOn_roundPart _
    · rfl
  · rfl

theorem settleRoster_roundPart (m : Mod) : roundPart (settleRoster m) = roundPart m := by
  unfold settleRoster
  split
  · rfl
  · exact setRoster_roundPart ..

theorem switchEpoch_roundPart (m : Mod) (k : W32) : roundPart (switchEpoch m k) = roundPart m := by
  unfold switchEpoch
  split
  · split
    · rfl
    · extract_lets ns tri m1
      have h : roundPart (driveAll (post (setRoster m1 ns (giveRoles ns)) ‹Req› .ok { r0 := k })) = roundPart (setRoster m1 ns (giveRoles ns)) := by
        simp [roundPart]
      rw [h, setRoster_roundPart]
      rfl
  · rfl

/-- The round that begins, with its number and the instant it began (R268). -/
theorem beginRound_spec (m : Mod) : ∃ x, (beginRound m).tri.rounds = m.tri.rounds ++ [x] ∧ x.no = BitVec.ofNat 32 (roundNo m) ∧ x.began = m.clk ∧
    x.closed = false ∧ x.frames = [] ∧ (beginRound m).tri.round = x.no := by
  have hkept : roundPart (switchEpoch (settleRoster m) (BitVec.ofNat 32 (roundNo m))) = roundPart m := by
    rw [switchEpoch_roundPart, settleRoster_roundPart]
  obtain ⟨hrounds, hclk⟩ := Prod.mk.inj hkept
  refine ⟨_, congrArg (· ++ _) hrounds, rfl, hclk, rfl, rfl, rfl⟩

/-- A round instant at which no round of its number stands begins one (R268). -/
theorem gives_roundInstant {s : State} {t : Nat} (hon : On s) (hmode : s.m.tri.mode ≠ 0) (hfail : s.m.pwr.st ≠ .fail) (hdebug : s.m.sec.debug ≠ .full)
    (hepoch : s.m.pwr.epoch ≤ nowNs (seen s t)) (hinstant : (nowNs (seen s t) - s.m.pwr.epoch) % 100000 = 0)
    (hnew : ∀ x ∈ s.m.tri.rounds, x.no ≠ BitVec.ofNat 32 ((nowNs (seen s t) - s.m.pwr.epoch) / 100000)) :
    Gives (.roundInstant t) s t (beginRound (seen s t)) := by
  have hg := gives_of_runOn (i := .roundInstant t) (t := t) hon (Eq.refl (execRoundInstant t s))
  have hfresh : (seen s t).tri.rounds.any (fun r => r.no == BitVec.ofNat 32 (roundNo (seen s t))) = false := by
    simp only [List.any_eq_false, beq_iff_eq]
    intro x hx
    rw [roundNo, us_eq]
    exact hnew x hx
  refine (if_pos ?_).subst (motive := Gives (.roundInstant t) s t) hg
  rw [hfresh, us_eq, show (nowNs (seen s t) - (seen s t).pwr.epoch) % (1000 * 100) = 0 from hinstant]
  simp [show (seen s t).tri.mode ≠ 0 from hmode, show (seen s t).pwr.st ≠ .fail from hfail, show (seen s t).sec.debug ≠ .full from hdebug,
    show (seen s t).pwr.epoch ≤ nowNs (seen s t) from hepoch]

/-! ### The window and the vote (R268, R272, R274) -/

/-- A table that is set at each of some keys, each once, holds there what the key's old entry gives. -/
theorem tget_foldl_tset {α : Type} (f : Nat → Option α → α) (l : List Nat) (hnodup : l.Nodup) (t : Tbl α) {k : Nat} (hk : k ∈ l) :
    tget (l.foldl (fun t n => tset t n (f n (tget t n))) t) k = some (f k (tget t k)) := by
  have hother : ∀ (l : List Nat) (t : Tbl α), k ∉ l → tget (l.foldl (fun t n => tset t n (f n (tget t n))) t) k = tget t k := by
    intro l
    induction l with
    | nil => exact fun _ _ => rfl
    | cons n l ih =>
      intro t hmem
      obtain ⟨hne, hrest⟩ := not_or.mp (mt List.mem_cons.mpr hmem)
      rw [List.foldl_cons, ih _ hrest, tget_tset_other _ _ _ _ hne]
  induction l generalizing t with
  | nil => cases hk
  | cons n l ih =>
    obtain ⟨hn, hl⟩ := List.nodup_cons.mp hnodup
    rw [List.foldl_cons]
    rcases List.mem_cons.mp hk with rfl | hmem
    · rw [hother l _ hn, tget_tset_same]
    · rw [ih hl _ hmem, tget_tset_other _ _ _ _ (by rintro rfl; exact hn hmem)]

theorem voters_nodup (m : Mod) : (voters m).Nodup := List.Nodup.filter _ (by decide)

/-- Once a window has closed, each voting peer has one more round missing, or none (R268, R278). -/
theorem closeWindow_spec (m : Mod) (r : Round) : (∀ x ∈ (closeWindow m r).tri.rounds, x.no = r.no → x.closed = true) ∧
    ∀ k, k ∈ voters m → k ≠ m.tri.seat →
      tget (closeWindow m r).tri.missing k = some (if (tget r.frames k).isSome then 0 else (tget m.tri.missing k).getD 0 + 1) := by
  refine ⟨fun x hx hno => ?_, fun k hk hseat => ?_⟩
  · obtain ⟨y, -, rfl⟩ := List.mem_map.mp hx
    by_cases hy : (y.no == r.no) = true
    · rw [if_pos hy]
    · rw [if_neg hy] at hno
      simp [hno] at hy
  · exact tget_foldl_tset (fun n o => if (tget r.frames n).isSome then 0 else o.getD 0 + 1) _ ((voters_nodup m).filter _) m.tri.missing
      (List.mem_filter.mpr ⟨hk, by simpa using hseat⟩)

/-- The rounds are no affair of what a vote does (R272 to R275). -/
theorem takeCopies_rounds (m : Mod) (seat : Nat) (f : RoundFrame) : (takeCopies m seat f).tri.rounds = m.tri.rounds :=
  foldl_field (fun v : Mod => v.tri.rounds) _ (by intros; rfl) m _

theorem triFault_rounds (m : Mod) (cls seat : Nat) : (triFault m cls seat).tri.rounds = m.tri.rounds :=
  reportFault_tri TriBlk.rounds (fun _ _ _ => rfl) m _

theorem noteOutside_rounds (m : Mod) (sig : Nat) (out : Bool) : (noteOutside m sig out).tri.rounds = m.tri.rounds := by
  unfold noteOutside
  extract_lets n tri m1
  have h1 : m1.tri.rounds = m.tri.rounds := rfl
  split
  · rw [triFault_rounds, triEvent_tri]
  · exact h1

theorem voteSignal_rounds (m : Mod) (fs : List (Nat × RoundFrame)) (sig : Nat) : (voteSignal m fs sig).tri.rounds = m.tri.rounds := by
  unfold voteSignal
  split
  · rfl
  · extract_lets cs v fresh m1
    have h1 : m1.tri.rounds = m.tri.rounds := by
      unfold m1
      split <;> rfl
    split
    · exact h1
    · rw [noteOutside_rounds]
      exact h1

theorem voteInputs_rounds (m : Mod) (fs : List (Nat × RoundFrame)) : (voteInputs m fs).tri.rounds = m.tri.rounds := by
  unfold voteInputs
  dsimp only
  rw [foldl_field (fun v : Mod => v.tri.rounds) _ (fun v sig => voteSignal_rounds v fs sig)]
  exact foldl_field (fun v : Mod => v.tri.rounds) _ (fun v e => takeCopies_rounds v e.1 e.2) m fs

theorem takeNav_rounds (m : Mod) (fs : List (Nat × RoundFrame)) : (takeNav m fs).tri.rounds = m.tri.rounds := by
  unfold takeNav
  split
  · rfl
  · exact foldl_field (fun v : Mod => v.tri.rounds) _ (by intros; rfl) m _

theorem release_rounds (m : Mod) (o : Nat) (x : Val × Qual) : (release m o x).tri.rounds = m.tri.rounds := by
  unfold release
  split
  · rw [takeCommand_tri]
  · rfl

theorem compareOuts_rounds (m : Mod) (fs : List (Nat × RoundFrame)) : (compareOuts m fs).1.tri.rounds = m.tri.rounds := by
  unfold compareOuts
  dsimp only
  rw [foldl_field (fun v : Mod => v.tri.rounds) _ (fun v o => by split <;> simp)]
  exact foldl_field (fun v : Mod => v.tri.rounds) _ (fun v e => by split; exacts [release_rounds .., rfl]) _ _

theorem exclude_rounds (m : Mod) (n : Nat) : (exclude m n).tri.rounds = m.tri.rounds :=
  exclude_tri TriBlk.rounds (fun _ _ => rfl) (fun _ _ _ => rfl) (fun _ _ => rfl) m n

theorem resolve_rounds (m : Mod) (minority : List Nat) (differ all3 : Bool) : (resolve m minority differ all3).tri.rounds = m.tri.rounds := by
  unfold resolve
  extract_lets runs d tri m1 m2 out m3
  have h2 : m2.tri.rounds = m.tri.rounds := by
    unfold m2
    split
    · exact triFault_rounds ..
    · rfl
  have h3 : m3.tri.rounds = m2.tri.rounds :=
    foldl_field (fun v : Mod => v.tri.rounds) _ (fun v n => by split; exacts [rfl, exclude_rounds ..]) m2 out
  split
  · rw [exclude_rounds, tick_tri, h3, h2]
  · rw [h3, h2]

theorem noteShadow_rounds (m : Mod) (own : RoundFrame) (fs : List (Nat × RoundFrame)) : (noteShadow m own fs).tri.rounds = m.tri.rounds := by
  unfold noteShadow
  split <;> rfl

/-- A vote ends its round and no other (R268). -/
theorem voteRound_rounds (m : Mod) (r : Round) : (voteRound m r).tri.rounds = m.tri.rounds.filter (fun x => x.no != r.no) := by
  unfold voteRound
  extract_lets tri m1 fs m2
  have h2 : m2.tri.rounds = m.tri.rounds.filter (fun x => x.no != r.no) := (takeNav_rounds ..).trans (voteInputs_rounds ..)
  have hcompare := compareOuts_rounds m2 fs
  rcases hm3 : compareOuts m2 fs with ⟨m3, minority, differ⟩
  rw [hm3] at hcompare
  exact (resolve_rounds ..).trans ((noteShadow_rounds ..).trans (hcompare.trans h2))

/-! ### Rounds run (R268, R278) -/

theorem enqueueAt_tri (m : Mod) (src p : Nat) (f : EthFrame) : (enqueueAt m src p f).tri = m.tri := by
  unfold enqueueAt
  dsimp only
  split <;> rfl

/-- A heartbeat that is due goes out on the ports of the safety network, and its instant is kept (R278). -/
theorem makes_heartbeatSend {s : State} {t : Nat} (hon : On s) (hseat : s.m.tri.seat ≠ 0) (hmode : s.m.tri.mode ≠ 0)
    (hdue : ∀ x, s.m.tri.beatAt = some x → x + 1000000 ≤ max s.m.clk t) :
    Makes (.heartbeatSend t) s (fun m => m.tri = { s.m.tri with beatAt := some (max s.m.clk t) }) := by
  have hg := gives_of_runOn (i := .heartbeatSend t) (t := t) hon (Eq.refl (execHeartbeatSend t s))
  have hready : (match (seen s t).tri.beatAt with | some x => decide (x + ms 1 ≤ (seen s t).clk) | none => true) = true := by
    cases hbeat : (seen s t).tri.beatAt with
    | none => rfl
    | some x => exact decide_eq_true (by rw [ms_eq]; exact hdue x hbeat)
  have hcond : ((seen s t).tri.seat != 0 && (seen s t).tri.mode != 0 &&
      (match (seen s t).tri.beatAt with | some x => decide (x + ms 1 ≤ (seen s t).clk) | none => true)) = true := by
    rw [hready, Bool.and_true, Bool.and_eq_true]
    exact ⟨bne_iff_ne.2 hseat, bne_iff_ne.2 hmode⟩
  refine makes_of_gives ((if_pos hcond).subst (motive := Gives (.heartbeatSend t) s t) hg) ?_
  dsimp only
  split <;> split <;> simp only [enqueueAt_tri] <;> rfl

theorem roundsRun : RoundsRun := by
  intro s t n f r hon
  refine ⟨fun hmode hfail hdebug hepoch hinstant hnew => ?_, fun hseat hn h1 h3 => ?_, fun hfind => ?_, fun hhead hlate => ?_,
    fun hseat hmode hdue => makes_heartbeatSend hon hseat hmode hdue, fun hseat hn h1 h3 => ?_⟩
  · obtain ⟨x, hrounds, hno, hbegan, hclosed, hframes, hround⟩ := beginRound_spec (seen s t)
    rw [roundNo, us_eq] at hno
    exact makes_of_gives (gives_roundInstant hon hmode hfail hdebug hepoch hinstant hnew)
      ⟨rfl, rfl, rfl, x, hrounds, hno, hbegan, hclosed, hframes, hround⟩
  · have hg := gives_of_runOn (i := .roundFrameReceive t n f) (t := t) hon (Eq.refl (execRoundFrameReceive t n f s))
    have htest : ∀ x : Round, ((x.no == f.round && !x.closed && decide ((seen s t).clk ≤ x.began + us 170)) = true) =
        (x.no = f.round ∧ x.closed = false ∧ max s.m.clk t ≤ x.began + 170000) := fun x => by
      rw [us_eq, show (seen s t).clk = max s.m.clk t from rfl]
      simp [and_assoc]
    rw [if_neg (by simp [show (seen s t).tri.seat = s.m.tri.seat from rfl, hseat, hn, Nat.one_le_iff_ne_zero.mp h1, h3])] at hg
    simp only [htest] at hg
    exact hg
  · have hg := gives_of_runOn (i := .roundWindowClose t) (t := t) hon (Eq.refl (execRoundWindowClose t s))
    have hfound : (seen s t).tri.rounds.find? (fun r => !r.closed && decide (r.began + us 170 ≤ (seen s t).clk)) = some r := by
      rw [us_eq]; exact hfind
    rw [hfound] at hg
    exact makes_of_gives hg (closeWindow_spec (seen s t) r)
  · have hg := gives_of_runOn (i := .voteInstant t) (t := t) hon (Eq.refl (execVoteInstant t s))
    obtain ⟨rest, hrest⟩ : ∃ rest, s.m.tri.rounds = r :: rest := List.head?_eq_some_iff.mp hhead
    rw [show (seen s t).tri.rounds = r :: rest from hrest] at hg
    dsimp only at hg
    rw [us_eq, if_pos (show r.began + 1000 * 200 ≤ (seen s t).clk from hlate)] at hg
    refine makes_of_gives hg fun x => ?_
    have hrounds : (voteRound (seen s t) r).tri.rounds = s.m.tri.rounds.filter (fun x => x.no != r.no) := voteRound_rounds ..
    rw [hrounds, List.mem_filter, bne_iff_ne]
  · have hg := gives_of_runOn (i := .heartbeatReceive t n) (t := t) hon (Eq.refl (execHeartbeatReceive t n s))
    rwa [if_pos (by simp [show (seen s t).tri.seat = s.m.tri.seat from rfl, hseat, hn, h1, h3])] at hg

/-! ### Exclusion, loss and links (R266, R275, R278) -/

/-- The signatures of the seats whose frames of a round arrived (R275). -/
def signatures (m : Mod) (r : Round) : List (Nat × W32) :=
  (voters m).filterMap (fun n => if n = m.tri.seat then some (n, r.own.signature) else (tget r.frames n).map (fun f => (n, f.signature)))

/-- Every 1,000 rounds the seat whose signature two others contradict is excluded (R275). -/
theorem gives_signatureCompare {s : State} {t : Nat} {r : Round} {x y z : Nat × W32} (hon : On s) (hhead : s.m.tri.rounds.head? = some r)
    (hno : r.no.toNat % 1000 = 0)
    (hthree : signatures s.m r = [x, y, z] ∨ signatures s.m r = [x, z, y] ∨ signatures s.m r = [z, x, y]) (hxy : x.2 = y.2) (hzx : z.2 ≠ x.2) :
    Gives (.signatureCompare t) s t (exclude (triEvent (seen s t) 8 z.1) z.1) := by
  have hg := gives_of_runOn (i := .signatureCompare t) (t := t) hon (Eq.refl (execSignatureCompare t s))
  obtain ⟨rest, hrest⟩ : ∃ rest, s.m.tri.rounds = r :: rest := List.head?_eq_some_iff.mp hhead
  rw [show (seen s t).tri.rounds = r :: rest from hrest] at hg
  dsimp only at hg
  rw [if_neg (by simp [hno])] at hg
  have hsignatures : (voters (seen s t)).filterMap (fun n => if n = (seen s t).tri.seat then some (n, r.own.signature)
      else (tget r.frames n).map (fun f => (n, f.signature))) = signatures s.m r := rfl
  rw [hsignatures] at hg
  have hzy : z.2 ≠ y.2 := hxy ▸ hzx
  rcases hthree with h | h | h
  · rw [h] at hg
    simpa [hxy, hzy] using hg
  · rw [h] at hg
    simpa [hxy, hzy, Ne.symm hzy] using hg
  · rw [h] at hg
    simpa [hxy, hzy, Ne.symm hzy] using hg

/-- A peer that is excluded stops voting, and SEAT_EXCLUDED is noted (R275). -/
theorem exclude_peer {m : Mod} {n : Nat} (h : n ≠ m.tri.seat) : n ∈ (exclude m n).tri.leaving ∧ bitOf (exclude m n).tri.events.toNat 2 = true ∧
    ∀ i, i < 32 → bitOf m.tri.events.toNat i = true → bitOf (exclude m n).tri.events.toNat i = true := by
  rw [exclude, if_neg h, triEvent_tri]
  refine ⟨leave_mem m n, bitOf_setBit32_same _ _ (by decide), fun i hi hset => ?_⟩
  dsimp only
  rw [bitOf_setBit32 _ _ _ hi, show (leave m n).tri.events = m.tri.events from rfl, hset]
  rfl

/-- This seat's exclusion restarts it as a module, unless it is in FAIL already (R275, R294). -/
theorem exclude_self {m : Mod} (htrial : anyTrial m = false) : (exclude m m.tri.seat).pwr.st = .fail ∧
    (m.pwr.st ≠ .fail → (exclude m m.tri.seat).pwr.nextCause = .exclusion) ∧
    ∀ i, i < 32 → bitOf m.tri.events.toNat i = true → bitOf (exclude m m.tri.seat).tri.events.toNat i = true := by
  rw [exclude, if_pos rfl]
  unfold excludeSelf
  extract_lets m1 m2 rest
  have htrial' : anyTrial (noteOut (triEvent m 2 m.tri.seat)) = false := (anyTrial_of_regions (by simp [noteOut])).trans htrial
  have h1 : m1 = collect (noteOut (triEvent m 2 m.tri.seat)) (faultOf 0x12 2 m.tri.seat 0x0700 4 1) := reportFault_no_trial (show 2 ≠ 3 by decide) htrial'
  have hpwr : m1.pwr = m.pwr := by rw [h1, collect_pwr]; exact triEvent_pwr ..
  have hevents : ∀ i, i < 32 → bitOf m.tri.events.toNat i = true → bitOf m1.tri.events.toNat i = true := fun i hi hset => by
    rw [h1, collect_tri, noteOut, triEvent_tri]
    dsimp only
    rw [bitOf_setBit32 _ _ _ hi, hset]
    rfl
  have hstop : m2.pwr.st = .fail ∧ (m.pwr.st ≠ .fail → m2.pwr.nextCause = .exclusion) ∧ m2.tri.events = m1.tri.events := by
    unfold m2
    split
    · rename_i hfail
      exact ⟨by simpa using hfail, fun hno => absurd (by simpa [hpwr] using hfail) hno, rfl⟩
    · simp [restartModule_, enterFail_tri]
  obtain ⟨hst, hcause, hkept⟩ := hstop
  exact ⟨hst, hcause, fun i hi hset => by rw [show ({ m2 with flt := _ } : Mod).tri.events = m1.tri.events from hkept]; exact hevents i hi hset⟩

/-- The rounds a peer may miss before it is lost, and the heartbeats that tell loss from partition (R278). -/
theorem gives_peerLoss {s : State} {t n : Nat} (hon : On s) (hn : n ≠ s.m.tri.seat) (hvoter : n ∈ voters s.m) (hstays : n ∉ s.m.tri.leaving)
    (hmissing : 3 ≤ (tget s.m.tri.missing n).getD 0) :
    ((∀ x, tget s.m.tri.beats n = some x → x + 2000000 ≤ max s.m.clk t) → Gives (.peerLossDeclaration t n) s t
      (discovery (triFault (triEvent (leave (seen s t) n) 0 n) 1 n) 2 (BitVec.ofNat 32 n) false)) ∧
    (∀ x, tget s.m.tri.beats n = some x → max s.m.clk t < x + 2000000 → Gives (.peerLossDeclaration t n) s t
      (let m := triFault (triEvent (seen s t) 3 n) 1 n
       exclude m ((ranked m [n, m.tri.seat]).getLastD n))) := by
  have hg := gives_of_runOn (i := .peerLossDeclaration t n) (t := t) hon (Eq.refl (execPeerLossDeclaration t n s))
  have hjudged : ¬ (decide (n = (seen s t).tri.seat) || !(voters (seen s t)).contains n || (seen s t).tri.leaving.contains n ||
      decide ((tget (seen s t).tri.missing n).getD 0 < 3)) = true := by
    simp [show (seen s t).tri = s.m.tri from rfl, show voters (seen s t) = voters s.m from rfl, hn, hvoter, hstays, hmissing]
  rw [if_neg hjudged] at hg
  dsimp only at hg
  refine ⟨fun hsilent => ?_, fun x hx hheard => ?_⟩
  · cases hbeat : tget s.m.tri.beats n with
    | none =>
      rw [show tget (seen s t).tri.beats n = none from hbeat] at hg
      exact hg
    | some x =>
      rw [show tget (seen s t).tri.beats n = some x from hbeat] at hg
      dsimp only at hg
      rwa [ms_eq, if_pos (decide_eq_true (show x + 1000000 * 2 ≤ (seen s t).clk from hsilent x hbeat))] at hg
  · rw [show tget (seen s t).tri.beats n = some x from hx] at hg
    dsimp only at hg
    rwa [ms_eq, if_neg (by simpa [seen] using hheard)] at hg

/-- A fault of class F1 about a seat is collected and no more (R390). -/
theorem triFault_minor (m : Mod) (seat : Nat) : triFault m 1 seat = collect m (faultOf 0x12 1 seat 0x0700 4 1) :=
  reportFault_minor (show 1 < 2 by decide)

/-- A partition reported leaves the triad as it was but for its events, and so the ranks (R277, R278). -/
theorem partition_tri (m : Mod) (n : Nat) : (triFault (triEvent m 3 n) 1 n).tri = { m.tri with events := setBit32 m.tri.events 3 } := by
  rw [triFault_minor, collect_tri, triEvent_tri]

theorem partition_ranked (m : Mod) (n : Nat) : (ranked (triFault (triEvent m 3 n) 1 n) [n, (triFault (triEvent m 3 n) 1 n).tri.seat]) =
    ranked m [n, m.tri.seat] := by
  simp only [ranked, roleOf, partition_tri]

theorem seatsAreExcluded : SeatsAreExcluded := by
  intro s t n b hon htrial
  refine ⟨fun r x y z l hhead hno hl hthree hxy hzx => ⟨fun hpeer => ?_, fun hself => ?_⟩,
    fun hn hvoter hstays hmissing => ⟨fun hsilent => ?_, fun x hx hheard hlow => ?_, fun x hx hheard hlow => ?_⟩, fun hseat hup => ?_, fun hfail => ?_⟩
  · have hg := gives_signatureCompare (t := t) hon hhead hno (by rw [signatures, hl]; exact hthree) hxy hzx
    obtain ⟨hleaves, hexcluded, hkept⟩ := exclude_peer (m := triEvent (seen s t) 8 z.1) (n := z.1) (by rw [triEvent_tri]; exact hpeer)
    exact makes_of_gives hg ⟨hleaves, hkept 8 (by decide) (by rw [triEvent_tri]; exact bitOf_setBit32_same _ _ (by decide)), hexcluded⟩
  · have hg := gives_signatureCompare (t := t) hon hhead hno (by rw [signatures, hl]; exact hthree) hxy hzx
    have htrial' : anyTrial (triEvent (seen s t) 8 z.1) = false := (anyTrial_of_regions (by rw [triEvent_nv]; rfl)).trans htrial
    obtain ⟨hst, hcause, hkept⟩ := exclude_self htrial'
    rw [show (triEvent (seen s t) 8 z.1).tri.seat = z.1 by rw [triEvent_tri]; exact hself.symm] at hst hcause hkept
    rw [triEvent_pwr] at hcause
    exact makes_of_gives hg ⟨hst, hkept 8 (by decide) (by rw [triEvent_tri]; exact bitOf_setBit32_same _ _ (by decide)), hcause⟩
  · have hg := (gives_peerLoss (t := t) hon hn hvoter hstays hmissing).1 hsilent
    rw [triFault_minor] at hg
    refine makes_of_gives hg ⟨?_, ?_, ?_⟩
    · rw [discovery_tri, collect_tri, triEvent_tri]
      exact leave_mem (seen s t) n
    · rw [discovery_tri, collect_tri, triEvent_tri]
      exact bitOf_setBit32_same _ _ (by decide)
    · rw [discovery_flt]
      exact collect_sets_active _ (faultOf 0x12 1 n 0x0700 4 1) (show 0x12 < 64 by decide)
  · have hg := (gives_peerLoss (t := t) hon hn hvoter hstays hmissing).2 x hx hheard
    dsimp only at hg
    rw [partition_ranked, show (ranked (seen s t) [n, (seen s t).tri.seat]).getLastD n = n from hlow] at hg
    obtain ⟨hleaves, -, hkept⟩ := exclude_peer (m := triFault (triEvent (seen s t) 3 n) 1 n) (n := n) (by rw [partition_tri]; exact hn)
    exact makes_of_gives hg ⟨hleaves, hkept 3 (by decide) (by rw [partition_tri]; exact bitOf_setBit32_same _ _ (by decide))⟩
  · have hg := (gives_peerLoss (t := t) hon hn hvoter hstays hmissing).2 x hx hheard
    dsimp only at hg
    have hseat : (triFault (triEvent (seen s t) 3 n) 1 n).tri.seat = s.m.tri.seat := by rw [partition_tri]; rfl
    have htrial' : anyTrial (triFault (triEvent (seen s t) 3 n) 1 n) = false := by
      rw [triFault_minor]
      exact (anyTrial_of_regions (by rw [collect_regions, triEvent_nv]; rfl)).trans htrial
    obtain ⟨hst, -, hkept⟩ := exclude_self htrial'
    rw [hseat] at hst hkept
    rw [partition_ranked, show (ranked (seen s t) [n, (seen s t).tri.seat]).getLastD n = s.m.tri.seat from hlow] at hg
    exact makes_of_gives hg ⟨hst, hkept 3 (by decide) (by rw [partition_tri]; exact bitOf_setBit32_same _ _ (by decide))⟩
  · have hg := gives_of_runOn (i := .triadLinkDown t b) (t := t) hon (Eq.refl (execTriadLinkDown t b s))
    dsimp only at hg
    rw [if_pos (by simpa [show (seen s t).tri = s.m.tri from rfl, hseat] using hup), triFault_minor] at hg
    refine makes_of_gives hg ?_
    rw [collect_tri, triEvent_tri]
    refine ⟨?_, ?_, bitOf_setBit32_same _ _ (by decide), collect_sets_active _ (faultOf 0x12 1 _ 0x0700 4 1) (show 0x12 < 64 by decide)⟩
    · cases b <;> simp
    · cases b <;> simp [seen]
  · have hg := gives_of_runOn (i := .triadLinkUp t b) (t := t) hon (Eq.refl (execTriadLinkUp t b s))
    rwa [if_neg (by simp [show (seen s t).pwr.st = s.m.pwr.st from rfl, hfail])] at hg

/-- Settles O19. -/
theorem triadRounds : Obligations.TriadRounds := ⟨roundsRun, seatsAreExcluded⟩

end Sys2Proof.Machine
end

section
/-! SUPPORT. A protection change whose item names a signal that is not defined (R45, R455). -/

open Sys2Proof.Claims

namespace Sys2Proof.Machine

/-! ### A package with a stale handle -/

/-- The one item: TABLE_DELETE of the signal with generation 1 at index 0 (R320, R452). -/
def staleItem : List Byte := [1, 0, 0, 0, 0, 0, 0x20, 0]

/-- A package of that item: the header gives one item and 16 bytes of body (R451). -/
def stalePackage : List Byte :=
  List.replicate 6 0 ++ [1, 0] ++ List.replicate 8 0 ++ [16, 0, 0, 0] ++ List.replicate 172 0 ++ [2, 0, 0, 0, 8, 0, 0, 0] ++ staleItem

theorem stalePackage_items : packageItems stalePackage = some [(2, staleItem)] := by decide +kernel

/-- Where no signal is defined at index 0, the item is refused for a stale handle (R45). -/
theorem applyItems_stale {m : Mod} (h : sigAt m 0 = none) : applyItems m stalePackage = .error (m, .staleHandle) := by
  have hjudge : judgeSig m 0x00200000 = .error .staleHandle := by
    rw [judgeSig, if_neg (by decide), if_neg (by decide), show hIdx 0x00200000 = 0 by decide, h]
  have hdelete : tableDelete m true 1 0x00200000 = .error .staleHandle := by
    simp only [tableDelete, deleteSignal, hjudge]
    rfl
  have hfields : u32 staleItem 0 = 1 ∧ w32 staleItem 4 = 0x00200000 := by decide
  rw [applyItems, stalePackage_items]
  simp only [List.foldlM_cons, applyItem, hfields, hdelete]
  rfl

/-- The proposal of that package, and the descriptor that confirmed it. -/
def staleProposal : Proposal := { pkg := stalePackage, seq := 1, target := 0, acceptedAt := 0 }
def confirmer : Req := { ring := 0, index := 0, tag := 0, noCompl := false, cring := 0 }

/-- The proposal is confirmed; no signal is defined, and SIG_REFUSED is clear. -/
def confirmedStale : State := { m := { sec := { confirmed := some (staleProposal, confirmer) } } }

/-- A refusal for a stale handle is noted in SIG_REFUSED (R45). -/
theorem refuseProt_stale (m : Mod) (q : Req) (seq target : W32) :
    bitOf (refuseProt m q seq target .staleHandle).sig.refused.toNat 1 = true := by
  have hsig : (refuseProt m q seq target .staleHandle).sig = { m.sig with refused := setBit32 m.sig.refused 1 } := by
    simp [refuseProt, refuse, sigRefused, protEvent, secEvent]
  rw [hsig]
  exact bitOf_setBit32_same _ _ (by decide)

/-- The module with no confirmed proposal waiting. -/
def unconfirmed (m : Mod) : Mod := { m with sec := { m.sec with confirmed := none } }

/-- At the protection instant a package that its checks refuse is answered with their refusal (R455). -/
theorem gives_protectionInstant_refused {s : State} {t : Nat} {p : Proposal} {q : Req} {e : Mod × Status} (hon : On s)
    (hconfirmed : s.m.sec.confirmed = some (p, q)) (hrefused : applyItems (unconfirmed (seen s t)) p.pkg = .error e) :
    Gives (.protectionInstant t) s t (refuseProt (noteItem (unconfirmed (seen s t)) e) q p.seq p.target e.2) := by
  have hg := gives_of_runOn (i := .protectionInstant t) (t := t) hon (Eq.refl (execProtectionInstant t s))
  rw [show (seen s t).sec.confirmed = some (p, q) from hconfirmed] at hg
  dsimp only at hg
  unfold unconfirmed at hrefused ⊢
  rw [hrefused] at hg
  exact hg

/-- Refutes O58 in its clause on a protection instant where the checks fail again: a package that deletes a signal which is not defined is refused
for a stale handle, and the refusal is noted in SIG_REFUSED (R45), which is part of what the statement has unchanged. -/
theorem not_protectionChanges : ¬ Obligations.ProtectionChanges := by
  intro h
  have hon : On confirmedStale := by simp [On, confirmedStale]
  obtain ⟨-, -, hinstant, -⟩ := h confirmedStale 0 0 [] [] 0 confirmer confirmer staleProposal
  obtain ⟨-, herror⟩ := hinstant hon rfl
  have hstale : applyItems (unconfirmed (seen confirmedStale 0)) staleProposal.pkg = .error (unconfirmed (seen confirmedStale 0), .staleHandle) :=
    applyItems_stale rfl
  obtain ⟨-, -, hsig, -⟩ := holds_of_makes (gives_protectionInstant_refused hon rfl hstale) (herror _ hstale)
  generalize hm : noteItem (unconfirmed (seen confirmedStale 0)) (unconfirmed (seen confirmedStale 0), .staleHandle) = m at hsig
  have hnoted := refuseProt_stale m confirmer staleProposal.seq staleProposal.target
  have hsame : (refuseProt m confirmer staleProposal.seq staleProposal.target .staleHandle).sig = confirmedStale.m.sig := hsig
  rw [hsame] at hnoted
  exact absurd hnoted (by decide)

end Sys2Proof.Machine
end

section
/-! SUPPORT. Debug access (R458 to R461). -/

open Sys2Proof.Claims

namespace Sys2Proof.Machine

/-! ### What G1 reads and halts (R458) -/

theorem g1Access_seen {s : State} {t : Nat} (hup : g1Up s.m = true) : g1Up (seen s t) = true := hup

/-- An access that writes no cell gives what it does to the module. -/
theorem gives_debugAccess {s : State} {t : Nat} {a : DebugAccess} (hon : On s) (hsame : writtenByG1 s a = s.dbg) :
    Gives (.debugAccess t a) s t (g1Access (seen s t) s.dbg a) := by
  rw [Gives, exec_debugAccess, hsame, if_neg (show ¬ (s.m.advance t).pwr.st = .off from hon)]
  rfl

/-- A write reads nothing, at every level. -/
theorem g1Access_write {m : Mod} (dbg : List Host.Cell) (a : Nat) (v : Byte) (hup : g1Up m = true) :
    g1Access m dbg (.write a v) = { m with sec := { m.sec with g1 := [] } } := by simp [g1Access, hup]

theorem g1Access_read_closed {m : Mod} (dbg : List Host.Cell) (a : Nat) (hup : g1Up m = true) (hclosed : m.sec.debug = .closed) :
    g1Access m dbg (.read a) = { m with sec := { m.sec with g1 := [] } } := by simp [g1Access, hup, hclosed]

/-- Outside CLOSED a cell that has been written is read. -/
theorem g1Access_read_written {m : Mod} {dbg : List Host.Cell} {a : Nat} {v : Byte} (hup : g1Up m = true) (hopen : m.sec.debug ≠ .closed)
    (hcell : tget dbg a = some v) : (g1Access m dbg (.read a)).sec.g1 = [v] := by
  simp [g1Access, hup, hopen, g1Byte, hcell, Mod.tick]

theorem g1Access_halt {m : Mod} (dbg : List Host.Cell) {c : Nat} (hup : g1Up m = true) (hfull : m.sec.debug = .full) (hc : c < 16)
    (hruns : c ∉ m.sec.halted) : (g1Access m dbg (.halt c)).sec.halted = m.sec.halted ++ [c] := by
  simp [g1Access, hup, hfull, hc, hruns]

theorem writtenByG1_full {s : State} (a : Nat) (v : Byte) (hup : g1Up s.m = true) (hfull : s.m.sec.debug = .full) :
    writtenByG1 s (.write a v) = tset s.dbg a v := by simp [writtenByG1, hup, hfull]

/-! ### A token (R459, R460) -/

/-- HOLD stands, or is entered (R460). -/
def heldNow (m : Mod) : Mod := if m.pwr.st = .hold then m else enterHold m

theorem heldNow_holds (m : Mod) : (heldNow m).pwr.st = .hold ∧ (heldNow m).fio = m.fio ∧ (heldNow m).sec = m.sec := by
  unfold heldNow
  split
  next h => exact ⟨h, rfl, rfl⟩
  next => simp

/-- The outputs as entry to FULL leaves them (R460). -/
def outputsSafe (m : Mod) : Mod := abortAll (openAll (allSafe m))

theorem enterFull_eq (m : Mod) : enterFull m = reportFault (stopPairs { heldNow (outputsSafe { m with sec := { m.sec with debug := .full } }) with
    pwr := { (heldNow (outputsSafe { m with sec := { m.sec with debug := .full } })).pwr with cmd := none } } .down)
    (faultOf 0x29 1 0 0x0E00 0 0xFF) := rfl

/-- FULL opens every switch and holds the module (R460). -/
theorem enterFull_safe (m : Mod) : (enterFull m).fio.closed = 0 ∧ (enterFull m).pwr.st = .hold ∧ (enterFull m).sec = { m.sec with debug := .full } := by
  obtain ⟨hhold, hfio, hsec⟩ := heldNow_holds (outputsSafe { m with sec := { m.sec with debug := .full } })
  have hopen : (outputsSafe { m with sec := { m.sec with debug := .full } }).fio.closed = 0 := by simp [outputsSafe]
  have hkept : (outputsSafe { m with sec := { m.sec with debug := .full } }).sec = { m.sec with debug := .full } := by simp [outputsSafe]
  rw [enterFull_eq, reportFault_minor (show 1 < 2 by decide), collect_fio, collect_pwr, collect_sec, stopPairs_fio, stopPairs_pwr, stopPairs_sec]
  exact ⟨(congrArg FioBlk.closed hfio).trans hopen, hhold, hsec.trans hkept⟩

/-- A good token counts, and ends the row of failures (R458, R466). -/
def tokenTaken (m : Mod) : Mod := secEvent { m with sec := { m.sec with attempts := m.sec.attempts + 1, failures := 0 } } 4

/-- What a token judged good does: its level opens, and FULL stands until it ends by itself (R459, R460). -/
def opened (m : Mod) (full : Bool) : Mod :=
  if m.sec.debug == .full then tokenTaken m
  else if full then enterFull (tokenTaken m) else { tokenTaken m with sec := { (tokenTaken m).sec with debug := .observe } }

/-- What a token judged bad does: it counts, and the eighth in a row locks debug (R458). -/
def tokenFailed (m : Mod) : Mod :=
  let n := m.sec.failures + 1
  reportFault (secEvent { m with sec := { m.sec with
    attempts := m.sec.attempts + 1, failures := if n = 8 then 0 else n, lockout := if n = 8 then some m.clk else none } } 3)
    (faultOf 0x28 0 0 0x0E00 0 0xFF)

/-- A key that opens the level verifies the token (R459). -/
def tokenGood (m : Mod) (full : Bool) (sig : List Byte) : Bool :=
  (debugKeys m full).any fun k => ecdsaOk k (sha384 (challengeNow m ++ leBytes 1 (if full then 2 else 1))) sig

theorem gives_debugToken {s : State} {t : Nat} {full : Bool} {sig : List Byte} (hon : On s) (hup : g1Up s.m = true)
    (hfree : s.m.sec.lockout = none) :
    Gives (.debugToken t full sig) s t (if tokenGood s.m full sig then opened (seen s t) full else tokenFailed (seen s t)) := by
  have hg := gives_of_runOn (i := .debugToken t full sig) (t := t) hon (Eq.refl (execDebugToken t full sig s))
  have hjudged : (!g1Up (seen s t) || (seen s t).sec.lockout.isSome) = false := by
    rw [g1Access_seen hup, show (seen s t).sec.lockout = none from hfree]; rfl
  have hlevel : 1 + b2n full = if full then 2 else 1 := by cases full <;> rfl
  rw [hjudged, hlevel] at hg
  exact hg

theorem opened_sec (m : Mod) (full : Bool) : (opened m full).sec =
    { (tokenTaken m).sec with debug := if full || m.sec.debug == .full then .full else .observe } := by
  by_cases hfull : m.sec.debug = .full
  · simp [opened, hfull, tokenTaken, secEvent]
  · cases full with
    | true => simp [opened, hfull, (enterFull_safe _).2.2]
    | false => simp [opened, hfull]

/-- A token for FULL where it does not stand enters it. -/
theorem opened_full {m : Mod} (h : m.sec.debug ≠ .full) : (opened m true).fio.closed = 0 ∧ (opened m true).pwr.st = .hold := by
  obtain ⟨hopen, hhold, -⟩ := enterFull_safe (tokenTaken m)
  rw [opened, if_neg (fun hfull => h (beq_iff_eq.1 hfull)), if_pos rfl]
  exact ⟨hopen, hhold⟩

theorem tokenFailed_sec (m : Mod) : (tokenFailed m).sec = { m.sec with
    attempts := m.sec.attempts + 1, failures := if m.sec.failures = 7 then 0 else m.sec.failures + 1
    lockout := if m.sec.failures = 7 then some m.clk else none, events := setBit32 m.sec.events 3 } := by
  rw [tokenFailed]
  dsimp only
  rw [reportFault_minor (show 0 < 2 by decide)]
  simp [secEvent]

theorem tokenFailed_active (m : Mod) : bitOf (tokenFailed m).flt.active.toNat 0x28 = true := by
  rw [tokenFailed]
  exact reportFault_active _ (f := faultOf 0x28 0 0 0x0E00 0 0xFF) (show 0x28 < 64 by decide)

/-! ### The statement -/

/-- Settles O59: a token is judged once; what an access does is its row of `g1Access`. -/
theorem debugLevels : Obligations.DebugLevels := by
  intro s t a c x full sig v hon
  refine ⟨fun hup hfree => ?token, fun hup hlocked => ?locked, fun hup hfull => ⟨?write, fun hcell => ?read, fun hc hruns => ?halt⟩,
    fun hup hclosed => ⟨?readClosed, ?writeClosed⟩, fun hlock hlate => ?lockEnd, fun hgrant hlate => ?grantEnd⟩
  case token =>
    have hg := gives_debugToken (t := t) (full := full) (sig := sig) hon hup hfree
    cases hgood : tokenGood s.m full sig with
    | true =>
      rw [hgood, if_pos rfl] at hg
      have hsec := opened_sec (seen s t) full
      have hevent : bitOf (opened (seen s t) full).sec.events.toNat 4 = true := by
        rw [hsec]; exact bitOf_setBit32_same s.m.sec.events 4 (by decide)
      refine makes_of_gives hg ⟨congrArg SecBlk.attempts hsec, (if_pos hgood).mpr ⟨congrArg SecBlk.failures hsec, hevent, congrArg SecBlk.debug hsec, ?_⟩⟩
      rintro rfl hnot
      exact opened_full (m := seen s t) hnot
    | false =>
      rw [hgood, if_neg Bool.false_ne_true] at hg
      have hsec := tokenFailed_sec (seen s t)
      exact makes_of_gives hg ⟨congrArg SecBlk.attempts hsec, (if_neg (fun h => Bool.false_ne_true (hgood.symm.trans h))).mpr
        ⟨(congrArg SecBlk.debug hsec :), (congrArg SecBlk.failures hsec :), (congrArg SecBlk.lockout hsec :), tokenFailed_active (seen s t)⟩⟩
  case locked =>
    have hg := gives_of_runOn (i := .debugToken t full sig) (t := t) hon (Eq.refl (execDebugToken t full sig s))
    rw [if_pos (by rw [show (seen s t).sec.lockout.isSome = true from hlocked, Bool.or_true])] at hg
    exact hg
  case write =>
    refine ⟨_, exec_debugAccess s t (.write a v), writtenByG1_full a v hup hfull, rfl, rfl, ?_⟩
    rw [if_neg (show ¬ (s.m.advance t).pwr.st = .off from hon), g1Access_write (m := s.m.advance t) s.dbg a v hup]
    rfl
  case read =>
    have hopen : s.m.sec.debug ≠ .closed := by simp [hfull]
    exact makes_of_gives (gives_debugAccess hon rfl) (g1Access_read_written (m := seen s t) hup hopen hcell)
  case halt => exact makes_of_gives (gives_debugAccess hon rfl) (g1Access_halt (m := seen s t) s.dbg hup hfull hc hruns)
  case readClosed =>
    have hread : g1Access (seen s t) s.dbg (.read a) = { seen s t with sec := { s.m.sec with g1 := [] } } := g1Access_read_closed s.dbg a hup hclosed
    exact hread ▸ gives_debugAccess hon rfl
  case writeClosed =>
    have hwrite : g1Access (seen s t) s.dbg (.write a v) = { seen s t with sec := { s.m.sec with g1 := [] } } := g1Access_write s.dbg a v hup
    exact hwrite ▸ gives_debugAccess hon (writtenByG1_closed (.inr (by simp [hclosed])) _)
  case lockEnd =>
    have hg := gives_of_runOn (i := .debugLockoutEnd t) (t := t) hon (Eq.refl (execDebugLockoutEnd t s))
    rw [show (seen s t).sec.lockout = some x from hlock] at hg
    dsimp only at hg
    rw [if_pos (show x + sec 60 ≤ (seen s t).clk from hlate)] at hg
    exact hg
  case grantEnd =>
    have hg := gives_of_runOn (i := .debugGrantEnd t) (t := t) hon (Eq.refl (execDebugGrantEnd t s))
    rw [show (seen s t).sec.grantEnd = some x from hgrant] at hg
    dsimp only at hg
    rw [if_pos (show x ≤ (seen s t).clk from hlate)] at hg
    refine makes_of_gives hg ?_
    by_cases hfull : s.m.sec.debug = .full
    · rw [if_pos (beq_iff_eq.2 (show (seen s t).sec.debug = .full from hfull))]
      exact ⟨rfl, hfull.trans (if_pos hfull).symm⟩
    · rw [if_neg (show ¬ ((seen s t).sec.debug == .full) = true from fun h => hfull (beq_iff_eq.1 h))]
      exact ⟨rfl, (if_neg hfull).symm⟩

end Sys2Proof.Machine
end

section
/-! SUPPORT. The local panel (R467 to R480). -/

open Sys2Proof.Claims

namespace Sys2Proof.Machine

/-! ### Frames (R469 to R476) -/

/-- What takes effect at a frame start (R469, R470, R473, R476). -/
theorem panelFrameStart_pnl (m : Mod) : (panelFrameStart m).pnl.crcExp = m.pnl.crcNew.getD m.pnl.crcExp ∧ (panelFrameStart m).pnl.crcNew = none ∧
    (panelFrameStart m).pnl.bands = m.pnl.bandsNew.getD m.pnl.bands ∧ (panelFrameStart m).pnl.band = m.pnl.bandNew ∧
    (panelFrameStart m).pnl.frameAt = m.clk ∧ (panelFrameStart m).pnl.pattern = m.pnl.patternDue := by
  have hclk : (if m.pnl.bandNew = m.pnl.band then m else panelEvent m 1).clk = m.clk := by split <;> rfl
  exact ⟨rfl, rfl, rfl, rfl, hclk, rfl⟩

/-- A frame whose bytes have the CRC expected is checked, and no fault is raised (R476). -/
def frameGood (m : Mod) : Mod :=
  let m := { m with pnl := { m.pnl with checked := true } }
  if m.pnl.patternDue && m.pnl.patternNew && m.pnl.crcNew.isNone then { m with pnl := { m.pnl with patternDue := false, patternNew := false } } else m

/-- The pattern is to be shown instead of the frame memory (R476). -/
def patternNext (m : Mod) : Mod :=
  let m := { m with pnl := { m.pnl with checked := true } }
  if m.pnl.patternDue then m else { m with pnl := { m.pnl with patternDue := true, patternNew := false } }

def frameBad (m : Mod) : Mod := reportFault (panelEvent (patternNext m) 2) (faultOf 0x2C 1 0 0x0E00 4 2)

theorem frameGood_checked (m : Mod) : (frameGood m).pnl.checked = true ∧ (frameGood m).flt = m.flt ∧ (frameGood m).pnl.events = m.pnl.events := by
  unfold frameGood
  dsimp only
  split <;> exact ⟨rfl, rfl, rfl⟩

theorem patternNext_due (m : Mod) : (patternNext m).pnl.patternDue = true := by
  unfold patternNext
  dsimp only
  split
  next h => exact h
  next => rfl

theorem frameBad_noted (m : Mod) : (frameBad m).pnl.patternDue = true ∧ bitOf (frameBad m).pnl.events.toNat 2 = true ∧
    bitOf (frameBad m).flt.active.toNat 0x2C = true := by
  unfold frameBad
  refine ⟨?_, ?_, reportFault_active _ (f := faultOf 0x2C 1 0 0x0E00 4 2) (show 0x2C < 64 by decide)⟩
  all_goals rw [reportFault_minor (show 1 < 2 by decide), collect_pnl]
  · exact patternNext_due m
  · exact bitOf_setBit32_same _ _ (by decide)

/-- The driver's CRC is judged one frame time after the start, once (R476). -/
theorem gives_panelFrameEnd {s : State} {t : Nat} (crc : W32) (hon : On s) (hscan : s.m.pnl.scanning = true) (hnew : s.m.pnl.checked = false)
    (hlate : s.m.pnl.frameAt + 8333333 ≤ max s.m.clk t) :
    Gives (.panelFrameEnd t crc) s t (if crc = s.m.pnl.crcExp then frameGood (seen s t) else frameBad (seen s t)) := by
  have hg := gives_of_runOn (i := .panelFrameEnd t crc) (t := t) hon (Eq.refl (execPanelFrameEnd t crc s))
  have hdue : (!(seen s t).pnl.scanning || (seen s t).pnl.checked || decide ((seen s t).clk < (seen s t).pnl.frameAt + 8333333)) = false := by
    rw [show (seen s t).pnl.scanning = true from hscan, show (seen s t).pnl.checked = false from hnew,
      decide_eq_false (show ¬ (seen s t).clk < (seen s t).pnl.frameAt + 8333333 from Nat.not_lt.2 hlate)]
    rfl
  dsimp only at hg
  rw [hdue] at hg
  exact hg

theorem framesShown : PanelFrames := by
  intro s t crc img buf q
  refine ⟨fun hon hdue => ?start, fun hidle => ?idle, fun hon hscan hnew hlate => ⟨fun hcrc => ?good, fun hcrc => ?bad⟩,
    fun hon hready hup hlen => ?image, fun hready hlen => ?length, fun hready hlen hok => ?bands⟩
  case start =>
    exact ⟨_, exec_panelFrameStart_due hon hdue, rfl, rfl, rfl, rfl, panelFrameStart_pnl (seen s t)⟩
  case idle =>
    have hi := exec_panelFrameStart_idle t (.inr hidle)
    by_cases hoff : s.m.pwr.st = .off
    · rw [State.runOn, State.run, if_pos (show (s.m.advance t).pwr.st = .off from hoff)] at hi
      exact hi
    · exact gives_of_runOn hoff hi
  case good =>
    have hg := gives_panelFrameEnd crc hon hscan hnew hlate
    rw [if_pos hcrc] at hg
    exact makes_of_gives hg (frameGood_checked (seen s t))
  case bad =>
    have hg := gives_panelFrameEnd crc hon hscan hnew hlate
    rw [if_neg hcrc] at hg
    exact makes_of_gives hg (frameBad_noted (seen s t))
  case image =>
    by_cases hcrc : crc32c img = crc
    · have hfit : imageFits s.m crc img = true := by simp [imageFits, hup, hlen, hcrc, frameBytes]
      refine ⟨_, exec_pnlFrame_accepted hon hready hfit, rfl, rfl, (if_pos hcrc).mpr ⟨rfl, ?_⟩⟩
      simp
    · have hfit : imageFits s.m crc img = false := by simp [imageFits, hcrc]
      have hg := gives_of_runOp hready (exec_pnlFrame_refused (.inr (.inr hfit)))
      refine ⟨_, hg, rfl, rfl, (if_neg hcrc).mpr ⟨rfl, ?_⟩⟩
      rw [if_neg (by simp [hlen, frameBytes]), if_neg (by simp [show panelUp (seen s t).pnl = true from hup])]
      exact refuse_pnl ..
  case length =>
    have hfit : imageFits s.m crc img = false := by simp [imageFits, hlen, frameBytes]
    have hg := gives_of_runOp hready (exec_pnlFrame_refused (.inr (.inr hfit)))
    rw [if_pos (by simp [hlen, frameBytes])] at hg
    exact hg
  case bands =>
    have hg := gives_of_runOp (i := .pnlBands t q buf) hready (Eq.refl (execPnlBands t q buf s))
    dsimp only at hg
    rw [if_pos (by simp [hlen, hok])] at hg
    exact hg

/-! ### Start and stop (R477, R478) -/

/-- A happening that starts the panel clears the frame memory (R477 step 1). -/
theorem next_of_panelStart {i : Instr} {s : State} {t : Nat} {f : Mod → Mod} (hi : exec i s = s.runPanel t f) (hon : On s)
    (hstarts : (f (seen s t)).pnl.starts ≠ s.m.pnl.starts) :
    exec i s = .next { s with m := { f (seen s t) with clk := max s.m.clk t }, frame := [] } := by
  rw [hi, State.runPanel]
  dsimp only
  rw [if_neg (show ¬ (s.m.advance t).pwr.st = .off from hon), if_neg (show ¬ (f (s.m.advance t)).pnl.starts = s.m.pnl.starts from hstarts)]
  rfl

/-- Step 1 of a start, outside OFF and FAIL (R477). -/
theorem panelStart_pnl {m : Mod} (hon : m.pwr.st ≠ .off) (hfail : m.pwr.st ≠ .fail) : (panelStart m).pnl = { panelOff m.pnl with
    st := .ident, logic := true, startAt := m.clk, starts := m.pnl.starts + 1, retryAt := none, crcExp := clearedCrc } := by
  simp [panelStart, hon, hfail]

/-! ### Identification and the rails (R467, R477, R478) -/

/-- A record in range identifies the panel; its 12 V rail is next (R467, R477). -/
def identified (m : Mod) (ident : List Byte) : Mod :=
  discovery (panelEvent { m with pnl := { m.pnl with
    ident := ident, identAt := m.clk, cols := u16 ident 0, rows := u16 ident 2, maxCode := u8 ident 4
    st := .rail, railOn := some (m.pnl.startAt + ms 12) } } 0) 5 0 true

theorem gives_panelIdentRead {s : State} {t : Nat} (ident : List Byte) (hon : On s) (hst : s.m.pnl.st = .ident)
    (hlate : s.m.pnl.startAt + 10000000 ≤ max s.m.clk t) :
    Gives (.panelIdentRead t ident) s t (if identOk ident then identified (seen s t) ident
      else { seen s t with pnl := { panelOff s.m.pnl with retryAt := some (max s.m.clk t + sec 1) } }) := by
  have hg := gives_of_runOn (i := .panelIdentRead t ident) (t := t) hon (Eq.refl (execPanelIdentRead t ident s))
  have hstate : ((seen s t).pnl.st == .ident) = true := by rw [show (seen s t).pnl.st = .ident from hst]; rfl
  have hdue : ¬ (seen s t).clk < (seen s t).pnl.startAt + ms 10 := Nat.not_lt.2 hlate
  dsimp only at hg
  rw [if_pos hstate, if_neg hdue] at hg
  exact hg

theorem gives_panelRailCheck {s : State} {t x : Nat} (d : Nat) (hon : On s) (hrail : s.m.pnl.railOn = some x) (hlate : x ≤ max s.m.clk t) :
    Gives (.panelRailCheck t d) s t (
      if 11000 < d then (if s.m.pnl.st == .rail then { seen s t with pnl := { s.m.pnl with st := .clear, railOk := true } } else seen s t)
      else if x + ms 5 ≤ max s.m.clk t then railFails (seen s t) else seen s t) := by
  have hg := gives_of_runOn (i := .panelRailCheck t d) (t := t) hon (Eq.refl (execPanelRailCheck t d s))
  rw [show (seen s t).pnl.railOn = some x from hrail] at hg
  dsimp only at hg
  rw [if_neg (show ¬ (seen s t).clk < x from Nat.not_lt.2 hlate)] at hg
  exact hg

theorem railFails_noted (m : Mod) : (railFails m).pnl.st = .off ∧ (railFails m).pnl.railOk = false ∧
    (railFails m).pnl.retryAt = some (m.clk + 10000000000) ∧ bitOf (railFails m).pnl.events.toNat 3 = true ∧
    bitOf (railFails m).flt.active.toNat 0x2D = true := by
  have hpnl : (railFails m).pnl = { panelOff m.pnl with retryAt := some (m.clk + sec 10), events := setBit32 m.pnl.events 3 } := by
    rw [railFails, reportFault_minor (show 1 < 2 by decide), collect_pnl]
    rfl
  refine ⟨by rw [hpnl]; rfl, by rw [hpnl]; rfl, by rw [hpnl]; rfl, ?_, reportFault_active _ (f := faultOf 0x2D 1 0 0x0E00 6 2) (show 0x2D < 64 by decide)⟩
  rw [hpnl]
  exact bitOf_setBit32_same _ _ (by decide)

/-! ### The temperature (R473, R474) -/

/-- The lower edge of a band (R472). -/
def bandEdge (p : PnlBlk) (b : Nat) : Int := ((p.bands[b]?).map Band.edgeLow).getD 0

/-- A reading counts up or down, or starts both counts afresh (R473). -/
def runsAfter (p : PnlBlk) (temp : Int) : Nat × Nat :=
  (if p.bandNew < 5 && bandEdge p (p.bandNew + 1) ≤ temp then p.upRun + 1 else 0,
   if 0 < p.bandNew && temp < bandEdge p p.bandNew - 2 then p.downRun + 1 else 0)

/-- Two readings in a row move the band (R473). -/
def bandAfter (p : PnlBlk) (temp : Int) : PnlBlk :=
  let p' := { p with tempC := temp, upRun := (runsAfter p temp).1, downRun := (runsAfter p temp).2 }
  if (runsAfter p temp).1 = 2 then { p' with bandNew := p'.bandNew + 1, upRun := 0, downRun := 0 }
  else if (runsAfter p temp).2 = 2 then { p' with bandNew := p'.bandNew - 1, upRun := 0, downRun := 0 } else p'

/-- At 100 °C the drive is to be disabled (R474). -/
def driverHot (m : Mod) (temp : Int) : Mod :=
  reportFault (panelEvent { m with pnl := { bandAfter m.pnl temp with st := .hot } } 4) (faultOf 0x2E 1 0 0x0E00 6 2)

theorem bandAfter_kept (p : PnlBlk) (temp : Int) : (bandAfter p temp).st = p.st ∧ (bandAfter p temp).tempC = temp := by
  unfold bandAfter
  dsimp only
  split_ifs <;> exact ⟨rfl, rfl⟩

theorem gives_panelTempRead {s : State} {t : Nat} (temp : Int) (hon : On s) (hup : s.m.pnl.st ≠ .off) :
    Gives (.panelTempRead t temp) s t (if 100 ≤ temp && ((bandAfter s.m.pnl temp).st == .clear || (bandAfter s.m.pnl temp).st == .lit)
      then driverHot (seen s t) temp else { seen s t with pnl := bandAfter s.m.pnl temp }) := by
  have hg := gives_of_runOn (i := .panelTempRead t temp) (t := t) hon (Eq.refl (execPanelTempRead t temp s))
  have hst : ¬ ((seen s t).pnl.st == .off) = true := fun h => hup (beq_iff_eq.1 h)
  dsimp only at hg
  rw [if_neg hst] at hg
  exact hg

theorem driverHot_noted (m : Mod) (temp : Int) : (driverHot m temp).pnl.st = .hot ∧ (driverHot m temp).pnl.tempC = temp ∧
    bitOf (driverHot m temp).pnl.events.toNat 4 = true ∧ bitOf (driverHot m temp).flt.active.toNat 0x2E = true := by
  unfold driverHot
  refine ⟨?_, ?_, ?_, reportFault_active _ (f := faultOf 0x2E 1 0 0x0E00 6 2) (show 0x2E < 64 by decide)⟩
  all_goals rw [reportFault_minor (show 1 < 2 by decide), collect_pnl]
  · rfl
  · exact (bandAfter_kept m.pnl temp).2
  · exact bitOf_setBit32_same _ _ (by decide)

/-- A reading at the next band's edge or above counts up (R473). -/
theorem runsAfter_up {p : PnlBlk} {b : Band} {temp : Int} (hb : p.bands[p.bandNew + 1]? = some b) (hlast : p.bandNew < 5) (hedge : b.edgeLow ≤ temp) :
    (runsAfter p temp).1 = p.upRun + 1 := by
  simp [runsAfter, bandEdge, hb, hlast, hedge]

theorem runsAfter_down_le (p : PnlBlk) (temp : Int) : (runsAfter p temp).2 ≤ p.downRun + 1 := by
  unfold runsAfter
  dsimp only
  split <;> omega

/-! ### Full brightness (R475) -/

/-- No request and no grant of the requester stands. -/
def OutOfPool (who : Nat) (m : Mod) : Prop := (∀ w ∈ m.adm.waiting, w.who ≠ who) ∧ ∀ g ∈ m.adm.grants, g.who ≠ who

theorem outOfPool_of_adm {who : Nat} {m m' : Mod} (h : m'.adm.waiting = m.adm.waiting ∧ m'.adm.grants = m.adm.grants) (hm : OutOfPool who m) :
    OutOfPool who m' := by rwa [OutOfPool, h.1, h.2]

theorem outOfPool_decide {who : Nat} {m : Mod} (h : OutOfPool who m) : OutOfPool who (decide_ m) :=
  decide_induct (P := OutOfPool who) (fun _ h => h) (fun x p hp _ ⟨hw, hg⟩ => ⟨fun w h => hw w (List.mem_of_mem_filter h), fun g h => by
    rcases List.mem_append.1 h with h | h
    · exact hg g (List.mem_of_mem_filter h)
    · rw [List.mem_singleton.1 h]
      exact hw p hp⟩) h

/-- A grant's end leaves its own requester out, and every one that was. -/
theorem outOfPool_releasePermit {who k : Nat} {m : Mod} (hwait : ∀ w ∈ m.adm.waiting, w.who ≠ who)
    (h : who = k ∨ ∀ g ∈ m.adm.grants, g.who ≠ who) : OutOfPool who (releasePermit m k) := by
  refine outOfPool_decide ⟨hwait, fun g hg => ?_⟩
  obtain ⟨hmem, hk⟩ := List.mem_filter.1 hg
  rcases h with rfl | h
  · simpa using hk
  · exact h g hmem

/-- Another's request leaves a requester out. -/
theorem outOfPool_request {who k : Nat} {m : Mod} (hk : k ≠ who) (op : HeavyOp) (c1 : Bool) (d : Nat) (h : OutOfPool who m) :
    OutOfPool who (request m k op c1 d) := by
  unfold request
  dsimp only
  split
  · exact h
  · refine outOfPool_decide ⟨fun w hw => ?_, h.2⟩
    rcases List.mem_append.1 hw with hw | hw
    · exact h.1 w hw
    · rw [List.mem_singleton.1 hw]
      exact hk

theorem enableLoop_adm (m : Mod) (n : Nat) (on : Bool) : (enableLoop m n on).adm = m.adm := by
  unfold enableLoop
  split
  · rfl
  · split_ifs <;> rfl

theorem noteRefused_grants (m : Mod) (test obj kind : Nat) : (noteRefused m test obj kind).adm.waiting = m.adm.waiting ∧
    (noteRefused m test obj kind).adm.grants = m.adm.grants := ⟨rfl, rfl⟩

theorem noteRefused_pnl (m : Mod) (test obj kind : Nat) : (noteRefused m test obj kind).pnl = m.pnl := rfl

theorem tryEnable_grants (m : Mod) (ns : List Nat) (on : Bool) :
    (tryEnable m ns on).1.adm.waiting = m.adm.waiting ∧ (tryEnable m ns on).1.adm.grants = m.adm.grants := by
  unfold tryEnable
  split
  · exact ⟨rfl, rfl⟩
  · split
    · exact noteRefused_grants ..
    · have hadm : (enableLoops m ns on).adm = m.adm := foldl_field Mod.adm _ (fun m n => enableLoop_adm m n on) m ns
      exact ⟨by rw [hadm], by rw [hadm]⟩

theorem enableLoop_pnl (m : Mod) (n : Nat) (on : Bool) : (enableLoop m n on).pnl = m.pnl := by
  unfold enableLoop
  split
  · rfl
  · split_ifs <;> rfl

theorem tryEnable_pnl (m : Mod) (ns : List Nat) (on : Bool) : (tryEnable m ns on).1.pnl = m.pnl := by
  unfold tryEnable
  split
  · rfl
  · split
    · exact noteRefused_pnl ..
    · exact foldl_field Mod.pnl _ (fun m n => enableLoop_pnl m n on) m ns

/-- A granted burst of enables leaves the panel, and another requester out of the pool (R120). -/
theorem pumpBurst_panel {who : Nat} {m : Mod} (hwho : who ≠ whoLoops) (h : OutOfPool who m) :
    OutOfPool who (pumpBurst m) ∧ (pumpBurst m).pnl = m.pnl := by
  unfold pumpBurst
  split
  next =>
    split
    next => exact ⟨h, rfl⟩
    next x q on ns rest _ =>
      dsimp only
      set e := tryEnable { m with lpe := { m.lpe with waiting := rest } } ns on
      have hout : OutOfPool who (post e.1 q e.2 { r0 := BitVec.ofNat 32 ns.length }) := by
        refine outOfPool_of_adm ?_ h
        rw [post_adm]
        exact tryEnable_grants { m with lpe := { m.lpe with waiting := rest } } ns on
      have hreleased := outOfPool_releasePermit (k := whoLoops) hout.1 (.inr hout.2)
      have hpnl : (releasePermit (post e.1 q e.2 { r0 := BitVec.ofNat 32 ns.length }) whoLoops).pnl = m.pnl := by
        rw [releasePermit_pnl, post_pnl]
        exact tryEnable_pnl ..
      split
      next => exact ⟨hreleased, hpnl⟩
      next => exact ⟨outOfPool_request hwho.symm _ _ _ hreleased, (request_pnl ..).trans hpnl⟩
  next => exact ⟨h, rfl⟩

/-- Where no PNL_FULL waits, what goes on with its grant leaves it so (R120, R475). -/
theorem pumpLoops_panel {m : Mod} (hfull : m.pnl.fullReq = none) (h : OutOfPool whoPanel m) :
    OutOfPool whoPanel (pumpLoops m) ∧ (pumpLoops m).pnl.fullReq = none := by
  obtain ⟨hout, hpnl⟩ := pumpBurst_panel (show whoPanel ≠ whoLoops by decide) h
  have hnone : (pumpBurst m).pnl.fullReq = none := by rw [hpnl]; exact hfull
  have hidle : pumpLoops m = pumpBurst m := by rw [pumpLoops, pumpPanel, hnone]
  rw [hidle]
  exact ⟨hout, hnone⟩

/-- The grant of full brightness ends, and with it a PNL_FULL that waits (R475). -/
theorem releaseFull_ends (m : Mod) (q : Req) : (releaseFull m q).pnl.fullReq = none ∧ ∀ g ∈ (releaseFull m q).adm.grants, g.who ≠ 40 := by
  rw [releaseFull]
  dsimp only
  rw [post_pnl, post_adm]
  have hreleased := outOfPool_releasePermit (who := whoPanel) (k := whoPanel)
    (m := postOpt { m with adm := { m.adm with waiting := m.adm.waiting.filter (fun w => w.who != whoPanel) }, pnl := { m.pnl with fullReq := none } }
      m.pnl.fullReq .ok) (by rw [postOpt_adm]; intro w hw; simpa using (List.mem_filter.1 hw).2) (.inl rfl)
  obtain ⟨hout, hnone⟩ := pumpLoops_panel (by rw [releasePermit_pnl, postOpt_pnl]) hreleased
  exact ⟨hnone, hout.2⟩

/-- A PNL_FULL that waits for its grant (R475). -/
def fullAsked (m : Mod) (q : Req) : Mod := startOp { m with pnl := { m.pnl with fullReq := some q } } q

/-- A PNL_FULL whose permit is granted completes (R475, R480). -/
theorem pumpPanel_granted {m : Mod} {q : Req} {g : Permit} (hfull : m.pnl.fullReq = some q) (hwait : m.adm.waiting = []) (hg : g ∈ m.adm.grants)
    (hwho : g.who = whoPanel) : pumpPanel m = post { m with pnl := { m.pnl with fullReq := none } } q .ok := by
  have hholds : holds m whoPanel = true := List.any_eq_true.2 ⟨g, hg, beq_iff_eq.2 hwho⟩
  rw [pumpPanel, hfull]
  dsimp only
  rw [hholds, hwait]
  rfl

/-- A permit asked for with no other request waiting, and room in the pool, is granted at once (R246, R475). -/
theorem pumpLoops_full {m : Mod} {q : Req} {d : Nat} (h1 : 1 ≤ d) (hd : d ≤ 1000) (hwait : m.adm.waiting = []) (hgrants : ∀ g ∈ m.adm.grants, g.who ≠ 40)
    (hfree : m.adm.holdBack = false) (hloops : m.lpe.waiting = []) (hroom : granted m + 4 ≤ pool m) (hfull : m.pnl.fullReq = some q) :
    (pumpLoops (request m whoPanel .panelFull false d)).pnl.fullReq = none ∧
    ∃ g ∈ (pumpLoops (request m whoPanel .panelFull false d)).adm.grants, g.who = 40 ∧ g.units = 4 ∧ g.stop = m.clk + 1000000 * d := by
  obtain ⟨hnone, hmem⟩ := decide_of_waiting_singleton_fits (queued_alone hwait (permitFor whoPanel .panelFull false d)) hfree hroom
  rw [request_queues (who := whoPanel) (op := .panelFull) false (by simp [hwait]) hgrants h1 hd]
  set m' := decide_ (queued m (permitFor whoPanel .panelFull false d))
  have hreq : m'.pnl.fullReq = some q := (congrArg PnlBlk.fullReq (decide_pnl _)).trans hfull
  have hburst : pumpBurst m' = m' := by
    rw [pumpBurst, show m'.lpe.waiting = [] from (congrArg LpeBlk.waiting (decide_lpe _)).trans hloops]
    exact ite_self _
  rw [pumpLoops, hburst, pumpPanel_granted hreq hnone hmem rfl, post_pnl, post_adm]
  exact ⟨rfl, _, hmem, rfl, rfl, congrArg (m.clk + ·) (ms_eq d)⟩

/-! ### The statement -/

theorem panelKept : PanelUpkeep := by
  intro s t d x temp ident q hon
  refine ⟨fun hboot hsoft hfail hen => ?start, fun hboot hsoft hen => ?stop, fun hretry hlate hen hfail => ?retry,
    fun hst hlate => ⟨fun hok => ?ident, fun hok => ?noIdent⟩, fun hrail hlate => ⟨fun hd hst => ?rail, fun hd hlate' => ?railFails⟩,
    fun htemp hst => ?hot, fun b htemp hst hb hlast hedge => ⟨fun hrun => ?secondUp, fun hrun hdown => ?firstUp⟩,
    fun hready h1 hd hup hnone hwait hgrants hfree hloops hroom => ?full, fun hready hup => ?release, fun hready hup => ?identity,
    fun hready hup => ?noIdentity⟩
  case start =>
    have hclosed : regHeld (seen s t) 0x14004 = false := regHeld_of_not_bootHeld hboot 0x14004
    have hstart : regGate 0x14004 1 (fun m => !m.pnl.en) (fun m => if m.pnl.en then m else setPanelEn m true) (seen s t) =
        panelStart { seen s t with pnl := { s.m.pnl with en := true } } := by
      rw [regGate, hclosed, show (seen s t).gen.softLock = false from hsoft, show (seen s t).pnl.en = false from hen]
      rfl
    have hpnl := panelStart_pnl (m := { seen s t with pnl := { s.m.pnl with en := true } }) hon hfail
    rw [← hstart] at hpnl
    refine ⟨_, next_of_panelStart (Eq.refl (execPnlEnWriteOn t s)) hon (by rw [hpnl]; exact Nat.succ_ne_self _), ?_⟩
    exact ⟨(congrArg PnlBlk.en hpnl :), (congrArg PnlBlk.st hpnl :), (congrArg PnlBlk.logic hpnl :), (congrArg PnlBlk.startAt hpnl :), rfl, rfl⟩
  case stop =>
    have hg := gives_of_runReg (i := .pnlEnWriteOff t) (t := t) hon hboot hsoft (Eq.refl (execPnlEnWriteOff t s))
    rw [if_pos (show (seen s t).pnl.en = true from hen)] at hg
    exact makes_of_gives hg ⟨rfl, rfl, rfl, rfl, rfl⟩
  case retry =>
    have hstart : (match (seen s t).pnl.retryAt with
        | some x => if x ≤ (seen s t).clk && (seen s t).pnl.en then panelStart (seen s t) else seen s t
        | none => seen s t) = panelStart (seen s t) := by
      rw [show (seen s t).pnl.retryAt = some x from hretry]
      exact if_pos (by rw [show (seen s t).pnl.en = true from hen, decide_eq_true (show x ≤ (seen s t).clk from hlate)]; rfl)
    have hpnl := panelStart_pnl (m := seen s t) hon hfail
    rw [← hstart] at hpnl
    refine ⟨_, next_of_panelStart (Eq.refl (execPanelRetry t s)) hon ?_, (congrArg PnlBlk.st hpnl :), rfl⟩
    exact fun h => Nat.succ_ne_self _ ((congrArg PnlBlk.starts hpnl).symm.trans h)
  case ident =>
    have hg := gives_panelIdentRead ident hon hst hlate
    rw [if_pos hok] at hg
    refine makes_of_gives hg ?_
    have hpnl : (identified (seen s t) ident).pnl = (panelEvent { seen s t with pnl := { s.m.pnl with
        ident := ident, identAt := (seen s t).clk, cols := u16 ident 0, rows := u16 ident 2, maxCode := u8 ident 4
        st := .rail, railOn := some (s.m.pnl.startAt + ms 12) } } 0).pnl := discovery_pnl ..
    exact ⟨(congrArg PnlBlk.st hpnl :), (congrArg PnlBlk.cols hpnl :), (congrArg PnlBlk.rows hpnl :), (congrArg PnlBlk.ident hpnl :)⟩
  case noIdent =>
    have hg := gives_panelIdentRead ident hon hst hlate
    rw [if_neg (by simp [hok])] at hg
    exact makes_of_gives hg ⟨rfl, rfl, rfl⟩
  case rail =>
    have hg := gives_panelRailCheck d hon hrail hlate
    rw [if_pos hd, if_pos (beq_iff_eq.2 hst)] at hg
    exact hg
  case railFails =>
    have hg := gives_panelRailCheck d hon hrail hlate
    rw [if_neg (by omega), if_pos (show x + ms 5 ≤ max s.m.clk t from hlate')] at hg
    exact makes_of_gives hg (railFails_noted (seen s t))
  case hot =>
    have hg := gives_panelTempRead (t := t) temp hon (by simp [hst])
    rw [if_pos (by simp [htemp, (bandAfter_kept s.m.pnl temp).1, hst])] at hg
    exact makes_of_gives hg (driverHot_noted (seen s t) temp)
  case secondUp =>
    have hg := gives_panelTempRead (t := t) temp hon hst
    rw [if_neg (by simp; omega)] at hg
    have hup : (runsAfter s.m.pnl temp).1 = 2 := by rw [runsAfter_up hb hlast hedge, hrun]
    refine makes_of_gives hg ?_
    simp [bandAfter, hup]
  case firstUp =>
    have hg := gives_panelTempRead (t := t) temp hon hst
    rw [if_neg (by simp; omega)] at hg
    have hup : (runsAfter s.m.pnl temp).1 = 1 := by rw [runsAfter_up hb hlast hedge, hrun]
    have hdown : (runsAfter s.m.pnl temp).2 ≠ 2 := by have := runsAfter_down_le s.m.pnl temp; omega
    refine makes_of_gives hg ?_
    simp [bandAfter, hup, hdown]
  case full =>
    have hg := gives_of_runOp (i := .pnlFull t q d) hready (Eq.refl (execPnlFull t q d s))
    have hnew : ¬ holds (fullAsked (seen s t) q) whoPanel = true := fun h => by
      obtain ⟨g, hg, hwho⟩ := List.any_eq_true.1 h
      exact hgrants g hg (beq_iff_eq.1 hwho)
    rw [if_neg (by omega), if_neg (by simp [show panelUp (seen s t).pnl = true from hup]), if_neg (by omega),
      if_neg (by simp [show (seen s t).pnl.fullReq = none from hnone])] at hg
    replace hg : Gives (.pnlFull t q d) s t (pumpLoops (if holds (fullAsked (seen s t) q) whoPanel then renew (fullAsked (seen s t) q) whoPanel 4 d
      else request (fullAsked (seen s t) q) whoPanel .panelFull false d)) := hg
    rw [if_neg hnew] at hg
    exact makes_of_gives hg (pumpLoops_full (m := fullAsked (seen s t) q) h1 hd hwait hgrants hfree hloops hroom rfl)
  case release =>
    have hg := gives_of_runOp (i := .pnlFullRelease t q) hready (Eq.refl (execPnlFullRelease t q s))
    rw [if_neg (by simp [show panelUp (seen s t).pnl = true from hup])] at hg
    exact makes_of_gives hg (releaseFull_ends (seen s t) q)
  case identity =>
    have hg := gives_of_runOp (i := .pnlIdRead t q) hready (Eq.refl (execPnlIdRead t q s))
    rw [if_pos (show panelUp (seen s t).pnl = true from hup)] at hg
    exact hg
  case noIdentity =>
    have hg := gives_of_runOp (i := .pnlIdRead t q) hready (Eq.refl (execPnlIdRead t q s))
    rw [if_neg (by simp [show panelUp (seen s t).pnl = false from hup])] at hg
    exact hg

/-- Settles O60. -/
theorem localPanel : Obligations.LocalPanel := ⟨framesShown, panelKept⟩

end Sys2Proof.Machine
end

section
/-! SUPPORT. Remote stations: discovery, the cyclic exchange, acyclic requests and the records (R354 to R360). -/

open Sys2Proof.Claims

namespace Sys2Proof.Machine

/-! ### Frames leave the stations alone -/

theorem enqueueAt_stations (m : Mod) (src p : Nat) (f : EthFrame) : (enqueueAt m src p f).net.stations = m.net.stations := by
  unfold enqueueAt
  dsimp only
  split <;> rfl

/-- A frame forwarded waits at ports or is the module's own: the stations are as they were (R337, R342). -/
theorem forward_stations (m : Mod) (src : Nat) (f : EthFrame) : (forward m src f).net.stations = m.net.stations := by
  have hflood : ∀ m : Mod, ((span 1 8).foldl (fun m p => if p = src then m else enqueueAt m src p f) m).net.stations = m.net.stations := fun m =>
    foldl_field (fun m : Mod => m.net.stations) _ (fun m p => by split; exacts [rfl, enqueueAt_stations ..]) m _
  unfold forward
  dsimp only
  split
  · rw [hflood]
    split <;> rfl
  · split
    · split <;> rfl
    · split
      · split
        · rfl
        · exact enqueueAt_stations ..
      · exact hflood m

@[simp] theorem setStation_same (m : Mod) (n : Nat) (r : Station) : tget (setStation m n r).net.stations n = some r := tget_tset_same ..

theorem station_of_forward {m m' : Mod} {n : Nat} {r : Station} (h : m'.net.stations = m.net.stations) (hr : tget m.net.stations n = some r) :
    tget m'.net.stations n = some r := by rw [h, hr]

/-! ### Discovery and the cycle (R356, R357) -/

/-- The station of a record is assigned its address, and told so but by a follower (R287, R356). -/
def stationAssigned (m : Mod) (n : Nat) (st : Station) : Mod :=
  let m := setStation m n st
  if notLead m then m else forward m 0 (stationFrame m st 4 24)

theorem stationAssigned_same (m : Mod) (n : Nat) (st : Station) : tget (stationAssigned m n st).net.stations n = some st := by
  unfold stationAssigned
  dsimp only
  split
  · exact setStation_same ..
  · exact station_of_forward (forward_stations ..) (setStation_same ..)

theorem gives_stationBeacon {s : State} {t : Nat} {id : W32} {mac : BitVec 48} (hon : On s) (hsvc : s.m.pwr.svcStopped = false)
    (hfail : s.m.pwr.st ≠ .fail) : Gives (.stationBeacon t id mac) s t ((s.m.net.stations.find? (fun e => e.2.stationId == id)).elim
      (netEvent { seen s t with net := { s.m.net with unmatched := satInc s.m.net.unmatched } } 2)
      fun e => if e.2.joined then seen s t else stationAssigned (seen s t) e.1 { e.2 with assigned := true, mac := mac }) := by
  have hg := gives_of_runOn (i := .stationBeacon t id mac) (t := t) hon (Eq.refl (execStationBeacon t id mac s))
  have hopen : ¬ ((seen s t).pwr.svcStopped || (seen s t).pwr.st == .fail) = true := by
    rw [show (seen s t).pwr.svcStopped = false from hsvc]
    simpa using show (seen s t).pwr.st ≠ .fail from hfail
  rw [if_neg hopen] at hg
  cases ho : s.m.net.stations.find? (fun e => e.2.stationId == id) with
  | none =>
    rw [show (seen s t).net.stations.find? (fun e => e.2.stationId == id) = none from ho] at hg
    exact hg
  | some e =>
    rw [show (seen s t).net.stations.find? (fun e => e.2.stationId == id) = some e from ho] at hg
    exact hg

/-- A station at its cycle instant (R357). -/
def cycled (m : Mod) (r : Station) : Station := { r with cycle := r.cycle + 1, cycleAt := some m.clk, got := [], segs := 0 }

/-- The station's cycle begins, and its outputs are sent but by a follower (R287, R357). -/
def cycleBegun (m : Mod) (n : Nat) (r : Station) : Mod :=
  let fs := outSegs m n (cycled m r)
  let m' := setStation m n { cycled m r with sent := fs }
  if notLead m' then m' else fs.foldl (fun m f => forward m 0 (stationFrame m (cycled m' r) 6 f.length)) m'

theorem gives_stationCycle {s : State} {t n : Nat} {r : Station} (hon : On s) (hr : tget s.m.net.stations n = some r)
    (hlive : (r.assigned || r.joined) = true) (hfail : s.m.pwr.st ≠ .fail) (hf3 : s.m.flt.f3 = false)
    (hat : onInstant (seen s t) r.cycleUs 0 = true) : Gives (.stationCycle t n) s t (cycleBegun (seen s t) n r) := by
  have hg := gives_of_runOn (i := .stationCycle t n) (t := t) hon (Eq.refl (execStationCycle t n s))
  have hdue : ((r.assigned || r.joined) && (seen s t).pwr.st != .fail && onInstant (seen s t) r.cycleUs 0) = true := by
    rw [hlive, hat]
    simpa using show (seen s t).pwr.st ≠ .fail from hfail
  rw [show tget (seen s t).net.stations n = some r from hr] at hg
  dsimp only at hg
  rw [if_pos hdue, if_neg (show ¬ (seen s t).flt.f3 = true by rw [show (seen s t).flt.f3 = false from hf3]; exact Bool.false_ne_true)] at hg
  exact hg

theorem cycleBegun_station (m : Mod) (n : Nat) (r : Station) :
    tget (cycleBegun m n r).net.stations n = some { cycled m r with sent := outSegs m n (cycled m r) } := by
  unfold cycleBegun
  dsimp only
  split
  · exact setStation_same ..
  · exact station_of_forward (foldl_field (fun m : Mod => m.net.stations) _ (fun m f => forward_stations m 0 _) _ _) (setStation_same ..)

/-! ### The segments of a cycle (R357) -/

theorem gives_inSeg {s : State} {t n : Nat} {frame : List Byte} {r : Station} (hon : On s) (hr : tget s.m.net.stations n = some r) :
    Gives (.inSeg t n frame) s t
      (if (r.assigned || r.joined) && r.cycleAt.isSome && segOk s.m n r frame && !(r.got.any (fun g => g.1 == u8 frame 20)) then
        setStation (seen s t) n { r with segs := u8 frame 21, got := r.got ++ [(u8 frame 20, slice frame 24 (10 * u16 frame 18))] }
      else seen s t) := by
  have hg := gives_of_runOn (i := .inSeg t n frame) (t := t) hon (Eq.refl (execInSeg t n frame s))
  rw [show tget (seen s t).net.stations n = some r from hr] at hg
  exact hg

/-! ### The input instant (R357, R358) -/

/-- The input instant of a station whose cycle is complete, or is not (R357, R358). -/
def inputsJudged (m : Mod) (n : Nat) (r : Station) : Mod :=
  if r.got.length == segsOf r.ins.length r.gmac then
    joinStation (writeInputs (setStation m n { r with cycleAt := none, got := [], missed := 0 }) r) n { r with cycleAt := none, got := [], missed := 0 }
  else if r.joined then
    (if r.missed + 1 ≥ r.wdCycles then dropStation m n { r with cycleAt := none }
     else setStation m n { r with cycleAt := none, got := [], missed := r.missed + 1 })
  else setStation m n { r with cycleAt := none, got := [] }

theorem gives_stationInputInstant {s : State} {t n x : Nat} {r : Station} (hon : On s) (hr : tget s.m.net.stations n = some r)
    (hx : r.cycleAt = some x) (hlate : x + 1000 * r.respUs ≤ max s.m.clk t) :
    Gives (.stationInputInstant t n) s t (inputsJudged (seen s t) n r) := by
  have hg := gives_of_runOn (i := .stationInputInstant t n) (t := t) hon (Eq.refl (execStationInputInstant t n s))
  rw [show tget (seen s t).net.stations n = some r from hr] at hg
  dsimp only at hg
  rw [hx] at hg
  dsimp only at hg
  rw [if_neg (show ¬ (seen s t).clk < x + us r.respUs by rw [us_eq]; exact Nat.not_lt.2 hlate)] at hg
  exact hg

theorem inputsJudged_complete {m : Mod} {n : Nat} {r : Station} (h : r.got.length = segsOf r.ins.length r.gmac) : inputsJudged m n r =
    joinStation (writeInputs (setStation m n { r with cycleAt := none, got := [], missed := 0 }) r) n
      { r with cycleAt := none, got := [], missed := 0 } := if_pos (beq_iff_eq.2 h)

theorem inputsJudged_missed {m : Mod} {n : Nat} {r : Station} (h : r.got.length ≠ segsOf r.ins.length r.gmac) (hjoined : r.joined = true) :
    inputsJudged m n r = if r.wdCycles ≤ r.missed + 1 then dropStation m n { r with cycleAt := none }
      else setStation m n { r with cycleAt := none, got := [], missed := r.missed + 1 } := by
  rw [inputsJudged, if_neg (by simpa using h), if_pos hjoined]

/-- The unit of a station that joins exists (R56). -/
theorem stationUnit_isSome (m : Mod) (n : Nat) : (unitAt (stationUnit m n) (n + 1)).isSome = true := by
  unfold stationUnit
  split
  next u hu => simp [unitAt, hu]
  next => simp [unitAt, setUnit]

theorem joinStation_new {m : Mod} {n : Nat} {r : Station} (h : r.joined = false) :
    tget (joinStation m n r).net.stations n = some { r with joined := true, assigned := false } ∧
    (unitAt (joinStation m n r) (n + 1)).isSome = true ∧ bitOf (joinStation m n r).net.events.toNat 1 = true := by
  have hjoin : joinStation m n r =
      netEvent (discovery (setStation (stationUnit m n) n { r with joined := true, assigned := false }) 1 (BitVec.ofNat 32 n) true) 1 := by
    rw [joinStation, if_neg (by simp [h])]
  refine ⟨?_, ?_, ?_⟩
  all_goals rw [hjoin]
  · show tget (discovery _ _ _ _).net.stations n = _
    rw [discovery_net]
    exact setStation_same ..
  · have hsig : (netEvent (discovery (setStation (stationUnit m n) n { r with joined := true, assigned := false }) 1 (BitVec.ofNat 32 n) true) 1).sig =
        (stationUnit m n).sig := discovery_sig ..
    rw [unitAt, hsig]
    exact stationUnit_isSome m n
  · exact bitOf_setBit32_same _ _ (by decide)

/-! ### A station dropped (R358) -/

/-- The staleness of one signal is what a failed connection does to an entry with no bit of its own (R226). -/
theorem failSignal_no_bit (c : Conn) (m : Mod) (h : W32) : failSignal c m (h, 64) = staleSig m h := by simp [failSignal]

/-- Outside a triad every defined signal of a list goes BAD, STALE (R358, R508). -/
theorem foldl_staleSig_stale {m : Mod} {l : List W32} {h : W32} (hmode : m.tri.mode = 0) (hl : h ∈ l) (hnull : h ≠ 0)
    (hdef : (sigAt m (hIdx h)).isSome = true) : StaleAt (l.foldl staleSig m) (hIdx h) := by
  have hfold : l.foldl staleSig m = (l.map (·, 64)).foldl (failSignal {}) m := by
    simp only [List.foldl_map, failSignal_no_bit]
  rw [hfold]
  exact foldl_failSignal_stale _ m hmode hdef (.inr ⟨(h, 64), List.mem_map_of_mem hl, hnull, rfl⟩)

/-- What is collected for a station that leaves (R358). -/
theorem dropStation_spec (m : Mod) (n : Nat) (r : Station) :
    tget (dropStation m n r).net.stations n = some { r with joined := false, assigned := false, cycleAt := none, got := [], missed := 0 } ∧
    bitOf (dropStation m n r).net.events.toNat 0 = true ∧ (dropStation m n r).sig = (r.ins.foldl staleSig m).sig := by
  unfold dropStation
  dsimp only
  rw [reportFault_minor (show 1 < 2 by decide), collect_net, collect_sig]
  refine ⟨?_, bitOf_setBit32_same _ _ (by decide), discovery_sig ..⟩
  show tget (discovery _ _ _ _).net.stations n = _
  rw [discovery_net]
  exact setStation_same ..

theorem stationsExchange : StationExchange := by
  intro s t n id mac frame r hon
  refine ⟨fun hsvc hfail => ⟨fun hnone => ?unknown, fun hfind hjoined => ?beacon⟩, fun hr => ⟨fun hlive hfail hf3 hat => ?cycle,
    fun hlive hcycle hgot hok => ?seg, fun hbad => ?segBad, fun x hx hlate hall hjoined => ?complete, fun x hx hlate hall hjoined => ?joins,
    fun x hx hlate hmissing hjoined => ⟨fun hfew => ?missed, fun hmany => ?dropped⟩⟩⟩
  case unknown =>
    have hg := gives_stationBeacon (t := t) (id := id) (mac := mac) hon hsvc hfail
    rwa [hnone] at hg
  case beacon =>
    have hg := gives_stationBeacon (t := t) (id := id) (mac := mac) hon hsvc hfail
    rw [hfind, Option.elim_some, if_neg (by simp [hjoined])] at hg
    exact makes_of_gives hg (stationAssigned_same ..)
  case cycle =>
    exact makes_of_gives (gives_stationCycle hon hr hlive hfail hf3 hat) (cycleBegun_station (seen s t) n r)
  case seg =>
    have hg := gives_inSeg (t := t) (frame := frame) hon hr
    rw [if_pos (by simp only [hlive, hcycle, hok, hgot]; rfl), hgot] at hg
    exact hg
  case segBad =>
    have hg := gives_inSeg (t := t) (frame := frame) hon hr
    rw [if_neg (by simp [hbad])] at hg
    exact hg
  case complete =>
    have hg := gives_stationInputInstant (t := t) hon hr hx hlate
    rw [inputsJudged_complete hall, joinStation, if_pos hjoined] at hg
    exact hg
  case joins =>
    have hg := gives_stationInputInstant (t := t) hon hr hx hlate
    rw [inputsJudged_complete hall] at hg
    obtain ⟨hstation, hunit, hevent⟩ := joinStation_new (m := writeInputs (setStation (seen s t) n { r with cycleAt := none, got := [], missed := 0 }) r)
      (n := n) (r := { r with cycleAt := none, got := [], missed := 0 }) hjoined
    exact makes_of_gives hg ⟨⟨_, hstation, rfl, rfl⟩, hunit, hevent⟩
  case missed =>
    have hg := gives_stationInputInstant (t := t) hon hr hx hlate
    rw [inputsJudged_missed hmissing hjoined, if_neg (by omega)] at hg
    exact hg
  case dropped =>
    have hg := gives_stationInputInstant (t := t) hon hr hx hlate
    rw [inputsJudged_missed hmissing hjoined, if_pos hmany] at hg
    obtain ⟨hstation, hevent, hsig⟩ := dropStation_spec (seen s t) n { r with cycleAt := none }
    refine makes_of_gives hg ⟨⟨_, hstation, rfl⟩, hevent, fun hmode h hh hnull g hg => ?_⟩
    obtain ⟨g', hg', hstale⟩ := foldl_staleSig_stale (m := seen s t) hmode hh hnull (Option.isSome_iff_exists.2 ⟨g, hg⟩)
    refine ⟨g', ?_, hstale⟩
    rw [sigAt] at hg' ⊢
    exact (congrArg (fun v : SigBlk => tget v.sigs (hIdx h)) hsig).trans hg'

/-! ### Requests to a station (R359) -/

theorem tget_startOp_stations (m : Mod) (q : Req) (n : Nat) : tget (startOp m q).net.stations n = tget m.net.stations n := rfl

/-- A request of fit length to a station that is joined goes out, or waits for the one before it (R359). -/
theorem acyclic_joined {m : Mod} {q : Req} {n : Nat} {read : Bool} {obj : W32} {data : List Byte} {r : Station} (hn : n < 64) (hlen : data.length ≤ 1024)
    (hr : tget m.net.stations n = some r) (hjoined : r.joined = true) : acyclic m q n read obj data =
      if r.acyc.isSome then setStation (startOp m q) n { r with waiting := r.waiting ++ [(q, read, obj, data)] }
      else sendAcyclic (startOp m q) n r q read data := by
  rw [acyclic, if_neg (by simp; omega), hr]
  dsimp only
  rw [if_neg (by simp [hjoined])]

theorem acyclic_absent {m : Mod} {q : Req} {n : Nat} {read : Bool} {obj : W32} {data : List Byte} (hn : n < 64) (hlen : data.length ≤ 1024)
    (hr : tget m.net.stations n = none) : acyclic m q n read obj data = refuse m q .stationAbsent := by
  rw [acyclic, if_neg (by simp; omega), hr]

/-- Where no request waits, the end of the one outstanding is its completion (R359). -/
theorem endAcyclic_alone {m : Mod} {n : Nat} {r : Station} (q : Req) (code : Status) (x : Res) (hwait : r.waiting = []) :
    endAcyclic m n r q code x = post (setStation m n { r with acyc := none }) q code x := by
  have hr : tget (post (setStation m n { r with acyc := none }) q code x).net.stations n = some { r with acyc := none } := by
    rw [post_net]; exact setStation_same ..
  rw [endAcyclic, nextAcyclic, hr]
  dsimp only
  rw [hwait]

theorem gives_acycResp {s : State} {t n x : Nat} {refused : Bool} {data : List Byte} {r : Station} {c : Req} (hon : On s)
    (hr : tget s.m.net.stations n = some r) (hacyc : r.acyc = some (c, true, x)) (hsvc : s.m.pwr.svcStopped = false) :
    Gives (.acycResp t n refused data) s t (if refused then endAcyclic (seen s t) n r c .stationRefused {}
      else endAcyclic (seen s t) n r c .ok { r0 := BitVec.ofNat 32 (min 1024 data.length), data := data.take 1024 }) := by
  have hg := gives_of_runOn (i := .acycResp t n refused data) (t := t) hon (Eq.refl (execAcycResp t n refused data s))
  rw [show tget (seen s t).net.stations n = some r from hr] at hg
  dsimp only at hg
  rw [hacyc] at hg
  dsimp only at hg
  rw [if_neg (show ¬ (seen s t).pwr.svcStopped = true by rw [show (seen s t).pwr.svcStopped = false from hsvc]; exact Bool.false_ne_true)] at hg
  exact hg

theorem gives_stationTimeout {s : State} {t n x : Nat} {r : Station} {c : Req} {read : Bool} (hon : On s) (hr : tget s.m.net.stations n = some r)
    (hacyc : r.acyc = some (c, read, x)) (hlate : x + 100000000 ≤ max s.m.clk t) :
    Gives (.stationTimeout t n) s t (endAcyclic (seen s t) n r c .stationTimeout {}) := by
  have hg := gives_of_runOn (i := .stationTimeout t n) (t := t) hon (Eq.refl (execStationTimeout t n s))
  rw [show tget (seen s t).net.stations n = some r from hr] at hg
  dsimp only at hg
  rw [hacyc] at hg
  dsimp only at hg
  rw [if_pos (show x + ms 100 ≤ (seen s t).clk from hlate)] at hg
  exact hg

/-! ### Records (R354, R360) -/

/-- A load judged fit is taken, or refused by admission (R239, R354). -/
theorem gives_stationLoad {s : State} {t n : Nat} {q : Req} {buf : List Byte} {m : Mod} (hs : Served s t 0x0280 q) (hheld : loadHeld s.m = none)
    (hload : loadStation (seen s t) n buf = .ok m) : Gives (.stationLoad t q n buf) s t ((admitTest m).elim
      (post (storeAdd (settleAdmission m) 12 n 0 buf) q .ok) fun a => refuse (noteRefused (seen s t) a.1 a.2 0) q .notAdmitted) := by
  have hg := gives_of_runCmd (i := .stationLoad t q n buf) hs (Eq.refl (execStationLoad t q n buf s))
  rw [show loadHeld (seen s t) = none from hheld] at hg
  dsimp only at hg
  rw [hload] at hg
  dsimp only at hg
  cases hadmit : admitTest m with
  | none => rwa [hadmit] at hg
  | some a => rwa [hadmit] at hg

theorem noteRefused_event (m : Mod) (test obj kind : Nat) : bitOf (noteRefused m test obj kind).adm.events.toNat 0 = true :=
  bitOf_setBit32_same _ _ (by decide)

theorem noteRefused_net (m : Mod) (test obj kind : Nat) : (noteRefused m test obj kind).net = m.net := rfl

theorem noteRefused_sig (m : Mod) (test obj kind : Nat) : (noteRefused m test obj kind).sig = m.sig := rfl

/-- A station taken out is in the table no more, and nothing retained changes (R360, R512). -/
theorem clearStation_spec (m : Mod) (n : Nat) (keep : List Nat) :
    tget (clearStation m n keep).net.stations n = none ∧ (clearStation m n keep).nv = m.nv := by
  unfold clearStation
  split
  next hnone => exact ⟨hnone, rfl⟩
  next =>
    refine ⟨(tget_tdel ..).trans (if_pos rfl), ?_⟩
    dsimp only
    rw [orphan_nv, dropRefs_nv]
    exact foldl_field Mod.nv _ (fun m q => post_nv ..) _ _

theorem gives_stationDelete {s : State} {t n : Nat} {q : Req} {r : Station} (hs : Served s t 0x0281 q) (htrial : anyTrial s.m = false)
    (hr : tget s.m.net.stations n = some r) : Gives (.stationDelete t q n) s t
      (if r.joined then refuse (seen s t) q .locked else post (settleAdmission (storeDel (clearStation (seen s t) n []) 12 n)) q .ok) := by
  have hg := gives_of_runCmd (i := .stationDelete t q n) hs (Eq.refl (execStationDelete t q n s))
  rw [if_neg (show ¬ anyTrial (seen s t) = true by rw [show anyTrial (seen s t) = false from htrial]; exact Bool.false_ne_true),
    show tget (seen s t).net.stations n = some r from hr] at hg
  exact hg

theorem stationsRequests : StationRequests := by
  intro s t n obj data buf q c r
  refine ⟨fun hs hr hjoined hfree hn => ?read, fun hs hlen hr hjoined hn hbusy => ?write, fun hs hn hr => ?absent,
    fun x hon hr hacyc hwait hsvc => ⟨?answer, ?refused, fun hlate => ?timeout⟩, fun m hs hheld hload hadmit => ?load,
    fun m a hs hheld hload hadmit => ?notAdmitted, fun hs htrial hr hjoined => ?locked, fun hs htrial hr hjoined => ?delete⟩
  case read =>
    have hg := gives_of_runCmd (i := .stationRead t q n obj) hs (Eq.refl (execStationRead t q n obj s))
    rw [acyclic_joined (m := seen s t) hn (by simp) hr hjoined, if_neg (by simp [hfree])] at hg
    exact hg
  case write =>
    have hg := gives_of_runCmd (i := .stationWrite t q n obj data) hs (Eq.refl (execStationWrite t q n obj data s))
    rw [acyclic_joined (m := seen s t) hn hlen hr hjoined, if_pos hbusy] at hg
    exact hg
  case absent =>
    have hg := gives_of_runCmd (i := .stationRead t q n obj) hs (Eq.refl (execStationRead t q n obj s))
    rw [acyclic_absent (m := seen s t) hn (by simp) hr] at hg
    exact hg
  case answer =>
    have hg := gives_acycResp (t := t) (refused := false) (data := data) hon hr hacyc hsvc
    rwa [if_neg Bool.false_ne_true, endAcyclic_alone _ _ _ hwait] at hg
  case refused =>
    have hg := gives_acycResp (t := t) (refused := true) (data := data) hon hr hacyc hsvc
    rwa [if_pos rfl, endAcyclic_alone _ _ _ hwait] at hg
  case timeout =>
    have hg := gives_stationTimeout hon hr hacyc hlate
    rwa [endAcyclic_alone _ _ _ hwait] at hg
  case load =>
    have hg := gives_stationLoad hs hheld hload
    rwa [hadmit] at hg
  case notAdmitted =>
    have hg := gives_stationLoad hs hheld hload
    rw [hadmit, Option.elim_some] at hg
    have hnet : (refuse (noteRefused (seen s t) a.1 a.2 0) q .notAdmitted).net = s.m.net := by rw [refuse_net, noteRefused_net]; rfl
    have hsig : (refuse (noteRefused (seen s t) a.1 a.2 0) q .notAdmitted).sig = s.m.sig := by simp [refuse, noteRefused_sig]; rfl
    have hevent : bitOf (refuse (noteRefused (seen s t) a.1 a.2 0) q .notAdmitted).adm.events.toNat 0 = true := by
      rw [refuse_adm]; exact noteRefused_event ..
    exact makes_of_gives hg ⟨(congrArg NetBlk.stations hnet :), hsig, hevent⟩
  case locked =>
    have hg := gives_stationDelete hs htrial hr
    rwa [if_pos hjoined] at hg
  case delete =>
    have hg := gives_stationDelete hs htrial hr
    rw [if_neg (by simp [hjoined])] at hg
    obtain ⟨hgone, hnv⟩ := clearStation_spec (seen s t) n []
    refine makes_of_gives hg ⟨?_, { kind := 112, num := n, count := 0, buf := [] }, ?_, rfl, rfl⟩
    · exact (congrArg (fun v : NetBlk => tget v.stations n) (post_net ..)).trans hgone
    · have hstore : (post (settleAdmission (storeDel (clearStation (seen s t) n []) 12 n)) q .ok).nv.store =
          (clearStation (seen s t) n []).nv.store ++ [{ kind := 112, num := n, count := 0, buf := [] }] := by
        rw [post_nv]; rfl
      exact hstore.trans (congrArg (fun v : NvBlk => v.store ++ [({ kind := 112, num := n, count := 0, buf := [] } : StoreEnt)]) hnv)

/-- Settles O50. -/
theorem remoteStations : Obligations.RemoteStations := ⟨stationsExchange, stationsRequests⟩

end Sys2Proof.Machine
end

section
/-! SUPPORT. The CAN FD ports: requests, transmission and reception (R366 to R385). -/

open Sys2Proof.Claims

namespace Sys2Proof.Machine

/-! ### A port and its neighbours in the table -/

@[simp] theorem canOf_setCan_same (m : Mod) (p : Nat) (c : CanPort) : canOf (setCan m p c) p = c := by simp [canOf, setCan]

theorem canOf_setCan_other (m : Mod) {p k : Nat} (c : CanPort) (h : k ≠ p) : canOf (setCan m p c) k = canOf m k := by
  simp [canOf, setCan, tget_tset_other _ _ _ _ h]

/-- A port is what the table says. -/
theorem canOf_of_can {m m' : Mod} (h : m'.can = m.can) (p : Nat) : canOf m' p = canOf m p := by rw [canOf, h, canOf]

/-- A port has a record (R366). -/
def PortAt (m : Mod) (p : Nat) (c : CanPort) : Prop := tget m.can.ports p = some c

theorem canOf_of_portAt {m : Mod} {p : Nat} {c : CanPort} (h : PortAt m p c) : canOf m p = c := by
  rw [canOf, show tget m.can.ports p = some c from h, Option.getD_some]

theorem portAt_of_can {m m' : Mod} {p : Nat} {c : CanPort} (hcan : m'.can = m.can) (h : PortAt m p c) : PortAt m' p c := by
  rwa [PortAt, hcan]

theorem portAt_setCan (m : Mod) (p : Nat) (c : CanPort) : PortAt (setCan m p c) p c := tget_tset_same ..

theorem portAt_modCan {m : Mod} {p : Nat} {c : CanPort} (f : CanPort → CanPort) (h : PortAt m p c) : PortAt (modCan m p f) p (f c) := by
  show tget (tmod m.can.ports p f) p = _
  rw [tget_tmod_same, show tget m.can.ports p = some c from h]
  rfl

theorem portAt_modCan_other {m : Mod} {p k : Nat} {c : CanPort} (f : CanPort → CanPort) (hk : p ≠ k) (h : PortAt m p c) :
    PortAt (modCan m k f) p c := (tget_tmod_other _ _ _ _ hk).trans h

/-! ### A port without a partner (R377) -/

theorem canHome_alone {m : Mod} {p : Nat} {c : CanPort} (h : PortAt m p c) (hp : c.partner = 0) : canHome m p = p := by
  rw [canHome, canOf_of_portAt h, if_pos hp]

theorem canTxPort_alone {m : Mod} {p : Nat} {c : CanPort} (h : PortAt m p c) (hp : c.partner = 0) : canTxPort m p = p := by
  rw [canTxPort, canOf_of_portAt h, hp]
  exact if_neg (by simp)

/-- A port without a partner sends on its own (R376). -/
def onOwnPort (c : CanPort) : CanPort := { c with txOnPartner := false }

theorem portAt_settleTx {m : Mod} {p : Nat} {c : CanPort} (h : PortAt m p c) (hp : c.partner = 0) : PortAt (settleTx m p) p (onOwnPort c) := by
  have hself : settleTx m p = modCan (modCan m p onOwnPort) 0 onOwnPort := by
    rw [settleTx, canHome_alone h hp, canTxPort_alone h hp, canOf_of_portAt h, hp, bne_self_eq_false]
    rfl
  rw [hself]
  have hown := portAt_modCan onOwnPort h
  by_cases hzero : p = 0
  · subst hzero
    exact (portAt_modCan onOwnPort hown :)
  · exact portAt_modCan_other _ hzero hown

/-! ### What is asked of a port (R371 to R374, R379) -/

/-- A request makes the buffer pending with its content, and touches no other port (R373). -/
theorem requestTx_spec {m : Mod} {p b : Nat} {x : CanBuf} (data : List Byte) (hx : tget (canOf m p).bufs b = some x) :
    tget (canOf (requestTx m p b data).1 p).bufs b = some { x with content := encodeBuf m (canOf m p) b data, pending := true } ∧
    ∀ k, k ≠ p → canOf (requestTx m p b data).1 k = canOf m k := by
  have hreq : (requestTx m p b data).1 = setCan m.tick p { canOf m p with
      bufs := tset (canOf m p).bufs b { x with content := encodeBuf m (canOf m p) b data, pending := true } } := by
    rw [requestTx]
    dsimp only
    rw [hx]
  rw [hreq]
  refine ⟨?_, fun k hk => canOf_setCan_other _ _ hk⟩
  rw [canOf_setCan_same]
  exact tget_tset_same ..

theorem gives_canSend {s : State} {t p b : Nat} {q : Req} {data : List Byte} (hs : Served s t 0x0301 q) :
    Gives (.canSend t q p b data) s t ((canSendRefusal s.m p b data).elim
      (post (requestTx (seen s t) p b data).1 q
        (if (match tget (canOf s.m p).bufs b with | some x => x.blocked && canTxPort s.m p == p | none => false) then .canBlocked else .ok)
        { r0 := BitVec.ofNat 32 (b2n (requestTx (seen s t) p b data).2) })
      fun e => refuse (seen s t) q e) := by
  have hg := gives_of_runCmd (i := .canSend t q p b data) hs (Eq.refl (execCanSend t q p b data s))
  cases hrefusal : canSendRefusal s.m p b data with
  | none =>
    rw [show canSendRefusal (seen s t) p b data = none from hrefusal] at hg
    exact hg
  | some e =>
    rw [show canSendRefusal (seen s t) p b data = some e from hrefusal] at hg
    exact hg

theorem gives_canPeriodRequest {s : State} {t p b : Nat} {x : CanBuf} (hon : On s) (hdrives : canDrives s.m (canOf s.m p) = true)
    (hx : tget (canOf s.m p).bufs b = some x) (hdir : x.dir = 2) (hper : x.arg ≠ 0) (hmaster : (canOf s.m p).timeMaster = false) :
    Gives (.canPeriodRequest t p b) s t (if onInstant (seen s t) x.arg 0 then (requestTx (seen s t) p b x.content).1 else seen s t) := by
  have hg := gives_of_runOn (i := .canPeriodRequest t p b) (t := t) hon (Eq.refl (execCanPeriodRequest t p b s))
  dsimp only at hg
  rw [show tget (canOf (seen s t) p).bufs b = some x from hx] at hg
  have hdue : (canDrives (seen s t) (canOf (seen s t) p) && x.dir == 2 && x.arg != 0 && onInstant (seen s t) x.arg 0 &&
      !((canOf (seen s t) p).timeMaster && b == 0)) = onInstant (seen s t) x.arg 0 := by
    rw [show canDrives (seen s t) (canOf (seen s t) p) = true from hdrives, show (canOf (seen s t) p).timeMaster = false from hmaster]
    simp [hdir, hper]
  dsimp only at hg
  rw [hdue] at hg
  exact hg

/-- The reference message of the next cycle waits to be sent (R379). -/
def referenceDue (m : Mod) (p : Nat) (x : CanBuf) : Mod :=
  let c := canOf m p
  let n := c.refCount + 1
  let data := bytes32 c.refTime ++ bytes16 c.refWrap.toNat ++ [n, if m.tim.traceable then 1 else 0]
  setCan m p { c with refCount := n, events := orBit c.events x.pending 5, bufs := tset c.bufs 0 { x with content := data, pending := true } }

theorem gives_referenceCycleStart {s : State} {t p : Nat} {x : CanBuf} (hon : On s) (hdrives : canDrives s.m (canOf s.m p) = true)
    (hx : tget (canOf s.m p).bufs 0 = some x) (hmaster : (canOf s.m p).timeMaster = true)
    (hat : onInstant (seen s t) (canOf s.m p).refCycleUs 0 = true) : Gives (.referenceCycleStart t p) s t (referenceDue (seen s t) p x) := by
  have hg := gives_of_runOn (i := .referenceCycleStart t p) (t := t) hon (Eq.refl (execReferenceCycleStart t p s))
  dsimp only at hg
  rw [show tget (canOf (seen s t) p).bufs 0 = some x from hx] at hg
  have hdue : (canDrives (seen s t) (canOf (seen s t) p) && (canOf (seen s t) p).timeMaster && onInstant (seen s t) (canOf (seen s t) p).refCycleUs 0)
      = true := by
    rw [show canDrives (seen s t) (canOf (seen s t) p) = true from hdrives, show (canOf (seen s t) p).timeMaster = true from hmaster,
      show onInstant (seen s t) (canOf (seen s t) p).refCycleUs 0 = true from hat]
    rfl
  dsimp only at hg
  rw [if_pos hdue] at hg
  exact hg

theorem gives_canRead {s : State} {t p b : Nat} {q : Req} (hready : opReady (seen s t) 0x0302 q = true) (h1 : 1 ≤ p) (h8 : p ≤ 8) (hb : b ≤ 65)
    (hmode : (canOf s.m p).mode ≠ 0) :
    Gives (.canRead t q p b 0) s t (if b ≥ 64 then readFifo (seen s t) q p (b - 64) else readBuf (seen s t) q p b 0) := by
  have hg := gives_of_runOp (i := .canRead t q p b 0) hready (Eq.refl (execCanRead t q p b 0 s))
  rw [if_neg (by simp; omega), if_neg (show ¬ (canOf (seen s t) p).mode = 0 from hmode)] at hg
  exact hg

theorem readFifo_first {m : Mod} {q : Req} {p : Nat} {y : CanStored} {rest : List CanStored} (h : (canOf m p).fifo0 = y :: rest) :
    readFifo m q p 0 = post (setCan m p { canOf m p with fifo0 := rest }) q .ok { data := canRecord y.frame false false 0 y.time y.wrap } := by
  rw [readFifo]
  dsimp only
  rw [if_pos rfl, h]
  rfl

theorem readBuf_stored {m : Mod} {q : Req} {p b : Nat} {x : CanBuf} {f : CanFrame} (hx : tget (canOf m p).bufs b = some x) (hdir : x.dir = 1)
    (hf : x.frame = some f) : readBuf m q p b 0 =
      post (setCan m p { canOf m p with bufs := tset (canOf m p).bufs b { x with newData := false, overrun := false } }) q .ok
        { data := canRecord f x.newData x.overrun x.stores.toNat x.stampTime x.stampWrap } := by
  rw [readBuf]
  dsimp only
  rw [hx]
  dsimp only
  rw [if_neg (by simp [hdir]), if_neg (by simp [hdir]), hf]
  rfl

theorem gives_canPortLoad {s : State} {t p : Nat} {q : Req} {buf : List Byte} {r : Except Status Mod} (hs : Served s t 0x0300 q)
    (htrial : anyTrial s.m = false) (hload : loadCan (seen s t) p buf = r) : Gives (.canPortLoad t q p buf) s t
      (match (generalizing := false) r with | .error e => refuse (seen s t) q e | .ok m => post (storeAdd m 14 p 0 buf) q .ok) := by
  have hg := gives_of_runCmd (i := .canPortLoad t q p buf) hs (Eq.refl (execCanPortLoad t q p buf s))
  rw [if_neg (show ¬ anyTrial (seen s t) = true by rw [show anyTrial (seen s t) = false from htrial]; exact Bool.false_ne_true), hload] at hg
  exact hg

theorem requestsOnCan : CanRequests := by
  intro s t p b data buf q x f y rest e hon
  refine ⟨fun hs hok hx hfree => ?send, fun hs hrefusal => ?sendRefused, fun hdrives hx hdir hper hmaster => ⟨fun hat => ?period, fun hat => ?noPeriod⟩,
    fun hdrives hx hmaster hat => ?reference, fun hready h1 h8 hmode => ⟨fun hfifo => ?fifo, fun hb hx hdir hf => ?buffer⟩,
    fun m hs htrial hload => ?load, fun hs htrial hload => ?loadRefused, fun hs h1 h8 hst hport => ?recover⟩
  case send =>
    have hg := gives_canSend (p := p) (b := b) (data := data) hs
    rw [hok, Option.elim_none] at hg
    obtain ⟨hpending, hothers⟩ := requestTx_spec (m := seen s t) data hx
    exact makes_of_gives hg ⟨⟨_, (congrArg (fun c : CanPort => tget c.bufs b) (canOf_of_can (post_can ..) p)).trans hpending, rfl, rfl, rfl⟩,
      fun k hk => (canOf_of_can (post_can ..) k).trans (hothers k hk)⟩
  case sendRefused =>
    have hg := gives_canSend (p := p) (b := b) (data := data) hs
    rwa [hrefusal] at hg
  case period =>
    have hg := gives_canPeriodRequest (t := t) hon hdrives hx hdir hper hmaster
    rw [if_pos hat] at hg
    exact makes_of_gives hg ⟨_, (requestTx_spec (m := seen s t) x.content hx).1, rfl⟩
  case noPeriod =>
    have hg := gives_canPeriodRequest (t := t) hon hdrives hx hdir hper hmaster
    rwa [if_neg (by simp [hat])] at hg
  case reference =>
    refine makes_of_gives (gives_referenceCycleStart hon hdrives hx hmaster hat) ?_
    have hport : canOf (referenceDue (seen s t) p x) p = _ := canOf_setCan_same ..
    refine ⟨(congrArg CanPort.refCount hport :), fun hpending => ?_, _, (congrArg (fun c : CanPort => tget c.bufs 0) hport).trans (tget_tset_same ..), rfl, rfl⟩
    have hevents := congrArg (fun c : CanPort => bitOf c.events.toNat 5) hport
    rw [hpending] at hevents
    exact hevents.trans (bitOf_setBit32_same _ _ (by decide))
  case fifo =>
    have hg := gives_canRead (b := 64) hready h1 h8 (by omega) hmode
    rw [if_pos (le_refl _), Nat.sub_self, readFifo_first (m := seen s t) hfifo] at hg
    exact hg
  case buffer =>
    have hg := gives_canRead (b := b) hready h1 h8 (by omega) hmode
    rw [if_neg (by omega), readBuf_stored (m := seen s t) hx hdir hf] at hg
    exact hg
  case load => exact gives_canPortLoad hs htrial hload
  case loadRefused => exact gives_canPortLoad hs htrial hload
  case recover =>
    have hg := gives_of_runCmd (i := .canRecover t q p) hs (Eq.refl (execCanRecover t q p s))
    rw [if_neg (by simp; omega)] at hg
    have hrecovering := portAt_modCan (m := seen s t) (fun c => if c.st == .busOff then { c with recovering := true } else c) hport
    rw [if_pos (beq_iff_eq.2 hst)] at hrecovering
    exact makes_of_gives hg ((canOf_of_can (post_can ..) p).trans (canOf_of_portAt hrecovering))

/-! ### The state of a port by its counters (R375) -/

/-- The counters decide the state of a port and nothing else. -/
theorem canState_eq (c : CanPort) : canState c = { c with st := (canState c).st } := by
  unfold canState
  split <;> rfl

theorem canState_st {c : CanPort} (h : c.st = .errorActive ∨ c.st = .errorPassive) :
    (canState c).st = if 128 ≤ c.tec ∨ 128 ≤ c.rxc then .errorPassive else .errorActive := by
  have hbus : (c.st == .off || c.st == .busOff) = false := by rcases h with h | h <;> rw [h] <;> rfl
  rw [canState, hbus]
  simp

/-- A port in error active or error passive stays off the bus-off state by its counters alone. -/
theorem canState_ne_busOff {c : CanPort} (h : c.st = .errorActive ∨ c.st = .errorPassive) : ((canState c).st != .busOff) = true := by
  rw [canState_st h]
  split <;> rfl

/-! ### The end of an attempt (R368, R375, R378) -/

/-- What the end of an attempt without a measured delay does (R368, R375, R378). -/
def attemptEnded (m : Mod) (p b : Nat) (x : CanBuf) : CanTxResult → Mod
  | .sent d => txSent (modCan m p (fun c => { c with tdcv := d.getD c.tdcv })) p p b x
  | .error d => txFailed (modCan m p (fun c => { c with tdcv := d.getD c.tdcv })) p false
  | .ackError dominant => txNoAck m p p b x dominant

/-- The pending buffer of a port that drives the bus ends its attempt, with no delay measured. -/
theorem gives_canTxEnd {s : State} {t p b : Nat} {c : CanPort} {x : CanBuf} {r : CanTxResult} (hon : On s) (hport : PortAt s.m p c)
    (hp : c.partner = 0) (hdrives : canDrives s.m c = true) (hst : c.st = .errorActive ∨ c.st = .errorPassive) (hx : tget c.bufs b = some x)
    (hdir : x.dir = 2) (hpending : x.pending = true) (hr : r = .sent none ∨ r = .error none ∨ r = .ackError false) :
    Gives (.canTxEnd t p b r) s t (attemptEnded (seen s t) p b x r) := by
  have hport' : PortAt (seen s t) p c := hport
  have hdue : (canDrives (seen s t) c && c.st != .busOff && x.dir == 2 && x.pending && canTxPort (seen s t) p == p) = true := by
    rw [show canDrives (seen s t) c = true from hdrives, canTxPort_alone hport' hp, hdir, hpending]
    rcases hst with h | h <;> rw [h] <;> simp
  have hg := gives_of_runOn (i := .canTxEnd t p b r) (t := t) hon (Eq.refl (execCanTxEnd t p b r s))
  dsimp only at hg
  rw [canHome_alone hport' hp, canOf_of_portAt hport', hx] at hg
  dsimp only at hg
  rw [if_pos hdue] at hg
  rcases hr with rfl | rfl | rfl <;> exact hg

/-- A port after a frame sent without error (R373, R375, R378, R379). -/
def sentPort (m : Mod) (c : CanPort) (b : Nat) (x : CanBuf) : CanPort :=
  canState { c with
    bufs := tset c.bufs b { x with pending := false, blocked := false, noAck := false }
    refTime := if c.timeMaster && b == 0 then time32 m else c.refTime
    refWrap := if c.timeMaster && b == 0 then wrap16 m else c.refWrap
    tec := c.tec - 1, noPartner := false, singleShot := false, ackErrors := 0 }

theorem portAt_txSent {m : Mod} {p b : Nat} {c : CanPort} {x : CanBuf} (h : PortAt m p c) (hmode : c.mode = 1) :
    PortAt (txSent m p p b x) p (sentPort m c b x) := by
  rw [txSent]
  rw [canOf_of_portAt h, if_neg (by omega)]
  exact portAt_modCan _ (portAt_setCan ..)

/-- The counter after an attempt. -/
def countedPort (c : CanPort) (rise : Bool) : CanPort := canState { c with tec := if rise then c.tec + 8 else c.tec }

/-- Up to 255 the port goes on (R375). -/
theorem portAt_txError {m : Mod} {p : Nat} {c : CanPort} {rise : Bool} (h : PortAt m p c) (hlow : (countedPort c rise).tec ≤ 255) :
    PortAt (txError m p rise) p (countedPort c rise) := by
  have hcounted := portAt_modCan (fun c => countedPort c rise) h
  rw [txError]
  rw [if_neg]
  · exact hcounted
  · show ¬ (decide ((canOf (modCan m p fun c => countedPort c rise) p).tec > 255) && _) = true
    rw [canOf_of_portAt hcounted, decide_eq_false (by omega)]
    exact Bool.false_ne_true

theorem countedPort_tec (c : CanPort) (rise : Bool) : (countedPort c rise).tec = if rise then c.tec + 8 else c.tec := by
  rw [countedPort, canState_eq]

theorem countedPort_bufs (c : CanPort) (rise : Bool) : (countedPort c rise).bufs = c.bufs := by rw [countedPort, canState_eq]

/-- Above 255 it goes bus-off (R375). -/
theorem txError_busOff {m : Mod} {p : Nat} {c : CanPort} (h : PortAt m p c) (hst : c.st = .errorActive ∨ c.st = .errorPassive) (hhigh : 247 < c.tec) :
    txError m p true = enterBusOff (modCan m p fun c => countedPort c true) p := by
  have hcounted := portAt_modCan (fun c => countedPort c true) h
  rw [txError]
  rw [if_pos]
  · rfl
  · show (decide ((canOf (modCan m p fun c => countedPort c true) p).tec > 255) && (canOf (modCan m p fun c => countedPort c true) p).st != .busOff) = true
    rw [canOf_of_portAt hcounted, countedPort_tec, if_pos rfl, decide_eq_true (by omega)]
    exact canState_ne_busOff (c := { c with tec := c.tec + 8 }) hst

/-- A port that goes bus-off: its pending buffers are blocked (R376). -/
def busOffPort (m : Mod) (c : CanPort) : CanPort :=
  onOwnPort { c with
    st := .busOff, busOffAt := m.clk, recovering := false, events := setBit32 c.events 0
    bufs := tmap c.bufs (fun _ x => if x.dir == 2 && x.pending then { x with blocked := true } else x) }

theorem busOffPort_pending (m : Mod) {c : CanPort} {b : Nat} {x : CanBuf} (hx : tget c.bufs b = some x) (hdir : x.dir = 2) (hpending : x.pending = true) :
    tget (busOffPort m c).bufs b = some { x with blocked := true } := by
  unfold busOffPort onOwnPort
  dsimp only
  rw [tget_tmap, hx]
  simp [hdir, hpending]

theorem enterBusOff_spec {m : Mod} {p : Nat} {c : CanPort} (h : PortAt m p c) (hp : c.partner = 0) :
    PortAt (enterBusOff m p) p (busOffPort m c) ∧ bitOf (enterBusOff m p).flt.active.toNat 0x15 = true := by
  rw [enterBusOff]
  refine ⟨?_, reportFault_active _ (f := faultOf 0x15 1 p 0x0A00 0 2) (show 0x15 < 64 by decide)⟩
  rw [reportFault_minor (show 1 < 2 by decide), canHome_alone h hp]
  refine portAt_of_can (collect_can ..) ?_
  exact portAt_settleTx (portAt_modCan _ (portAt_modCan _ h)) hp

/-- An error with the counter at its edge takes the port bus-off (R375). -/
theorem txFailed_busOff {m : Mod} {p : Nat} {c : CanPort} (h : PortAt m p c) (hp : c.partner = 0) (hst : c.st = .errorActive ∨ c.st = .errorPassive)
    (hhigh : 247 < c.tec) : PortAt (txFailed m p false) p (busOffPort m (countedPort { c with ackErrors := 0 } true)) ∧
      bitOf (txFailed m p false).flt.active.toNat 0x15 = true := by
  have hnone := portAt_modCan (fun c => { c with ackErrors := 0 }) h
  have hoff : txFailed m p false = enterBusOff (modCan (modCan m p fun c => { c with ackErrors := 0 }) p fun c => countedPort c true) p :=
    txError_busOff hnone hst hhigh
  have hpartner : (countedPort { c with ackErrors := 0 } true).partner = 0 := by rw [countedPort, canState_eq]; exact hp
  rw [hoff]
  exact enterBusOff_spec (portAt_modCan (fun c => countedPort c true) hnone) hpartner

theorem portAt_bufs {m : Mod} {p b : Nat} {c : CanPort} {x : CanBuf} (h : PortAt m p c) (hx : tget c.bufs b = some x) :
    tget (canOf m p).bufs b = some x := by rwa [canOf_of_portAt h]

/-! ### Silence, and recovery (R375, R376, R378) -/

/-- A port that has found no partner (R378). -/
def noPartnerPort (c : CanPort) : CanPort := { c with noPartner := true, singleShot := c.loneSingleShot, events := setBit32 c.events 2 }

theorem gives_canNoPartner {s : State} {t p : Nat} {c : CanPort} (hon : On s) (hport : PortAt s.m p c) (hmany : 16 ≤ c.ackErrors)
    (hnew : c.noPartner = false) (hst : c.st ≠ .off) :
    Gives (.canNoPartner t p) s t (reportFault (setCan (seen s t) p (noPartnerPort c)) (faultOf 0x15 0 p 0x0A00 0 2)) := by
  have hg := gives_of_runOn (i := .canNoPartner t p) (t := t) hon (Eq.refl (execCanNoPartner t p s))
  dsimp only at hg
  rw [canOf_of_portAt (m := seen s t) hport, if_pos (by simp [hmany, hnew, hst])] at hg
  exact hg

/-- A port back on the bus, its counters zero (R375). -/
def backOnBus (c : CanPort) : CanPort := { c with st := .errorActive, tec := 0, rxc := 0, recovering := false, events := setBit32 c.events 1 }

/-- No buffer of a port is blocked (R376). -/
def unblocked (c : CanPort) : CanPort := { c with bufs := tmap c.bufs (fun _ x => { x with blocked := false }) }

theorem makes_canRecovered {s : State} {t p : Nat} {c : CanPort} (hon : On s) (hport : PortAt s.m p c) (hp : c.partner = 0) (hst : c.st = .busOff)
    (hrec : c.recovering = true) : Makes (.canRecovered t p) s (fun m => PortAt m p (onOwnPort (unblocked (backOnBus c)))) := by
  have hback : PortAt (setCan (seen s t) p (backOnBus c)) p (backOnBus c) := portAt_setCan ..
  have hg := gives_of_runOn (i := .canRecovered t p) (t := t) hon (Eq.refl (execCanRecovered t p s))
  dsimp only at hg
  rw [canOf_of_portAt (m := seen s t) hport, if_pos (by simp [hst, hrec])] at hg
  replace hg : Gives (.canRecovered t p) s t (settleTx (modCan (setCan (seen s t) p (backOnBus c))
    (canHome (setCan (seen s t) p (backOnBus c)) p) unblocked) p) := hg
  rw [canHome_alone hback hp] at hg
  exact makes_of_gives hg (portAt_settleTx (portAt_modCan _ hback) hp)

theorem transmissionOnCan : CanTransmission := by
  intro s t p b c x hon hport hp
  have hport : PortAt s.m p c := hport
  refine ⟨fun hdrives hst hx hdir hpending => ⟨fun hmode _ => ?sent, fun _ hlow => ?error, fun _ hhigh => ?busOff, fun hpassive hsingle hlow => ?noAck⟩,
    fun hmany hnew hst => ?noPartner, fun hst hauto hlate => ?delay, fun hst hrec => ?recovered⟩
  case sent =>
    refine makes_of_gives (gives_canTxEnd hon hport hp hdrives hst hx hdir hpending (.inl rfl)) ?_
    have hsent : PortAt (attemptEnded (seen s t) p b x (.sent none)) p (sentPort _ c b x) :=
      portAt_txSent (portAt_modCan (m := seen s t) (fun c => { c with tdcv := none.getD c.tdcv }) hport) hmode
    rw [sentPort, canState_eq] at hsent
    have hcan := canOf_of_portAt hsent
    exact ⟨(congrArg CanPort.tec hcan :), (congrArg CanPort.noPartner hcan :), (portAt_bufs hsent (tget_tset_same ..) :)⟩
  case error =>
    refine makes_of_gives (gives_canTxEnd hon hport hp hdrives hst hx hdir hpending (.inr (.inl rfl))) ?_
    have hfailed : PortAt (attemptEnded (seen s t) p b x (.error none)) p (countedPort { c with ackErrors := 0 } true) :=
      portAt_txError (portAt_modCan (fun c => { c with ackErrors := 0 }) (portAt_modCan (m := seen s t) (fun c => { c with tdcv := none.getD c.tdcv }) hport))
        (by rw [countedPort_tec, if_pos rfl]; exact Nat.add_le_of_le_sub (by omega) hlow)
    have hcan := canOf_of_portAt hfailed
    refine ⟨(congrArg CanPort.tec hcan).trans (countedPort_tec _ _), ?_, (congrArg CanPort.st hcan).trans (canState_st hst)⟩
    exact (congrArg CanPort.bufs hcan).trans (countedPort_bufs ..)
  case busOff =>
    refine makes_of_gives (gives_canTxEnd hon hport hp hdrives hst hx hdir hpending (.inr (.inl rfl))) ?_
    obtain ⟨hbus, hactive⟩ := txFailed_busOff (portAt_modCan (m := seen s t) (fun c => { c with tdcv := none.getD c.tdcv }) hport) hp hst hhigh
    replace hbus : PortAt (attemptEnded (seen s t) p b x (.error none)) p _ := hbus
    have hcan := canOf_of_portAt hbus
    refine ⟨(congrArg CanPort.st hcan :), ?_, ⟨_, portAt_bufs hbus (busOffPort_pending _ ((congrArg (tget · b) (countedPort_bufs ..)).trans hx) hdir hpending), hpending, rfl⟩, hactive⟩
    exact (congrArg (fun c : CanPort => bitOf c.events.toNat 0) hcan).trans (bitOf_setBit32_same _ _ (by decide))
  case noAck =>
    refine makes_of_gives (gives_canTxEnd hon hport hp hdrives hst hx hdir hpending (.inr (.inr rfl))) ?_
    have hcan : canOf (seen s t) p = c := canOf_of_portAt hport
    have hkept : attemptEnded (seen s t) p b x (.ackError false) = txError (modCan (seen s t) p (fun c => { c with ackErrors := c.ackErrors + 1 })) p false := by
      rw [attemptEnded, txNoAck, hcan, if_neg (by simp [hsingle]), hpassive]
      rfl
    have hcounted := portAt_txError (rise := false) (portAt_modCan (m := seen s t) (fun c => { c with ackErrors := c.ackErrors + 1 }) hport)
      (by rw [countedPort_tec]; exact hlow)
    rw [← hkept, countedPort, canState_eq] at hcounted
    have hport' := canOf_of_portAt hcounted
    exact ⟨(congrArg CanPort.tec hport' :), (congrArg CanPort.ackErrors hport' :)⟩
  case noPartner =>
    refine makes_of_gives (gives_canNoPartner hon hport hmany hnew hst) ?_
    have hcan : canOf (reportFault (setCan (seen s t) p (noPartnerPort c)) (faultOf 0x15 0 p 0x0A00 0 2)) p = noPartnerPort c := by
      rw [reportFault_minor (show 0 < 2 by decide), canOf_of_can (collect_can ..), canOf_setCan_same]
    exact ⟨(congrArg CanPort.noPartner hcan :), (congrArg CanPort.singleShot hcan :),
      (congrArg (fun c : CanPort => bitOf c.events.toNat 2) hcan).trans (bitOf_setBit32_same _ _ (by decide))⟩
  case delay =>
    have hg := gives_of_runOn (i := .recoverDelayExpiry t p) (t := t) hon (Eq.refl (execRecoverDelayExpiry t p s))
    have hdue : (c.st == .busOff && c.autoRecover && decide (c.busOffAt + ms c.recoverDelayMs ≤ (seen s t).clk)) = true := by
      rw [hst, hauto, decide_eq_true (by rw [ms_eq]; exact hlate)]
      rfl
    dsimp only at hg
    rw [canOf_of_portAt (m := seen s t) hport, if_pos hdue] at hg
    exact hg
  case recovered =>
    obtain ⟨u, hu, hm, hrest⟩ := makes_canRecovered (t := t) hon hport hp hst hrec
    refine ⟨u, hu, ?_, hrest⟩
    have hcan := canOf_of_portAt hm
    refine ⟨(congrArg CanPort.st hcan :), (congrArg CanPort.tec hcan :), (congrArg CanPort.rxc hcan :),
      (congrArg (fun c : CanPort => bitOf c.events.toNat 1) hcan).trans (bitOf_setBit32_same _ _ (by decide)), fun k y hy => portAt_bufs hm ?_⟩
    unfold onOwnPort unblocked backOnBus
    dsimp only
    rw [tget_tmap, hy]
    rfl

/-! ### A frame stored (R370 to R372) -/

/-- The receive entries of a buffer note the instant of a store (R382). -/
def mapsStored (clk b : Nat) (l : List CanMap) : List CanMap := l.map (fun e => if e.buffer == b then { e with last := clk } else e)

/-- A store's signals are written; of the module nothing else changes but the port's notes of the instant (R382). -/
theorem mapStore_field {γ : Type} (g : Mod → γ) (hwrite : ∀ m h v q t w, g (ownerWriteAt m h v q t w) = g m) {m : Mod} {p : Nat} {c : CanPort}
    (h : PortAt m p c) (b : Nat) (data : List Byte) (time : W32) (wrap : BitVec 16) :
    g (mapStore m p b data time wrap) = g (setCan m p { c with maps := mapsStored m.clk b c.maps }) := by
  unfold mapStore
  dsimp only
  rw [canOf_of_portAt h]
  exact foldl_field g _ (fun m e => by split; exacts [rfl, hwrite ..]) _ _

/-- Where the buffer has no entries nothing else changes. -/
theorem mapStore_unmapped {m : Mod} {p b : Nat} {c : CanPort} (h : PortAt m p c) (hmaps : c.maps.any (fun e => e.buffer == b) = false) (data : List Byte)
    (time : W32) (wrap : BitVec 16) : mapStore m p b data time wrap = setCan m p { c with maps := mapsStored m.clk b c.maps } := by
  have hnil : c.maps.filter (fun e => e.buffer == b) = [] := by simpa using hmaps
  unfold mapStore
  dsimp only
  rw [canOf_of_portAt h, hnil]
  rfl

/-- A buffer with a frame stored in it (R371). -/
def storedBuf (m : Mod) (c : CanPort) (n : Nat) (b : CanBuf) (f : CanFrame) : CanBuf :=
  { b with
    frame := some f, stampTime := time32 m, stampWrap := wrap16 m, stores := b.stores + 1
    newData := !c.maps.any (fun e => e.buffer == n), overrun := b.overrun || b.newData }

/-- The port of a buffer stored into. -/
def storedPort (m : Mod) (c : CanPort) (n : Nat) (b : CanBuf) (f : CanFrame) : CanPort :=
  { c with bufs := tset c.bufs n (storedBuf m c n b f), events := orBit c.events b.newData 3 }

theorem storeBuf_eq {m : Mod} {p : Nat} {c : CanPort} (h : PortAt m p c) (n : Nat) (b : CanBuf) (f : CanFrame) :
    storeBuf m p n b f = mapStore (setCan m p (storedPort m c n b f)) p n (f.data.take (dlcLen f.fdf f.dlc)) (time32 m) (wrap16 m) := by
  rw [storeBuf, canOf_of_portAt h]
  rfl

/-- What a port needs to hear a node's heartbeats (R380). -/
def hearing (c : CanPort) : Nat × Bool × Nat := (c.hbTimeoutMs, c.hbExt, c.hbBase)

/-- A store leaves of the port what hears heartbeats, and the clock and the power of the module. -/
theorem storeFrame_hearing {m : Mod} {p : Nat} {c : CanPort} (h : PortAt m p c) (f : CanFrame) :
    (∃ c', PortAt (storeFrame m p f) p c' ∧ hearing c' = hearing c) ∧ (storeFrame m p f).clk = m.clk ∧ (storeFrame m p f).pwr = m.pwr := by
  rw [storeFrame, canOf_of_portAt h]
  split
  next n b _ =>
    have hset := portAt_setCan m p (storedPort m c n b f)
    rw [storeBuf_eq h]
    refine ⟨⟨{ storedPort m c n b f with maps := mapsStored m.clk n c.maps }, ?_, rfl⟩, ?_, ?_⟩
    · exact (mapStore_field (fun m => tget m.can.ports p) (fun m h v q t w => by rw [ownerWriteAt_can]) hset ..).trans (portAt_setCan ..)
    · exact mapStore_field Mod.clk (fun m h v q t w => ownerWriteAt_clk ..) hset ..
    · exact mapStore_field Mod.pwr (fun m h v q t w => ownerWriteAt_pwr ..) hset ..
  next =>
    split
    next e _ =>
      rw [storeFifo, canOf_of_portAt h]
      exact ⟨⟨_, portAt_setCan .., by dsimp only; split <;> rfl⟩, rfl, rfl⟩
    next => exact ⟨⟨c, h, rfl⟩, rfl, rfl⟩

/-- A frame that a buffer without map entries takes (R370, R371). -/
theorem storeFrame_buffer {m : Mod} {p n : Nat} {c : CanPort} {x : CanBuf} {f : CanFrame} (h : PortAt m p c)
    (hfind : c.bufs.find? (fun e => bufTakes e.2 f) = some (n, x)) (hmaps : c.maps.any (fun e => e.buffer == n) = false) :
    PortAt (storeFrame m p f) p { storedPort m c n x f with maps := mapsStored m.clk n c.maps } ∧ (storeFrame m p f).sig = m.sig := by
  rw [storeFrame, canOf_of_portAt h, hfind]
  dsimp only
  rw [storeBuf_eq h, mapStore_unmapped (portAt_setCan m p (storedPort m c n x f)) hmaps]
  exact ⟨portAt_setCan .., rfl⟩

/-- A frame that no buffer takes, for a FIFO with room (R370, R372). -/
theorem storeFrame_fifo {m : Mod} {p : Nat} {c : CanPort} {f : CanFrame} {e : W32 × W32} (h : PortAt m p c)
    (hbufs : c.bufs.find? (fun e => bufTakes e.2 f) = none) (hfind : c.filters.find? (fun e => filterTakes e f) = some e)
    (hsel : bitOf e.2.toNat 31 = false) (hroom : c.fifo0.length < 32) :
    PortAt (storeFrame m p f) p { c with
      events := orBit c.events false 4, fifo0 := c.fifo0 ++ [{ frame := f, time := time32 m, wrap := wrap16 m }], lost0 := c.lost0 } := by
  have hfull : decide (32 ≤ c.fifo0.length) = false := decide_eq_false (by omega)
  rw [storeFrame, canOf_of_portAt h, hbufs]
  dsimp only
  rw [hfind]
  dsimp only
  rw [hsel, storeFifo, canOf_of_portAt h]
  dsimp only
  rw [if_pos (show b2n false = 0 from rfl), if_pos (show b2n false = 0 from rfl), hfull,
    if_neg (show ¬ 32 ≤ c.fifo0.length by omega)]
  exact portAt_setCan ..

theorem storeFrame_none {m : Mod} {p : Nat} {c : CanPort} {f : CanFrame} (h : PortAt m p c)
    (hbufs : c.bufs.find? (fun e => bufTakes e.2 f) = none) (hfind : c.filters.find? (fun e => filterTakes e f) = none) :
    storeFrame m p f = m := by
  rw [storeFrame, canOf_of_portAt h, hbufs]
  dsimp only
  rw [hfind]

/-! ### Heartbeats (R380) -/

/-- What the host reads of a port: its buffers and FIFOs (R371, R372). -/
def framesOf (c : CanPort) : Tbl CanBuf × List CanStored × List CanStored := (c.bufs, c.fifo0, c.fifo1)

/-- A heartbeat leaves the frames stored and the signals. -/
theorem heartbeat_frames {m : Mod} {p : Nat} {c : CanPort} (h : PortAt m p c) (f : CanFrame) :
    (∃ c', PortAt (heartbeat m p f) p c' ∧ framesOf c' = framesOf c) ∧ (heartbeat m p f).sig = m.sig := by
  unfold heartbeat
  extract_lets c0 n known noted
  have hc0 : c0 = c := canOf_of_portAt h
  have hnoted : PortAt noted p { c with nodes := tset c.nodes n m.clk } := by
    unfold noted
    rw [hc0]
    exact portAt_setCan ..
  split
  · exact ⟨⟨c, h, rfl⟩, rfl⟩
  · split
    · exact ⟨⟨_, hnoted, rfl⟩, rfl⟩
    · exact ⟨⟨_, portAt_modCan _ (portAt_of_can (discovery_can ..) hnoted), rfl⟩, discovery_sig ..⟩

/-- A node whose heartbeat is heard is present (R380). -/
theorem heartbeat_present {m : Mod} {p : Nat} {c : CanPort} {f : CanFrame} (h : PortAt m p c) (hms : c.hbTimeoutMs ≠ 0)
    (hsvc : m.pwr.svcStopped = false) (hext : f.ext = c.hbExt) (hmin : c.hbBase < f.id) (hmax : f.id ≤ c.hbBase + 127) :
    ∃ c', PortAt (heartbeat m p f) p c' ∧ tget c'.nodes (f.id - c.hbBase) = some m.clk := by
  have hheard : ¬ (decide (c.hbTimeoutMs = 0) || m.pwr.svcStopped || f.ext != c.hbExt || decide (f.id ≤ c.hbBase) ||
      decide (f.id > c.hbBase + 127)) = true := by
    rw [hsvc, hext]
    simp [hms]
    omega
  have hnoted := portAt_setCan m p { c with nodes := tset c.nodes (f.id - c.hbBase) m.clk }
  rw [heartbeat, canOf_of_portAt h, if_neg hheard]
  dsimp only
  split
  · exact ⟨_, hnoted, tget_tset_same ..⟩
  · exact ⟨_, portAt_modCan _ (portAt_of_can (discovery_can ..) hnoted), tget_tset_same ..⟩

/-! ### A frame received (R370, R375, R378) -/

/-- The port has heard another node (R375, R378). -/
def heardPort (c : CanPort) : CanPort := canState { c with noPartner := false, singleShot := false, ackErrors := 0, rxc := c.rxc - 1 }

/-- What a frame received does to a port without a partner. -/
def frameTaken (m : Mod) (p : Nat) (f : CanFrame) : Mod := heartbeat (storeFrame (heardNode m p) p f) p f

theorem portAt_heardNode {m : Mod} {p : Nat} {c : CanPort} (h : PortAt m p c) : PortAt (heardNode m p) p (heardPort c) := portAt_modCan _ h

theorem heardPort_eq (c : CanPort) : heardPort c = { c with
    noPartner := false, singleShot := false, ackErrors := 0, rxc := c.rxc - 1, st := (heardPort c).st } := by
  rw [heardPort, canState_eq]

theorem gives_canFrameReceive {s : State} {t p : Nat} {c : CanPort} {f : CanFrame} (hon : On s) (hport : PortAt s.m p c) (hp : c.partner = 0)
    (hmode : c.mode ≠ 0) (hst : c.st = .errorActive ∨ c.st = .errorPassive) : Gives (.canFrameReceive t p f) s t (frameTaken (seen s t) p f) := by
  have hport' : PortAt (seen s t) p c := hport
  have hruns : ¬ (decide (c.mode = 0) || c.st == .off || c.st == .busOff) = true := by
    rcases hst with h | h <;> simp [h, hmode]
  have hsame : { f with partner := f.partner || p != p } = f := by rw [bne_self_eq_false, Bool.or_false]
  have hg := gives_of_runOn (i := .canFrameReceive t p f) (t := t) hon (Eq.refl (execCanFrameReceive t p f s))
  dsimp only at hg
  rw [canHome_alone hport' hp, canOf_of_portAt hport', if_neg hruns, hsame] at hg
  exact hg

/-- What a frame stored makes of the port, the heartbeat leaves. -/
theorem frameTaken_port {m : Mod} {p : Nat} {c : CanPort} {f : CanFrame} (h : PortAt (storeFrame (heardNode m p) p f) p c) :
    framesOf (canOf (frameTaken m p f) p) = framesOf c ∧ (frameTaken m p f).sig = (storeFrame (heardNode m p) p f).sig := by
  obtain ⟨⟨c', hc', hframes⟩, hsig⟩ := heartbeat_frames h f
  exact ⟨(congrArg framesOf (canOf_of_portAt hc')).trans hframes, hsig⟩

theorem receptionOnCan : CanReception := by
  intro s t p n f c x e hon hport hp
  have hport : PortAt s.m p c := hport
  have hheard : PortAt (heardNode (seen s t) p) p (heardPort c) := portAt_heardNode hport
  refine ⟨fun hmode hst => ⟨fun hfind hmaps => ?buffer, fun hbufs hfind hsel hroom => ?fifo, fun hbufs hfind => ?nowhere,
    fun hms hsvc hext hmin hmax => ?heartbeat⟩, fun y hy hms hsvc hlate => ?silent, fun g r hg hms hlate htri hnull hr => ?mapTimeout⟩
  case buffer =>
    refine makes_of_gives (gives_canFrameReceive hon hport hp hmode hst) ?_
    rw [heardPort_eq] at hheard
    obtain ⟨hstored, hsig⟩ := storeFrame_buffer hheard hfind hmaps
    obtain ⟨hframes, hkept⟩ := frameTaken_port hstored
    refine ⟨⟨_, (congrArg (fun c : Tbl CanBuf × List CanStored × List CanStored => tget c.1 n) hframes).trans (tget_tset_same ..), rfl, rfl, ?_, rfl, rfl⟩,
      (congrArg (fun c : Tbl CanBuf × List CanStored × List CanStored => c.2.1) hframes :),
      (congrArg (fun c : Tbl CanBuf × List CanStored × List CanStored => c.2.2) hframes :), hkept.trans hsig⟩
    exact congrArg (!·) hmaps
  case fifo =>
    refine makes_of_gives (gives_canFrameReceive hon hport hp hmode hst) ?_
    rw [heardPort_eq] at hheard
    obtain ⟨hframes, -⟩ := frameTaken_port (storeFrame_fifo hheard hbufs hfind hsel hroom)
    exact ⟨(congrArg (fun c : Tbl CanBuf × List CanStored × List CanStored => c.1) hframes :),
      (congrArg (fun c : Tbl CanBuf × List CanStored × List CanStored => c.2.2) hframes :),
      (congrArg (fun c : Tbl CanBuf × List CanStored × List CanStored => c.2.1) hframes :)⟩
  case nowhere =>
    refine makes_of_gives (gives_canFrameReceive hon hport hp hmode hst) ?_
    rw [heardPort_eq] at hheard
    obtain ⟨hframes, -⟩ := frameTaken_port (m := seen s t) (f := f) (c := _) (by rw [storeFrame_none hheard hbufs hfind]; exact hheard)
    exact ⟨(congrArg (fun c : Tbl CanBuf × List CanStored × List CanStored => c.1) hframes :),
      (congrArg (fun c : Tbl CanBuf × List CanStored × List CanStored => c.2.1) hframes :),
      (congrArg (fun c : Tbl CanBuf × List CanStored × List CanStored => c.2.2) hframes :)⟩
  case heartbeat =>
    refine makes_of_gives (gives_canFrameReceive hon hport hp hmode hst) ?_
    rw [heardPort_eq] at hheard
    obtain ⟨⟨c', hc', hhears⟩, hclk, hpwr⟩ := storeFrame_hearing hheard f
    obtain ⟨hms', hext', hbase'⟩ : c'.hbTimeoutMs = c.hbTimeoutMs ∧ c'.hbExt = c.hbExt ∧ c'.hbBase = c.hbBase := by
      simpa [hearing] using hhears
    obtain ⟨c'', hc'', hnode⟩ := heartbeat_present (f := f) hc' (by rw [hms']; exact hms) (by rw [hpwr]; exact hsvc) (by rw [hext']; exact hext)
      (by rw [hbase']; exact hmin) (by rw [hbase']; exact hmax)
    rw [hbase', hclk] at hnode
    exact (congrArg (fun d : CanPort => tget d.nodes (f.id - c.hbBase)) (canOf_of_portAt hc'')).trans hnode
  case silent =>
    have hg := gives_of_runOn (i := .heartbeatTimeout t p n) (t := t) hon (Eq.refl (execHeartbeatTimeout t p n s))
    have hdue : (c.hbTimeoutMs != 0 && !(seen s t).pwr.svcStopped && decide (y + ms c.hbTimeoutMs ≤ (seen s t).clk)) = true := by
      rw [show (seen s t).pwr.svcStopped = false from hsvc, decide_eq_true (by rw [ms_eq]; exact hlate)]
      simp [hms]
    dsimp only at hg
    rw [canOf_of_portAt (m := seen s t) hport, hy] at hg
    dsimp only at hg
    rw [if_pos hdue] at hg
    have hgone : PortAt (discovery (setCan (seen s t) p { c with nodes := tdel c.nodes n }) 3 (BitVec.ofNat 32 (256 * p + n)) false) p
        { c with nodes := tdel c.nodes n } := portAt_of_can (discovery_can ..) (portAt_setCan ..)
    have hcan := canOf_of_portAt (portAt_modCan (fun c => { c with events := setBit32 c.events 7 }) hgone)
    refine makes_of_gives hg ⟨?_, (congrArg (fun d : CanPort => bitOf d.events.toNat 7) hcan).trans (bitOf_setBit32_same _ _ (by decide))⟩
    exact (congrArg (fun d : CanPort => tget d.nodes n) hcan).trans ((tget_tdel ..).trans (if_pos rfl))
  case mapTimeout =>
    have hg' := gives_of_runOn (i := .canMapTimeout t p n) (t := t) hon (Eq.refl (execCanMapTimeout t p n s))
    have hdue : (g.timeoutMs != 0 && decide (g.last + ms g.timeoutMs ≤ (seen s t).clk)) = true := by
      rw [decide_eq_true (by rw [ms_eq]; exact hlate)]
      simp [hms]
    rw [canOf_of_portAt (m := seen s t) hport, hg] at hg'
    dsimp only at hg'
    rw [if_pos hdue, staleSig_alone (m := seen s t) hnull hr htri] at hg'
    exact makes_of_gives hg' ⟨r.toStale, sigAt_setSig_same .., rfl, rfl, rfl⟩

/-- Settles O51. -/
theorem canPorts : Obligations.CanPorts := ⟨requestsOnCan, transmissionOnCan, receptionOnCan⟩

end Sys2Proof.Machine
end

section
/-! SUPPORT. The recorder: samples, intervals, flushes, freezes and reads (R404 to R422), and the order of wrapping numbers (R507). -/

open Sys2Proof.Claims

namespace Sys2Proof.Machine

/-! ### Wrapping numbers (R507) -/

theorem serialLater_iff (a b : W32) : serialLater a b = true ↔
    1 ≤ (b.toNat + 2 ^ 32 - a.toNat) % 2 ^ 32 ∧ (b.toNat + 2 ^ 32 - a.toNat) % 2 ^ 32 ≤ 2 ^ 31 - 1 := by
  have hdist : (b - a).toNat = (b.toNat + 2 ^ 32 - a.toNat) % 2 ^ 32 := by
    have ha := a.isLt
    rw [BitVec.toNat_sub]
    congr 1
    omega
  rw [serialLater, hdist, Bool.and_eq_true, decide_eq_true_eq, decide_eq_true_eq]
  omega

theorem serialsOrdered : SerialNumbers := by
  intro a b n
  have ha := a.isLt
  have hb := b.isLt
  refine ⟨serialLater_iff a b, ?self, fun h => ?asymmetric, fun h1 hn => ?next⟩
  case self =>
    rw [Bool.eq_false_iff, ne_eq, serialLater_iff]
    omega
  case asymmetric =>
    rw [serialLater_iff] at h
    rw [Bool.eq_false_iff, ne_eq, serialLater_iff]
    omega
  case next =>
    rw [serialLater_iff, BitVec.toNat_add, BitVec.toNat_ofNat]
    omega

/-! ### A sample in an accumulator (R404, R407) -/

section
variable (m : Mod) (a : Accum) (es : List F32) (v : F64) (q : Qual) (fo st : Bool)

/-- A BAD sample enters neither the bins nor the extremes. -/
theorem addSample_bad (hq : isBad q = true) : (addSample m a (some es) v q fo st).bins = a.bins ∧ (addSample m a (some es) v q fo st).min = a.min ∧
    (addSample m a (some es) v q fo st).max = a.max ∧ (addSample m a (some es) v q fo st).qsum.getLsbD 0 = true := by
  rw [addSample]
  dsimp only
  rw [if_pos hq]
  refine ⟨rfl, rfl, rfl, ?_⟩
  rw [if_pos hq]
  simp

/-- The bin of a value is the number of edges at or below it (R405). -/
theorem binOf_edges : binOf m (some es) v = es.countP (fun e => le64 (widen e) v) := List.countP_eq_length_filter.symm

/-- A sample that is not BAD is counted in its bin. -/
def binned : Accum :=
  { a with
    any := true
    qsum := a.qsum ||| (if isBad q then 1 else if isGood q then 0 else 2) ||| (if fo then 4 else 0) ||| (if st then 8 else 0)
    bins := a.bins.modify (es.countP (fun e => le64 (widen e) v)) (fun c => min 0xFFFFFFFF (c + 1)) }

/-- The extremes of an accumulator that has seen a sample take another. -/
def extremes : Accum :=
  let a := if lt64 v a.min then { a with min := v, minAt := nowNs m } else a
  if lt64 a.max v then { a with max := v, maxAt := nowNs m } else a

theorem extremes_kept : (extremes m a v).bins = a.bins ∧ (extremes m a v).seen = a.seen := by
  unfold extremes
  dsimp only
  split_ifs <;> exact ⟨rfl, rfl⟩

theorem extremes_low (hlow : lt64 v a.min = true) : (extremes m a v).min = v ∧ (extremes m a v).minAt = nowNs m := by
  unfold extremes
  dsimp only
  rw [if_pos hlow]
  split_ifs <;> exact ⟨rfl, rfl⟩

theorem addSample_eq (hq : isBad q = false) : addSample m a (some es) v q fo st =
    if a.seen then extremes m (binned a es v q fo st) v
    else { binned a es v q fo st with seen := true, min := v, max := v, minAt := nowNs m, maxAt := nowNs m } := by
  rw [addSample]
  dsimp only
  rw [if_neg (by simp [hq]), binOf_edges]
  by_cases hseen : a.seen = true
  · rw [if_pos hseen, if_neg (by simp [hseen])]
    rfl
  · rw [if_neg hseen, if_pos (by simpa using hseen)]
    rfl

/-- Any other enters its bin, and the extremes. -/
theorem addSample_good (hq : isBad q = false) :
    (addSample m a (some es) v q fo st).bins = a.bins.modify (es.countP (fun e => le64 (widen e) v)) (fun c => min 0xFFFFFFFF (c + 1)) ∧
    (addSample m a (some es) v q fo st).seen = true ∧
    (a.seen = false → (addSample m a (some es) v q fo st).min = v ∧ (addSample m a (some es) v q fo st).max = v) ∧
    (a.seen = true → lt64 v a.min = true → (addSample m a (some es) v q fo st).min = v ∧ (addSample m a (some es) v q fo st).minAt = nowNs m) := by
  rw [addSample_eq m a es v q fo st hq]
  cases hseen : a.seen with
  | false => exact ⟨rfl, rfl, fun _ => ⟨rfl, rfl⟩, nofun⟩
  | true =>
    obtain ⟨hbins, hkept⟩ := extremes_kept m (binned a es v q fo st) v
    exact ⟨hbins, hkept.trans hseen, nofun, fun _ hlow => extremes_low m (binned a es v q fo st) v hlow⟩

end

/-! ### Tiers -/

@[simp] theorem tierOf_setTier_same {n : Nat} (m : Mod) (t : Tier) : tierOf (setTier m n t) n = t := by
  unfold tierOf setTier
  split_ifs <;> rfl

/-- A tier is what the recorder holds. -/
theorem tierOf_of_rcr {m m' : Mod} (h : m'.rcr = m.rcr) (n : Nat) : tierOf m' n = tierOf m n := by rw [tierOf, h, tierOf]

/-- What a tier replaced leaves of the recorder: its counts and marks. -/
theorem setTier_counts (m : Mod) (n : Nat) (t : Tier) : (setTier m n t).rcr.lost = m.rcr.lost ∧ (setTier m n t).rcr.frozen = m.rcr.frozen ∧
    (setTier m n t).rcr.events = m.rcr.events ∧ (setTier m n t).rcr.en = m.rcr.en := by
  unfold setTier
  dsimp only
  split_ifs <;> exact ⟨rfl, rfl, rfl, rfl⟩

/-! ### A sample at the tap (R404, R407, R408) -/

theorem tierSample_lost (m : Mod) (n key cls : Nat) (r : SigRec) (h : W32) (lost : Bool) : (tierSample m n key cls r h lost).rcr.lost = m.rcr.lost := by
  unfold tierSample
  exact (setTier_counts m.tick n _).1

/-- What the tiers take of a sample leaves the count of those lost. -/
theorem tierTakes_lost (m : Mod) (n k : Nat) (r : SigRec) (lost : Bool) : (tierTakes m n k r lost).rcr.lost = m.rcr.lost := by
  unfold tierTakes
  dsimp only
  split_ifs
  · rfl
  · exact tierSample_lost ..
  · exact foldl_field (fun m : Mod => m.rcr.lost) _ (fun m x => tierSample_lost ..) _ _

theorem tierTakes_stopped {m : Mod} {n : Nat} (h : (tierOf m n).running = false) (k : Nat) (r : SigRec) (lost : Bool) : tierTakes m n k r lost = m := by
  rw [tierTakes, h]
  rfl

/-- A tier whose list names the signal once, and that has no accumulator, begins one with the sample (R407). -/
theorem tierTakes_first {m : Mod} {k c : Nat} {r : SigRec} (hruns : m.rcr.tier1.running = true) (hnow : m.rcr.tier1.cur = tierInterval m 1)
    (hlist : listAt m.rcr.tier1 m.rcr.tier1.cur = [(sigHandle k r.gen, c)]) (hnone : m.rcr.tier1.accums = []) :
    tierTakes m 1 k r false = setTier m.tick 1 { m.rcr.tier1 with
      accums := [(0, addSample m (newAccum m.rcr.tier1.cur (sigHandle k r.gen)) (classAt m 1 m.rcr.tier1.cur c)
        (convert r.ty 5 { v := r.val, q := r.qual }).v (convert r.ty 5 { v := r.val, q := r.qual }).q r.forced r.stale)] } := by
  have htier : tierOf m 1 = m.rcr.tier1 := rfl
  have hiv : max m.rcr.tier1.cur (tierInterval m 1) = m.rcr.tier1.cur := by rw [← hnow, max_self]
  have hfresh : freshAccum m 1 0 m.rcr.tier1.cur (sigHandle k r.gen) = (m.rcr.tier1, newAccum m.rcr.tier1.cur (sigHandle k r.gen)) := by
    rw [freshAccum, htier, hnone]
    rfl
  have hsample : tierSample m 1 0 c r (sigHandle k r.gen) false = setTier m.tick 1 { m.rcr.tier1 with
      accums := [(0, addSample m (newAccum m.rcr.tier1.cur (sigHandle k r.gen)) (classAt m 1 m.rcr.tier1.cur c)
        (convert r.ty 5 { v := r.val, q := r.qual }).v (convert r.ty 5 { v := r.val, q := r.qual }).q r.forced r.stale)] } := by
    rw [tierSample, htier, hiv, hfresh]
    dsimp only
    rw [hnone]
    rfl
  rw [tierTakes, htier, hiv]
  dsimp only
  rw [hlist, if_neg (by simp [hruns]), if_neg (by decide)]
  simpa using hsample

/-- The tap's queue holds so many samples of the instant (R408). -/
def tapped (m : Mod) (n : Nat) : Mod := { m with rcr := { m.rcr with queued := n, queuedAt := m.clk } }

/-- The tiers take a sample, each in its turn. -/
def tiersTake (m : Mod) (k : Nat) (r : SigRec) (lost : Bool) : Mod := tierTakes (tierTakes (tierTakes m 1 k r lost) 2 k r lost) 3 k r lost

/-- A sample is lost, and counted (R408). -/
def sampleLost (m : Mod) : Mod :=
  reportFault { m with rcr := { m.rcr with lost := satInc m.rcr.lost, events := setBit32 m.rcr.events 1 } } (faultOf 0x21 0 0 0x0B00 0 3)

theorem gives_recorderSample {s : State} {t k held : Nat} {r : SigRec} (hon : On s) (hr : sigAt s.m k = some r) (hty : r.ty ≠ 7)
    (hruns : s.m.rcr.tier1.running = true ∨ s.m.rcr.tier2.running = true ∨ s.m.rcr.tier3.running = true)
    (hheld : (if s.m.rcr.queuedAt = max s.m.clk t then s.m.rcr.queued else 0) = held) :
    Gives (.recorderSample t k) s t (if 65536 ≤ held then sampleLost (tiersTake (tapped (seen s t) held) k r true)
      else tiersTake (tapped (seen s t) (held + 1)) k r false) := by
  have hg := gives_of_runOn (i := .recorderSample t k) (t := t) hon (Eq.refl (execRecorderSample t k s))
  have hrecords : ¬ (decide (r.ty = 7) || !((seen s t).rcr.tier1.running || (seen s t).rcr.tier2.running || (seen s t).rcr.tier3.running)) = true := by
    have : ((seen s t).rcr.tier1.running || (seen s t).rcr.tier2.running || (seen s t).rcr.tier3.running) = true := by
      rw [Bool.or_eq_true, Bool.or_eq_true, or_assoc]
      exact hruns
    rw [this]
    simpa using hty
  rw [show sigAt (seen s t) k = some r from hr] at hg
  dsimp only at hg
  rw [if_neg hrecords, show (if (seen s t).rcr.queuedAt = (seen s t).clk then (seen s t).rcr.queued else 0) = held from hheld] at hg
  by_cases hfull : 65536 ≤ held
  · rw [if_pos hfull, if_pos hfull, decide_eq_true hfull] at hg
    rw [if_pos hfull]
    exact hg
  · rw [if_neg hfull, if_neg hfull, decide_eq_false hfull] at hg
    rw [if_neg hfull]
    exact hg

theorem tiersTake_lost (m : Mod) (k : Nat) (r : SigRec) (lost : Bool) : (tiersTake m k r lost).rcr.lost = m.rcr.lost := by
  rw [tiersTake, tierTakes_lost, tierTakes_lost, tierTakes_lost]

theorem sampleLost_noted (m : Mod) : (sampleLost m).rcr.lost = satInc m.rcr.lost ∧ bitOf (sampleLost m).rcr.events.toNat 1 = true ∧
    bitOf (sampleLost m).flt.active.toNat 0x21 = true := by
  unfold sampleLost
  refine ⟨?_, ?_, reportFault_active _ (f := faultOf 0x21 0 0 0x0B00 0 3) (show 0x21 < 64 by decide)⟩
  all_goals rw [reportFault_minor (show 0 < 2 by decide), collect_rcr]
  exact bitOf_setBit32_same _ _ (by decide)

/-! ### Closing (R407, R408, R410) -/

theorem gives_accumulatorSweep {s : State} {t n : Nat} (hon : On s) (h1 : 1 ≤ n) (h3 : n ≤ 3) :
    Makes (.accumulatorSweep t n) s (fun m => (tierOf m n).accums = (tierOf s.m n).accums.filter (fun e => !decide (e.2.interval < tierInterval (seen s t) n)) ∧
      (tierOf m n).kept = (tierOf s.m n).kept) := by
  have hg := gives_of_runOn (i := .accumulatorSweep t n) (t := t) hon (Eq.refl (execAccumulatorSweep t n s))
  rw [if_neg (by simp; omega)] at hg
  refine makes_of_gives hg ?_
  have htier := tierOf_setTier_same (n := n) (seen s t) { tierOf (seen s t) n with
    accums := (tierOf (seen s t) n).accums.filter (fun e => !decide (e.2.interval < tierInterval (seen s t) n))
    made := (tierOf (seen s t) n).made ++ ((tierOf (seen s t) n).accums.filter (fun e => decide (e.2.interval < tierInterval (seen s t) n))).map (fun e =>
      (e.2.interval, e.1, closeAccum (seen s t) n e.2 (e.2.interval == (tierOf (seen s t) n).cur && (tierOf (seen s t) n).part))) }
  exact ⟨(congrArg Tier.accums htier :), (congrArg Tier.kept htier :)⟩

/-- An interval is closed with the next SEQ; the tier-1 ring overwrites its oldest outside a freeze alone (R410, R418). -/
theorem closeInterval_spec {m : Mod} {n : Nat} (i : Interval) (h1 : 1 ≤ n) (h3 : n ≤ 3) (hseq : m.nv.recSeq.length = 3)
    (hkeeps : n ≠ 1 ∨ m.rcr.frozen.isSome = true) :
    (tierOf (closeInterval m n i) n).ended = (tierOf m n).ended ∧
    (tierOf (closeInterval m n i) n).kept = (tierOf m n).kept ++ [{ i with seq := seqOf m n + 1 }] ∧
    seqOf (closeInterval m n i) n = seqOf m n + 1 := by
  have hring : ¬ (decide (n = 1) && m.rcr.frozen.isNone) = true := by
    rcases hkeeps with h | h
    · simp [h]
    · simp [Option.isSome_iff_ne_none.1 h]
  rw [closeInterval]
  dsimp only
  rw [if_neg hring, tierOf_setTier_same]
  refine ⟨rfl, rfl, ?_⟩
  show (lset m.nv.recSeq (n - 1) (seqOf m n + 1)).getD (n - 1) 0 = _
  rw [lset, List.getD_eq_getElem?_getD, List.getElem?_set_self (by omega), Option.getD_some]

theorem gives_intervalClose {s : State} {t n : Nat} {i : Interval} {rest : List Interval} (hon : On s) (h1 : 1 ≤ n) (h3 : n ≤ 3)
    (hfail : s.m.pwr.st ≠ .fail) (hended : (tierOf s.m n).ended = i :: rest) :
    Gives (.intervalClose t n) s t (closeInterval (setTier (seen s t) n { tierOf s.m n with ended := rest }) n i) := by
  have hg := gives_of_runOn (i := .intervalClose t n) (t := t) hon (Eq.refl (execIntervalClose t n s))
  have hopen : ¬ (decide (n < 1) || decide (n > 3) || (seen s t).pwr.st == .fail) = true := by
    simpa [Nat.not_lt.2 h1, Nat.not_lt.2 h3] using show (seen s t).pwr.st ≠ .fail from hfail
  rw [if_neg hopen] at hg
  dsimp only at hg
  rw [show (tierOf (seen s t) n).ended = i :: rest from hended] at hg
  exact hg

/-! ### Flushes (R416, R417) -/

/-- A flush is noted, and a change of mode takes effect (R416). -/
def flushNoted (m : Mod) (n : Nat) : Mod :=
  { m with rcr := if n = 2 then { m.rcr with flush2 := m.clk, t2Buf := m.rcr.t2New } else { m.rcr with flush3 := m.clk, t3Buf := m.rcr.t3New } }

/-- A flush lost: its records are gone, and the fault is reported (R417). -/
def flushLost (m : Mod) (n : Nat) : Mod :=
  reportFault (setTier { m with rcr := { m.rcr with events := setBit32 m.rcr.events 2 } } n { tierOf m n with kept := [] }) (faultOf 0x20 1 n 0x0B00 2 3)

theorem gives_archiveFlush {s : State} {t n : Nat} {r : FlashResult} (hon : On s) (hn : n = 2 ∨ n = 3) (hfail : s.m.pwr.st ≠ .fail)
    (hdue : flushDue (seen s t) n = true) (hholds : holds s.m (whoFlush n) = true) : Gives (.archiveFlush t n r) s t
      (releasePermit (flushNoted (if r = .failed then flushLost (seen s t) n else flushTier (seen s t) n) n) (whoFlush n)) := by
  have hg := gives_of_runOn (i := .archiveFlush t n r) (t := t) hon (Eq.refl (execArchiveFlush t n r s))
  have hopen : ¬ (decide (n < 2) || decide (n > 3) || !flushDue (seen s t) n || (seen s t).pwr.st == .fail) = true := by
    have hrange : ¬ n < 2 ∧ ¬ 3 < n := by omega
    simpa [hdue, hrange] using show (seen s t).pwr.st ≠ .fail from hfail
  have hheld : request (seen s t) (whoFlush n) .archiveFlush false 2000 = seen s t := by
    rw [request, if_pos]
    rw [show (seen s t).adm.grants.any (fun g => g.who == whoFlush n) = true from hholds, Bool.or_true]
  rw [if_neg hopen] at hg
  dsimp only at hg
  rw [hheld, if_pos (show holds (seen s t) (whoFlush n) = true from hholds)] at hg
  exact hg

/-- The note of a flush leaves what the tier holds, and the marks. -/
theorem tierOf_flushNoted (m : Mod) (n k : Nat) : tierOf (flushNoted m n) k = tierOf m k := by
  unfold tierOf flushNoted
  dsimp only
  split_ifs <;> rfl

theorem flushNoted_events (m : Mod) (n : Nat) : (flushNoted m n).rcr.events = m.rcr.events := by
  unfold flushNoted
  dsimp only
  split_ifs <;> rfl

theorem collect_archives (m : Mod) (f : FaultInfo) : (collect m f).nv.archive2 = m.nv.archive2 ∧ (collect m f).nv.archive3 = m.nv.archive3 := by
  simp [collect]

theorem flushLost_spec (m : Mod) (n : Nat) : (tierOf (flushLost m n) n).kept = [] ∧
    bitOf (flushLost m n).rcr.events.toNat 2 = true ∧ bitOf (flushLost m n).flt.active.toNat 0x20 = true ∧
    (flushLost m n).nv.archive2 = m.nv.archive2 ∧ (flushLost m n).nv.archive3 = m.nv.archive3 := by
  have hactive : bitOf (flushLost m n).flt.active.toNat 0x20 = true :=
    reportFault_active _ (f := faultOf 0x20 1 n 0x0B00 2 3) (show 0x20 < 64 by decide)
  rw [flushLost, reportFault_minor (show 1 < 2 by decide)] at hactive ⊢
  obtain ⟨h2, h3⟩ := collect_archives (setTier { m with rcr := { m.rcr with events := setBit32 m.rcr.events 2 } } n { tierOf m n with kept := [] })
    (faultOf 0x20 1 n 0x0B00 2 3)
  refine ⟨?_, ?_, hactive, h2, h3⟩
  · rw [tierOf_of_rcr (collect_rcr ..), tierOf_setTier_same]
  · rw [collect_rcr]
    obtain ⟨-, -, hevents, -⟩ := setTier_counts { m with rcr := { m.rcr with events := setBit32 m.rcr.events 2 } } n { tierOf m n with kept := [] }
    rw [hevents]
    exact bitOf_setBit32_same _ _ (by decide)

/-- A flush made: the closed intervals are in the tier's partition (R416). -/
theorem flushTier_spec (m : Mod) {n : Nat} (hn : n = 2 ∨ n = 3) : (tierOf (flushTier m n) n).kept = [] ∧
    (n = 2 → (flushTier m n).nv.archive2 = archived m 2 m.nv.archive2 m.rcr.tier2.kept) ∧
    (n = 3 → (flushTier m n).nv.archive3 = archived m 3 m.nv.archive3 m.rcr.tier3.kept) := by
  rcases hn with rfl | rfl
  · exact ⟨rfl, fun _ => rfl, nofun⟩
  · exact ⟨rfl, nofun, fun _ => rfl⟩

theorem samplesRecorded : RecorderSamples := by
  refine ⟨fun m a es v q fo st => ⟨addSample_bad m a es v q fo st, addSample_good m a es v q fo st⟩, fun s t n k r i rest hon =>
    ⟨fun hr => ?unknown, fun hr hty hruns hat hfull => ?lost, fun c hr hty h1 h2 h3 hat hcur hlist hnone => ?taken, fun h1 h3 => ?sweep,
      fun h1 h3 hfail hseq hended hkeeps => ?close, fun hn hfail hdue hholds => ⟨?flushFails, ?flush⟩⟩⟩
  case unknown =>
    have hg := gives_of_runOn (i := .recorderSample t k) (t := t) hon (Eq.refl (execRecorderSample t k s))
    rw [show sigAt (seen s t) k = none from hr] at hg
    exact hg
  case lost =>
    have hg := gives_recorderSample hon hr hty hruns (if_pos hat)
    rw [if_pos hfull] at hg
    obtain ⟨hlost, hevent, hactive⟩ := sampleLost_noted (tiersTake (tapped (seen s t) s.m.rcr.queued) k r true)
    exact makes_of_gives hg ⟨hlost.trans (congrArg satInc (tiersTake_lost ..)), hevent, hactive⟩
  case taken =>
    have hg := gives_recorderSample (t := t) hon hr hty (.inl h1) (if_neg hat)
    rw [if_neg (by decide), tiersTake, tierTakes_first (m := tapped (seen s t) (0 + 1)) h1 hcur hlist hnone] at hg
    rw [tierTakes_stopped (n := 2) (by exact h2), tierTakes_stopped (n := 3) (by exact h3)] at hg
    exact makes_of_gives hg rfl
  case sweep =>
    obtain ⟨u, hu, ⟨haccums, hkept⟩, hrest⟩ := gives_accumulatorSweep (t := t) hon h1 h3
    refine ⟨u, hu, ⟨haccums.trans (List.filter_congr fun e _ => ?_), hkept⟩, hrest⟩
    rw [← decide_not]
    exact decide_eq_decide.mpr Nat.not_lt
  case close =>
    have htier := tierOf_setTier_same (n := n) (seen s t) { tierOf s.m n with ended := rest }
    have hfrozen : n ≠ 1 ∨ (setTier (seen s t) n { tierOf s.m n with ended := rest }).rcr.frozen.isSome = true := by
      rw [(setTier_counts ..).2.1]
      exact hkeeps
    obtain ⟨hrest, hkept, hnext⟩ := closeInterval_spec (m := setTier (seen s t) n { tierOf s.m n with ended := rest }) i h1 h3 hseq hfrozen
    rw [htier] at hrest hkept
    exact makes_of_gives (gives_intervalClose hon h1 h3 hfail hended) ⟨hrest, hkept, hnext⟩
  case flushFails =>
    have hg := gives_archiveFlush (r := .failed) hon hn hfail hdue hholds
    rw [if_pos rfl] at hg
    obtain ⟨hkept, hevent, hactive, h2, h3⟩ := flushLost_spec (seen s t) n
    have hrcr : (releasePermit (flushNoted (flushLost (seen s t) n) n) (whoFlush n)).rcr = (flushNoted (flushLost (seen s t) n) n).rcr := releasePermit_rcr ..
    have hnv : (releasePermit (flushNoted (flushLost (seen s t) n) n) (whoFlush n)).nv = (flushLost (seen s t) n).nv := releasePermit_nv ..
    have hflt : (releasePermit (flushNoted (flushLost (seen s t) n) n) (whoFlush n)).flt = (flushLost (seen s t) n).flt := releasePermit_flt ..
    refine makes_of_gives hg ⟨?_, ?_, ?_, (congrArg NvBlk.archive2 hnv).trans h2, (congrArg NvBlk.archive3 hnv).trans h3⟩
    · exact (congrArg Tier.kept ((tierOf_of_rcr hrcr n).trans (tierOf_flushNoted ..))).trans hkept
    · exact (congrArg (fun v : RcrBlk => bitOf v.events.toNat 2) hrcr).trans ((congrArg (fun v : W32 => bitOf v.toNat 2) (flushNoted_events ..)).trans hevent)
    · exact (congrArg (fun v : FltBlk => bitOf v.active.toNat 0x20) hflt).trans hactive
  case flush =>
    have hg := gives_archiveFlush (r := .ok) hon hn hfail hdue hholds
    rw [if_neg nofun] at hg
    obtain ⟨hkept, h2, h3⟩ := flushTier_spec (seen s t) hn
    have hrcr : (releasePermit (flushNoted (flushTier (seen s t) n) n) (whoFlush n)).rcr = (flushNoted (flushTier (seen s t) n) n).rcr := releasePermit_rcr ..
    have hnv : (releasePermit (flushNoted (flushTier (seen s t) n) n) (whoFlush n)).nv = (flushTier (seen s t) n).nv := releasePermit_nv ..
    refine makes_of_gives hg ⟨?_, fun h => (congrArg NvBlk.archive2 hnv).trans (h2 h), fun h => (congrArg NvBlk.archive3 hnv).trans (h3 h)⟩
    exact (congrArg Tier.kept ((tierOf_of_rcr hrcr n).trans (tierOf_flushNoted ..))).trans hkept

/-! ### The end of recording, and its beginning (R409, R415) -/

theorem tierOf_setTier_other {n k : Nat} (m : Mod) (t : Tier) (hn : 1 ≤ n ∧ n ≤ 3) (hk : 1 ≤ k ∧ k ≤ 3) (h : k ≠ n) :
    tierOf (setTier m n t) k = tierOf m k := by
  obtain rfl | rfl | rfl : n = 1 ∨ n = 2 ∨ n = 3 := by omega
  all_goals
    obtain rfl | rfl | rfl : k = 1 ∨ k = 2 ∨ k = 3 := by omega
    all_goals simp [tierOf, setTier] at h ⊢

/-- There are three tiers. -/
theorem tierOf_exists (m : Mod) (k : Nat) : ∃ n, 1 ≤ n ∧ n ≤ 3 ∧ tierOf m k = tierOf m n := by
  by_cases h1 : k = 1
  · exact ⟨1, by omega, by omega, by rw [h1]⟩
  · by_cases h2 : k = 2
    · exact ⟨2, by omega, by omega, by rw [h2]⟩
    · exact ⟨3, by omega, by omega, by simp [tierOf, h1, h2]⟩

/-- Recording of a tier has ended, and where it ran its last interval is PARTIAL (R409, R415). -/
def Stopped (before after : Tier) : Prop :=
  after.running = false ∧ (before.running = true → ∃ x, after.ended.getLast? = some x ∧ x.part = true)

theorem getLast?_map_span {α : Type} (f : Nat → α) (l : List α) (a n : Nat) : (l ++ (span a (n + 1)).map f).getLast? = some (f (n + a)) := by
  simp [span, List.range_succ]

theorem endTier_stops (m : Mod) (n : Nat) : Stopped (tierOf m n) (tierOf (endTier m n) n) := by
  unfold endTier
  dsimp only
  cases hruns : (tierOf m n).running with
  | false => exact ⟨hruns, fun h => absurd (hruns.symm.trans h) Bool.false_ne_true⟩
  | true =>
    rw [if_neg (by simp), tierOf_setTier_same]
    refine ⟨rfl, fun _ => ⟨_, getLast?_map_span .., ?_⟩⟩
    have hlast : max (tierOf m n).cur (tierInterval m n) - (tierOf m n).cur + (tierOf m n).cur = max (tierOf m n).cur (tierInterval m n) :=
      Nat.sub_add_cancel (le_max_left ..)
    show (_ == _ || _) = true
    rw [hlast, beq_self_eq_true, Bool.true_or]

theorem endTier_other {m : Mod} {n k : Nat} (hn : 1 ≤ n ∧ n ≤ 3) (hk : 1 ≤ k ∧ k ≤ 3) (h : k ≠ n) : tierOf (endTier m n) k = tierOf m k := by
  unfold endTier
  dsimp only
  split
  · rfl
  · exact tierOf_setTier_other _ _ hn hk h

theorem endTiers_stops {m : Mod} {k : Nat} (h1 : 1 ≤ k) (h3 : k ≤ 3) : Stopped (tierOf m k) (tierOf (endTiers m) k) := by
  unfold endTiers
  obtain rfl | rfl | rfl : k = 1 ∨ k = 2 ∨ k = 3 := by omega
  · rw [endTier_other (n := 3) (by omega) (by omega) (by omega), endTier_other (n := 2) (by omega) (by omega) (by omega)]
    exact endTier_stops m 1
  · rw [endTier_other (n := 3) (by omega) (by omega) (by omega)]
    have hstops := endTier_stops (endTier m 1) 2
    rwa [endTier_other (n := 1) (k := 2) (by omega) (by omega) (by omega)] at hstops
  · have hstops := endTier_stops (endTier (endTier m 1) 2) 3
    rwa [endTier_other (n := 2) (k := 3) (by omega) (by omega) (by omega), endTier_other (n := 1) (k := 3) (by omega) (by omega) (by omega)] at hstops

/-- The marks of the recorder (R422). -/
def recMarks (m : Mod) : Option Nat × W32 × Bool := (m.rcr.frozen, m.rcr.events, m.rcr.en)

theorem startTier_marks (m : Mod) (n : Nat) : recMarks (startTier m n) = recMarks m := by
  unfold startTier
  dsimp only
  split
  · rfl
  · obtain ⟨-, hfrozen, hevents, hen⟩ := setTier_counts m n
      { tierOf m n with running := true, cur := tierInterval m n, part := nowNs m % tierNs n != 0, trace := m.tim.traceable }
    rw [recMarks, hfrozen, hevents, hen]
    rfl

theorem startTiers_marks (m : Mod) : recMarks (startTiers m) = recMarks m := by
  rw [startTiers, startTier_marks, startTier_marks, startTier_marks]

/-- A freeze that ends is noted (R415). -/
theorem endFreeze_ends {m : Mod} (h : m.rcr.frozen.isSome = true) : (endFreeze m).rcr.frozen = none ∧ bitOf (endFreeze m).rcr.events.toNat 0 = true := by
  have hmarks : recMarks (endFreeze m) = (none, setBit32 m.rcr.events 0, m.rcr.en) := by
    rw [endFreeze, if_neg (by simpa using Option.isSome_iff_ne_none.1 h), startTiers_marks]
    rfl
  have hfrozen : (endFreeze m).rcr.frozen = none := congrArg Prod.fst hmarks
  have hevents : (endFreeze m).rcr.events = setBit32 m.rcr.events 0 := congrArg (fun x => x.2.1) hmarks
  exact ⟨hfrozen, by rw [hevents]; exact bitOf_setBit32_same _ _ (by decide)⟩

/-- A freeze begins (R414, R415). -/
def freezeBegun (m : Mod) : Mod :=
  let m := endTiers m
  { m with rcr := { m.rcr with frozen := some m.clk } }

theorem freezeBegun_frozen (m : Mod) : (freezeBegun m).rcr.frozen = some m.clk := by
  show some (endTiers m).clk = _
  rw [endTiers, endTier_clk, endTier_clk, endTier_clk]

/-! ### Reads (R412) -/

theorem span_zero (n : Nat) : span 0 n = List.range n := by simp [span]

/-- A read from DRAM gives the header and the records asked for (R412). -/
theorem readInterval_kept (m : Mod) (q : Req) (a n : Nat) (i : Interval) (r1 r2 : W32) : readInterval m q a 0 n false i r1 r2 =
    post m q .ok { r0 := BitVec.ofNat 32 (min n i.count), r1 := r1, r2 := r2, data := headerBytes a i ++ (List.range (min n i.count)).flatMap (recBytes a i) } := by
  rw [readInterval, Nat.sub_zero, span_zero]
  simp

theorem gives_recRead {s : State} {t a n : Nat} {q : Req} {seq : W32} {x : Bool × Interval} (hready : opReady (seen s t) 0x0103 q = true)
    (ha1 : 1 ≤ a) (ha3 : a ≤ 3) (hn1 : 1 ≤ n) (hn : n ≤ 65536) (hx : (presentIntervals s.m a).head? = some x) :
    Gives (.recRead t q a seq 0 n) s t (((presentIntervals s.m a).find? (fun x => x.2.seq == seq)).elim
      (refuse (seen s t) q (if serialLater (seqOf s.m a) seq then .recOpen else .recGone) { r1 := x.2.seq, r2 := seqOf s.m a })
      fun e => readInterval (seen s t) q a 0 n e.1 e.2 x.2.seq (seqOf s.m a)) := by
  have hg := gives_of_runOp (i := .recRead t q a seq 0 n) hready (Eq.refl (execRecRead t q a seq 0 n s))
  rw [if_neg (by simp; omega)] at hg
  dsimp only at hg
  rw [show (presentIntervals (seen s t) a).head? = some x from hx] at hg
  have hsome : (presentIntervals (seen s t) a).isEmpty = false := by
    cases hl : presentIntervals (seen s t) a with
    | nil => exact absurd ((congrArg List.head? hl).symm.trans hx) nofun
    | cons y l => rfl
  cases hfind : (presentIntervals s.m a).find? (fun x => x.2.seq == seq) with
  | none =>
    rw [show (presentIntervals (seen s t) a).find? (fun x => x.2.seq == seq) = none from hfind] at hg
    dsimp only at hg
    rw [hsome] at hg
    exact hg
  | some e =>
    rw [show (presentIntervals (seen s t) a).find? (fun x => x.2.seq == seq) = some e from hfind] at hg
    exact hg

/-! ### Loads (R405, R406, R419) -/

theorem not_trial_seen {s : State} {t : Nat} (h : anyTrial s.m = false) : ¬ anyTrial (seen s t) = true := by
  rw [show anyTrial (seen s t) = false from h]
  exact Bool.false_ne_true

theorem recorderCommanded : RecorderCommands := by
  intro s t a n seq buf q e i fl
  refine ⟨fun m hs htrial hload => ?classes, fun hs htrial hload => ?classesRefused, fun m hs htrial hload => ?list, fun hs htrial hload => ?listRefused,
    fun hready hno => ?noFreeze, fun hready hmay hnone => ?freeze, fun hready hfrozen => ?release, fun x hon hfrozen hlate => ?expiry,
    fun hready ha1 ha3 hn1 hn => ⟨fun hfind => ?read, fun hmem hfind => ?gone⟩, fun hon hboot hsoft => ⟨?disable, ?enable⟩⟩
  case classes | classesRefused =>
    have hg := gives_of_runCmd (i := .recClassLoad t q a n buf) hs (Eq.refl (execRecClassLoad t q a n buf s))
    rw [if_neg (not_trial_seen htrial), hload] at hg
    exact hg
  case list | listRefused =>
    have hg := gives_of_runCmd (i := .recListLoad t q a n buf) hs (Eq.refl (execRecListLoad t q a n buf s))
    rw [if_neg (not_trial_seen htrial), hload] at hg
    exact hg
  case noFreeze =>
    have hg := gives_of_runOp (i := .recFreeze t q) hready (Eq.refl (execRecFreeze t q s))
    rw [if_pos (by rw [show freezeAllowed (seen s t) = false from hno]; rfl)] at hg
    exact hg
  case freeze =>
    have hg := gives_of_runOp (i := .recFreeze t q) hready (Eq.refl (execRecFreeze t q s))
    rw [if_neg (by rw [show freezeAllowed (seen s t) = true from hmay]; decide), if_neg (by rw [show (seen s t).rcr.frozen = none from hnone]; decide)] at hg
    replace hg : Gives (.recFreeze t q) s t (post (freezeBegun (seen s t)) q .ok) := hg
    have hrcr := post_rcr (freezeBegun (seen s t)) q .ok {}
    refine makes_of_gives hg ⟨(congrArg RcrBlk.frozen hrcr).trans (freezeBegun_frozen (seen s t)), fun k h1 h3 => ?_⟩
    have hstops : Stopped (tierOf s.m k) (tierOf (freezeBegun (seen s t)) k) := endTiers_stops (m := seen s t) h1 h3
    rw [← tierOf_of_rcr hrcr k] at hstops
    exact hstops
  case release =>
    have hg := gives_of_runOp (i := .recFreezeRelease t q) hready (Eq.refl (execRecFreezeRelease t q s))
    have hends := endFreeze_ends (m := seen s t) hfrozen
    rw [← post_rcr (endFreeze (seen s t)) q .ok {}] at hends
    exact makes_of_gives hg hends
  case expiry =>
    have hg := gives_of_runOn (i := .freezeMaxExpiry t) (t := t) hon (Eq.refl (execFreezeMaxExpiry t s))
    have hdue : x + sec (60 * (seen s t).rcr.freezeMax) ≤ (seen s t).clk := by
      refine le_trans (le_of_eq ?_) hlate
      rw [sec, show (seen s t).rcr.freezeMax = s.m.rcr.freezeMax from rfl]
      omega
    rw [show (seen s t).rcr.frozen = some x from hfrozen] at hg
    dsimp only at hg
    rw [if_pos hdue] at hg
    exact makes_of_gives hg (endFreeze_ends (m := seen s t) (by rw [show (seen s t).rcr.frozen = some x from hfrozen]; rfl))
  case read =>
    cases hx : (presentIntervals s.m a).head? with
    | none => rw [List.head?_eq_none_iff.1 hx] at hfind; exact absurd hfind nofun
    | some x =>
      have hg := gives_recRead (seq := seq) hready ha1 ha3 hn1 hn hx
      rw [hfind, Option.elim_some, readInterval_kept] at hg
      exact hg
  case gone =>
    cases hx : (presentIntervals s.m a).head? with
    | none => rw [List.head?_eq_none_iff.1 hx] at hmem; exact absurd hmem nofun
    | some x =>
      have hg := gives_recRead (seq := seq) hready ha1 ha3 hn1 hn hx
      rw [hfind, Option.elim_none] at hg
      exact ⟨_, hg, rfl⟩
  case disable =>
    have hg := gives_of_runReg (i := .recEnWrite t false) (t := t) hon hboot hsoft (Eq.refl (execRecEnWrite t false s))
    refine makes_of_gives hg ⟨rfl, fun k => ?_⟩
    obtain ⟨j, h1, h3, hj⟩ := tierOf_exists (endTiers (seen s t)) k
    exact (congrArg Tier.running hj).trans (endTiers_stops h1 h3).1
  case enable =>
    have hg := gives_of_runReg (i := .recEnWrite t true) (t := t) hon hboot hsoft (Eq.refl (execRecEnWrite t true s))
    have hmarks := startTiers_marks { seen s t with rcr := { s.m.rcr with en := true } }
    exact makes_of_gives hg (congrArg (fun x : Option Nat × W32 × Bool => x.2.2) hmarks :)

/-- Settles O54. -/
theorem recorder : Obligations.Recorder := ⟨samplesRecorded, recorderCommanded, serialsOrdered⟩

end Sys2Proof.Machine
end

section
/-! SUPPORT. The regions of an update, and its activation, trial and fall-back (R423, R434 to R437). -/

open Sys2Proof.Claims

namespace Sys2Proof.Machine

/-! ### The three regions (R423) -/

/-- The module has the three regions, and this is one of their numbers (R423). -/
structure IsRegion (m : Mod) (n : Nat) : Prop where
  all : m.nv.regions.length = 3
  low : 1 ≤ n
  high : n ≤ 3

theorem regionOf_of_regions {m m' : Mod} (h : m'.nv.regions = m.nv.regions) (n : Nat) : regionOf m' n = regionOf m n := by
  rw [regionOf, h, regionOf]

theorem isRegion_of_regions {m m' : Mod} {n : Nat} (h : m'.nv.regions = m.nv.regions) (hn : IsRegion m n) : IsRegion m' n :=
  ⟨by rw [h]; exact hn.all, hn.low, hn.high⟩

theorem regionOf_setRegion_same {m : Mod} {n : Nat} (h : IsRegion m n) (r : Region) : regionOf (setRegion m n r) n = r := by
  have hlt : n - 1 < m.nv.regions.length := by rw [h.all]; have := h.high; omega
  show ((m.nv.regions.set (n - 1) r)[n - 1]?).getD {} = r
  rw [List.getElem?_set_self hlt, Option.getD_some]

theorem regionOf_set_other (l : List Region) {n k : Nat} (hn : 1 ≤ n) (hk : 1 ≤ k) (h : k ≠ n) (r : Region) :
    ((lset l (n - 1) r)[k - 1]?).getD {} = (l[k - 1]?).getD ({} : Region) := by
  rw [lset, List.getElem?_set_ne (by omega)]

theorem isRegion_setRegion {m : Mod} {n k : Nat} (h : IsRegion m k) (r : Region) : IsRegion (setRegion m n r) k :=
  ⟨(List.length_set ..).trans h.all, h.low, h.high⟩

theorem inactive_setInactive (r : Region) (s : Section) : (r.setInactive s).inactive = s ∧ (r.setInactive s).version = r.version ∧
    (r.setInactive s).activeVersion = r.activeVersion ∧ (r.setInactive s).activeB = r.activeB := by
  unfold Region.setInactive Region.inactive
  split <;> rename_i h <;> simp [h]

/-! ### What a region's restart leaves (R423, R437) -/

/-- The regions and the state of updates. -/
def imagesPart (m : Mod) : List Region × UpdBlk := (m.nv.regions, m.upd)

theorem beginServiceRestart_images (m : Mod) : imagesPart (beginServiceRestart m) = imagesPart m := by
  unfold beginServiceRestart
  extract_lets lost m1 m2
  have h1 : imagesPart m1 = imagesPart m := foldl_field imagesPart _ (by intros; rfl) m lost
  have h2 : imagesPart m2 = imagesPart m1 := foldl_field imagesPart _ (fun m w => by simp [imagesPart]) m1 _
  exact (h2.trans h1 :)

theorem beginProgramRestart_images (m : Mod) : imagesPart (beginProgramRestart m) = imagesPart m := by
  unfold beginProgramRestart
  split
  · split
    · simp [imagesPart]
    · rfl
  · extract_lets m1
    have h : imagesPart m1 = imagesPart m := by
      unfold m1
      split
      · simp [imagesPart]
      · rfl
    exact h

theorem restartModule_images (m : Mod) (c : StartCause) : imagesPart (restartModule_ m c) = imagesPart m := by
  have hregions : (enterFail m .restart).nv.regions = m.nv.regions :=
    enterFail_nv NvBlk.regions (fun _ _ _ _ => rfl) (fun _ _ _ => rfl) (fun _ _ _ => rfl) m .restart
  have hcause : imagesPart (restartModule_ m c) = imagesPart (enterFail m .restart) := by simp only [imagesPart, restartModule_]
  rw [hcause, imagesPart, hregions, enterFail_upd, imagesPart]

theorem regionRestart_images (m : Mod) (n : Nat) (c : StartCause) : imagesPart (regionRestart m n c) = imagesPart m := by
  unfold regionRestart
  split
  · exact restartModule_images m c
  · split
    · exact beginServiceRestart_images m
    · exact beginProgramRestart_images m

theorem restartModule_regions (m : Mod) (c : StartCause) : (restartModule_ m c).nv.regions = m.nv.regions :=
  (congrArg Prod.fst (restartModule_images m c) :)

theorem regionRestart_regions (m : Mod) (n : Nat) (c : StartCause) : (regionRestart m n c).nv.regions = m.nv.regions :=
  (congrArg Prod.fst (regionRestart_images m n c) :)

/-! ### A fall-back (R437) -/

/-- A region back on its ACTIVE section, the other REJECTED. -/
def fallenRegion (r : Region) : Region :=
  let r := r.setInactive { r.inactive with rejected := true }
  { r with
    trial := false, st := .idle, version := r.activeVersion, compat := r.activeCompat
    rejectedPkg := u32 r.inactive.header 44 |> BitVec.ofNat 32 }

theorem fallenRegion_rejected (r : Region) : (fallenRegion r).st = .idle ∧ (fallenRegion r).trial = false ∧ (fallenRegion r).inactive.rejected = true ∧
    (fallenRegion r).version = r.activeVersion := by
  obtain ⟨hinactive, -, hversion, -⟩ := inactive_setInactive r { r.inactive with rejected := true }
  exact ⟨rfl, rfl, congrArg Section.rejected hinactive, hversion⟩

theorem fallBackState_regions (m : Mod) (n : Nat) : (fallBackState m n).nv.regions = lset m.nv.regions (n - 1) (fallenRegion (regionOf m n)) := by
  unfold fallBackState
  extract_lets r0 sec0 r1 r2 m1 src nv usrc m2
  have hnv : nv.regions = m1.nv.regions := by
    unfold nv
    split
    · split <;> rfl
    · rfl
  rw [collect_regions]
  exact hnv

theorem fallBackState_noted (m : Mod) (n : Nat) : bitOf (fallBackState m n).upd.events.toNat 2 = true ∧
    bitOf (fallBackState m n).flt.active.toNat 0x24 = true := by
  unfold fallBackState
  dsimp only
  rw [collect_upd]
  exact ⟨bitOf_setBit32_same _ _ (by decide), collect_sets_active _ (faultOf 0x24 1 n 0x0C00) (show 0x24 < 64 by decide)⟩

theorem regionOf_fallBackState_same {m : Mod} {n : Nat} (h : IsRegion m n) : regionOf (fallBackState m n) n = fallenRegion (regionOf m n) := by
  rw [regionOf, fallBackState_regions]
  exact regionOf_setRegion_same h _

theorem regionOf_fallBackState_other {m : Mod} {n k : Nat} (hn : 1 ≤ n) (hk : 1 ≤ k) (h : k ≠ n) : regionOf (fallBackState m n) k = regionOf m k := by
  rw [regionOf, fallBackState_regions]
  exact regionOf_set_other _ hn hk h _

theorem isRegion_fallBackState {m : Mod} {n k : Nat} (h : IsRegion m k) : IsRegion (fallBackState m n) k :=
  ⟨by rw [fallBackState_regions]; exact (List.length_set ..).trans h.all, h.low, h.high⟩

/-- A region that falls back is IDLE on its ACTIVE section, and the fall-back is noted (R437). -/
theorem fallBack_spec {m : Mod} {n : Nat} (h : IsRegion m n) : regionOf (fallBack m n) n = fallenRegion (regionOf m n) ∧
    bitOf (fallBack m n).upd.events.toNat 2 = true ∧ bitOf (fallBack m n).flt.active.toNat 0x24 = true := by
  have himages := regionRestart_images (fallBackState m n) n .fallBack
  obtain ⟨hevent, hactive⟩ := fallBackState_noted m n
  refine ⟨(regionOf_of_regions (congrArg Prod.fst himages) n).trans (regionOf_fallBackState_same h), ?_,
    (regionRestart_loopsStand (fallBackState m n) n .fallBack).2.2 _ hactive⟩
  exact (congrArg (fun v : List Region × UpdBlk => bitOf v.2.events.toNat 2) himages).trans hevent

/-- Of a list of regions one that is in it falls back, and the others leave it. -/
theorem foldl_fallBackState_region {n : Nat} (l : List Nat) (m : Mod) (hl : ∀ k ∈ l, 1 ≤ k) (h : IsRegion m n)
    (hn : n ∈ l ∨ ∃ r, regionOf m n = fallenRegion r) : ∃ r, regionOf (l.foldl fallBackState m) n = fallenRegion r := by
  induction l generalizing m with
  | nil => simpa using hn
  | cons k l ih =>
    refine ih (fallBackState m k) (fun j hj => hl j (List.mem_cons_of_mem _ hj)) (isRegion_fallBackState h) ?_
    by_cases hk : n = k
    · subst hk
      exact .inr ⟨_, regionOf_fallBackState_same h⟩
    · rw [regionOf_fallBackState_other (hl k (List.mem_cons_self ..)) h.low hk]
      exact hn.imp_left fun hn => (List.mem_cons.1 hn).resolve_left hk

/-- Every region in TRIAL falls back on an event of R436 (R437). -/
theorem fallBackAll_region {m : Mod} {n : Nat} (h : IsRegion m n) (hfail : m.pwr.st ≠ .fail) (htrial : (regionOf m n).st = .trial) :
    ∃ r, regionOf (fallBackAll m) n = fallenRegion r := by
  unfold fallBackAll
  dsimp only
  rw [if_neg hfail]
  have hl : ∀ k ∈ [3, 2, 1].filter (fun n => (regionOf m n).st = .trial), 1 ≤ k := fun k hk => by
    have := (List.mem_filter.1 hk).1
    simp at this
    omega
  have hn : n ∈ [3, 2, 1].filter (fun n => (regionOf m n).st = .trial) := by
    obtain ⟨-, h1, h3⟩ := h
    have hmem : n ∈ [3, 2, 1] := by simp; omega
    exact List.mem_filter.2 ⟨hmem, decide_eq_true htrial⟩
  obtain ⟨r, hr⟩ := foldl_fallBackState_region _ m hl h (.inl hn)
  refine ⟨r, (regionOf_of_regions ?_ n).trans hr⟩
  exact congrArg Prod.fst (foldl_field imagesPart _ (fun v n => by split; exacts [rfl, regionRestart_images ..]) _ _)

/-- A report that opens a capture at F2 or F3 ends a trial (R436). -/
theorem reportFault_ends_trial {m : Mod} {n : Nat} {f : FaultInfo} (h : IsRegion m n) (hfail : m.pwr.st ≠ .fail) (htrial : (regionOf m n).st = .trial)
    (hcapture : m.nv.capture = none) (hcls : 2 ≤ f.cls) : ∃ r, regionOf (reportFault m f) n = fallenRegion r := by
  have hopens : (m.nv.capture.isNone && decide (f.cls ≥ 2)) = true := by rw [hcapture, decide_eq_true hcls]; rfl
  rw [reportFault]
  rw [if_pos hopens]
  have hregions : (if f.cls = 3 then f3Reaction (collect m f) else collect m f).nv.regions = m.nv.regions := by
    split
    · rw [f3Reaction_regions, collect_regions]
    · rw [collect_regions]
  have hpwr : (if f.cls = 3 then f3Reaction (collect m f) else collect m f).pwr = m.pwr := by
    split
    · rw [f3Reaction_pwr, collect_pwr]
    · rw [collect_pwr]
  exact fallBackAll_region (isRegion_of_regions hregions h) (by rw [hpwr]; exact hfail) (by rw [regionOf_of_regions hregions]; exact htrial)

/-! ### The commit point (R434) and the confirmation (R436) -/

/-- A region past its commit point. -/
def committedRegion (m : Mod) (n : Nat) : Region := { regionOf m n with st := .activating, trial := true, activatedAt := m.clk }

theorem regionOf_commitUpdate {m : Mod} {n : Nat} (h : IsRegion m n) : regionOf (commitUpdate m n) n = committedRegion m n := by
  have hset : regionOf (setRegion m n (committedRegion m n)) n = committedRegion m n := regionOf_setRegion_same h _
  unfold commitUpdate
  extract_lets r m1
  split
  · rw [regionOf_of_regions (restartModule_regions m1 .activation)]
    exact hset
  · rw [regionOf_of_regions (regionRestart_regions m1 n .activation)]
    exact hset

/-- A FULL package is activated by a MODULE restart (R434). -/
theorem commitUpdate_staged {m : Mod} {n : Nat} (h : (regionOf m n).staged = true) : (commitUpdate m n).pwr.st = .fail ∧
    (commitUpdate m n).pwr.failCause = .restart ∧ (commitUpdate m n).pwr.nextCause = .activation := by
  rw [commitUpdate, if_pos h, restartModule_]
  simp

/-- The PROGRAM region of a single module is activated by a PROGRAM restart (R423, R434). -/
theorem commitUpdate_program {m : Mod} (h : (regionOf m 3).staged = false) (hseat : m.tri.seat = 0) (hstart : m.pwr.starting = false) :
    (commitUpdate m 3).pwr.program = true := by
  rw [commitUpdate, if_neg (by simp [h]), regionRestart, if_neg (by simp [setRegion, hseat]), if_neg (by decide)]
  exact (beginProgramRestart_spec (m := setRegion m 3 _) hstart).1

/-- An activation outside a triad sequence is committed at once. -/
theorem activate_single (m : Mod) (q : Req) (n : Nat) : activate m (some q) n false = commitUpdate (post m q .ok) n := by
  rw [activate, if_neg (by simp)]
  rfl

/-- A confirmed region: the TRIAL slot is ACTIVE and its version the floor (R436, R439). -/
def confirmedRegion (r : Region) : Region :=
  { r with st := .idle, trial := false, activeB := !r.activeB, activeVersion := r.version, activeCompat := r.compat, floor := r.version }

theorem confirm_spec {m : Mod} {n : Nat} (h : IsRegion m n) : regionOf (confirm m n) n = confirmedRegion (regionOf m n) ∧
    bitOf (confirm m n).upd.events.toNat 1 = true ∧ (confirm m n).nv.epoch = max m.nv.epoch (u8 (regionOf m n).inactive.header 18) :=
  ⟨regionOf_setRegion_same h _, bitOf_setBit32_same _ _ (by decide), rfl⟩

theorem sec_minutes (k : Nat) : sec (60 * k) = 60000000000 * k := by
  rw [sec]
  omega

/-- Settles O56. -/
theorem updateTrial : Obligations.UpdateTrial := by
  intro s t n b q e r f hall h1 h3 hr
  have hregion : IsRegion (seen s t) n := ⟨hall, h1, h3⟩
  have hnumber : ¬ (n < 1 || n > 3) = true := by simp; omega
  have hseen : regionOf (seen s t) n = r := hr
  refine ⟨fun hs hno => ?refused, fun hs hmay hstaged => ?staged, fun hs hmay hn hstaged hseat hstart => ?program, fun hs htrial => ?reject,
    fun hs htrial => ?notTrial, fun hon hfail htrial => ⟨fun hran htriad => ?confirm, fun hran => ?early, fun hlate => ?timeout, fun hcapture hcls => ?capture⟩⟩
  case refused =>
    have hg := gives_of_runCmd (i := .updActivate t q n b) hs (Eq.refl (execUpdActivate t q n b s))
    rw [show activateRefusal (seen s t) n b false = some e from hno] at hg
    exact hg
  case staged =>
    have hg := gives_of_runCmd (i := .updActivate t q n false) hs (Eq.refl (execUpdActivate t q n false s))
    rw [show activateRefusal (seen s t) n false false = none from hmay] at hg
    replace hg : Gives (.updActivate t q n false) s t (activate (seen s t) (some q) n false) := hg
    rw [activate_single] at hg
    have hregions : (post (seen s t) q .ok).nv.regions = (seen s t).nv.regions := by rw [post_nv]
    have hcommit := regionOf_commitUpdate (isRegion_of_regions hregions hregion)
    have hst := commitUpdate_staged (m := post (seen s t) q .ok) (n := n) (by rw [regionOf_of_regions hregions, hseen]; exact hstaged)
    have hclk : (post (seen s t) q .ok).clk = max s.m.clk t := post_clk ..
    exact makes_of_gives hg ⟨congrArg Region.st hcommit, congrArg Region.trial hcommit, (congrArg Region.activatedAt hcommit).trans hclk, hst⟩
  case program =>
    subst hn
    have hg := gives_of_runCmd (i := .updActivate t q 3 false) hs (Eq.refl (execUpdActivate t q 3 false s))
    rw [show activateRefusal (seen s t) 3 false false = none from hmay] at hg
    replace hg : Gives (.updActivate t q 3 false) s t (activate (seen s t) (some q) 3 false) := hg
    rw [activate_single] at hg
    have hregions : (post (seen s t) q .ok).nv.regions = (seen s t).nv.regions := by rw [post_nv]
    have hcommit := regionOf_commitUpdate (isRegion_of_regions hregions hregion)
    have hprogram := commitUpdate_program (m := post (seen s t) q .ok) (by rw [regionOf_of_regions hregions, hseen]; exact hstaged)
      (by rw [post_tri]; exact hseat) (by rw [post_pwr]; exact hstart)
    exact makes_of_gives hg ⟨congrArg Region.st hcommit, hprogram⟩
  case reject =>
    have hg := gives_of_runCmd (i := .updReject t q n) hs (Eq.refl (execUpdReject t q n s))
    rw [if_neg hnumber, if_neg (by rw [hseen, htrial]; decide)] at hg
    have hregions : (post (seen s t) q .ok).nv.regions = (seen s t).nv.regions := by rw [post_nv]
    obtain ⟨hfallen, hevent, hactive⟩ := fallBack_spec (isRegion_of_regions hregions hregion)
    rw [regionOf_of_regions hregions, hseen] at hfallen
    obtain ⟨hst, htr, hrej, hver⟩ := fallenRegion_rejected r
    rw [← hfallen] at hst htr hrej hver
    exact makes_of_gives hg ⟨hst, htr, hrej, hver, hevent, hactive⟩
  case notTrial =>
    have hg := gives_of_runCmd (i := .updReject t q n) hs (Eq.refl (execUpdReject t q n s))
    rw [if_neg hnumber, if_pos (by rw [hseen]; simpa using htrial)] at hg
    exact hg
  case confirm =>
    have hg := gives_of_runOn (i := .trialConfirm t n) (t := t) hon (Eq.refl (execTrialConfirm t n s))
    rw [if_neg (by simp [show (seen s t).pwr.st ≠ .fail from hfail]; omega)] at hg
    dsimp only at hg
    rw [hseen, if_pos htrial, sec_minutes, if_pos hran, nextSeat, show (confirm (seen s t) n).upd.triad = none from htriad] at hg
    obtain ⟨hconfirmed, hevent, hepoch⟩ := confirm_spec hregion
    rw [hseen] at hconfirmed hepoch
    have hfield : ∀ {β : Type} (g : Region → β), g (regionOf (confirm (seen s t) n) n) = g (confirmedRegion r) := fun g => congrArg g hconfirmed
    exact makes_of_gives hg ⟨hfield Region.st, hfield Region.activeB, hfield Region.activeVersion, hfield Region.floor, hfield Region.trial, hevent, hepoch⟩
  case early =>
    have hg := gives_of_runOn (i := .trialConfirm t n) (t := t) hon (Eq.refl (execTrialConfirm t n s))
    rw [if_neg (by simp [show (seen s t).pwr.st ≠ .fail from hfail]; omega)] at hg
    dsimp only at hg
    rw [hseen, if_pos htrial, sec_minutes, if_neg (by omega)] at hg
    exact hg
  case timeout =>
    have hg := gives_of_runOn (i := .trialTimeout t n) (t := t) hon (Eq.refl (execTrialTimeout t n s))
    have hlate' : r.activatedAt + sec 86400 ≤ (seen s t).clk := hlate
    dsimp only at hg
    rw [hseen, if_pos (by simp [h1, h3, htrial, show (seen s t).pwr.st ≠ .fail from hfail, hlate'])] at hg
    obtain ⟨hfallen, -, -⟩ := fallBack_spec hregion
    rw [hseen] at hfallen
    obtain ⟨hst, -, hrej, hver⟩ := fallenRegion_rejected r
    rw [← hfallen] at hst hrej hver
    exact makes_of_gives hg ⟨hst, hrej, hver⟩
  case capture =>
    obtain ⟨x, hx⟩ := reportFault_ends_trial (f := f) ⟨hall, h1, h3⟩ hfail (by rw [hr]; exact htrial) hcapture hcls
    obtain ⟨hst, -, hrej, -⟩ := fallenRegion_rejected x
    rw [hx]
    exact ⟨hst, hrej⟩

end Sys2Proof.Machine
end

section
/-! SUPPORT. The frames of the domino relay and what they leave, and the reception of an update (R425 to R430). -/

open Sys2Proof.Claims

namespace Sys2Proof.Machine

/-! ### Relay frames (R432) -/

/-- A frame at a port changes the networks alone. -/
theorem enqueueAt_shape (m : Mod) (src p : Nat) (f : EthFrame) : ∃ v, enqueueAt m src p f = { m with net := v } := by
  unfold enqueueAt
  dsimp only
  split
  · exact ⟨_, rfl⟩
  · exact ⟨m.net, rfl⟩

/-- A relay frame is noted as sent; else only the networks change. -/
theorem sendRelay_shape (m : Mod) (nid : W32) (ty off len : Nat) :
    ∃ v, sendRelay m nid ty off len = { m with upd := { m.upd with sent := (nid, ty, off) :: m.upd.sent }, net := v } := by
  unfold sendRelay
  dsimp only
  split
  · split
    · exact enqueueAt_shape ..
    · exact ⟨m.net, rfl⟩
  · exact ⟨m.net, rfl⟩

section
variable (m : Mod) (nid : W32) (ty off len : Nat)

@[simp] theorem sendRelay_upd : (sendRelay m nid ty off len).upd = { m.upd with sent := (nid, ty, off) :: m.upd.sent } := by
  obtain ⟨v, hv⟩ := sendRelay_shape m nid ty off len
  rw [hv]

@[simp] theorem sendRelay_nv : (sendRelay m nid ty off len).nv = m.nv := by
  obtain ⟨v, hv⟩ := sendRelay_shape m nid ty off len
  rw [hv]

@[simp] theorem sendRelay_flt : (sendRelay m nid ty off len).flt = m.flt := by
  obtain ⟨v, hv⟩ := sendRelay_shape m nid ty off len
  rw [hv]

@[simp] theorem sendRelay_sec : (sendRelay m nid ty off len).sec = m.sec := by
  obtain ⟨v, hv⟩ := sendRelay_shape m nid ty off len
  rw [hv]

end

/-! ### The forwarding of a package leaves its region (R433) -/

/-- What the forwarding of a package leaves: the states of the regions and their staged sections, the update workspace, slot S and the events. -/
def receptionPart (m : Mod) : (Nat → RegionSt × Bool) × Option Workspace × Option (Nat × Section) × W32 :=
  (fun k => ((regionOf m k).st, (regionOf m k).staged), m.upd.ws, m.nv.slotS, m.upd.events)

theorem receptionPart_of_eq {m m' : Mod} (hnv : m'.nv = m.nv) (hws : m'.upd.ws = m.upd.ws) (hevents : m'.upd.events = m.upd.events) :
    receptionPart m' = receptionPart m := by
  unfold receptionPart regionOf
  rw [hnv, hws, hevents]

/-- A region's FORWARDING mark is no part of the reception. -/
theorem receptionPart_setForwarding (m : Mod) (n : Nat) (b : Bool) :
    receptionPart (setRegion m n { regionOf m n with forwarding := b }) = receptionPart m := by
  refine Prod.ext (funext fun k => ?_) rfl
  show ((((lset m.nv.regions (n - 1) _)[k - 1]?).getD {}).st, (((lset m.nv.regions (n - 1) _)[k - 1]?).getD {}).staged) = _
  rw [lset, List.getElem?_set]
  split
  · rename_i hk
    split
    · rw [regionOf, hk]
      rfl
    · have hnone : m.nv.regions[k - 1]? = none := List.getElem?_eq_none (by omega)
      show _ = ((regionOf m k).st, (regionOf m k).staged)
      rw [regionOf, hnone]
  · rfl

theorem receptionPart_pumpRelay (m : Mod) (fuel : Nat) : receptionPart (pumpRelay m fuel) = receptionPart m := by
  induction fuel generalizing m with
  | zero => rfl
  | succ fuel ih =>
    rw [pumpRelay]
    split
    · rfl
    · split
      · exact (receptionPart_of_eq rfl rfl rfl).trans (receptionPart_setForwarding m _ false)
      · split
        · rfl
        · split
          · rfl
          · rw [ih]
            exact receptionPart_of_eq (sendRelay_nv ..) (by rw [sendRelay_upd]; rfl) (by rw [sendRelay_upd]; rfl)

theorem receptionPart_beginForward (m : Mod) (w : Workspace) : receptionPart (beginForward m w) = receptionPart m := by
  unfold beginForward
  dsimp only
  split
  · rfl
  · rw [goRelay, receptionPart_pumpRelay]
    exact (receptionPart_of_eq rfl rfl rfl).trans (receptionPart_setForwarding m _ true)

/-! ### A reception dropped (R428) -/

theorem dropWorkspace_nv (m : Mod) (st : Status) : (dropWorkspace m st).nv = m.nv := by
  unfold dropWorkspace
  split
  · rfl
  · rw [postOpt_nv]
    split
    · rfl
    · rw [sendRelay_nv]

/-- A workspace is dropped; the sender of a relay is told. -/
theorem dropWorkspace_upd {m : Mod} {w : Workspace} (st : Status) (h : m.upd.ws = some w) : (dropWorkspace m st).upd =
    { m.upd with ws := none, incoming := none, sent := if w.fromId = 0 then m.upd.sent else (w.fromId, if st = .updState then 8 else 7, st.code) :: m.upd.sent } := by
  unfold dropWorkspace
  rw [h]
  dsimp only
  rw [postOpt_upd]
  by_cases hid : w.fromId = 0
  · rw [if_pos hid, if_pos hid]
  · rw [if_neg hid, if_neg hid, sendRelay_upd]

theorem dropWorkspace_dropped (m : Mod) (st : Status) : (dropWorkspace m st).upd.ws = none ∧ (dropWorkspace m st).upd.events = m.upd.events := by
  by_cases h : ∃ w, m.upd.ws = some w
  · obtain ⟨w, hw⟩ := h
    rw [dropWorkspace_upd st hw]
    exact ⟨rfl, rfl⟩
  · have hnone : m.upd.ws = none := Option.eq_none_iff_forall_ne_some.2 fun w hw => h ⟨w, hw⟩
    rw [dropWorkspace, hnone]
    exact ⟨hnone, rfl⟩

/-- A region whose update is cancelled: IDLE, and what it has written is discarded, but for a section in slot S. -/
def cancelledRegion (r : Region) (staged : Bool) : Region :=
  { (if (r.st == .applying || r.st == .ready) && !staged then r.setInactive {} else r) with st := .idle, staged := false, forwarding := false }

theorem cancelledRegion_version (r : Region) (b : Bool) : (cancelledRegion r b).version = r.version := by
  unfold cancelledRegion
  split
  · exact (inactive_setInactive r {}).2.1
  · rfl

/-- What a cancelled update leaves (R428). -/
theorem cancelUpdate_spec {m : Mod} {n : Nat} (st : Status) (h : IsRegion m n) : (regionOf (cancelUpdate m n st) n).st = .idle ∧
    (regionOf (cancelUpdate m n st) n).forwarding = false ∧ (regionOf (cancelUpdate m n st) n).version = (regionOf m n).version := by
  unfold cancelUpdate
  extract_lets r staged r' m1 m2 m3 fwd
  have hnv : m2.nv.regions = m.nv.regions := by
    unfold m2 m1
    rw [releasePermit_nv, releasePermit_nv]
    split
    · rw [dropWorkspace_nv]
    · rfl
  have hregion : regionOf m3 n = cancelledRegion r staged := regionOf_setRegion_same (isRegion_of_regions hnv h) _
  have hversion := cancelledRegion_version r staged
  rw [← hregion] at hversion
  exact ⟨congrArg Region.st hregion, congrArg Region.forwarding hregion, hversion⟩

theorem cancelUpdate_events (m : Mod) (n : Nat) (st : Status) : (cancelUpdate m n st).upd.events = m.upd.events := by
  unfold cancelUpdate
  extract_lets r staged r' m1 m2 m3 fwd
  show m2.upd.events = _
  unfold m2 m1
  rw [releasePermit_upd, releasePermit_upd]
  split
  · exact (dropWorkspace_dropped m st).2
  · rfl

theorem cancelUpdate_ws {m : Mod} {n : Nat} (st : Status) (h : inWorkspace (regionOf m n) = true) : (cancelUpdate m n st).upd.ws = none ∧
    (cancelUpdate m n st).upd.sent = (dropWorkspace m st).upd.sent := by
  unfold cancelUpdate
  extract_lets r staged r' m1 m2 m3 fwd
  have hupd : m2.upd = (dropWorkspace m st).upd := by
    unfold m2 m1
    rw [releasePermit_upd, releasePermit_upd, if_pos h]
  have hws : m2.upd.ws = none := by rw [hupd]; exact (dropWorkspace_dropped m st).1
  have hsent : m2.upd.sent = (dropWorkspace m st).upd.sent := by rw [hupd]
  exact ⟨hws, hsent⟩

/-- A check that fails is noted, and its region is IDLE with no package (R427, R428). -/
theorem failUpdate_spec {m : Mod} {n : Nat} (st : Status) (h : IsRegion m n) (hws : inWorkspace (regionOf m n) = true) :
    (regionOf (failUpdate m n st) n).st = .idle ∧ (failUpdate m n st).upd.ws = none ∧ bitOf (failUpdate m n st).upd.events.toNat 3 = true := by
  have hregion : IsRegion (noteUpdRefused m) n := isRegion_of_regions (by rfl) h
  have hws' : inWorkspace (regionOf (noteUpdRefused m) n) = true := hws
  rw [failUpdate]
  refine ⟨(cancelUpdate_spec st hregion).1, (cancelUpdate_ws st hws').1, ?_⟩
  rw [cancelUpdate_events]
  exact bitOf_setBit32_same _ _ (by decide)

/-! ### A reception begins (R428) -/

/-- A package for an IDLE region is received. -/
theorem beginReceive_spec {m : Mod} {h : List Byte} (w : Workspace) (hregion : IsRegion m (pkRegion h)) (hidle : (regionOf m (pkRegion h)).st = .idle) :
    regionOf (beginReceive m h w) (pkRegion h) = { regionOf m (pkRegion h) with st := .receiving, pkgId := pkId h } ∧ (beginReceive m h w).upd.ws = some w ∧
    (beginReceive m h w).upd.sent = m.upd.sent := by
  have hbegin : beginReceive m h w = { setRegion m (pkRegion h) { regionOf m (pkRegion h) with st := .receiving, pkgId := pkId h } with
      upd := { m.upd with ws := some w, package := pkId h, nbrs := if m.upd.fwd.isSome then m.upd.nbrs else [] } } := by
    rw [beginReceive]
    dsimp only
    rw [if_pos hidle]
    rfl
  rw [hbegin]
  exact ⟨regionOf_setRegion_same hregion _, rfl, rfl⟩

/-! ### A section written (R428) -/

/-- A section is in slot S (R424). -/
def slotWritten (m : Mod) (n : Nat) (x : Section) : Mod := { m with nv := { m.nv with slotS := some (n, x) } }

/-- A region's section is staged in slot S. -/
def sectionStaged (m : Mod) (n : Nat) (x : Section) : Mod := setRegion (slotWritten m n x) n { regionOf m n with staged := true }

/-- A region is READY. -/
def regionReady (m : Mod) (n : Nat) : Mod := setRegion m n { regionOf m n with st := .ready }

/-- A FULL package's image has matched: its section is in slot S, the region READY and the workspace free. -/
def sectionWritten (m : Mod) (n : Nat) (w : Workspace) : Mod :=
  let m := regionReady (sectionStaged m n { header := w.header, bytes := w.output }) n
  { m with upd := { m.upd with ws := none, incoming := none, events := setBit32 m.upd.events 0 } }

theorem sectionWritten_region {m : Mod} {n : Nat} (w : Workspace) (h : IsRegion m n) : (regionOf (sectionWritten m n w) n).st = .ready ∧
    (regionOf (sectionWritten m n w) n).staged = true := by
  have hslot : IsRegion (slotWritten m n { header := w.header, bytes := w.output }) n := isRegion_of_regions (by rfl) h
  have hstaged := congrArg Region.staged (regionOf_setRegion_same hslot { regionOf m n with staged := true })
  have hready := regionOf_setRegion_same (isRegion_setRegion (n := n) hslot { regionOf m n with staged := true })
    { regionOf (sectionStaged m n { header := w.header, bytes := w.output }) n with st := .ready }
  have hregion := regionOf_of_regions (m := regionReady (sectionStaged m n { header := w.header, bytes := w.output }) n)
    (m' := sectionWritten m n w) rfl n
  rw [hregion]
  exact ⟨congrArg Region.st hready, (congrArg Region.staged hready).trans hstaged⟩

/-- The answer of the reception goes out: the sender of a relay is told, and a completion waits. -/
def receptionAnswered (m : Mod) (n : Nat) (w : Workspace) : Mod :=
  postOpt (if w.fromId = 0 then m else sendRelay m w.fromId 7 0 0) w.req .ok { r0 := BitVec.ofNat 32 n, r1 := pkVersion w.header }

theorem receptionAnswered_sec (m : Mod) (n : Nat) (w : Workspace) : (receptionAnswered m n w).sec = m.sec := by
  rw [receptionAnswered, postOpt_sec]
  split
  · rfl
  · exact sendRelay_sec ..

theorem receptionPart_receptionAnswered (m : Mod) (n : Nat) (w : Workspace) : receptionPart (receptionAnswered m n w) = receptionPart m := by
  have hpost : ∀ v : Mod, receptionPart (postOpt v w.req .ok { r0 := BitVec.ofNat 32 n, r1 := pkVersion w.header }) = receptionPart v := fun v =>
    receptionPart_of_eq (postOpt_nv ..) (by rw [postOpt_upd]) (by rw [postOpt_upd])
  rw [receptionAnswered, hpost]
  split
  · rfl
  · exact receptionPart_of_eq (sendRelay_nv ..) (by rw [sendRelay_upd]) (by rw [sendRelay_upd])

/-- After the last check of a FULL package its section is written, the answer goes out and the package is forwarded. -/
theorem finishApply_full {m : Mod} (n : Nat) {w : Workspace} (hdelta : pkDelta w.header = false) (hboot : m.sec.bootFail = none) :
    finishApply m n w = beginForward (receptionAnswered (sectionWritten m n w) n w) w := by
  have hfull : ¬ pkDelta w.header = true := by
    rw [hdelta]
    decide
  have hgoes : ¬ (receptionAnswered (sectionWritten m n w) n w).sec.bootFail.isSome = true := by
    rw [receptionAnswered_sec, show (sectionWritten m n w).sec = m.sec from rfl, hboot]
    decide
  unfold finishApply
  dsimp only
  rw [if_neg hfull]
  exact if_neg hgoes

theorem receptionPart_finishApply {m : Mod} (n : Nat) {w : Workspace} (hdelta : pkDelta w.header = false) (hboot : m.sec.bootFail = none) :
    receptionPart (finishApply m n w) = receptionPart (sectionWritten m n w) := by
  rw [finishApply_full n hdelta hboot, receptionPart_beginForward, receptionPart_receptionAnswered]

/-- A permit that is held is not asked for again. -/
theorem request_of_holds {m : Mod} {who : Nat} (op : HeavyOp) (c1 : Bool) (d : Nat) (h : holds m who = true) : request m who op c1 d = m := by
  rw [request]
  exact if_pos (by rw [show m.adm.grants.any (fun g => g.who == who) = true from h, Bool.or_true])

/-! ### The checks of a payload and of an image (R427, R428) -/

theorem isRegion_releasePermit {m : Mod} {n : Nat} (who : Nat) (h : IsRegion m n) : IsRegion (releasePermit m who) n :=
  isRegion_of_regions (by rw [releasePermit_nv]) h

theorem regionOf_releasePermit (m : Mod) (who n : Nat) : regionOf (releasePermit m who) n = regionOf m n :=
  regionOf_of_regions (by rw [releasePermit_nv]) n

theorem makeSection_full (m : Mod) {w : Workspace} (hdelta : pkDelta w.header = false) : makeSection m w = some w.payload :=
  if_neg (by rw [hdelta]; decide)

/-- What the check of a FULL package's payload does, the permit given back. -/
def payloadChecked (m : Mod) (n : Nat) (r : Region) (w : Workspace) : Mod :=
  if sha384 w.payload != slice w.header 96 48 then failUpdate m n .updSignature
  else
    let m := setRegion m n { r with st := .applying }
    { m with upd := { m.upd with ws := some { w with output := w.payload } } }

theorem gives_verifyDone {s : State} {t n : Nat} {w : Workspace} (hon : On s) (hws : s.m.upd.ws = some w) (hn : w.region = n)
    (hst : (regionOf s.m n).st = .verifying) (hholds : holds s.m 20 = true) (hdelta : pkDelta w.header = false) :
    Gives (.verifyDone t n) s t (payloadChecked (releasePermit (seen s t) whoVerify) n (regionOf s.m n) w) := by
  have hg := gives_of_runOn (i := .verifyDone t n) (t := t) hon (Eq.refl (execVerifyDone t n s))
  rw [show (seen s t).upd.ws = some w from hws] at hg
  dsimp only at hg
  have hchecks : ¬ (w.region != n || (regionOf (seen s t) n).st != .verifying) = true := by
    rw [hn, show regionOf (seen s t) n = regionOf s.m n from rfl, hst]
    simp
  have hheld : holds (seen s t) whoVerify = true := hholds
  rw [if_neg hchecks, request_of_holds _ _ _ hheld, if_neg (by rw [hheld]; decide), if_neg (c := (pkDelta w.header && _) = true) (by rw [hdelta]; simp),
    makeSection_full _ hdelta] at hg
  exact hg

/-- What the check of an image does, the permit given back. -/
def imageChecked (m : Mod) (n : Nat) (w : Workspace) : Mod :=
  if sha384 w.output != slice w.header 48 48 then failUpdate m n .updSignature else finishApply m n w

theorem gives_applyDone {s : State} {t n : Nat} {w : Workspace} (hon : On s) (hws : s.m.upd.ws = some w) (hn : w.region = n)
    (hst : (regionOf s.m n).st = .applying) (hholds : holds s.m 21 = true) :
    Gives (.applyDone t n) s t (imageChecked (releasePermit (seen s t) whoApply) n w) := by
  have hg := gives_of_runOn (i := .applyDone t n) (t := t) hon (Eq.refl (execApplyDone t n s))
  rw [show (seen s t).upd.ws = some w from hws] at hg
  dsimp only at hg
  have hchecks : ¬ (w.region != n || (regionOf (seen s t) n).st != .applying) = true := by
    rw [hn, show regionOf (seen s t) n = regionOf s.m n from rfl, hst]
    simp
  have hheld : holds (seen s t) whoApply = true := hholds
  rw [if_neg hchecks, request_of_holds _ _ _ hheld, if_neg (by rw [hheld]; decide)] at hg
  exact hg

/-- A FULL package whose image matches is in slot S, its region READY (R428). -/
theorem imageChecked_matches {m : Mod} {n : Nat} {w : Workspace} (h : IsRegion m n) (hdelta : pkDelta w.header = false) (hboot : m.sec.bootFail = none)
    (hhash : sha384 w.output = slice w.header 48 48) : (imageChecked m n w).upd.ws = none ∧ (regionOf (imageChecked m n w) n).st = .ready ∧
    (regionOf (imageChecked m n w) n).staged = true ∧ (imageChecked m n w).nv.slotS = some (n, { header := w.header, bytes := w.output }) ∧
    bitOf (imageChecked m n w).upd.events.toNat 0 = true := by
  rw [imageChecked, if_neg (by rw [hhash]; simp)]
  have hpart := receptionPart_finishApply n hdelta hboot
  obtain ⟨hready, hstaged⟩ := sectionWritten_region w h
  have hregion := congrFun (congrArg Prod.fst hpart) n
  have hws : (finishApply m n w).upd.ws = none := congrArg (fun x => x.2.1) hpart
  have hslot : (finishApply m n w).nv.slotS = some (n, { header := w.header, bytes := w.output }) := congrArg (fun x => x.2.2.1) hpart
  have hevents : (finishApply m n w).upd.events = setBit32 m.upd.events 0 := congrArg (fun x => x.2.2.2) hpart
  refine ⟨hws, (congrArg Prod.fst hregion).trans hready, (congrArg Prod.snd hregion).trans hstaged, hslot, ?_⟩
  rw [hevents]
  exact bitOf_setBit32_same _ _ (by decide)

/-- Settles O55. -/
theorem updateReception : Obligations.UpdateReception := by
  intro s t n b su hdr pay q e w r hall h1 h3 hr
  have hregion : IsRegion (seen s t) n := ⟨hall, h1, h3⟩
  have hseen : regionOf (seen s t) n = r := hr
  refine ⟨fun hready hlead hboot => ⟨fun hn hidle => ?receive, fun hno => ?refused⟩,
    fun hon hws hn => ⟨fun hst hid hlen => ?payload, fun hst hholds hdelta => ?verify, fun hst hholds hboot hdelta => ?apply⟩,
    fun hs => ⟨fun hidle => ?cancelIdle, fun hlate => ?cancelLate, fun hbefore => ?cancel⟩⟩
  case receive =>
    subst hn
    have hg := gives_of_runOp (i := .updReceive t q su b hdr) hready (Eq.refl (execUpdReceive t q su b hdr s))
    rw [if_neg (by rw [show notLead (seen s t) = false from hlead]; decide), if_neg (by rw [show bootTakes (seen s t) hdr = true from hboot]; decide)] at hg
    cases hcheck : headerCheck s.m hdr su with
    | none =>
      rw [show headerCheck (seen s t) hdr su = none from hcheck] at hg
      obtain ⟨hreceiving, hws, -⟩ := beginReceive_spec { region := pkRegion hdr, header := hdr.take 256, noRelay := b, req := some q, supersede := su } hregion
        (by rw [hseen]; exact hidle)
      exact makes_of_gives hg ⟨congrArg Region.st hreceiving, congrArg Region.pkgId hreceiving, _, hws, rfl, rfl, rfl⟩
    | some x =>
      rw [show headerCheck (seen s t) hdr su = some x from hcheck] at hg
      replace hg : Gives (.updReceive t q su b hdr) s t (refuse (noteUpdRefused (seen s t)) q x) := hg
      have hregions : (refuse (noteUpdRefused (seen s t)) q x).nv.regions = s.m.nv.regions := by rw [refuse_nv]; rfl
      have hupd : (refuse (noteUpdRefused (seen s t)) q x).upd = (noteUpdRefused (seen s t)).upd := refuse_upd ..
      have hws : (refuse (noteUpdRefused (seen s t)) q x).upd.ws = s.m.upd.ws := by rw [hupd]; rfl
      have hevents : bitOf (refuse (noteUpdRefused (seen s t)) q x).upd.events.toNat 3 = true := by
        rw [hupd]
        exact bitOf_setBit32_same s.m.upd.events 3 (by decide)
      exact makes_of_gives hg ⟨(regionOf_of_regions hregions _).trans hr, hws, hevents⟩
  case refused =>
    have hg := gives_of_runOp (i := .updReceive t q su b hdr) hready (Eq.refl (execUpdReceive t q su b hdr s))
    rw [if_neg (by rw [show notLead (seen s t) = false from hlead]; decide), if_neg (by rw [show bootTakes (seen s t) hdr = true from hboot]; decide),
      show headerCheck (seen s t) hdr su = some e from hno] at hg
    exact hg
  case payload =>
    subst hn
    have hg := gives_of_runOn (i := .payloadReceived t pay) (t := t) hon (Eq.refl (execPayloadReceived t pay s))
    rw [show (seen s t).upd.ws = some w from hws] at hg
    dsimp only at hg
    rw [hseen, if_pos (by simp [hst, hid, hlen])] at hg
    exact makes_of_gives hg ⟨congrArg Region.st (regionOf_setRegion_same hregion { r with st := .verifying }), rfl⟩
  case verify =>
    have hg := gives_verifyDone (t := t) hon hws hn (by rw [hr]; exact hst) hholds hdelta
    rw [hr, payloadChecked] at hg
    have hreleased := isRegion_releasePermit whoVerify hregion
    by_cases hhash : sha384 w.payload = slice w.header 96 48
    · rw [if_neg (by rw [hhash]; simp)] at hg
      refine makes_of_gives hg ?_
      rw [if_pos hhash]
      exact ⟨congrArg Region.st (regionOf_setRegion_same hreleased { r with st := .applying }), rfl⟩
    · rw [if_pos (by simpa using hhash)] at hg
      have hfails := failUpdate_spec .updSignature hreleased (by rw [regionOf_releasePermit, hseen, inWorkspace, hst]; rfl)
      refine makes_of_gives hg ?_
      rw [if_neg hhash]
      exact hfails
  case apply =>
    have hg := gives_applyDone (t := t) hon hws hn (by rw [hr]; exact hst) hholds
    have hreleased := isRegion_releasePermit whoApply hregion
    by_cases hhash : sha384 w.output = slice w.header 48 48
    · have hmatches := imageChecked_matches hreleased hdelta (by rw [releasePermit_sec]; exact hboot) hhash
      refine makes_of_gives hg ?_
      rw [if_pos hhash]
      exact hmatches
    · rw [imageChecked, if_pos (by simpa using hhash)] at hg
      obtain ⟨hst', hws', hevents⟩ := failUpdate_spec .updSignature hreleased (by rw [regionOf_releasePermit, hseen, inWorkspace, hst]; rfl)
      refine makes_of_gives hg ?_
      rw [if_neg hhash]
      exact ⟨hws', hst', hevents⟩
  case cancelIdle =>
    have hg := gives_of_runCmd (i := .updCancel t q n) hs (Eq.refl (execUpdCancel t q n s))
    rw [if_neg (by simp; omega), hseen, hidle] at hg
    exact hg
  case cancelLate =>
    have hg := gives_of_runCmd (i := .updCancel t q n) hs (Eq.refl (execUpdCancel t q n s))
    rw [if_neg (by simp; omega), hseen] at hg
    rcases hlate with hst | hst
    · rw [hst] at hg
      exact hg
    · rw [hst] at hg
      exact hg
  case cancel =>
    have hg := gives_of_runCmd (i := .updCancel t q n) hs (Eq.refl (execUpdCancel t q n s))
    have hcancels : Gives (.updCancel t q n) s t (post (cancelUpdate (seen s t) n .updState) q .ok) := by
      rw [if_neg (by simp; omega), hseen] at hg
      have hst : r.st = .receiving ∨ r.st = .verifying ∨ r.st = .applying ∨ r.st = .ready := by simpa [inWorkspace, or_assoc] using hbefore
      rcases hst with hst | hst | hst | hst <;> rw [hst] at hg <;> exact hg
    obtain ⟨hst, hforwarding, hversion⟩ := cancelUpdate_spec .updState hregion
    have hnv : (post (cancelUpdate (seen s t) n .updState) q .ok).nv.regions = (cancelUpdate (seen s t) n .updState).nv.regions := by rw [post_nv]
    rw [hseen] at hversion
    rw [← regionOf_of_regions hnv n] at hst hforwarding hversion
    exact makes_of_gives hcancels ⟨hst, hforwarding, hversion⟩

end Sys2Proof.Machine
end

section
/-! SUPPORT. The receiver and the sender of the domino relay (R431 to R433). -/

open Sys2Proof.Claims

namespace Sys2Proof.Machine

/-! ### The receiver (R432) -/

/-- A header that passes the checks names one of the three regions (R425). -/
theorem region_of_headerCheck {m : Mod} {h : List Byte} {su : Bool} (hpass : headerCheck m h su = none) : 1 ≤ pkRegion h ∧ pkRegion h ≤ 3 := by
  have hfields : pkFieldsOk h = true := by
    by_contra hno
    rw [headerCheck, Bool.eq_false_of_not_eq_true hno] at hpass
    split at hpass <;> simp at hpass
  simp only [pkFieldsOk, Bool.and_eq_true, decide_eq_true_eq] at hfields
  omega

/-- An OFFER of a package that the module does not hold is refused, or its reception begins (R432). -/
def offerJudged (m : Mod) (src : W32) (su : Bool) (hdr : List Byte) : Mod :=
  (headerCheck m hdr su).elim
    (let m := beginReceive m hdr { region := pkRegion hdr, header := hdr.take 256, supersede := su, fromId := src }
     sendRelay { m with upd := { m.upd with incoming := some (src, pkId hdr, 0) } } src 2 0 0)
    (fun e => sendRelay (noteUpdRefused m) src 4 e.code 0)

theorem gives_relayOffer {s : State} {t : Nat} {src : W32} {su : Bool} {hdr : List Byte} (hon : On s) (hfail : s.m.pwr.st ≠ .fail)
    (hsvc : s.m.pwr.svcStopped = false) (hboot : bootHeld s.m = false) : Gives (.relayOffer t src su hdr) s t
      (if s.m.upd.receiveEn && pkFieldsOk hdr && hasPackage s.m hdr then sendRelay (seen s t) src 3 0 0 else offerJudged (seen s t) src su hdr) := by
  have hg := gives_of_runOn (i := .relayOffer t src su hdr) (t := t) hon (Eq.refl (execRelayOffer t src su hdr s))
  have hmay : ¬ ((seen s t).pwr.st == .fail || (seen s t).pwr.svcStopped || bootHeld (seen s t)) = true := by
    rw [show bootHeld (seen s t) = false from hboot, show (seen s t).pwr.svcStopped = false from hsvc]
    have hfail' : (seen s t).pwr.st ≠ .fail := hfail
    simpa using hfail'
  rw [if_neg hmay] at hg
  unfold offerJudged
  cases hcheck : headerCheck (seen s t) hdr su with
  | none =>
    rw [hcheck] at hg
    exact hg
  | some e =>
    rw [hcheck] at hg
    exact hg

/-- A package for an IDLE region is refused, or accepted and RECEIVING (R432). -/
theorem offerJudged_spec {m : Mod} {src : W32} {su : Bool} {hdr : List Byte} (hall : m.nv.regions.length = 3) (hidle : (regionOf m (pkRegion hdr)).st = .idle) :
    (∀ e, headerCheck m hdr su = some e → (offerJudged m src su hdr).upd.sent = (src, 4, e.code) :: m.upd.sent ∧ (offerJudged m src su hdr).nv = m.nv ∧
      bitOf (offerJudged m src su hdr).upd.events.toNat 3 = true) ∧
    (headerCheck m hdr su = none → (offerJudged m src su hdr).upd.sent = (src, 2, 0) :: m.upd.sent ∧
      (regionOf (offerJudged m src su hdr) (pkRegion hdr)).st = .receiving ∧ (offerJudged m src su hdr).upd.incoming = some (src, pkId hdr, 0)) := by
  refine ⟨fun e he => ?_, fun hpass => ?_⟩
  · rw [offerJudged, he, Option.elim_some, sendRelay_upd, sendRelay_nv]
    exact ⟨rfl, rfl, bitOf_setBit32_same _ _ (by decide)⟩
  · obtain ⟨h1, h3⟩ := region_of_headerCheck hpass
    obtain ⟨hregion, -, hsent⟩ := beginReceive_spec { region := pkRegion hdr, header := hdr.take 256, supersede := su, fromId := src } ⟨hall, h1, h3⟩ hidle
    rw [offerJudged, hpass, Option.elim_none]
    dsimp only
    rw [sendRelay_upd, regionOf_of_regions (congrArg NvBlk.regions (sendRelay_nv ..))]
    exact ⟨congrArg _ hsent, congrArg Region.st hregion, rfl⟩

/-- The payload held after a DATA frame at its offset (R432). -/
def dataHeld (w : Workspace) (bytes : List Byte) : List Byte := (w.payload ++ bytes.take 1024).take (pkPayload w.header)

theorem dataHeld_short {w : Workspace} {bytes : List Byte} (h : w.payload.length + min 1024 bytes.length < pkPayload w.header) :
    dataHeld w bytes = w.payload ++ bytes.take 1024 := List.take_of_length_le (by rw [List.length_append, List.length_take]; omega)

theorem dataHeld_length (w : Workspace) (bytes : List Byte) : (dataHeld w bytes).length = min (pkPayload w.header) (w.payload.length + min 1024 bytes.length) := by
  rw [dataHeld, List.length_take, List.length_append, List.length_take]

/-- DATA in order is held; the 32nd frame and the last are acknowledged, and the whole payload is checked (R432). -/
def dataTaken (m : Mod) (w : Workspace) (src pkg : W32) (k : Nat) (bytes : List Byte) : Mod :=
  let m1 := { m with upd := { m.upd with ws := some { w with payload := dataHeld w bytes }, incoming := some (src, pkg, (k + 1) % 32) } }
  let m2 := if k + 1 = 32 || (dataHeld w bytes).length = pkPayload w.header then sendRelay m1 src 6 (dataHeld w bytes).length 0 else m1
  if (dataHeld w bytes).length = pkPayload w.header then setRegion m2 w.region { regionOf m w.region with st := .verifying } else m2

/-- A DATA frame of the transfer coming in: after a gap what is held is acknowledged (R432). -/
theorem gives_relayData {s : State} {t k off : Nat} {src pkg : W32} {bytes : List Byte} {w : Workspace} (hon : On s) (hsvc : s.m.pwr.svcStopped = false)
    (hws : s.m.upd.ws = some w) (hin : s.m.upd.incoming = some (src, pkg, k)) (hst : (regionOf s.m w.region).st = .receiving) :
    (w.payload.length < off → Gives (.relayData t src pkg off bytes) s t
      (sendRelay { seen s t with upd := { s.m.upd with incoming := some (src, pkg, 0) } } src 6 w.payload.length 0)) ∧
    (off = w.payload.length → Gives (.relayData t src pkg off bytes) s t (dataTaken (seen s t) w src pkg k bytes)) := by
  have hg := gives_of_runOn (i := .relayData t src pkg off bytes) (t := t) hon (Eq.refl (execRelayData t src pkg off bytes s))
  rw [show (seen s t).upd.ws = some w from hws, show (seen s t).upd.incoming = some (src, pkg, k) from hin] at hg
  dsimp only at hg
  have hgoes : ¬ (src != src || pkg != pkg || (regionOf (seen s t) w.region).st != .receiving || (seen s t).pwr.svcStopped) = true := by
    rw [show regionOf (seen s t) w.region = regionOf s.m w.region from rfl, hst, show (seen s t).pwr.svcStopped = false from hsvc]
    simp
  rw [if_neg hgoes] at hg
  refine ⟨fun hgap => ?_, fun hoff => ?_⟩
  · rw [if_pos hgap] at hg
    exact hg
  · subst hoff
    rw [if_neg (Nat.lt_irrefl _), Nat.sub_self, List.drop_zero] at hg
    exact hg

/-- A relay is a sender no longer told. -/
def unrelayed (m : Mod) (w : Workspace) : Mod := { m with upd := { m.upd with ws := some { w with fromId := 0 } } }

theorem relayReceives : RelayReceiver := by
  intro s t n k src pkg su hdr bytes w hon hfail hsvc hall
  refine ⟨fun hboot => ⟨fun hen hfields hhas => ?have_, fun hhas hidle => ?offer⟩, fun hws hin hn h1 h3 hst =>
    ⟨fun hk hshort => ?held, fun hlow hhigh => ?whole, fun off hoff => ?gap, ?abort⟩⟩
  case have_ =>
    have hg := gives_relayOffer (t := t) (src := src) (su := su) (hdr := hdr) hon hfail hsvc hboot
    rw [hen, hfields, hhas, if_pos (by rfl)] at hg
    have hsent : (sendRelay (seen s t) src 3 0 0).upd.sent = (src, 3, 0) :: s.m.upd.sent := by rw [sendRelay_upd]; rfl
    have hws : (sendRelay (seen s t) src 3 0 0).upd.ws = s.m.upd.ws := by rw [sendRelay_upd]; rfl
    exact makes_of_gives hg ⟨hsent, sendRelay_nv .., hws⟩
  case offer =>
    have hg := gives_relayOffer (t := t) (src := src) (su := su) (hdr := hdr) hon hfail hsvc hboot
    rw [if_neg (by rw [hhas]; simp)] at hg
    obtain ⟨hrefuses, haccepts⟩ := offerJudged_spec (m := seen s t) (src := src) (su := su) hall hidle
    refine makes_of_gives hg ?_
    cases hcheck : headerCheck s.m hdr su with
    | none => exact haccepts hcheck
    | some e => exact hrefuses e hcheck
  case held =>
    subst hn
    have hg := (gives_relayData (t := t) (off := w.payload.length) (bytes := bytes) hon hsvc hws hin hst).2 rfl
    have hpart : ¬ (dataHeld w bytes).length = pkPayload w.header := by rw [dataHeld_length]; omega
    rw [dataTaken] at hg
    dsimp only at hg
    rw [if_neg hpart, if_neg (by simp [hk, hpart]), dataHeld_short hshort] at hg
    exact makes_of_gives hg ⟨rfl, rfl, rfl⟩
  case whole =>
    subst hn
    have hg := (gives_relayData (t := t) (off := w.payload.length) (bytes := bytes) hon hsvc hws hin hst).2 rfl
    have hfull : (dataHeld w bytes).length = pkPayload w.header := by rw [dataHeld_length]; omega
    rw [dataTaken] at hg
    dsimp only at hg
    rw [if_pos hfull, if_pos (by simp [hfull]), hfull] at hg
    refine makes_of_gives hg ⟨congrArg Region.st (regionOf_setRegion_same (isRegion_of_regions (m := seen s t) (by rw [sendRelay_nv]) ⟨hall, h1, h3⟩) _), ?_⟩
    simp only [setRegion, sendRelay_upd]
    rfl
  case gap =>
    subst hn
    have hg := (gives_relayData (t := t) (bytes := bytes) hon hsvc hws hin hst).1 hoff
    have hupd := sendRelay_upd { seen s t with upd := { s.m.upd with incoming := some (src, pkg, 0) } } src 6 w.payload.length 0
    exact makes_of_gives hg ⟨(congrArg UpdBlk.ws hupd).trans hws, congrArg UpdBlk.sent hupd⟩
  case abort =>
    subst hn
    have hg := gives_of_runOn (i := .relayAbort t src pkg) (t := t) hon (Eq.refl (execRelayAbort t src pkg s))
    rw [show (seen s t).upd.ws = some w from hws, show (seen s t).upd.incoming = some (src, pkg, k) from hin] at hg
    dsimp only at hg
    rw [if_pos (by simp [show regionOf (seen s t) w.region = regionOf s.m w.region from rfl, hst])] at hg
    replace hg : Gives (.relayAbort t src pkg) s t (cancelUpdate (unrelayed (seen s t) w) w.region .updState) := hg
    have hregion : IsRegion (unrelayed (seen s t) w) w.region := ⟨hall, h1, h3⟩
    have hin' : inWorkspace (regionOf (unrelayed (seen s t) w) w.region) = true := by
      rw [show regionOf (unrelayed (seen s t) w) w.region = regionOf s.m w.region from rfl, inWorkspace, hst]
      rfl
    obtain ⟨hnone, hsent⟩ := cancelUpdate_ws .updState hin'
    rw [dropWorkspace_upd .updState (w := { w with fromId := 0 }) rfl] at hsent
    exact makes_of_gives hg ⟨(cancelUpdate_spec .updState hregion).1, hnone, hsent⟩

/-! ### The sender (R431 to R433) -/

/-- In a table with one entry per key the entry found under a key is its entry. -/
theorem tget_of_mem {α : Type} {t : Tbl α} {k : Nat} {v : α} (hnodup : (t.map Prod.fst).Nodup) (h : (k, v) ∈ t) : tget t k = some v := by
  induction t with
  | nil => exact absurd h List.not_mem_nil
  | cons e r ih =>
    obtain ⟨a, u⟩ := e
    rw [List.map_cons, List.nodup_cons] at hnodup
    obtain ⟨hnot, hrest⟩ := hnodup
    rw [tget]
    rcases List.mem_cons.1 h with hhead | htail
    · obtain ⟨rfl, rfl⟩ := Prod.mk.inj hhead
      rw [if_pos rfl]
    · have hne : a ≠ k := fun heq => hnot (by
      have hkey := List.mem_map_of_mem (f := Prod.fst) htail
      rwa [← heq] at hkey)
      rw [if_neg hne, ih hrest htail]

theorem keys_tmod {α : Type} (t : Tbl α) (k : Nat) (f : α → α) : (tmod t k f).map Prod.fst = t.map Prod.fst := by
  rw [tmod, List.map_map]
  refine List.map_congr_left fun e _ => ?_
  simp only [Function.comp_apply]
  split <;> rfl

/-- A neighbour's transfer in a table with one entry for each. -/
structure HasNbr (m : Mod) (k : Nat) (n : Neighbour) : Prop where
  nodup : (m.upd.nbrs.map Prod.fst).Nodup
  found : tget m.upd.nbrs k = some n

theorem hasNbr_of_nbrs {m m' : Mod} {k : Nat} {n : Neighbour} (h : m'.upd.nbrs = m.upd.nbrs) (hn : HasNbr m k n) : HasNbr m' k n :=
  ⟨by rw [h]; exact hn.nodup, by rw [h]; exact hn.found⟩

theorem hasNbr_setNbr_same {m : Mod} {k : Nat} {n : Neighbour} (h : HasNbr m k n) (x : Neighbour) : HasNbr (setNbr m k x) k x :=
  ⟨by rw [setNbr, keys_tmod]; exact h.nodup, by rw [setNbr, tget_tmod_same, h.found]; rfl⟩

theorem hasNbr_setNbr_other {m : Mod} {i k : Nat} {n : Neighbour} (h : HasNbr m k n) (hne : k ≠ i) (x : Neighbour) : HasNbr (setNbr m i x) k n :=
  ⟨by rw [setNbr, keys_tmod]; exact h.nodup, by rw [setNbr, tget_tmod_other _ _ _ _ hne]; exact h.found⟩

/-- The relay goes on without touching a neighbour whose transfer is decided. -/
theorem hasNbr_pumpRelay {m : Mod} {k : Nat} {n : Neighbour} (fuel : Nat) (h : HasNbr m k n) (hdone : n.done = true) : HasNbr (pumpRelay m fuel) k n := by
  induction fuel generalizing m with
  | zero => exact h
  | succ fuel ih =>
    rw [pumpRelay]
    split
    · exact h
    · split
      · exact hasNbr_of_nbrs (m := m) rfl h
      · split
        · exact h
        · split
          · exact h
          · rename_i i x hfind
            have hopen := List.find?_some hfind
            have hne : k ≠ i := by
              rintro rfl
              have hx := tget_of_mem h.nodup (List.mem_of_find?_eq_some hfind)
              obtain rfl : x = n := Option.some.inj (hx.symm.trans h.found)
              simp [hdone] at hopen
            exact ih (hasNbr_of_nbrs (by rw [sendRelay_upd]) (hasNbr_setNbr_other h hne _))

theorem pumpRelay_flt (m : Mod) (fuel : Nat) : (pumpRelay m fuel).flt = m.flt := by
  induction fuel generalizing m with
  | zero => rfl
  | succ fuel ih =>
    rw [pumpRelay]
    split
    · rfl
    · split
      · rfl
      · split
        · rfl
        · split
          · rfl
          · rw [ih, sendRelay_flt]
            rfl

/-- A delivered neighbour is done (R433). -/
theorem deliverNbr_spec {m : Mod} {k : Nat} {n : Neighbour} (h : HasNbr m k n) : ∃ x, tget (deliverNbr m k n).upd.nbrs k = some x ∧ x.delivered = true :=
  ⟨_, (hasNbr_pumpRelay _ (hasNbr_setNbr_same h { n with delivered := true, sending := false }) rfl).found, rfl⟩

/-- A failed neighbour is noted before the relay goes on. -/
def nbrFailed (m : Mod) (k : Nat) (n : Neighbour) : Mod :=
  let m := setNbr m k { n with failed := true, sending := false }
  reportFault { m with upd := { m.upd with events := setBit32 m.upd.events 4 } } (faultOf 0x25 0 k 0x0C00 0 3)

theorem failNbr_eq (m : Mod) (k : Nat) (n : Neighbour) : failNbr m k n = goRelay (nbrFailed m k n) := rfl

theorem nbrFailed_upd (m : Mod) (k : Nat) (n : Neighbour) : (nbrFailed m k n).upd =
    { (setNbr m k { n with failed := true, sending := false }).upd with events := setBit32 m.upd.events 4 } := by
  rw [nbrFailed]
  dsimp only
  rw [reportFault_minor (show 0 < 2 by decide), collect_upd]
  rfl

/-- A failed neighbour raises the event and an F0 fault (R433). -/
theorem failNbr_spec {m : Mod} {k : Nat} {n : Neighbour} (h : HasNbr m k n) : (∃ x, tget (failNbr m k n).upd.nbrs k = some x ∧ x.failed = true) ∧
    bitOf (failNbr m k n).upd.events.toNat 4 = true ∧ bitOf (failNbr m k n).flt.active.toNat 0x25 = true := by
  have hupd := nbrFailed_upd m k n
  have hnbrs : (nbrFailed m k n).upd.nbrs = (setNbr m k { n with failed := true, sending := false }).upd.nbrs := (congrArg UpdBlk.nbrs hupd :)
  have hset := hasNbr_of_nbrs hnbrs (hasNbr_setNbr_same h { n with failed := true, sending := false })
  have hactive : bitOf (nbrFailed m k n).flt.active.toNat 0x25 = true := reportFault_active _ (f := faultOf 0x25 0 k 0x0C00 0 3) (show 0x25 < 64 by decide)
  rw [failNbr_eq, goRelay]
  have hpart := receptionPart_pumpRelay (nbrFailed m k n) ((nbrFailed m k n).upd.nbrs.length + 2)
  have hevents : (pumpRelay (nbrFailed m k n) ((nbrFailed m k n).upd.nbrs.length + 2)).upd.events = setBit32 m.upd.events 4 :=
    (congrArg (fun x => x.2.2.2) hpart).trans (congrArg UpdBlk.events hupd)
  refine ⟨⟨_, (hasNbr_pumpRelay _ hset (by simp [Neighbour.done])).found, rfl⟩, ?_, ?_⟩
  · rw [hevents]
    exact bitOf_setBit32_same _ _ (by decide)
  · rw [pumpRelay_flt]
    exact hactive

/-- Frames sent are noted, and what was noted stays. -/
theorem sent_foldl_sendRelay (nid : W32) (len : Nat → Nat) (l : List Nat) (m : Mod) {x : W32 × Nat × Nat}
    (hx : x ∈ m.upd.sent ∨ ∃ o ∈ l, x = (nid, 5, o)) : x ∈ (l.foldl (fun m o => sendRelay m nid 5 o (len o)) m).upd.sent := by
  induction l generalizing m with
  | nil => simpa using hx
  | cons o l ih =>
    refine ih _ ?_
    rw [sendRelay_upd]
    rcases hx with hx | ⟨p, hp, rfl⟩
    · exact .inl (List.mem_cons_of_mem _ hx)
    · rcases List.mem_cons.1 hp with rfl | hp
      · exact .inl (List.mem_cons_self ..)
      · exact .inr ⟨p, hp, rfl⟩

/-- A neighbour after its ACK: what is acknowledged, and when it made progress (R432, R433). -/
def ackedNbr (m : Mod) (n : Neighbour) (off : Nat) (pay : List Byte) : Neighbour :=
  { n with
    acked := max n.acked (min off pay.length)
    ackAt := m.clk
    movedAt := if n.acked < off then m.clk else n.movedAt }

/-- DATA goes out from where it stands, at most 256 frames ahead of what is acknowledged (R432). -/
theorem sendData_spec {m : Mod} {k : Nat} {old : Neighbour} (n : Neighbour) (pay : List Byte) (h : HasNbr m k old) :
    tget (sendData m k n pay).upd.nbrs k = some { n with sentTo := max n.sentTo (min pay.length (n.acked + 262144)) } ∧
    (n.sentTo < min pay.length (n.acked + 262144) → (n.nid, 5, n.sentTo) ∈ (sendData m k n pay).upd.sent) := by
  unfold sendData
  extract_lets lim offs m1
  have hlim : lim = min pay.length (n.acked + 262144) := rfl
  have hnbrs : m1.upd.nbrs = m.upd.nbrs := foldl_field (fun m : Mod => m.upd.nbrs) _ (fun m o => by rw [sendRelay_upd]) m offs
  refine ⟨(hasNbr_setNbr_same (hasNbr_of_nbrs hnbrs h) _).found, fun hmore => ?_⟩
  have hfirst : n.sentTo ∈ offs := List.mem_filterMap.2 ⟨0, by simp, by rw [hlim]; simp only [Nat.mul_zero, Nat.add_zero, if_pos hmore]⟩
  exact sent_foldl_sendRelay n.nid (fun o => min 1024 (pay.length - o)) offs m (.inr ⟨_, hfirst, rfl⟩)

/-- An answer of a neighbour whose transfer of the package runs is taken. -/
theorem onNbr_taken {m : Mod} {k : Nat} {pkg : W32} {hdr pay : List Byte} {su : Bool} {n : Neighbour} (f : Neighbour → List Byte → Mod)
    (hfwd : m.upd.fwd = some (hdr, pay, su)) (hn : tget m.upd.nbrs k = some n) (hpkg : pkId hdr = pkg) (hoffered : n.offered = true) (hdone : n.done = false)
    (hsvc : m.pwr.svcStopped = false) : onNbr m k pkg f = f n pay := by
  rw [onNbr, hfwd, hn]
  exact if_pos (by simp [hpkg, hoffered, hdone, hsvc])

theorem relaySends : RelaySender := by
  intro s t k off pkg hdr pay su n hon hfwd hn hnodup hoffered hdone
  have hnbr : HasNbr (seen s t) k n := ⟨hnodup, hn⟩
  have hfwd' : (seen s t).upd.fwd = some (hdr, pay, su) := hfwd
  refine ⟨fun hpkg hsvc => ?answers, fun hsending hacked hmore hlate => ?resend, fun hlate => ?stuck⟩
  case answers =>
    have htaken := fun f => onNbr_taken (m := seen s t) (k := k) f hfwd hn hpkg hoffered hdone hsvc
    refine ⟨?accept, ?have_, ?done, fun hoff => ?notDone, ?refuse, fun hsending => ?ack, fun hsending => ?early⟩
    case accept =>
      have hg := gives_of_runOn (i := .relayAccept t k pkg) (t := t) hon (Eq.refl (execRelayAccept t k pkg s))
      rw [htaken] at hg
      obtain ⟨hfound, hsent⟩ := sendData_spec { n with sending := true, acked := 0, sentTo := 0, ackAt := (seen s t).clk, movedAt := (seen s t).clk } pay hnbr
      refine makes_of_gives hg ⟨_, hfound, rfl, rfl, ?_, fun hpay => hsent ?_⟩
      · simp
      · have := List.length_pos_iff.2 hpay
        simp only [Nat.zero_add]
        omega
    case have_ =>
      have hg := gives_of_runOn (i := .relayHave t k pkg) (t := t) hon (Eq.refl (execRelayHave t k pkg s))
      rw [htaken] at hg
      exact makes_of_gives hg (deliverNbr_spec hnbr)
    case done =>
      have hg := gives_of_runOn (i := .relayDone t k pkg 0) (t := t) hon (Eq.refl (execRelayDone t k pkg 0 s))
      rw [htaken, if_pos rfl] at hg
      exact makes_of_gives hg (deliverNbr_spec hnbr)
    case notDone =>
      have hg := gives_of_runOn (i := .relayDone t k pkg off) (t := t) hon (Eq.refl (execRelayDone t k pkg off s))
      rw [htaken, if_neg hoff] at hg
      exact makes_of_gives hg (failNbr_spec hnbr).1
    case refuse =>
      have hg := gives_of_runOn (i := .relayRefuse t k pkg off) (t := t) hon (Eq.refl (execRelayRefuse t k pkg off s))
      rw [htaken] at hg
      exact makes_of_gives hg (failNbr_spec hnbr)
    case ack =>
      have hg := gives_of_runOn (i := .relayAck t k pkg off) (t := t) hon (Eq.refl (execRelayAck t k pkg off s))
      rw [htaken, if_neg (by rw [hsending]; decide)] at hg
      obtain ⟨hfound, -⟩ := sendData_spec (ackedNbr (seen s t) n off pay) pay hnbr
      exact makes_of_gives hg ⟨_, hfound, rfl, rfl, rfl⟩
    case early =>
      have hg := gives_of_runOn (i := .relayAck t k pkg off) (t := t) hon (Eq.refl (execRelayAck t k pkg off s))
      rw [htaken, if_pos (by rw [hsending]; rfl)] at hg
      exact hg
  case resend =>
    have hg := gives_of_runOn (i := .relayResendTimeout t k) (t := t) hon (Eq.refl (execRelayResendTimeout t k s))
    rw [hfwd', hnbr.found] at hg
    dsimp only at hg
    have hlate' : n.ackAt + ms 20 ≤ (seen s t).clk := hlate
    rw [if_pos (by simp [hsending, hdone, hacked, hlate'])] at hg
    obtain ⟨hfound, hsent⟩ := sendData_spec { n with sentTo := n.acked, ackAt := (seen s t).clk } pay hnbr
    exact makes_of_gives hg ⟨hsent (by simp only; omega), _, hfound, rfl⟩
  case stuck =>
    have hg := gives_of_runOn (i := .relayProgressTimeout t k) (t := t) hon (Eq.refl (execRelayProgressTimeout t k s))
    rw [hfwd', hnbr.found] at hg
    dsimp only at hg
    have hlate' : n.movedAt + sec 10 ≤ (seen s t).clk := hlate
    rw [if_pos (by simp [hoffered, hdone, hlate'])] at hg
    exact makes_of_gives hg (failNbr_spec hnbr).1

/-- Settles O57. -/
theorem dominoRelay : Obligations.DominoRelay := ⟨relayReceives, relaySends⟩

end Sys2Proof.Machine
end
